-- ==== Sys2Proof/Word.lean ====
section
/-!
DEFINITION. The word types of the model: 64-bit registers (R27, R33), bytes, parcels and instruction words.
-/

namespace Sys2Proof

/-- A register of the window, or a general register of a logical core: 64 bits (R30, Table 3.1). -/
abbrev Word := BitVec 64

/-- One byte of memory. -/
abbrev Byte := BitVec 8

/-- A 16-bit instruction parcel (R49). -/
abbrev Parcel := BitVec 16

end Sys2Proof
end

