-- ==== Sys2Proof/Syntax.lean ====
section
/-!
DEFINITION. The commands the block takes from outside: one constructor per row of spec/opcode_table.json, with
the row's operands. What names a unit (a logical core, a position, a port) is a bounded index, so that a term
cannot name a unit the window layout does not have; what the spec treats as bits is a bit vector.
-/

namespace Sys2Proof

/-- Who makes a register access (R40, R43): a logical core at a privilege level, the ESE, or the service
port, which has the ESE's authority (R478). -/
inductive Src where
  | core (n : Fin 64) (level : Fin 4)
  | ese
  | svc
  deriving DecidableEq, Repr

/-- The header of a coherence message (Table 10.3) but for CLASS, CODE and DEST, which its command gives. -/
structure Hdr where
  src : BitVec 16
  agent : BitVec 4
  txn : BitVec 12
  line : BitVec 53
  tx : Bool
  esc : Bool
  poison : Bool
  reissue : Bool
  ext : BitVec 10
  dztv : Bool
  deriving DecidableEq, Repr

/-- An error that the arrays of the caches show to a load (R205, R207); caches are 0 L1 instruction, 1 L1 data, 2 L2, 3 L3. -/
inductive CacheErr where
  | none
  | corrected (cache : Fin 4)
  | uncorrectable (cache : Fin 4)
  | tag (cache : Fin 4) (way : Fin 16)
  deriving DecidableEq, Repr

/-- One command: a write or read of a register, an instruction, a message, a frame, a pin, or an event that
the passing of time or the outside world brings about. -/
inductive Instr where
  /-- ALU_REGISTER_OP (R73): Integer register or immediate operation of OP 0x01, 0x02, 0x04 or its 16-bit form, computed modulo 2^64 or as a W form. -/
  | aluRegisterOp (n : Fin 64) (w : BitVec 32)
  /-- SHIFT_OP (R74): Shift or rotate by register or immediate, with unmasked counts for the register forms. -/
  | shiftOp (n : Fin 64) (w : BitVec 32)
  /-- LUI (R73): Load the sign-extended IMM19 times 2^11 into RD. -/
  | lui (n : Fin 64) (w : BitVec 32)
  /-- AUIPC (R73): Add the sign-extended IMM19 times 2^11 to the instruction's address and write the result to RD. -/
  | auipc (n : Fin 64) (w : BitVec 32)
  /-- MULTIPLY (R75): MUL, MULH, MULHU, MULHSU or MULW, which writes the low or high part of the product and raises no exception. -/
  | multiply (n : Fin 64) (w : BitVec 32)
  /-- TRAPPING_ARITHMETIC (R76): ADD.T, SUB.T, ADDW.T, SUBW.T or NEG.T, which raises Fixed-Point Overflow and writes no register when the result does not fit. -/
  | trappingArithmetic (n : Fin 64) (w : BitVec 32)
  /-- DIVIDE (R77): An integer divide that writes the quotient to RD and the remainder to RD+1, or raises Integer Divide by Zero or Fixed-Point Overflow. -/
  | divide (n : Fin 64) (w : BitVec 32)
  /-- LOAD (R161): Integer load, checked in the order of R161 and performed from memory or from a register page. -/
  | load (n : Fin 64) (w : BitVec 32) (err : CacheErr)
  /-- STORE (R168): Integer store, checked under R161, that retires into the store buffer. -/
  | store (n : Fin 64) (w : BitVec 32)
  /-- FP_LOAD_STORE (R54): FLD.S, FLD.D, FST.S or FST.D moves data between memory and an F register, with boxing of binary32 values. -/
  | fpLoadStore (n : Fin 64) (w : BitVec 32)
  /-- COMPARE_AND_BRANCH (R80): BEQ, BNE, BLT, BGE, BLTU, BGEU, BEQZ or BNEZ branches to PC plus the offset when its condition holds. -/
  | compareAndBranch (n : Fin 64) (w : BitVec 32)
  /-- B (R49): Unconditional PC-relative branch. -/
  | b (n : Fin 64) (w : BitVec 32)
  /-- JR (R49): Jump to RS1 plus IMM11, raising Alignment Fault if bit 0 of the target is set. -/
  | jr (n : Fin 64) (w : BitVec 32)
  /-- CALL (R84): Push the return address at SP minus 8 after the stack-limit check, decrement SP and branch. -/
  | call (n : Fin 64) (w : BitVec 32)
  /-- CALLR (R84): Call through a register target, which is checked before the push. -/
  | callr (n : Fin 64) (w : BitVec 32)
  /-- RET (R85): Pop the return address from SP after the stack-limit check and transfer to it. -/
  | ret (n : Fin 64) (w : BitVec 32)
  /-- LOOP (R89): Set LC, LB and LE, then enter the loop body or skip it. -/
  | loop (n : Fin 64) (w : BitVec 32) (tail : BitVec 16)
  /-- MACD (R95): Read two 8-byte operands, accumulate their lane products into an accumulator and advance both address registers by 8. -/
  | macd (n : Fin 64) (w : BitVec 32)
  /-- ACCUMULATOR_TRANSFER (R99): ACCZ, MFA.L, MFA.H, MTA.L or MTA.H, each waiting for earlier MACDs into the same accumulator. -/
  | accumulatorTransfer (n : Fin 64) (w : BitVec 32)
  /-- DADDP (R102): Packed-decimal add of operand 2 into operand 1, which also writes COND. -/
  | daddp (n : Fin 64) (w : BitVec 32)
  /-- DSUBP (R102): Packed-decimal subtract of operand 2 from operand 1. -/
  | dsubp (n : Fin 64) (w : BitVec 32)
  /-- DMULP (R102): Packed-decimal multiply into operand 1. -/
  | dmulp (n : Fin 64) (w : BitVec 32)
  /-- DDIVP (R102): Packed-decimal divide, which writes the quotient and the remainder into operand 1. -/
  | ddivp (n : Fin 64) (w : BitVec 32)
  /-- DCMPP (R102): Packed-decimal algebraic compare that writes only COND. -/
  | dcmpp (n : Fin 64) (w : BitVec 32)
  /-- FP_ARITHMETIC (R112): FADD, FSUB, FMUL, FDIV or FSQRT, rounded once under FPCR, setting flags and possibly arming an FP Trap. -/
  | fpArithmetic (n : Fin 64) (w : BitVec 32)
  /-- FUSED_MULTIPLY_ADD (R112): FMADD, FMSUB, FNMADD or FNMSUB, rounded once after the addition. -/
  | fusedMultiplyAdd (n : Fin 64) (w : BitVec 32)
  /-- FP_CONVERT (R117): FCVT between formats, to integer with saturation, or from integer. -/
  | fpConvert (n : Fin 64) (w : BitVec 32)
  /-- FMIN_FMAX (R118): minimumNumber or maximumNumber of two F registers. -/
  | fminFmax (n : Fin 64) (w : BitVec 32)
  /-- FCMP (R118): FCMP.EQ, FCMP.LT or FCMP.LE writes 1 or 0 to a G register. -/
  | fcmp (n : Fin 64) (w : BitVec 32)
  /-- FTYPE (R118): Write the class code of Table 5.8 to a G register. -/
  | ftype (n : Fin 64) (w : BitVec 32)
  /-- FP_BIT_MOVE (R118): FSIGNC, FSIGNN, FSIGNX, FBITS.G or FBITS.F moves bits and sets no flag. -/
  | fpBitMove (n : Fin 64) (w : BitVec 32)
  /-- LD_A (R171): Acquire load. -/
  | ldA (n : Fin 64) (w : BitVec 32)
  /-- ST_R (R171): Release store. -/
  | stR (n : Fin 64) (w : BitVec 32)
  /-- CAS (R172): Single-copy-atomic compare and swap, which acts as an acquire and as a release. -/
  | cas (n : Fin 64) (w : BitVec 32)
  /-- CAS_Q (R172): 16-byte compare and swap on register pairs. -/
  | casQ (n : Fin 64) (w : BitVec 32)
  /-- LD_Q_A (R171): 16-byte acquire load into a register pair. -/
  | ldQA (n : Fin 64) (w : BitVec 32)
  /-- FENCE_C (R44): Wait for earlier register stores to be acknowledged and order memory before later register accesses. -/
  | fenceC (n : Fin 64) (w : BitVec 32)
  /-- FENCE_L (R175): Fence that orders accesses for the cores of the same home tile, performed as FENCE.S after cross-tile sparing. -/
  | fenceL (n : Fin 64) (w : BitVec 32)
  /-- FENCE_S (R175): Fence that orders accesses for the whole coherence domain and all I/O. -/
  | fenceS (n : Fin 64) (w : BitVec 32)
  /-- FSYNC (R124): Wait for earlier FP instructions and deliver any armed FP Trap. -/
  | fsync (n : Fin 64) (w : BitVec 32)
  /-- ISYNC (R70): Context-synchronizing instruction. -/
  | isync (n : Fin 64) (w : BitVec 32)
  /-- ZERO_L (R209): Zero the 128-byte line holding the address, checked as a 128-byte store. -/
  | zeroL (n : Fin 64) (w : BitVec 32)
  /-- TLBI_VA (R166): Remove stage-1 entries of the current VMID that map a virtual address under an ASID or G. -/
  | tlbiVa (n : Fin 64) (w : BitVec 32)
  /-- TLBI_ASID (R166): Remove the non-global entries of one ASID. -/
  | tlbiAsid (n : Fin 64) (w : BitVec 32)
  /-- TLBI_S1ALL (R166): Remove every entry of the current VMID. -/
  | tlbiS1all (n : Fin 64) (w : BitVec 32)
  /-- TLBI_GPA (R166): Remove the entries whose stage-2 page, or I/O entry, covers a GPA. -/
  | tlbiGpa (n : Fin 64) (w : BitVec 32)
  /-- TLBI_VMID (R166): Remove every entry of one VMID, or every I/O entry of the zone. -/
  | tlbiVmid (n : Fin 64) (w : BitVec 32)
  /-- TLBI_ALL (R166): Remove every entry of the zone, I/O included. -/
  | tlbiAll (n : Fin 64) (w : BitVec 32)
  /-- MFS (R57): Read a special register after the number, level and facility checks. -/
  | mfs (n : Fin 64) (w : BitVec 32)
  /-- MTS (R57): Write a special register, context-synchronizing and delivering any armed FP Trap first. -/
  | mts (n : Fin 64) (w : BitVec 32)
  /-- RFE (R146): Check the saved PSW and return to EPC, restoring PSW. -/
  | rfe (n : Fin 64) (w : BitVec 32)
  /-- SVC (R133): Supervisor Call exception. -/
  | svc (n : Fin 64) (w : BitVec 32)
  /-- HVC (R133): Hypervisor Call exception. -/
  | hvc (n : Fin 64) (w : BitVec 32)
  /-- MCALL (R133): Machine Call exception. -/
  | mcall (n : Fin 64) (w : BitVec 32)
  /-- BRK (R133): Breakpoint exception. -/
  | brk (n : Fin 64) (w : BitVec 32)
  /-- NOP (R60): 16-bit no-operation. -/
  | nop (n : Fin 64) (w : BitVec 32)
  /-- WAIT (R150): Stop issue until an interrupt, a machine check or a store error is pending, and enter the power state that R429 selects. -/
  | wait (n : Fin 64) (w : BitVec 32)
  /-- TBEGIN (R183): Open a transaction or nest one deeper, recording the architected state. -/
  | tbegin (n : Fin 64) (w : BitVec 32)
  /-- TBEGINB (R194): Open a bounded transaction, escalated when BCOUNT is at least 8. -/
  | tbeginb (n : Fin 64) (w : BitVec 32)
  /-- TCOMMIT (R183): Decrement the depth and commit the transaction at depth 0. -/
  | tcommit (n : Fin 64) (w : BitVec 32)
  /-- TABORT (R183): Abort the open transaction with code 0x01. -/
  | tabort (n : Fin 64) (w : BitVec 32)
  /-- TTEST (R183): Write the nesting depth to RD. -/
  | ttest (n : Fin 64) (w : BitVec 32)
  /-- ESCALATED_GATHER_RESTART (R196): A gather that has not won every listed line within 4,096 uncore cycles releases them and starts again. -/
  | escalatedGatherRestart (n : Fin 64)
  /-- RETIREMENT_GROUP_COMMIT (R247): Matching leading and trailing retirement records commit a group and take the Wafer. -/
  | retirementGroupCommit (n : Fin 64)
  /-- EXTERNAL_INTERRUPT (R417): A core takes the current offer at an enabled boundary, which pushes the running-priority stack. -/
  | externalInterrupt (n : Fin 64)
  /-- ASYNCHRONOUS_STORE_ERROR (R144): A pending late store error is taken at H or M at a boundary. -/
  | asynchronousStoreError (n : Fin 64)
  /-- MACHINE_CHECK_ASYNC (R149): An asynchronous Machine Check is taken at M at a boundary. -/
  | machineCheckAsync (n : Fin 64)
  /-- FP_TRAP (R124): An armed FP Trap is delivered at the first boundary of R124. -/
  | fpTrap (n : Fin 64)
  /-- DEBUG_STEP (R139): Debug Step is taken after an instruction that completed with PSW.SS set. -/
  | debugStep (n : Fin 64)
  /-- REGISTER_LOAD_TIMEOUT (R42): A register-page load without a response within 12 µs raises Machine Check precisely. -/
  | registerLoadTimeout (n : Fin 64) (w : BitVec 32)
  /-- REGISTER_STORE_TIMEOUT (R44): An unacknowledged register store is dropped at 12 µs and logged in LSE_LOG. -/
  | registerStoreTimeout (n : Fin 64)
  /-- FABRIC_TIMEOUT (R141): A remote access without completion within 12 µs is logged as a late store error or raises Machine Check. -/
  | fabricTimeout (n : Fin 64) (k : Fin 4)
  /-- REGISTER_WRITE (R40): Write to a register that has no row of its own, applied whole after the refusal checks of Table 2.6. -/
  | registerWrite (src : Src) (off : BitVec 28) (size : Fin 4) (v : BitVec 64)
  /-- BLK_ERR_CLEAR (R36): W1C write to BLK_ERR. -/
  | blkErrClear (src : Src) (page : BitVec 16) (v : BitVec 64)
  /-- RUN_SET (R35): Setting BLK_CTL.RUN starts the block with its fields as they stand. -/
  | runSet (src : Src) (page : BitVec 16)
  /-- RUN_CLEAR (R35): Clearing BLK_CTL.RUN stops the block at its boundary. -/
  | runClear (src : Src) (page : BitVec 16)
  /-- BLOCK_STOPPED (R35): The block reaches its boundary and BLK_STAT.RUNNING clears. -/
  | blockStopped (page : BitVec 16)
  /-- BLK_QUIESCE_SET (R35): Setting BLK_CTL.QUIESCE stops the acceptance of work. -/
  | blkQuiesceSet (src : Src) (page : BitVec 16)
  /-- BLK_QUIESCE_CLEAR (R35): Clearing QUIESCE resumes acceptance and clears QUIESCED. -/
  | blkQuiesceClear (src : Src) (page : BitVec 16)
  /-- BLOCK_QUIESCED (R35): No accepted work remains and QUIESCED is set. -/
  | blockQuiesced (page : BitVec 16)
  /-- SOFT_RESET (R35): Reset the block's internal state and its RW-S and RW-L fields, accepted only while RUNNING = 0. -/
  | softReset (src : Src) (page : BitVec 16)
  /-- SOFT_RESET_COMPLETE (R35): The soft reset ends and BUSY clears. -/
  | softResetComplete (page : BitVec 16)
  /-- ZONE_TABLE_WRITE (R154): Write to a zone or protection table, refused while BUSY = 1 or after the Glaze. -/
  | zoneTableWrite (src : Src) (word : Fin 105984) (v : BitVec 64)
  /-- ZT_GLAZE (R156): A write of 0x6C7A starts the validation of the zone tables. -/
  | ztGlaze (src : Src) (v : BitVec 64)
  /-- GLAZE_VALIDATION_COMPLETE (R156): Validation ends: the Glaze is set and every GL field frozen, or a failure is recorded. -/
  | glazeValidationComplete
  /-- CACHE_ENABLE_CHANGE (R202): A write to an enable or way mask, applied at the next maintenance boundary. -/
  | cacheEnableChange (src : Src) (unit : Fin 44) (ways : Bool) (v : BitVec 64)
  /-- MAINTENANCE_BOUNDARY (R202): At the cache's maintenance boundary a pending enable or way change takes effect and may start a flush or drain. -/
  | maintenanceBoundary (t : Fin 4) (c : Fin 11)
  /-- DISABLE_FLUSH_COMPLETE (R204): The last line is written back and invalidated, and the cache is off. -/
  | disableFlushComplete (t : Fin 4) (c : Fin 11)
  /-- WAY_DRAIN_COMPLETE (R202): The removed ways have been drained. -/
  | wayDrainComplete (t : Fin 4) (c : Fin 11)
  /-- RNG_GO (R211): Start a range operation of CLEAN, INVAL, CLINV or ZERO. -/
  | rngGo (src : Src) (t : Fin 4)
  /-- RNG_ABORT (R212): Stop a software range operation after the line in progress. -/
  | rngAbort (src : Src) (t : Fin 4)
  /-- RANGE_OPERATION_COMPLETE (R212): BUSY goes to 0, RESULT is set and the completion interrupt source is raised. -/
  | rangeOperationComplete (t : Fin 4) (done : BitVec 40)
  /-- TAG_REBUILD_COMPLETE (R207): A dirty tag is rebuilt from its shadow tag and the position retries. -/
  | tagRebuildComplete (p : Fin 40) (l3 : Bool) (rebuilt : Bool) (set : BitVec 16) (way : Fin 16)
  /-- WAY_FAIL (R208): The ESE takes out a way that has passed 16 corrected errors in 24 hours. -/
  | wayFail (t : Fin 4) (c : Fin 11) (way : Fin 16)
  /-- RD_S (R227): The home receives a read for sharing and grants F, by data or by forward. -/
  | rdS (h : Hdr)
  /-- RD_O (R227): The home receives a read for ownership and grants E through invalidations or a forward. -/
  | rdO (h : Hdr)
  /-- UPG (R227): The home receives an upgrade without data, handled as RD_O when the sender is no longer a sharer. -/
  | upg (h : Hdr)
  /-- OWN_Z (R227): The home receives a request for ownership without data, for a whole-line write. -/
  | ownZ (h : Hdr)
  /-- RD_ONCE (R227): The home receives a coherent snapshot read that grants no state. -/
  | rdOnce (h : Hdr)
  /-- WR_LINE (R227): The home receives a whole-line write. -/
  | wrLine (h : Hdr) (data : BitVec 1024)
  /-- WR_PART (R227): The home receives a masked partial write and performs it at the home. -/
  | wrPart (h : Hdr) (data : BitVec 1024) (mask : BitVec 128)
  /-- CAS_NC (R227): The home receives a CAS, CAS.Q or LD.Q.A and performs it. -/
  | casNc (h : Hdr) (off : Fin 128) (size : Fin 5) (ops : Option (BitVec 128 × BitVec 128))
  /-- FWD_S (R232): A holder receives a forward to send the line as F and keep S. -/
  | fwdS (h : Hdr)
  /-- FWD_O (R232): A holder receives a forward to send the line and become I. -/
  | fwdO (h : Hdr)
  /-- FWD_ONCE (R232): A holder receives a forward to send a copy with its state unchanged. -/
  | fwdOnce (h : Hdr)
  /-- INV (R232): A sharer receives an invalidation and acknowledges it. -/
  | inv (h : Hdr)
  /-- INV_Z (R232): An owner receives an invalidation that discards dirty data. -/
  | invZ (h : Hdr)
  /-- RECALL (R232): A holder receives a recall and returns dirty data to the home. -/
  | recall (h : Hdr)
  /-- SET_RECALL (R231): A member removes every line of the recalled home set and acknowledges. -/
  | setRecall (home : BitVec 16) (set : BitVec 19) (way : Fin 16)
  /-- ACK (R223): A requester or the home receives an invalidation acknowledgement. -/
  | ack (h : Hdr)
  /-- CMP (R223): A requester receives a grant without data or a write completion. -/
  | cmp (h : Hdr)
  /-- FWD_DONE (R232): The home receives the end of a forward and the line is no longer busy, or the request is served from memory when ABSENT is set. -/
  | fwdDone (h : Hdr)
  /-- WB_ACK (R217): The evicting agent receives WB_ACK and frees its eviction buffer entry. -/
  | wbAck (h : Hdr)
  /-- REFUSED (R164): A requester receives a refusal under R164, or a report of no target. -/
  | refused (h : Hdr)
  /-- DATA (R223): A requester receives 128 bytes with the state granted. -/
  | data (h : Hdr) (data : BitVec 1024)
  /-- DAT_WB (R227): The home receives dirty data returned in answer to a forward. -/
  | datWb (h : Hdr) (data : BitVec 1024)
  /-- DATA_NC (R227): A requester receives the result of RD_ONCE or CAS_NC. -/
  | dataNc (h : Hdr) (data : BitVec 1024)
  /-- WB (R222): The home sinks a dirty line written back and sends WB_ACK. -/
  | wb (h : Hdr) (data : BitVec 1024)
  /-- EVN (R216): The home receives an eviction notice of a clean E or F line. -/
  | evn (h : Hdr)
  /-- RLS (R229): The home ends the reservations of an escalated attempt. -/
  | rls (h : Hdr)
  /-- TXEND (R228): The home advances the transaction epoch of the core. -/
  | txend (h : Hdr)
  /-- HOLD_END (R223): HOLD_MIN, or the escalated hold, ends and waiting forwards are served. -/
  | holdEnd (t : Fin 4) (line : BitVec 53)
  /-- DIRECTORY_EVICTION_BUFFER_FREE (R230): Every ACK or DAT_WB for a victim has arrived and its buffer frees. -/
  | directoryEvictionBufferFree (line : BitVec 53)
  /-- RESERVATION_EXPIRY (R229): An escalated reservation ends 4,608 uncore cycles after its grant. -/
  | reservationExpiry (line : BitVec 53)
  /-- SET_RECALL_COMPLETE (R231): Every member's ACK has arrived, and the home clears the set and writes a Crumb. -/
  | setRecallComplete (set : BitVec 19)
  /-- FABRIC_FRAME (R235): Receive a 256-byte fabric frame, check its CRC, take its ACK and credits, NAK on failure and deliver its messages. -/
  | fabricFrame (f : Fin 12) (frame : BitVec 2048)
  /-- FABRIC_IDENTITY_FRAME (R234): After training, the peer's identity lands in FP_STAT, or the port fails on a domain mismatch. -/
  | fabricIdentityFrame (f : Fin 12) (peer : BitVec 16) (port : BitVec 4) (kind : BitVec 2) (lanes : BitVec 8)
  /-- FABRIC_LANE_FAILURE (R236): A failed lane is dropped and the port retrains at the next width down. -/
  | fabricLaneFailure (f : Fin 12) (lane : Fin 8)
  /-- FABRIC_PORT_LOSS (R236): The port enters state failed, its routes switch to their alternatives and messages are reissued. -/
  | fabricPortLoss (f : Fin 12)
  /-- FABRIC_ACK_TIMEOUT (R236): No ACK for 1 µs loses the port. -/
  | fabricAckTimeout (f : Fin 12)
  /-- FABRIC_RETRAIN_COMPLETE (R236): A port finishes retraining at a narrower width and resumes. -/
  | fabricRetrainComplete (f : Fin 12)
  /-- ROUTING_RESUME (R239): Routing resumes over the alternative routes after a port loss. -/
  | routingResume (f : Fin 12)
  /-- MEMBER_LOSS (R240): A member whose routes have both failed for 12 µs is lost, and the home drops and poisons its lines. -/
  | memberLoss (k : Fin 32)
  /-- MEMBER_DOWN_WRITE (R240): Firmware sets or clears a member's lost bit. -/
  | memberDownWrite (src : Src) (v : BitVec 64)
  /-- FP_CMD_RETRAIN (R244): Retrain a fabric port at full width. -/
  | fpCmdRetrain (src : Src) (f : Fin 12)
  /-- FP_CMD_DOWN (R244): Declare a fabric port lost now. -/
  | fpCmdDown (src : Src) (f : Fin 12)
  /-- CHECK_FIRING (R251): A mismatch or self-check stops commit and opens or continues a retry event. -/
  | checkFiring (n : Fin 64) (code : BitVec 4) (selfPipe : Option (Fin 2))
  /-- TRAILING_RECORD_TIMEOUT (R251): A trailing retirement record more than 8 core cycles late fires check code 0x8. -/
  | trailingRecordTimeout (n : Fin 64)
  /-- RETRY_RESTART (R252): The Wafer is restored into both pipelines, or found lost, and the restart begins. -/
  | retryRestart (n : Fin 64) (lost : Bool)
  /-- CHECK_EVENT_END (R254): An event ends after 256 clean committed groups. -/
  | checkEventEnd (n : Fin 64)
  /-- SPARE_NOW (R257): POS_CTL.SPARE_NOW forces the sparing of a position. -/
  | spareNow (src : Src) (p : Fin 40)
  /-- SPARE_WAKE_COMPLETE (R258): The spare has left Nap and its clock ramp is complete. -/
  | spareWakeComplete
  /-- STORE_BUFFER_DRAIN_COMPLETE (R259): The failed position's committed stores have been performed or dropped. -/
  | storeBufferDrainComplete
  /-- LINE_MOVE_COMPLETE (R260): Every valid L2 line has been copied to the spare in its state. -/
  | lineMoveComplete
  /-- SPARE_RESTART (R262): The first instruction retires on the spare, followed by SPARE_INFO, BLK_ERR, the Crumb and the core-event source. -/
  | spareRestart
  /-- CHK_INJECT_ARM (R269): An armed injection fires its check at the next commit. -/
  | chkInjectArm (n : Fin 64)
  /-- DEBUG_HALT (R475): DBG_CTL HALT stops a logical core at its next boundary and parks the trailing pipeline. -/
  | debugHalt (n : Fin 64)
  /-- DEBUG_STEP_CMD (R475): DBG_CTL STEP makes a halted core retire one instruction. -/
  | debugStepCmd (n : Fin 64) (w : BitVec 32)
  /-- DEBUG_RESUME (R266): A halted core resumes and the trailing pipeline is reloaded from the leading Wafer. -/
  | debugResume (n : Fin 64)
  /-- DBG_DATA_ACCESS (R475): Read or write the architected state of a halted core. -/
  | dbgDataAccess (data : Option (BitVec 64))
  /-- MICROWORD (R274): A sequencer executes one microword, issuing a nano-word or sequencing. -/
  | microword (u : Fin 8) (copy : Fin 80) (cond : Bool) (dv : BitVec 8) (err : Fin 3)
  /-- MICROWORD_WAIT_END (R277): A WAIT ends when its condition line is true or its TMO entry expires, setting TIMED_OUT. -/
  | microwordWaitEnd (u : Fin 8) (copy : Fin 80) (cond : Bool) (dv : BitVec 8)
  /-- UC_OPEN (R282): Begin receiving an image into the staging buffer. -/
  | ucOpen (src : Src) (u : Fin 8)
  /-- UC_DATA (R282): Store the next 8 image bytes at UC_COUNT. -/
  | ucData (src : Src) (u : Fin 8) (v : BitVec 64)
  /-- UC_COMMIT (R284): Check the received image, then apply it. -/
  | ucCommit (src : Src) (u : Fin 8)
  /-- UC_ABORT (R282): Discard the received bytes. -/
  | ucAbort (src : Src) (u : Fin 8)
  /-- IMAGE_CHECK_COMPLETE (R284): The checks of R284 end, failing with a RESULT or moving on to apply. -/
  | imageCheckComplete (u : Fin 8)
  /-- COPY_SWITCH (R285): A copy at rest is written with the new image; at PENDING 0 the versions, digest and Crumb are updated. -/
  | copySwitch (u : Fin 8) (copy : Fin 80)
  /-- CSS_DB (R292): A channel doorbell write from a zone, taking entries in range or putting the ring in error. -/
  | cssDb (src : Src) (z : Fin 256) (n : Fin 16) (pi : BitVec 32)
  /-- CSS_FWR_DB (R290): A firmware ring doorbell write. -/
  | cssFwrDb (src : Src) (pi : BitVec 32)
  /-- RING_SLOT_RETRY (R293): The 10 µs retry of an entry that waits for a completion slot or a station. -/
  | ringSlotRetry (ring : Fin 1025)
  /-- START (R295): Accept a START after the checks of R295 and move the station to PENDING. -/
  | start (ring : Fin 1025)
  /-- HALT (R295): Halt a station's request locally or at the partner, according to its state. -/
  | halt (ring : Fin 1025)
  /-- CANCEL (R295): Cancel a PENDING request before any command is sent. -/
  | cancel (ring : Fin 1025)
  /-- QUERY (R295): Return the station's state and paths. -/
  | query (ring : Fin 1025)
  /-- MODIFY (R295): Set the EN bit of each station path from PATHEN. -/
  | modify (ring : Fin 1025)
  /-- STATION_COMMAND_SENT (R310): A path is selected, the first SE fetched and checked, and the command sent, so the station becomes ACTIVE. -/
  | stationCommandSent (station : BitVec 16)
  /-- BARRIER_SE_FETCH (R301): An SE with BARRIER is read once earlier SEs have ended and their data is visible. -/
  | barrierSeFetch (station : BitVec 16)
  /-- PATHWAIT_EXPIRY (R308): No usable path within PATHWAIT completes the request with NO_PATH. -/
  | pathwaitExpiry (station : BitVec 16)
  /-- TIME_LIMIT_EXPIRY (R310): A request's time limit ends it, or moves the station to HALTING. -/
  | timeLimitExpiry (station : BitVec 16)
  /-- HALTING_TIMEOUT (R310): 1 ms in HALTING without an ABORT_ACK completes the request. -/
  | haltingTimeout (station : BitVec 16)
  /-- PT_DATA_WRITE (R305): Store a path table entry, refused for a ninth path or a duplicate tag, and advance PT_SEL. -/
  | ptDataWrite (src : Src) (p : Fin 16) (v : BitVec 64)
  /-- CSS_ZRT_WRITE (R288): Write a zone's ring range, refused on overlap or overrun. -/
  | cssZrtWrite (src : Src) (z : Fin 256) (v : BitVec 64)
  /-- PCS_LOCK (R317): A channel port reaches PCS lock and begins sending INIT. -/
  | pcsLock (p : Fin 16)
  /-- CHANNEL_LANE_LOSS (R318): A lost lane takes the link down and retrains it according to PORT_SPEED. -/
  | channelLaneLoss (p : Fin 16) (lane : Fin 2)
  /-- CHANNEL_FRAME_RECEIVE (R322): Check a frame's CRC, link fields, sequence and form, and deliver it in SEQ order. -/
  | channelFrameReceive (p : Fin 16) (bytes : List Byte) (fec : Bool)
  /-- INIT (R329): Receive INIT and answer with INIT_ACK; an INIT while the link is up loses the link. -/
  | init (p : Fin 16)
  /-- INIT_ACK (R329): Receive INIT_ACK; the link is up once both sides have exchanged one. -/
  | initAck (p : Fin 16)
  /-- INIT_RESEND (R329): INIT is sent again every 10 µs until INIT_ACK arrives. -/
  | initResend (p : Fin 16)
  /-- LSTAT (R326): Receive a link status map and retransmit the frames it shows missing. -/
  | lstat (p : Fin 16)
  /-- LSTAT_SEND (R325): Send LSTAT at its 2 µs deadline or as the 5 µs keepalive. -/
  | lstatSend (p : Fin 16)
  /-- RETRANSMISSION_TIMER (R326): RTO expiry retransmits an unacknowledged frame, and passing RTX_MAX loses the link. -/
  | retransmissionTimer (p : Fin 16) (seq : BitVec 32)
  /-- LINK_SILENCE_TIMEOUT (R327): No good frame for LINK_TMO loses the link. -/
  | linkSilenceTimeout (p : Fin 16)
  /-- CHANNEL_LINK_LOSS (R328): Discard held frames, report every path lost, count the loss and retrain. -/
  | channelLinkLoss (p : Fin 16)
  /-- LOGIN_ACK (R330): A login is accepted or refused; accepted paths become usable and abandoned XIDs are aborted. -/
  | loginAck (p : Fin 16)
  /-- LOGIN_TIMEOUT (R330): An unanswered LOGIN is resent after 1 ms, and retried every 100 ms. -/
  | loginTimeout (p : Fin 16) (partner : BitVec 12)
  /-- LOGOUT (R331): A partner's LOGOUT ends its exchanges with NO_PATH. -/
  | logout (p : Fin 16)
  /-- CHANNEL_DATA (R332): Receive inbound DATA of a command in ascending XOFF. -/
  | channelData (p : Fin 16) (bufErr : Bool)
  /-- DSTAT (R332): Receive the partner's device status, which ends the command and chains or ends the script. -/
  | dstat (p : Fin 16)
  /-- XACK (R333): Receive the partner's acknowledgement and free held transform output below XOFF. -/
  | xack (p : Fin 16)
  /-- ABORT_ACK (R334): Receive the partner's ABORT_ACK, so a HALTING station reaches IDLE. -/
  | abortAck (p : Fin 16)
  /-- RESUME_ACK (R336): Receive RESUME_ACK and proceed as Table 14.4 gives. -/
  | resumeAck (p : Fin 16)
  /-- RESUME_TIMEOUT (R336): An unanswered RESUME is resent after 100 µs, and after three resends the path is lost. -/
  | resumeTimeout (station : BitVec 16)
  /-- UNSOL (R337): Receive unsolicited status and deliver, hold or refuse it. -/
  | unsol (p : Fin 16)
  /-- REJECT (R337): Receive a REJECT and act on its REASON. -/
  | reject (p : Fin 16)
  /-- CP_CMD_RETRAIN (R339): Take a channel link down and retrain it. -/
  | cpCmdRetrain (src : Src) (p : Fin 16)
  /-- CP_CMD_DOWN (R339): Take a channel link down now. -/
  | cpCmdDown (src : Src) (p : Fin 16)
  /-- ENGINE_CYCLE (R341): Both channel engines execute a cycle, compare mirror writes and commit agreed state. -/
  | engineCycle (selfA : Bool) (selfB : Bool) (unit : BitVec 4) (mirror : Bool)
  /-- OUTPUT_COPY_ARRIVAL (R343): A receiver gets an engine's output copy and compares, holds, delivers or discards it. -/
  | outputCopyArrival (engine : Fin 2) (receiver : Fin 18) (oseq : BitVec 32) (data : Word)
  /-- RECEIVER_WINDOW_EXPIRY (R343): A held lone copy's 2-cycle window ends, and the receiver delivers it or reports silence. -/
  | receiverWindowExpiry (receiver : Fin 18)
  /-- RETRY_NOTICE (R345): The pair controller orders a retry of a cycle after a mismatch or self-check. -/
  | retryNotice
  /-- ENGINE_SILENCE (R345): A holder missing two mirror frames, or a receiver timeout, fails the silent engine at once. -/
  | engineSilence (engine : Fin 2) (receiver : Fin 32)
  /-- REVOKE (R349): Revoke the Biscuit epoch at the old holder and at every receiver. -/
  | revoke
  /-- REVOKE_ACK (R349): A receiver acknowledges REVOKE. -/
  | revokeAck (receiver : Fin 18)
  /-- GRANT (R350): Grant the next epoch to the new holder. -/
  | grant
  /-- REVOKE_ACK_TIMEOUT (R350): A receiver silent for 8 cycles: GRANT is sent anyway, with LEASEFALL set and a Crumb. -/
  | revokeAckTimeout
  /-- LEASE_RENEWAL (R348): The controller renews every receiver's lease every 250 ns. -/
  | leaseRenewal
  /-- LEASE_EXPIRY (R348): An unrenewed lease expires and the receiver stops delivering. -/
  | leaseExpiry (receiver : Fin 18)
  /-- RESYNC_SWEEP_COMPLETE (R353): The state copy ends and the loading engine joins in duplex. -/
  | resyncSweepComplete
  /-- GAP_COPY_COMPLETE (R354): After a holder fails while resynchronizing, the copy ends and the loading engine takes the Biscuit. -/
  | gapCopyComplete (unreadable : Bool)
  /-- AUTO_RETURN (R356): After 1 ms of clean duplex, the Biscuit passes back to the home engine. -/
  | autoReturn
  /-- SPLIT (R355): Stop the non-holder for test. -/
  | split (src : Src)
  /-- REPAIR (R355): Soft-reset and self-test a failed engine. -/
  | repair (src : Src) (e : Fin 2)
  /-- REPAIR_COMPLETE (R355): The repair passes and resynchronization starts, or the engine stays failed. -/
  | repairComplete (passed : Bool)
  /-- RESYNC (R355): Start resynchronization of an idle or test engine. -/
  | resync (src : Src)
  /-- E12_ENGINE_RECOVERY (R358): The single engine of the E12 is stopped, refreshed, tested and restarted from its state store. -/
  | e12EngineRecovery (passed : Bool) (unreadable : Bool)
  /-- CSS_PAIR_INJECT (R359): An armed pair injection fires in the next cycle in which its kind can act. -/
  | cssPairInject (receiver : Fin 18) (unit : BitVec 4)
  /-- KEY_SEL (R365): Open a key load for a slot owned by the zone, zeroizing the load buffer. -/
  | keySel (src : Src) (z : Option (Fin 256)) (v : BitVec 64)
  /-- KEY_DATA (R366): Take the next key word, failing the load on overflow. -/
  | keyData (src : Src) (z : Option (Fin 256)) (v : BitVec 64)
  /-- KEY_COMMIT (R367): Install the loaded key in its slot, or fail with a RESULT. -/
  | keyCommit (src : Src) (z : Option (Fin 256))
  /-- KEY_ERASE (R367): Zeroize the named slot or XTS pair. -/
  | keyErase (src : Src) (z : Option (Fin 256))
  /-- KEY_ABORT (R367): Zeroize the load buffer and close the load. -/
  | keyAbort (src : Src) (z : Option (Fin 256))
  /-- CIPH_ZEROIZE (R384): Zeroize every slot at once. -/
  | ciphZeroize (src : Src)
  /-- CIPHER_DB (R375): A cipher ring doorbell write. -/
  | cipherDb (src : Src) (z : Option (Fin 256)) (n : Fin 8) (pi : BitVec 32)
  /-- CIPHER_DESCRIPTOR_TAKEN (R377): Check a cipher descriptor and start its job. -/
  | cipherDescriptorTaken (ring : Fin 2049)
  /-- CIPHER_WORK_UNIT (R380): A free pipeline takes a unit of inline or descriptor work. -/
  | cipherWorkUnit (pipe : Fin 16)
  /-- TAG_COMPARE (R373): Compare the tag of a segment and release or zeroize its plaintext. -/
  | tagCompare (pipe : Fin 16)
  /-- RELEASE_BUFFER_ZEROIZED (R373): Zeroization of a release buffer ends and the pipeline takes work again. -/
  | releaseBufferZeroized (pipe : Fin 16)
  /-- TWOPASS_VERIFY_COMPLETE (R374): The verify pass ends and the decrypt pass starts, or TAG_MISMATCH is reported. -/
  | twopassVerifyComplete (pipe : Fin 16)
  /-- CIPHER_JOB_COMPLETE (R378): Write NEXT_IV and word 0x30 in ring order, and advance CONS. -/
  | cipherJobComplete (ring : Fin 2049)
  /-- PIPELINE_CHECK_FIRE (R382): A cipher pipeline fails, and its unit reruns on another pipeline. -/
  | pipelineCheckFire (pipe : Fin 16)
  /-- KEY_SLOT_UNCORRECTABLE (R382): An uncorrectable slot is zeroized, and jobs that use it end. -/
  | keySlotUncorrectable (slot : BitVec 12)
  /-- COMP_DB (R400): A compression ring doorbell write. -/
  | compDb (src : Src) (z : Option (Fin 256)) (n : Fin 8) (pi : BitVec 32)
  /-- COMP_DESCRIPTOR_TAKEN (R402): Check a compression descriptor, restore its stream state and start the job. -/
  | compDescriptorTaken (ring : Fin 2049)
  /-- ZSTATE_RELEASE (R397): A request waiting on a ZSTATE in use starts once that request completes. -/
  | zstateRelease (inlined : Bool) (n : BitVec 16)
  /-- STREAM_STATE_RESTORE_COMPLETE (R395): The stream state block has been read and checked. -/
  | streamStateRestoreComplete (unit : Fin 16)
  /-- COMP_JOB_COMPLETE (R401): The job ends, its state is saved as Table 17.6 gives, and its status is written. -/
  | compJobComplete (ring : Fin 2049)
  /-- STREAM_SAVE_COMPLETE (R396): The stream state block has been written. -/
  | streamSaveComplete (unit : Fin 16)
  /-- STREAM_PARK (R404): An inline stream idle for 4,096 cycles is parked into a park slot. -/
  | streamPark (unit : Fin 16)
  /-- STREAM_RESUME (R404): A unit resumes a parked stream. -/
  | streamResume (unit : Fin 16) (station : BitVec 16)
  /-- UNIT_SELFCHECK (R405): A compression unit fails, and its descriptor job reruns elsewhere. -/
  | unitSelfcheck (unit : Fin 16)
  /-- SOURCE_EVENT (R414): An event at an interrupt source moves it between states and starts its moderation. -/
  | sourceEvent (n : BitVec 13)
  /-- HOLDOFF_EXPIRY (R415): The holdoff of a pending source ends and it becomes offerable. -/
  | holdoffExpiry (n : BitVec 13)
  /-- TRIGGER (R414): Raise a source once, as an event. -/
  | trigger (src : Src) (n : BitVec 13)
  /-- PEND_DISCARD (R414): A W1C write of PEND discards a pending event. -/
  | pendDiscard (src : Src) (n : BitVec 13)
  /-- SOURCE_ENTRY_WRITE (R413): Write a source entry, checked for ownership and TARGET. -/
  | sourceEntryWrite (src : Src) (n : BitVec 13) (v : BitVec 64)
  /-- IC_EOI (R418): End of interrupt: pop the stack and move the source out of Active. -/
  | icEoi (src : Src) (c : Fin 64) (n : BitVec 13)
  /-- IC_COREEVT_CLEAR (R423): W1C write that clears core-event bits and EVKIND. -/
  | icCoreevtClear (src : Src) (c : Fin 64) (mask : BitVec 3)
  /-- MSI_X_WRITE (R411): A posted write claimed as MSI-X raises its source or is discarded and logged. -/
  | msiXWrite (port : Fin 2) (rid : BitVec 16) (addr : BitVec 64) (data : List (BitVec 8))
  /-- ESE_EVENT_DELIVERY (R420): An offerable ESE-targeted source enters the ESE event queue. -/
  | eseEventDelivery
  /-- EVQ_DATA_READ (R480): Reading EVQ_DATA removes one event queue entry. -/
  | evqDataRead (src : Src)
  /-- POWER_STATE_ENTRY (R425): The entry into Doze, Nap or Sleep completes. -/
  | powerStateEntry (n : Fin 64)
  /-- POWER_STATE_WAKE (R425): A pending event wakes a position, subject to the slew reservations. -/
  | powerStateWake (n : Fin 64)
  /-- TILE_DEEP_ENTRY (R431): A tile whose active positions all sleep enters Tile Deep. -/
  | tileDeepEntry (t : Fin 4)
  /-- TILE_DEEP_EXIT (R431): A wake first brings the tile out of Tile Deep. -/
  | tileDeepExit (t : Fin 4)
  /-- L3_BANK_RETENTION_TIMEOUT (R425): An L3 bank raised for a forward returns to retention after 10 µs without an access. -/
  | l3BankRetentionTimeout (t : Fin 4)
  /-- LT_CORE_WRITE (R430): Write a core's latency tolerance, which may wake the core into another state. -/
  | ltCoreWrite (src : Src) (z : Fin 256) (n : Fin 64) (v : BitVec 64)
  /-- LT_SVC_WRITE (R428): Write the service tolerance, which recomputes LT_MODULE. -/
  | ltSvcWrite (src : Src) (v : BitVec 64)
  /-- TILE_DIV_WRITE (R433): Request a new tile divider, approached one step at a time. -/
  | tileDivWrite (src : Src) (t : Fin 4) (v : BitVec 64)
  /-- DIVIDER_STEP (R433): After the voltage change completes, the divider changes and its current change is ramped. -/
  | dividerStep (t : Fin 4)
  /-- LEVEL (R439): Send a LEVEL report of F every 1 µs while the link is idle. -/
  | level (t : Fin 4)
  /-- THERMAL_READING (R442): Read a tile's junction sensor every 10 µs, throttling or check-stopping above 110 °C. -/
  | thermalReading (t : Fin 4) (tj : BitVec 8)
  /-- THROTTLE_STEP (R442): Step a hot tile down every 20 µs, or back up every 100 µs. -/
  | throttleStep (t : Fin 4)
  /-- PACKAGE_LIMIT_STEP (R443): Step a divider down every 100 µs while PKG_W exceeds PKG_LIMIT, or restore it. -/
  | packageLimitStep (watts : BitVec 11)
  /-- CRUMB_SUBMISSION (R450): A block submits a Crumb to the input queue, where it may be dropped or displace another. -/
  | crumbSubmission (page : BitVec 16) (code : BitVec 16) (sev : Fin 6) (zone : Option (BitVec 8)) (injected : Bool) (payload : List Word)
  /-- CRUMB_WRITE (R448): The recorder takes a submission and writes, merges or suppresses it. -/
  | crumbWrite
  /-- DROP_REPORT (R450): With the queue empty after drops, write Crumb 0x0E02. -/
  | dropReport
  /-- TOKEN_GAIN (R451): A bucket gains a token, reporting any suppressed count with Crumb 0x0E01. -/
  | tokenGain (code : BitVec 16)
  /-- RECORDER_FILL_COMPLETE (R456): The zero-fill at power-on ends, the power-on Crumb is written and queued submissions follow. -/
  | recorderFillComplete
  /-- REARM (R457): Re-arm the kept area. -/
  | rearm (src : Src)
  /-- REC_RD_SEL_WRITE (R458): Copy a record into the read snapshot. -/
  | recRdSelWrite (src : Src) (index : BitVec 16) (bad : Option (Fin 16))
  /-- REC_RD_DATA_READ (R458): Return the next snapshot word and advance. -/
  | recRdDataRead (src : Src) (bad : Option (Fin 16))
  /-- TOD_SEC_READ (R459): A read of TOD_SEC latches TOD_NS. -/
  | todSecRead (src : Src)
  /-- SET_NOW (R453): Set the TOD at once. -/
  | setNow (src : Src)
  /-- SET_AT_PPS (R453): Arm a TOD set at the next PPS edge. -/
  | setAtPps (src : Src)
  /-- LEAP_INS (R455): Arm an inserted leap second. -/
  | leapIns (src : Src)
  /-- LEAP_DEL (R455): Arm a deleted leap second. -/
  | leapDel (src : Src)
  /-- LEAP_CANCEL (R455): Disarm a pending leap second. -/
  | leapCancel (src : Src)
  /-- LEAP_SECOND (R455): At the end of the UTC day, repeat or skip the last second. -/
  | leapSecond
  /-- PPS_EDGE (R454): A PPS_IN rising edge steps or steers the TOD, or applies a pending set. -/
  | ppsEdge
  /-- PPS_HOLDOVER (R454): No edge for 3 s sets HOLDOVER and clears STEERED. -/
  | ppsHoldover
  /-- POWER_ON (R463): VDD_SVC enters its range, and the ESE self-checks and enters Service Standby. -/
  | powerOn (reference : Bool) (resetLow : Bool)
  /-- REFERENCE_TIMEOUT (R516): No reference 100 ms after VDD_SVC: the ESE runs on its backup oscillator. -/
  | referenceTimeout
  /-- VDD_SVC_LOSS (R463): VDD_SVC leaves its range and the module has no power. -/
  | vddSvcLoss
  /-- SYS_RST_N_ASSERT (R517): The falling edge starts a cold reset that holds while SYS_RST_N stays low. -/
  | sysRstNAssert
  /-- SYS_RST_N_DEASSERT (R517): The rising edge starts Secure Boot after 100 µs. -/
  | sysRstNDeassert
  /-- RESET_SEQUENCE_COMPLETE (R465): The cold or warm reset sequence ends and the reset Crumb is written. -/
  | resetSequenceComplete (fault : Bool)
  /-- BOOT (R466): Enter Secure Boot and start raising the rails. -/
  | boot
  /-- RAIL_POWER_GOOD (R466): A rail gives power-good and the next rail is raised. -/
  | railPowerGood
  /-- RAIL_POWER_GOOD_TIMEOUT (R466): No power-good within 20 ms fails the boot with 0x0A. -/
  | railPowerGoodTimeout
  /-- ROOT_PLL_LOCK (R19): The PLL locks and the ESE and time base switch over without a glitch. -/
  | rootPllLock
  /-- PLL_LOCK_TIMEOUT (R466): No lock within 1 ms fails the boot with 0x0B. -/
  | pllLockTimeout
  /-- SELF_TEST_COMPLETE (R466): Built-in self-test ends, and the boot fails if the minimum set is unmet. -/
  | selfTestComplete (failed : BitVec 40) (ok : Bool)
  /-- MANIFEST_CHECK_COMPLETE (R468): The manifest has been read and checked, BOOT_OPT written and the TOD set. -/
  | manifestCheckComplete (sfdp : Bool)
  /-- MICROCODE_LOAD_COMPLETE (R286): Every base image has been streamed and checked, and the module enters Initialization. -/
  | microcodeLoadComplete
  /-- MEMORY_BRING_UP_COMPLETE (R494): Groups are trained and zero-filled, then roles are assigned, firmware copied and core 0 started. -/
  | memoryBringUpComplete (gib : BitVec 64) (two : BitVec 4) (slow : BitVec 4) (trained : BitVec 20)
  /-- CORE_START (R470): Start held logical cores at FW_ENTRY. -/
  | coreStart (src : Src) (mask : BitVec 64)
  /-- OPERATE (R472): Set BASE and start every held core. -/
  | operate (src : Src)
  /-- QUIESCE (R473): Drain channel work, hold the cores and empty the tile caches, entering mode 9. -/
  | quiesce (src : Src)
  /-- QUIESCE_STATION_TIMEOUT (R473): A station still busy after QSC_TMO is halted. -/
  | quiesceStationTimeout (station : BitVec 16)
  /-- MODE_RESUME (R473): Release Quiesce and the held cores. -/
  | modeResume (src : Src)
  /-- WARM_RESET (R473): Warm reset from Quiesce, then the warm path of Secure Boot. -/
  | warmReset (src : Src)
  /-- COLD_RESET (R463): Cold reset, then Service Standby or Secure Boot. -/
  | coldReset (src : Src) (reboot : Bool)
  /-- CHECKSTOP (R474): The CHECKSTOP command stops the module. -/
  | checkstop (src : Src)
  /-- MFG_TEST (R476): Enter Manufacturing Test after zeroization. -/
  | mfgTest (testEn : Bool)
  /-- ROOT_PLL_LOCK_LOSS (R20): Loss of lock enters Check-Stop and returns the ESE to the reference. -/
  | rootPllLockLoss
  /-- REFERENCE_LOSS (R20): An absent reference switches the ESE to the backup oscillator and the TOD to free-running. -/
  | referenceLoss
  /-- RAIL_FAULT (R513): A lost rail is handled as the loss of its units. -/
  | railFault (rail : Fin 9)
  /-- THERMTRIP (R520): An analog sensor above 125 °C asserts THERMTRIP_N. -/
  | thermtrip
  /-- SPI_STATUS (R477): The service port STATUS opcode returns the mode and alert byte. -/
  | spiStatus
  /-- SPI_WRITE (R477): The service port WRITE writes 8-byte words to ESE page offsets. -/
  | spiWrite (off : BitVec 16) (words : List (BitVec 64))
  /-- SPI_QWRITE (R477): Quad-lane WRITE. -/
  | spiQwrite (off : BitVec 16) (words : List (BitVec 64))
  /-- SPI_READ (R477): The service port READ returns status and data per word, replaying unfinished words. -/
  | spiRead (off : BitVec 16) (ready : List Bool) (whole : Bool)
  /-- SPI_QREAD (R477): Quad-lane READ. -/
  | spiQread (off : BitVec 16) (ready : List Bool) (whole : Bool)
  /-- SMBUS_ACCESS (R479): An SMBus block read or write of an ESE page word. -/
  | smbusAccess (code : BitVec 8) (data : Option (BitVec 64))
  /-- SVC_WIN_DATA_ACCESS (R478): Make one 8-byte access at SVC_WIN_ADDR with ESE authority. -/
  | svcWinDataAccess (data : Option (BitVec 64)) (lost : Bool)
  /-- MEMORY_READ (R486): Read a line's pieces, correcting, rebuilding or poisoning as R486 gives. -/
  | memoryRead (line : BitVec 36) (fixed : BitVec 5) (bad : BitVec 5)
  /-- MEMORY_WRITE (R485): Write a stripe whole, or one line with a read of the stripe and a parity update. -/
  | memoryWrite (line : BitVec 36) (data : BitVec 1024) (poison : Bool)
  /-- STRIPE_PARTNER_WAIT_EXPIRY (R485): A writeback waits 64 uncore cycles for its stripe partner and is then written alone. -/
  | stripePartnerWaitExpiry (line : BitVec 36)
  /-- SCRUB_STRIPE (R488): The scrubber reads, corrects and fixes parity of the next stripe. -/
  | scrubStripe (g : Fin 4) (fixed : BitVec 5) (bad : BitVec 5) (parityWrong : Bool)
  /-- MEMORY_COUNTER_POLL (R489): Each second the ESE checks channel counters and DIMM temperatures. -/
  | memoryCounterPoll (c : Fin 20) (temp : BitVec 8) (manyCorrected : Bool) (manyRebuilt : Bool)
  /-- CHANNEL_LOSS (R490): A memory channel is lost, and its pieces are rebuilt from the others from then on. -/
  | channelLoss (c : Fin 20) (cause : BitVec 4)
  /-- CH_CMD_FAIL (R490): Firmware declares a protected group's channel lost. -/
  | chCmdFail (src : Src) (c : Fin 20)
  /-- REBUILD_STRIPE (R491): Write the rebuilt piece of the next stripe over parity and advance PTR. -/
  | rebuildStripe (g : Fin 4)
  /-- REBUILD_COMPLETE (R491): The rebuild ends and the group becomes unprotected. -/
  | rebuildComplete (g : Fin 4)
  /-- DEVICE_LOAD (R498): A load or CAS to a PCI Express window completes with data, all ones or Machine Check. -/
  | deviceLoad (n : Fin 64) (outcome : Fin 4) (data : BitVec 64)
  /-- DEVICE_COMPLETION_TIMEOUT (R498): No completion within CTO writes all ones and logs the error. -/
  | deviceCompletionTimeout (n : Fin 64)
  /-- CONFIG_ACCESS (R497): An ECAM access to root port functions or downstream buses. -/
  | configAccess (n : Fin 64) (reply : BitVec 64)
  /-- INBOUND_REQUEST (R499): An inbound device request is translated and checked, or refused and recorded. -/
  | inboundRequest (port : Fin 2) (k : Fin 4) (rid : BitVec 16) (kind : Fin 3) (addr : BitVec 64) (len : BitVec 13) (data : List (BitVec 8)) (poisoned : Bool)
  /-- LTR_MESSAGE (R500): A link's LTR message replaces its record and updates LT_MODULE. -/
  | ltrMessage (port : Fin 2) (k : Fin 4) (snoop : BitVec 16) (noSnoop : BitVec 16)
  /-- PCIE_LINK_DOWN (R501): A link going down times out its loads, discards its DMA, logs the loss and retrains. -/
  | pcieLinkDown (port : Fin 2) (k : Fin 4)
  /-- REFERENCE_IN_TOLERANCE (R516): The 100 MHz reference comes into tolerance while VDD_SVC is already in range, and the ESE completes its ROM self-check and answers within 20 ms. -/
  | referenceInTolerance
  /-- ESE_SELF_CHECK (R463): A self-check of the ESE fires and the module enters Check-Stop with CAUSE 0x0A, also from Service Standby. -/
  | eseSelfCheck
  /-- PCIE_LINK_UP (R501): A root port link completes training and RP_LINK.STATE becomes up at its negotiated width and rate. -/
  | pcieLinkUp (port : Fin 2) (k : Fin 4) (width : BitVec 3) (rate : BitVec 3) (flit : Bool)
  /-- PCIE_ERROR_MESSAGE (R496): An ERR_COR, ERR_NONFATAL, ERR_FATAL or INTx message from a device is logged, AER is updated and BLK_ERR.AER is set for an uncorrectable error. -/
  | pcieErrorMessage (port : Fin 2) (k : Fin 4) (kind : Fin 4)
  /-- IEEE_1149_1_INSTRUCTION (R519): An instruction loaded on the IEEE 1149.1 port takes effect: IDCODE or BYPASS in every mode, the boundary-scan instructions only in mode 11. -/
  | ieee11491Instruction (ir : BitVec 8)
  deriving DecidableEq, Repr

end Sys2Proof
end

