-- ==== Sys2Proof/Decode.lean ====
section
/-!
DEFINITION. spec/opcode_table.json gives no row any bits, so no word spells a command of the block.
-/

namespace Sys2Proof

/-- The command that a word of `nbits` bits spells by the opcode table: none, for the table gives no bits. -/
def decodeTableWord (_nbits _w : Nat) : Option Instr := none

end Sys2Proof
end

