-- ==== Sys2Proof/Config.lean ====
section
/-!
DEFINITION. What the manual leaves open: constants with no body, so that nothing can be proved about their
values and every theorem holds for all of them (see notes/assumptions). Each is a function of the operands
it depends on, or of the counter `State.freeCtr`, which gives every open value a fresh argument.
-/

namespace Sys2Proof.Config

/-- A value the manual does not give, at the counter value it is drawn at. -/
opaque freeWord : Nat → Word

/-- The SEV of a Crumb for which no rule gives one, by its CODE and the type of the block that reports it. -/
opaque crumbSev : Nat → Nat → Fin 6

/-- The item by which a zeroization Crumb names its cause (R363), for each cause in the order R363 lists them. -/
opaque zeroizeCause : Nat → Word

/-- A byte of a root port function's configuration space that neither the manual nor the model's layout gives. -/
opaque configByte : Nat → Byte

/-- SHA-384 (FIPS 180-4) of a byte string, as a number of 384 bits. The manual names the standard and does
not restate it. -/
opaque sha384 : List Byte → BitVec 384

/-- Whether a 96-byte ECDSA P-384 signature over a digest is valid under a 97-byte public key (FIPS 186-5). -/
opaque ecdsaP384Valid : List Byte → BitVec 384 → List Byte → Bool

/-- The key hash fused in the module (R284). -/
opaque keyHash : BitVec 384

/-- The boot key hash fused in the module (R468), distinct from the microcode key hash. -/
opaque bootKeyHash : BitVec 384

/-- The bits of a DEFLATE block in the shortest of the encodings other than stored that its table choice allows
(R389), without BFINAL. R387 leaves the hash open, and with it the matches. By ZPARM, TABLES, the supplied table,
the history, the job's input, and where in it the block begins and how long it is. -/
opaque codedBlock : Nat → Nat → List Byte → List Byte → List Byte → Nat → Nat → List Bool

/-- Whether that block needs a symbol whose supplied length is 0 (R390), by the same. -/
opaque tableFallback : Nat → Nat → List Byte → List Byte → List Byte → Nat → Nat → Bool

/-- The bits or bytes of an unfinished header that a stopped decompression stream holds beyond the fields of
Table 17.5, by the state block. -/
opaque streamRest : List Byte → List Bool

/-- BFINAL of the block in progress of a stopped decompression stream, by the state block. -/
opaque streamFinal : List Byte → Bool

end Sys2Proof.Config
end

