-- ==== Sys2Proof/Machine/Bits.lean ====
section
/-!
DEFINITION. Bit fields of a 64-bit word, byte order, saturating counters and the CRC-32C of the manual.
Everything here is little-endian, as every table of the manual is.
-/

namespace Sys2Proof.Machine

/-- The value of bits [lo + width - 1 : lo] of a word. -/
def bits (v : Word) (lo width : Nat) : Nat :=
  (v.toNat >>> lo) % 2 ^ width

/-- A word with bits [lo + width - 1 : lo] replaced by the low bits of `n`. -/
def putBits (v : Word) (lo width n : Nat) : Word :=
  let mask := BitVec.ofNat 64 (2 ^ width - 1) <<< lo
  (v &&& ~~~mask) ||| (BitVec.ofNat 64 (n % 2 ^ width) <<< lo)

/-- One bit of a word. -/
def bit (v : Word) (i : Nat) : Bool :=
  v.toNat.testBit i

/-- A word with one bit replaced. -/
def putBit (v : Word) (i : Nat) (b : Bool) : Word :=
  putBits v i 1 (if b then 1 else 0)

/-- A truth value as a one-bit field. -/
def b2n (b : Bool) : Nat := if b then 1 else 0

/-- A counter of `width` bits after `k` more counts; it saturates. -/
def satAdd (width n k : Nat) : Nat :=
  if n + k < 2 ^ width then n + k else 2 ^ width - 1

/-- The bytes of `n`, least significant first. -/
def leBytes : Nat → Nat → List Byte
  | 0, _ => []
  | k + 1, n => BitVec.ofNat 8 n :: leBytes k (n / 256)

/-- The number that little-endian bytes spell. -/
def leNat : List Byte → Nat
  | [] => 0
  | b :: rest => b.toNat + 256 * leNat rest

/-- The number that big-endian bytes spell. -/
def beNat (bs : List Byte) : Nat := leNat bs.reverse

/-- Sign extension of a `width`-bit number to an integer. -/
def signed (width n : Nat) : Int :=
  let m := n % 2 ^ width
  if m < 2 ^ (width - 1) then (m : Int) else (m : Int) - (2 ^ width : Nat)

/-- A 64-bit word from an integer, modulo 2^64. -/
def wordOfInt (i : Int) : Word := BitVec.ofInt 64 i

/-- The 64-bit sign extension of a `width`-bit number. -/
def signExt (width n : Nat) : Word := wordOfInt (signed width n)

/-- One bit step of the reflected CRC-32C (polynomial 0x1EDC6F41). -/
def crc32cBit : Nat → Nat → Nat
  | 0, c => c
  | k + 1, c => crc32cBit k (if c % 2 = 1 then (c / 2) ^^^ 0x82F63B78 else c / 2)

/-- The CRC-32C register after the bytes given, from the register value given. -/
def crc32cUpd (c : Nat) : List Byte → Nat
  | [] => c
  | b :: rest => crc32cUpd (crc32cBit 8 (c ^^^ b.toNat)) rest

/-- The CRC-32C of a list of bytes. -/
def crc32c (bs : List Byte) : Nat :=
  (crc32cUpd 0xFFFFFFFF bs) ^^^ 0xFFFFFFFF

/-- The positions, counted from `base`, at which a list of truth values holds. -/
def trueAt : List Bool → Nat → List Nat
  | [], _ => []
  | b :: rest, base => if b then base :: trueAt rest (base + 1) else trueAt rest (base + 1)

/-- The set bits of a word, in ascending order. -/
def setBits (v : Word) : List Nat :=
  (List.range 64).filter (fun i => bit v i)

/-- How many bits of a word are set. -/
def popCount (v : Word) : Nat := (setBits v).length

end Sys2Proof.Machine
end

