-- ==== Sys2Proof/Machine/Deflate.lean ====
section
/-!
DEFINITION. DEFLATE (RFC 1951) with the framings of Table 17.3, the stream state block of Table 17.5, and the
blocks that a compressor writes (R387 to R398). The matches of a compressor are open (R387 leaves the hash to the
unit), so a coded block is a free value; stored blocks, the choice between the two, framing and decoding are not.
-/

namespace Sys2Proof.Machine

/-! ## Checks -/

/-- One bit step of the reflected CRC-32. -/
def crc32Bit : Nat → Nat → Nat
  | 0, c => c
  | k + 1, c => crc32Bit k (if c % 2 = 1 then (c / 2) ^^^ 0xEDB88320 else c / 2)

/-- CRC-32 of bytes that follow bytes whose CRC-32 is `c`. -/
def crc32From (c : Nat) (l : List Byte) : Nat :=
  (l.foldl (fun x b => crc32Bit 8 (x ^^^ b.toNat)) (c ^^^ 0xFFFFFFFF)) ^^^ 0xFFFFFFFF

/-- Adler-32 of bytes that follow bytes whose Adler-32 is `c`. -/
def adlerFrom (c : Nat) (l : List Byte) : Nat :=
  let r := l.foldl (fun (x : Nat × Nat) b => ((x.1 + b.toNat) % 65521, (x.2 + x.1 + b.toNat) % 65521))
    (c % 65536, c / 65536)
  r.1 + 65536 * r.2

/-- The running check of a framing. -/
def checkFrom (frame c : Nat) (l : List Byte) : Nat := if frame = 1 then adlerFrom c l else crc32From c l

/-- The running check of no bytes. -/
def checkInit (frame : Nat) : Nat := if frame = 1 then 1 else 0

/-! ## Bits -/

/-- `k` bits of a number, least significant first. -/
def bitsOf : Nat → Nat → List Bool
  | 0, _ => []
  | k + 1, n => (n % 2 == 1) :: bitsOf k (n / 2)

/-- The bits of bytes, each least significant first. -/
def bitsOfBytes (l : List Byte) : List Bool := l.flatMap (fun b => bitsOf 8 b.toNat)

/-- The number that bits spell, least significant first. -/
def bitsNat : List Bool → Nat
  | [] => 0
  | b :: rest => b2n b + 2 * bitsNat rest

/-- The whole bytes of a bit string. -/
def bytesOfBits : Nat → List Bool → List Byte
  | 0, _ => []
  | k + 1, l => BitVec.ofNat 8 (bitsNat (l.take 8)) :: bytesOfBits k (l.drop 8)

/-! ## Parameters (Table 17.4) -/

def zEffort (p : Nat) : Nat := p % 8
def zFrame (p : Nat) : Nat := p / 8 % 4
def zLazy (p : Nat) : Bool := p.testBit 5
def zCont (p : Nat) : Bool := p.testBit 6
def zSync (p : Nat) : Bool := p.testBit 7

/-- The rules of Tables 17.2 to 17.4 that ZPARM breaks by itself, for a direction. -/
def zparmBad (compress : Bool) (p : Nat) : Bool :=
  zFrame p == 3 || (zSync p && !(compress && zCont p)) ||
  (if compress then zLazy p && decide (zEffort p ≤ 1) else zLazy p || zEffort p != 0)

/-- The header of a new compression stream. -/
def zHeader (p : Nat) : List Byte :=
  let e := zEffort p
  if zFrame p = 1 then
    [0x78, if e ≤ 1 then 0x01 else if e ≤ 3 then 0x5E else if e ≤ 5 then 0x9C else 0xDA]
  else if zFrame p = 2 then
    [0x1F, 0x8B, 8, 0, 0, 0, 0, 0, if e ≤ 1 then 4 else if e = 7 then 2 else 0, 0xFF]
  else []

/-- The trailer of a stream, by its check and its uncompressed length. -/
def zTrailer (p check len : Nat) : List Byte :=
  if zFrame p = 1 then (leBytes 4 check).reverse
  else if zFrame p = 2 then leBytes 4 check ++ leBytes 4 (len % 2 ^ 32)
  else []

/-! ## A stream between requests (Table 17.5) -/

/-- The state of a stream. `bits` are the bits held or not yet read; `win` the history, newest byte first; `lens`
the literal and length code lengths (288) and the distance code lengths (32); `final` is BFINAL of the block in
progress. -/
structure ZState where
  compress : Bool
  zparm : Nat
  tables : Nat := 0
  inTotal : Nat := 0
  outTotal : Nat := 0
  check : Nat
  bits : List Bool := []
  phase : Nat := 0
  hdrPos : Nat := 0
  storedLeft : Nat := 0
  matchLeft : Nat := 0
  matchDist : Nat := 0
  clPos : Nat := 0
  lens : List Nat := []
  final : Bool := false
  win : List Byte := []
  deriving DecidableEq, Repr

/-- A new stream. -/
def ZState.new (compress : Bool) (zparm tables : Nat) : ZState :=
  { compress := compress, zparm := zparm, tables := tables, check := checkInit (zFrame zparm) }

/-- The history that a stream keeps. -/
def ZState.history (z : ZState) : List Byte := (z.win.take 32768).reverse

/-- The bits that a block can hold: none of an unfinished header that is longer. -/
def ZState.heldBits (z : ZState) : List Bool :=
  if z.phase = 0 ∨ 63 < z.bits.length then [] else z.bits

/-- A stream state block but for SB_CRC: bytes 0x0000 to 0x003F, then 0x0048 to 0x9FFF. -/
def ZState.parts (z : ZState) : List Byte × List Byte :=
  let h := z.history
  let b := z.heldBits
  let word := fun (n : Nat) => leBytes 8 n
  let w0 := 0x5A535442 + 2 ^ 32 * 1 + 2 ^ 40 * (if z.compress then 1 else 2) + 2 ^ 48 * (z.zparm % 256) +
    2 ^ 56 * (z.tables % 4)
  let w6 := z.phase + 2 ^ 8 * (z.hdrPos % 256) + 2 ^ 16 * z.storedLeft + 2 ^ 32 * z.matchLeft + 2 ^ 48 * z.matchDist
  let front := word w0 ++ word z.inTotal ++ word z.outTotal ++ word (z.check + 2 ^ 32 * h.length) ++ word (bitsNat b) ++
    word b.length ++ word w6 ++ word z.clPos
  let lens := (z.lens.map (fun n => BitVec.ofNat 8 n) ++ List.replicate (320 - z.lens.length) (0 : Byte)).take 320
  let back := List.replicate 0x38 (0 : Byte) ++ lens ++ List.replicate (0x400 - 0x1C0) 0 ++
    List.replicate (32768 - h.length) 0 ++ h ++ List.replicate (0xA000 - 0x8400) 0
  (front, back)

/-- The stream state block of a stream: 40,960 bytes. -/
def ZState.block (z : ZState) : List Byte :=
  let p := z.parts
  p.1 ++ leBytes 4 (crc32c (p.1 ++ p.2)) ++ List.replicate 4 0 ++ p.2

/-- The Kraft sum of code lengths, in units of 2^-15. -/
def kraft (lens : List Nat) : Nat := (lens.map (fun n => if n = 0 then 0 else 2 ^ (15 - n))).sum

/-- A literal and length code is neither oversubscribed nor incomplete. -/
def litCodeOk (lens : List Nat) : Bool := kraft lens == 2 ^ 15

/-- A distance code: complete, or a single symbol of length 1, or none (R398). -/
def distCodeOk (lens : List Nat) : Bool :=
  kraft lens == 2 ^ 15 || lens.all (fun n => n == 0) || (lens.filter (fun n => n != 0)) == [1]

/-- A restore (R395): the stream that a block holds, or none where the block cannot be used. -/
def zRestore (compress : Bool) (zparm : Nat) (blk : List Byte) : Option ZState :=
  let n := fun (off k : Nat) => leNat ((blk.drop off).take k)
  let hist := n 0x1C 4
  let nbits := n 0x28 1 % 128
  let phase := n 0x30 1 % 16
  let left := n 0x34 2 % 512
  let dist := n 0x36 2
  let lens := ((blk.drop 0x80).take 320).map (fun b => b.toNat)
  let clPos := n 0x38 2 % 512
  let hdr := n 0x31 1
  let rest := Config.streamRest blk
  let exact := bitsOf nbits (n 0x20 8)
  let bits :=
    if compress then exact
    else if phase = 0 then rest.take (8 * hdr)
    else if phase = 2 ∧ clPos ≠ 0 then rest
    else exact
  if n 0 4 ≠ 0x5A535442 ∨ n 4 1 ≠ 1 ∨ n 5 1 ≠ (if compress then 1 else 2) ∨ zFrame (n 6 1) ≠ zFrame zparm ∨
      n 0x40 4 ≠ crc32c (blk.take 0x40 ++ blk.drop 0x48) ∨ (if compress then 7 else 63) < nbits ∨ 6 < phase ∨
      32768 < hist ∨ (left ≠ 0 ∧ hist ≤ dist) ∨
      (¬ compress ∧ phase = 4 ∧ ¬ (litCodeOk (lens.take 288) ∧ distCodeOk (lens.drop 288))) then none
  else
    some { compress := compress, zparm := zparm, tables := n 7 1 % 4, inTotal := n 8 8, outTotal := n 0x10 8,
           check := n 0x18 4, bits := bits, phase := if compress then 1 else if phase = 2 then 1 else phase,
           hdrPos := hdr, storedLeft := n 0x32 2, matchLeft := left, matchDist := dist, clPos := 0,
           lens := if compress then [] else lens, final := Config.streamFinal blk,
           win := ((blk.drop (0x8400 - hist)).take hist).reverse }

/-! ## Compression (R389, R393) -/

/-- Stored blocks of a byte string, at a bit position of the output; the last has BFINAL `final`. `fuel` bounds
their number. -/
def storedBlocks : Nat → Nat → Bool → List Byte → List Bool
  | 0, _, _, _ => []
  | f + 1, pos, final, l =>
    let k := if l.length < 65535 then l.length else 65535
    let last := k == l.length
    let pad := (8 - (pos + 3) % 8) % 8
    let b := [last && final, false, false] ++ List.replicate pad false ++ bitsOf 16 k ++ bitsOf 16 (65535 - k) ++
      bitsOfBytes (l.take k)
    if last then b else b ++ storedBlocks f 0 final (l.drop k)

/-- What a job's blocks write: their bits, and the two flags of the completion. -/
structure ZBlocks where
  bits : List Bool
  stored : Bool
  fallback : Bool

/-- The blocks of a job's input from offset `start` on, over the bits already due (R389). `fuel` bounds their
number. -/
def zBlocks (zparm tables : Nat) (table hist input : List Byte) (last : Bool) : Nat → Nat → ZBlocks → ZBlocks
  | 0, _, o => o
  | f + 1, start, o =>
    let left := input.length - start
    let k := if left < 65536 then left else 65536
    let final := last && k == left
    let coded := Config.codedBlock zparm tables table hist input start k
    let plain := storedBlocks 3 o.bits.length final ((input.drop start).take k)
    let useStored := zEffort zparm == 0 || decide (plain.length ≤ 1 + coded.length)
    let o1 : ZBlocks := { bits := o.bits ++ (if useStored then plain else final :: coded)
                          stored := o.stored || (useStored && zEffort zparm != 0)
                          fallback := o.fallback || (tables == 2 && Config.tableFallback zparm tables table hist input start k) }
    if k = left then o1 else zBlocks zparm tables table hist input last f (start + k) o1

/-- What a compression job answers: the stream after it, the bytes it writes, the two flags. -/
structure ZDone where
  z : ZState
  out : List Byte
  stored : Bool
  fallback : Bool

/-- A compression job (R393). `cont`: the stream goes on after it; `sync`: it ends with a sync flush. -/
def zCompress (z : ZState) (table input : List Byte) (cont sync : Bool) : ZDone :=
  let head := if z.phase = 0 then zHeader z.zparm else []
  let b := zBlocks z.zparm z.tables table z.history input (!cont) (input.length / 65536 + 1) 0
    { bits := z.bits, stored := false, fallback := false }
  let check := checkFrom (zFrame z.zparm) z.check input
  let total := z.inTotal + input.length
  let flushed := if cont ∧ sync then b.bits ++ storedBlocks 1 b.bits.length false [] else b.bits
  let padded := if cont then flushed else flushed ++ List.replicate ((8 - flushed.length % 8) % 8) false
  let whole := padded.length / 8
  let out := head ++ bytesOfBits whole padded ++ (if cont then [] else zTrailer z.zparm check total)
  { z := { z with inTotal := total, outTotal := z.outTotal + out.length, check := check, bits := padded.drop (8 * whole),
                  phase := if cont then 1 else 6, hdrPos := head.length, win := input.reverse ++ z.win },
    out := out, stored := b.stored, fallback := b.fallback }

/-! ## Decompression (R398) -/

/-- The outcome of reading something from the bits at hand: a value and the bits left, too few bits, or an error. -/
inductive ZRead (α : Type) where
  | got (v : α) (rest : List Bool)
  | need
  | bad

/-- The symbol of a canonical code: code length tried, code and first code of that length. -/
def readSym (lens : List Nat) : Nat → Nat → Nat → Nat → List Bool → ZRead Nat
  | 0, _, _, _, _ => .bad
  | _ + 1, _, _, _, [] => .need
  | f + 1, len, code, first, b :: rest =>
    let c := code + b2n b
    let syms := (List.range lens.length).filter (fun i => lens.getD i 0 == len)
    if c < first + syms.length then
      if first ≤ c then .got (syms.getD (c - first) 0) rest else .bad
    else readSym lens f (len + 1) (2 * c) (2 * (first + syms.length)) rest

/-- A symbol of a code. -/
def zSym (lens : List Nat) (l : List Bool) : ZRead Nat := readSym lens 15 1 0 0 l

/-- `k` bits as a number. -/
def zBits (k : Nat) (l : List Bool) : ZRead Nat :=
  if l.length < k then .need else .got (bitsNat (l.take k)) (l.drop k)

def lenBase : List Nat :=
  [3, 4, 5, 6, 7, 8, 9, 10, 11, 13, 15, 17, 19, 23, 27, 31, 35, 43, 51, 59, 67, 83, 99, 115, 131, 163, 195, 227, 258]
def lenExtra : List Nat :=
  [0, 0, 0, 0, 0, 0, 0, 0, 1, 1, 1, 1, 2, 2, 2, 2, 3, 3, 3, 3, 4, 4, 4, 4, 5, 5, 5, 5, 0]
def distBase : List Nat :=
  [1, 2, 3, 4, 5, 7, 9, 13, 17, 25, 33, 49, 65, 97, 129, 193, 257, 385, 513, 769, 1025, 1537, 2049, 3073, 4097, 6145,
   8193, 12289, 16385, 24577]
def distExtra : List Nat :=
  [0, 0, 0, 0, 1, 1, 2, 2, 3, 3, 4, 4, 5, 5, 6, 6, 7, 7, 8, 8, 9, 9, 10, 10, 11, 11, 12, 12, 13, 13]

/-- The order of the code length codes in a dynamic header. -/
def clOrder : List Nat := [16, 17, 18, 0, 8, 7, 9, 6, 10, 5, 11, 4, 12, 3, 13, 2, 14, 1, 15]

/-- The fixed code lengths. -/
def fixedLens : List Nat :=
  List.replicate 144 8 ++ List.replicate 112 9 ++ List.replicate 24 7 ++ List.replicate 8 8 ++ List.replicate 32 5

/-- Code lengths under a code length code, until there are `total`; those read so far are given. -/
def readLens (cl : List Nat) (total : Nat) : Nat → List Nat → List Bool → ZRead (List Nat)
  | 0, _, _ => .bad
  | f + 1, acc, l =>
    if total ≤ acc.length then (if acc.length = total then .got acc l else .bad)
    else
      match zSym cl l with
      | .need => .need
      | .bad => .bad
      | .got sym rest =>
        if sym < 16 then readLens cl total f (acc ++ [sym]) rest
        else
          let k := if sym = 16 then 2 else if sym = 17 then 3 else 7
          match zBits k rest with
          | .got n rest2 =>
            if sym = 16 then
              match acc.getLast? with
              | some x => readLens cl total f (acc ++ List.replicate (3 + n) x) rest2
              | none => .bad
            else readLens cl total f (acc ++ List.replicate ((if sym = 17 then 3 else 11) + n) 0) rest2
          | .need => .need
          | .bad => .bad

/-- The code lengths of a dynamic block header, after BTYPE: 288 and 32 of them. -/
def readDynamic (l : List Bool) : ZRead (List Nat) :=
  match zBits 14 l with
  | .got n rest =>
    let hlit := n % 32 + 257
    let hdist := n / 32 % 32 + 1
    let hclen := n / 1024 + 4
    match zBits (3 * hclen) rest with
    | .got c rest2 =>
      let cl := (List.range 19).map (fun s =>
        let i := clOrder.findIdx (fun x => x == s)
        if i < hclen then c / 8 ^ i % 8 else 0)
      if kraft cl ≠ 2 ^ 15 then .bad
      else
        match readLens cl (hlit + hdist) 320 [] rest2 with
        | .got all rest3 =>
          let lit := all.take hlit
          let dst := all.drop hlit
          if litCodeOk lit ∧ distCodeOk dst then
            .got (lit ++ List.replicate (288 - hlit) 0 ++ dst ++ List.replicate (32 - hdist) 0) rest3
          else .bad
        | .need => .need
        | .bad => .bad
    | .need => .need
    | .bad => .bad
  | .need => .need
  | .bad => .bad

/-- A zero-terminated field of a gzip header. -/
def zeroTerm : List Byte → Option (List Byte)
  | [] => none
  | b :: rest => if b = 0 then some rest else zeroTerm rest

/-- The bytes after a stream's header: none where it is not complete; `bad` where R391 refuses it. -/
def readHeader (frame : Nat) (l : List Byte) : ZRead (List Byte) :=
  if frame = 0 then .got l []
  else if frame = 1 then
    match l with
    | a :: b :: rest =>
      if a.toNat % 16 = 8 ∧ a.toNat / 16 ≤ 7 ∧ (a.toNat * 256 + b.toNat) % 31 = 0 ∧ ¬ b.toNat.testBit 5 then .got rest []
      else .bad
    | _ => .need
  else if l.length < 10 then
    (if (l.zip [0x1F, 0x8B, 8]).all (fun x => x.1 == (x.2 : Byte)) then .need else .bad)
  else
    let flg := (byteAtZ l 3)
    if l.take 3 ≠ [0x1F, 0x8B, 8] ∨ 32 ≤ flg then .bad
    else
      let r0 := l.drop 10
      let r1 := if flg.testBit 2 then
          (if r0.length < 2 then none
           else
             let n := leNat (r0.take 2)
             if r0.length < 2 + n then none else some (r0.drop (2 + n)))
        else some r0
      let r2 := if flg.testBit 3 then r1.bind zeroTerm else r1
      let r3 := if flg.testBit 4 then r2.bind zeroTerm else r2
      match r3 with
      | none => .need
      | some r =>
        if ¬ flg.testBit 1 then .got r []
        else if r.length < 2 then .need
        else if leNat (r.take 2) = crc32From 0 (l.take (l.length - r.length)) % 65536 then .got (r.drop 2) []
        else .bad
where byteAtZ (l : List Byte) (i : Nat) : Nat := (l.getD i 0).toNat

/-- Why decompression stops: more input is due, the output is full, the stream has ended, its data is malformed,
its trailer disagrees. -/
inductive ZStop where
  | need | full | ended | format | mismatch
  deriving DecidableEq, Repr

/-- What decompression answers: the stream with the bits it has not read, the bytes written (newest first). -/
structure ZOut where
  z : ZState
  out : List Byte
  stop : ZStop

/-- Writes a byte to the output and the history. -/
def ZState.emit (z : ZState) (b : Byte) : ZState := { z with win := b :: z.win }

/-- Reads a block header: the stream after it. -/
def zBlockHeader (z : ZState) : ZRead ZState :=
  match zBits 3 z.bits with
  | .need => .need
  | .bad => .bad
  | .got h rest =>
    let final := h % 2 == 1
    let typ := h / 2
    if typ = 0 then
      let a := rest.drop (rest.length % 8)
      match zBits 32 a with
      | .got n more =>
        if n % 65536 + n / 65536 = 65535 then
          .got { z with phase := 3, storedLeft := n % 65536, final := final, bits := more } []
        else .bad
      | .need => .need
      | .bad => .bad
    else if typ = 1 then .got { z with phase := 4, lens := fixedLens, final := final, bits := rest } []
    else if typ = 2 then
      match readDynamic rest with
      | .got lens more => .got { z with phase := 4, lens := lens, final := final, bits := more } []
      | .need => .need
      | .bad => .bad
    else .bad

/-- Reads one symbol of a block, with its length and distance; a literal is answered as a byte. -/
def zSymbol (z : ZState) : ZRead (Option Byte × ZState) :=
  match zSym (z.lens.take 288) z.bits with
  | .need => .need
  | .bad => .bad
  | .got s rest =>
    if s < 256 then .got (some (BitVec.ofNat 8 s), { z with bits := rest }) []
    else if s = 256 then .got (none, { z with bits := rest, phase := 1 }) []
    else if 285 < s then .bad
    else
      match zBits (lenExtra.getD (s - 257) 0) rest with
      | .need => .need
      | .bad => .bad
      | .got le rest2 =>
        match zSym (z.lens.drop 288) rest2 with
        | .need => .need
        | .bad => .bad
        | .got d rest3 =>
          if 29 < d then .bad
          else
            match zBits (distExtra.getD d 0) rest3 with
            | .need => .need
            | .bad => .bad
            | .got de rest4 =>
              let dist := distBase.getD d 1 + de
              if z.win.length < dist then .bad
              else .got (none, { z with bits := rest4, matchLeft := lenBase.getD (s - 257) 3 + le,
                                        matchDist := dist - 1 }) []

/-- Decompresses until something stops it. `cap` is the output still allowed; `fuel` bounds the steps. -/
def zInflate : Nat → Nat → ZState → List Byte → ZOut
  | 0, _, z, out => { z := z, out := out, stop := .need }
  | f + 1, cap, z, out =>
    if z.phase = 0 then
      match readHeader (zFrame z.zparm) (bytesOfBits (z.bits.length / 8) z.bits) with
      | .got rest _ => zInflate f cap { z with phase := 1, bits := bitsOfBytes rest } out
      | .need => { z := z, out := out, stop := .need }
      | .bad => { z := z, out := out, stop := .format }
    else if z.phase = 6 then { z := z, out := out, stop := .ended }
    else if z.phase = 5 then
      let a := z.bits.drop (z.bits.length % 8)
      let t := zTrailer z.zparm (checkFrom (zFrame z.zparm) z.check out.reverse) (z.inTotal + out.length)
      if a.length < 8 * t.length then { z := { z with bits := a }, out := out, stop := .need }
      else
        { z := { z with phase := 6, bits := a.drop (8 * t.length) }, out := out,
          stop := if bytesOfBits t.length a = t then .ended else .mismatch }
    else if z.phase = 3 then
      if z.storedLeft = 0 then zInflate f cap { z with phase := 1 } out
      else if z.bits.length < 8 then { z := z, out := out, stop := .need }
      else
        match cap with
        | 0 => { z := z, out := out, stop := .full }
        | c + 1 =>
          let b : Byte := BitVec.ofNat 8 (bitsNat (z.bits.take 8))
          zInflate f c { z.emit b with storedLeft := z.storedLeft - 1, bits := z.bits.drop 8 } (b :: out)
    else if z.phase = 4 ∧ z.matchLeft ≠ 0 then
      match cap with
      | 0 => { z := z, out := out, stop := .full }
      | c + 1 =>
        let b := z.win.getD z.matchDist 0
        zInflate f c { z.emit b with matchLeft := z.matchLeft - 1 } (b :: out)
    else if z.phase = 4 then
      match zSymbol z with
      | .need => { z := z, out := out, stop := .need }
      | .bad => { z := z, out := out, stop := .format }
      | .got (some b, z1) _ =>
        match cap with
        | 0 => { z := z, out := out, stop := .full }
        | c + 1 => zInflate f c (z1.emit b) (b :: out)
      | .got (none, z1) _ => zInflate f cap z1 out
    else if z.phase = 1 ∧ z.final then zInflate f cap { z with phase := 5 } out
    else
      match zBlockHeader z with
      | .got z1 _ => zInflate f cap z1 out
      | .need => { z := z, out := out, stop := .need }
      | .bad => { z := z, out := out, stop := .format }

/-- What a decompression request answers. -/
structure ZIn where
  z : ZState
  out : List Byte
  /-- Bytes of the input of which at least one bit was consumed. -/
  used : Nat
  stop : ZStop

/-- Where a stream stands once its input has run out: its phase and position as Table 17.5 has them. -/
def ZState.stopped (z : ZState) : ZState :=
  if z.phase = 0 then { z with hdrPos := z.bits.length / 8 }
  else if z.phase = 5 then { z with hdrPos := z.bits.length / 8 }
  else if z.phase = 1 ∧ z.bits ≠ [] then { z with phase := 2, clPos := if 63 < z.bits.length then 1 else 0 }
  else z

/-- Decompresses a piece of input into at most `cap` bytes. Bits of a byte that was begun stay with the stream. -/
def zDecompress (z : ZState) (input : List Byte) (cap : Nat) : ZIn :=
  let z0 := if z.phase = 2 then { z with phase := 1, clPos := 0 } else z
  let have_ := z0.bits.length
  let r := zInflate (4 * (have_ + 8 * input.length) + 4 * cap + 16) cap { z0 with bits := z0.bits ++ bitsOfBytes input } []
  let left := r.z.bits.length
  let unread := if r.stop = .need then 0 else if left < 8 * input.length then left / 8 else input.length
  let out := r.out.reverse
  let z1 := { r.z with bits := r.z.bits.take (left - 8 * unread), inTotal := z.inTotal + out.length,
                       outTotal := z.outTotal + (input.length - unread),
                       check := checkFrom (zFrame z.zparm) z.check out }
  { z := z1.stopped, out := out, used := input.length - unread, stop := r.stop }

end Sys2Proof.Machine
end

