-- ==== Sys2Proof/Machine/RegTable.lean ====
section
/-!
DEFINITION. The register window (Tables 2.2 to 2.6 and the register tables of every chapter): which pages
there are, the registers of each kind of page, the bits, access code, reset value and legal values of every
field. One table for the whole window: the register operations read it and hold no copy of it.
-/

namespace Sys2Proof.Machine

/-- The access codes of Table 0.4. -/
inductive Access where
  | ro | rwS | rwL | cmd | w1c | wo | gl
  deriving DecidableEq, Repr

/-- A field of a register: the register's offset in its page (of element 0 of an array), the field's lowest
bit and width, its access code, its value after reset, and the values it may take (no list: every value).
A field with `force` is checked only while the named field of the same register is not 0 (R524). -/
structure Fld where
  off : Nat
  lo : Nat
  width : Nat
  acc : Access
  reset : Nat
  legal : List (Nat × Nat) := []
  force : Option (Nat × Nat) := none
  deriving DecidableEq, Repr

/-- A register, or an array of `count` registers 8 bytes apart. -/
structure RegDef where
  off : Nat
  count : Nat
  fields : List Fld
  deriving DecidableEq, Repr

/-- The kinds of page of Table 2.2. `zoneTable` and `sourceArray` are the two array pages. -/
inductive PageType where
  | ident | ese | pwr | tilePwr | recorder | zctl | zoneTable | position | l3 | tileDir | home | fport
  | memory | group | chan | css | eng | cport | cipher | cpipe | comp | compressor | decompressor
  | icGlobal | icIface | sourceArray | rport | door | ucode
  deriving DecidableEq, Repr

/-- A page of the window: its kind and its instance (for an array page, its number in the array). -/
structure Page where
  typ : PageType
  inst : Nat
  deriving DecidableEq, Repr

/-- BLK_ID.TYPE of a block page (Table 2.2); 0 for an array page, which has no header. -/
def PageType.code : PageType → Nat
  | .ident => 0x0001 | .ese => 0x0002 | .pwr => 0x0010 | .tilePwr => 0x0011 | .recorder => 0x0018
  | .zctl => 0x0020 | .zoneTable => 0 | .position => 0x0100 | .l3 => 0x0101 | .tileDir => 0x0102
  | .home => 0x0200 | .fport => 0x0201 | .memory => 0x0300 | .group => 0x0301 | .chan => 0x0302
  | .css => 0x0400 | .eng => 0x0401 | .cport => 0x0402 | .cipher => 0x0500 | .cpipe => 0x0501
  | .comp => 0x0580 | .compressor => 0x0581 | .decompressor => 0x0582 | .icGlobal => 0x0600
  | .icIface => 0x0601 | .sourceArray => 0 | .rport => 0x0800 | .door => 0x1000 | .ucode => 0x4000

/-- The window page number of an instance (Table 2.2): its offset in the window over 4 KiB. -/
def Page.index (p : Page) : Nat :=
  match p.typ with
  | .ident => 0x0 | .ese => 0x1 | .pwr => 0x10 | .tilePwr => 0x11 + p.inst | .recorder => 0x20
  | .zctl => 0x30 | .zoneTable => 0x31 + p.inst
  | .position => 0x100 + (p.inst / 10) * 0x40 + p.inst % 10
  | .l3 => 0x110 + p.inst * 0x40 | .tileDir => 0x111 + p.inst * 0x40
  | .home => 0x200 | .fport => 0x201 + p.inst | .memory => 0x300 | .group => 0x301 + p.inst
  | .chan => 0x308 + p.inst | .css => 0x400 | .eng => 0x401 + p.inst | .cport => 0x404 + p.inst
  | .cipher => 0x500 | .cpipe => 0x501 + p.inst | .comp => 0x580 | .compressor => 0x581 + p.inst
  | .decompressor => 0x589 + p.inst | .icGlobal => 0x600 | .icIface => 0x601 + p.inst
  | .sourceArray => 0x680 + p.inst | .rport => 0x800 + p.inst | .door => 0x1000 + p.inst
  | .ucode => 0x4000 + p.inst

/-- How many instances of a kind the window has (Table 2.2, Table 12.1). -/
def PageType.count : PageType → Nat
  | .tilePwr => 4 | .zoneTable => 207 | .position => 40 | .l3 => 4 | .tileDir => 4 | .fport => 12
  | .group => 4 | .chan => 20 | .eng => 2 | .cport => 16 | .cpipe => 16 | .compressor => 8
  | .decompressor => 8 | .icIface => 64 | .sourceArray => 32 | .rport => 2 | .door => 256 | .ucode => 8
  | .ident | .ese | .pwr | .recorder | .zctl | .home | .memory | .css | .cipher | .comp | .icGlobal => 1

/-- The window offset of a page's first byte. -/
def Page.base (p : Page) : Nat := p.index * 0x1000

/-- The page at a window page number, or none where Table 2.2 lists none (R31). -/
def pageAt (i : Nat) : Option Page :=
  if i = 0 then some ⟨.ident, 0⟩
  else if i = 1 then some ⟨.ese, 0⟩
  else if i = 0x10 then some ⟨.pwr, 0⟩
  else if 0x11 ≤ i ∧ i < 0x15 then some ⟨.tilePwr, i - 0x11⟩
  else if i = 0x20 then some ⟨.recorder, 0⟩
  else if i = 0x30 then some ⟨.zctl, 0⟩
  else if 0x31 ≤ i ∧ i < 0x100 then some ⟨.zoneTable, i - 0x31⟩
  else if 0x100 ≤ i ∧ i < 0x200 then
    let t := (i - 0x100) / 0x40
    let j := (i - 0x100) % 0x40
    if j < 10 then some ⟨.position, 10 * t + j⟩
    else if j = 0x10 then some ⟨.l3, t⟩
    else if j = 0x11 then some ⟨.tileDir, t⟩
    else none
  else if i = 0x200 then some ⟨.home, 0⟩
  else if 0x201 ≤ i ∧ i < 0x20D then some ⟨.fport, i - 0x201⟩
  else if i = 0x300 then some ⟨.memory, 0⟩
  else if 0x301 ≤ i ∧ i < 0x305 then some ⟨.group, i - 0x301⟩
  else if 0x308 ≤ i ∧ i < 0x31C then some ⟨.chan, i - 0x308⟩
  else if i = 0x400 then some ⟨.css, 0⟩
  else if 0x401 ≤ i ∧ i < 0x403 then some ⟨.eng, i - 0x401⟩
  else if 0x404 ≤ i ∧ i < 0x414 then some ⟨.cport, i - 0x404⟩
  else if i = 0x500 then some ⟨.cipher, 0⟩
  else if 0x501 ≤ i ∧ i < 0x511 then some ⟨.cpipe, i - 0x501⟩
  else if i = 0x580 then some ⟨.comp, 0⟩
  else if 0x581 ≤ i ∧ i < 0x589 then some ⟨.compressor, i - 0x581⟩
  else if 0x589 ≤ i ∧ i < 0x591 then some ⟨.decompressor, i - 0x589⟩
  else if i = 0x600 then some ⟨.icGlobal, 0⟩
  else if 0x601 ≤ i ∧ i < 0x641 then some ⟨.icIface, i - 0x601⟩
  else if 0x680 ≤ i ∧ i < 0x6A0 then some ⟨.sourceArray, i - 0x680⟩
  else if 0x800 ≤ i ∧ i < 0x802 then some ⟨.rport, i - 0x800⟩
  else if 0x1000 ≤ i ∧ i < 0x1100 then some ⟨.door, i - 0x1000⟩
  else if 0x4000 ≤ i ∧ i < 0x4008 then some ⟨.ucode, i - 0x4000⟩
  else none

/-- BLK_CTL.RUN after cold reset (Table 2.2). -/
def PageType.runReset : PageType → Bool
  | .ident | .ese | .pwr | .tilePwr | .recorder | .zctl | .icIface | .door => true
  | _ => false

/-- Whether Table 2.2 fixes BLK_CTL.RUN at 1. -/
def PageType.runFixed : PageType → Bool
  | .ident | .ese | .recorder | .zctl | .icIface | .door => true
  | _ => false

/-- BLK_CAP[62:0] of a kind of page, as each chapter gives it; 0 where the chapter gives none. -/
def PageType.cap : PageType → Nat
  | .pwr => 4
  | .recorder => 65536 + 4096 * 2 ^ 32
  | .zctl => 256 + 16 * 2 ^ 16
  | .home => 16 + 12 * 2 ^ 32
  | .css => 16 + 4096 * 2 ^ 8 + 1024 * 2 ^ 32
  | .eng => 1
  | .cport => 2 + 4096 * 2 ^ 16
  | .cipher => 16 + 4096 * 2 ^ 16 + 0x7E * 2 ^ 32
  | .comp => 8 + 8 * 2 ^ 8 + 7 * 2 ^ 16 + 2 ^ 20
  | .icGlobal => 8192 + 256 * 2 ^ 16 + 8 * 2 ^ 32
  | _ => 0

/-- The bits of BLK_ERR from bit 8 upward that a kind of page assigns. -/
def PageType.errBits : PageType → Nat
  | .pwr => 0x300 | .recorder => 0x300 | .position => 0x7F00 | .l3 => 0x300 | .home => 0x300
  | .fport => 0x300 | .group => 0x700 | .chan => 0x300 | .css => 0xF00 | .eng => 0x300 | .cport => 0x700
  | .cipher => 0x700 | .cpipe => 0x100 | .comp => 0x300 | .compressor => 0x100 | .decompressor => 0x100
  | .icGlobal => 0x100 | .rport => 0xF00 | .ucode => 0x300
  | _ => 0

/-- The slot of a block page in Table 18.4, which numbers its error interrupt source. -/
def Page.slot (p : Page) : Option Nat :=
  match p.typ with
  | .ident => some 0x00 | .ese => some 0x01 | .pwr => some 0x02 | .tilePwr => some (0x03 + p.inst)
  | .recorder => some 0x07 | .zctl => some 0x08 | .home => some 0x09 | .memory => some 0x0A
  | .group => some (0x0B + p.inst) | .css => some 0x0F | .eng => some (0x10 + p.inst)
  | .cipher => some 0x12 | .comp => some 0x13 | .icGlobal => some 0x14 | .rport => some (0x15 + p.inst)
  | .ucode => some (0x18 + p.inst) | .position => some (0x20 + p.inst) | .l3 => some (0x48 + p.inst)
  | .tileDir => some (0x4C + p.inst) | .fport => some (0x50 + p.inst) | .chan => some (0x5C + p.inst)
  | .cport => some (0x70 + p.inst) | .cpipe => some (0x80 + p.inst)
  | .compressor => some (0x90 + p.inst) | .decompressor => some (0x98 + p.inst)
  | .icIface => some (0xA0 + p.inst) | .door => some (0x100 + p.inst)
  | .zoneTable | .sourceArray => none

/-! ## Fields, by register -/

namespace F

/-! The common header (Table 2.5). -/

def BLK_ID_TYPE : Fld := { off := 0x000, lo := 16, width := 16, acc := .ro, reset := 0 }
def BLK_ID_INSTANCE : Fld := { off := 0x000, lo := 8, width := 8, acc := .ro, reset := 0 }
def BLK_ID_REVISION : Fld := { off := 0x000, lo := 0, width := 8, acc := .ro, reset := 1 }
def PRESENT : Fld := { off := 0x008, lo := 63, width := 1, acc := .ro, reset := 1 }
def CAP : Fld := { off := 0x008, lo := 0, width := 63, acc := .ro, reset := 0 }
def RUN : Fld := { off := 0x010, lo := 0, width := 1, acc := .rwL, reset := 0 }
def SOFT_RESET : Fld := { off := 0x010, lo := 1, width := 1, acc := .cmd, reset := 0 }
def QUIESCE : Fld := { off := 0x010, lo := 2, width := 1, acc := .rwL, reset := 0 }
def RUNNING : Fld := { off := 0x018, lo := 0, width := 1, acc := .ro, reset := 0 }
def BUSY : Fld := { off := 0x018, lo := 1, width := 1, acc := .ro, reset := 0 }
def QUIESCED : Fld := { off := 0x018, lo := 2, width := 1, acc := .ro, reset := 0 }
def FAULT : Fld := { off := 0x018, lo := 3, width := 1, acc := .ro, reset := 0 }
def BLK_ERR : Fld := { off := 0x020, lo := 0, width := 64, acc := .w1c, reset := 0 }
def BLK_ERR_MASK : Fld := { off := 0x028, lo := 0, width := 64, acc := .rwL, reset := 7 }
def CFGERR_OFFSET : Fld := { off := 0x030, lo := 0, width := 16, acc := .ro, reset := 0 }
def CFGERR_REASON : Fld := { off := 0x030, lo := 16, width := 8, acc := .ro, reset := 0 }
def CFGERR_PAGE : Fld := { off := 0x030, lo := 24, width := 16, acc := .ro, reset := 0 }
def CFGERR_ZONE : Fld := { off := 0x030, lo := 40, width := 8, acc := .ro, reset := 0 }
def CFGERR_LEVEL : Fld := { off := 0x030, lo := 48, width := 2, acc := .ro, reset := 0 }
def CFGERR_SVC : Fld := { off := 0x030, lo := 50, width := 1, acc := .ro, reset := 0 }
def BLK_SCRATCH : Fld := { off := 0x038, lo := 0, width := 64, acc := .rwL, reset := 0 }

/-! The registers of each page. -/

def ID_PART_PART : Fld := { off := 0x040, lo := 16, width := 16, acc := .ro, reset := 0x9640 }
def ID_PART_VARIANT : Fld := { off := 0x040, lo := 0, width := 8, acc := .ro, reset := 0 }
def ID_MODULE_MODULE_ID : Fld := { off := 0x048, lo := 0, width := 16, acc := .gl, reset := 0 }
def CAP_POSN_PRESENT_MASK : Fld := { off := 0x050, lo := 0, width := 40, acc := .ro, reset := 0xffffffffff }
def CAP_POSN_ACTIVE_MASK : Fld := { off := 0x058, lo := 0, width := 40, acc := .ro, reset := 0 }
def CAP_POSN_SPARE_MASK : Fld := { off := 0x060, lo := 0, width := 40, acc := .ro, reset := 0 }
def CAP_POSN_FAILED_MASK : Fld := { off := 0x068, lo := 0, width := 40, acc := .ro, reset := 0 }
def CAP_CORES_LCORES : Fld := { off := 0x070, lo := 0, width := 7, acc := .ro, reset := 0 }
def CAP_CORES_SPARES : Fld := { off := 0x070, lo := 8, width := 5, acc := .ro, reset := 0 }
def CAP_CORES_SPLIT : Fld := { off := 0x070, lo := 16, width := 1, acc := .ro, reset := 0 }
def CAP_CORES_UNCHECKED : Fld := { off := 0x070, lo := 17, width := 1, acc := .ro, reset := 0 }
def CAP_UNITS_CSS_A : Fld := { off := 0x078, lo := 0, width := 1, acc := .ro, reset := 1 }
def CAP_UNITS_CSS_B : Fld := { off := 0x078, lo := 1, width := 1, acc := .ro, reset := 1 }
def CAP_UNITS_CIPHER : Fld := { off := 0x078, lo := 2, width := 1, acc := .ro, reset := 1 }
def CAP_UNITS_COMPRESS : Fld := { off := 0x078, lo := 3, width := 1, acc := .ro, reset := 1 }
def CAP_UNITS_PCIE : Fld := { off := 0x078, lo := 4, width := 2, acc := .ro, reset := 3 }
def CAP_MEM_CHANNELS : Fld := { off := 0x080, lo := 0, width := 20, acc := .ro, reset := 0xfffff }
def CAP_MEM_GROUPS : Fld := { off := 0x080, lo := 20, width := 4, acc := .ro, reset := 0xf }
def CAP_LINKS_FABRIC : Fld := { off := 0x088, lo := 0, width := 12, acc := .ro, reset := 0xfff }
def CAP_LINKS_CHANNEL : Fld := { off := 0x088, lo := 16, width := 16, acc := .ro, reset := 0xffff }
def LCORE_MAP_POSITION : Fld := { off := 0x100, lo := 0, width := 6, acc := .ro, reset := 0 }
def LCORE_MAP_PIPE : Fld := { off := 0x100, lo := 6, width := 1, acc := .ro, reset := 0 }
def LCORE_MAP_VALID : Fld := { off := 0x100, lo := 7, width := 1, acc := .ro, reset := 0 }
def MODE_STAT_MODE : Fld := { off := 0x040, lo := 0, width := 4, acc := .ro, reset := 0 }
def MODE_STAT_BASE : Fld := { off := 0x040, lo := 4, width := 4, acc := .ro, reset := 0 }
def MODE_STAT_RECOVERY : Fld := { off := 0x040, lo := 8, width := 1, acc := .ro, reset := 0 }
def MODE_STAT_DEBUG : Fld := { off := 0x040, lo := 9, width := 1, acc := .ro, reset := 0 }
def MODE_STAT_GLAZED : Fld := { off := 0x040, lo := 10, width := 1, acc := .ro, reset := 0 }
def MODE_STAT_CAUSE : Fld := { off := 0x040, lo := 16, width := 8, acc := .ro, reset := 0 }
def MODE_CMD_CMD : Fld := { off := 0x048, lo := 0, width := 4, acc := .cmd, reset := 0, legal := [(0, 8)] }
def MODE_CMD_REBOOT : Fld := { off := 0x048, lo := 4, width := 1, acc := .cmd, reset := 0 }
def BOOT_OPT_SPLIT : Fld := { off := 0x050, lo := 0, width := 1, acc := .gl, reset := 0 }
def BOOT_OPT_ALLOW_UNCHECKED : Fld := { off := 0x050, lo := 1, width := 1, acc := .gl, reset := 0 }
def BOOT_OPT_DEBUG_EN : Fld := { off := 0x050, lo := 2, width := 1, acc := .gl, reset := 0 }
def BOOT_OPT_SVC_MEM : Fld := { off := 0x050, lo := 3, width := 1, acc := .gl, reset := 0 }
def BOOT_STAT_PHASE : Fld := { off := 0x058, lo := 0, width := 4, acc := .ro, reset := 0 }
def BOOT_STAT_FAIL : Fld := { off := 0x058, lo := 8, width := 8, acc := .ro, reset := 0 }
def BOOT_STAT_SVN : Fld := { off := 0x058, lo := 16, width := 16, acc := .ro, reset := 0 }
def BOOT_STAT_MIN_SVN : Fld := { off := 0x058, lo := 32, width := 16, acc := .ro, reset := 0 }
def FW_ENTRY_ADDR : Fld := { off := 0x060, lo := 0, width := 44, acc := .ro, reset := 0 }
def CORE_START_START : Fld := { off := 0x068, lo := 0, width := 64, acc := .cmd, reset := 0 }
def RST_STAT_KIND : Fld := { off := 0x070, lo := 0, width := 2, acc := .ro, reset := 0 }
def RST_STAT_BY : Fld := { off := 0x070, lo := 4, width := 4, acc := .ro, reset := 0 }
def RST_STAT_COUNT : Fld := { off := 0x070, lo := 32, width := 32, acc := .ro, reset := 0 }
def SVC_ALERT_CHECKSTOP : Fld := { off := 0x078, lo := 0, width := 1, acc := .w1c, reset := 0 }
def SVC_ALERT_BOOTFAIL : Fld := { off := 0x078, lo := 1, width := 1, acc := .w1c, reset := 0 }
def SVC_ALERT_EVQ : Fld := { off := 0x078, lo := 2, width := 1, acc := .ro, reset := 0 }
def SVC_ALERT_HALT : Fld := { off := 0x078, lo := 3, width := 1, acc := .w1c, reset := 0 }
def EVQ_DATA_SRC : Fld := { off := 0x080, lo := 0, width := 13, acc := .ro, reset := 0 }
def EVQ_DATA_VALID : Fld := { off := 0x080, lo := 15, width := 1, acc := .ro, reset := 0 }
def EVQ_DATA_TB : Fld := { off := 0x080, lo := 32, width := 32, acc := .ro, reset := 0 }
def EVQ_STAT_COUNT : Fld := { off := 0x088, lo := 0, width := 7, acc := .ro, reset := 0 }
def SVC_PORT_CFG_GAP : Fld := { off := 0x090, lo := 0, width := 4, acc := .rwL, reset := 4 }
def SVC_WIN_ADDR_ADDR : Fld := { off := 0x098, lo := 3, width := 41, acc := .rwL, reset := 0 }
def SVC_WIN_ADDR_AUTOINC : Fld := { off := 0x098, lo := 63, width := 1, acc := .rwL, reset := 0 }
def SVC_WIN_DATA_DATA : Fld := { off := 0x0A0, lo := 0, width := 64, acc := .rwL, reset := 0 }
def SVC_WIN_STAT_LAST : Fld := { off := 0x0A8, lo := 0, width := 3, acc := .ro, reset := 0 }
def SVC_WIN_STAT_ERRORS : Fld := { off := 0x0A8, lo := 16, width := 16, acc := .ro, reset := 0 }
def DBG_CTL_CORE : Fld := { off := 0x0B0, lo := 0, width := 6, acc := .cmd, reset := 0 }
def DBG_CTL_OP : Fld := { off := 0x0B0, lo := 8, width := 2, acc := .cmd, reset := 0 }
def DBG_STAT_HALTED : Fld := { off := 0x0B8, lo := 0, width := 64, acc := .ro, reset := 0 }
def DBG_SEL_CORE : Fld := { off := 0x0C0, lo := 0, width := 6, acc := .rwL, reset := 0 }
def DBG_SEL_FILE : Fld := { off := 0x0C0, lo := 8, width := 3, acc := .rwL, reset := 0, legal := [(0, 4)] }
def DBG_SEL_NUM : Fld := { off := 0x0C0, lo := 12, width := 12, acc := .rwL, reset := 0 }
def DBG_DATA_DATA : Fld := { off := 0x0C8, lo := 0, width := 64, acc := .rwL, reset := 0 }
def QSC_TMO_MS : Fld := { off := 0x0D0, lo := 0, width := 16, acc := .rwL, reset := 0x3e8, legal := [(1, 65535)] }
def PWR_CTL_DEEPEST : Fld := { off := 0x040, lo := 0, width := 3, acc := .rwL, reset := 2, legal := [(0, 4)] }
def PWR_CTL_LFC_EN : Fld := { off := 0x040, lo := 8, width := 1, acc := .gl, reset := 1 }
def PWR_CTL_THR_TEMP : Fld := { off := 0x040, lo := 16, width := 8, acc := .rwL, reset := 0x5f, legal := [(80, 100)] }
def BRD_SLEW_SLEW0 : Fld := { off := 0x048, lo := 0, width := 9, acc := .gl, reset := 0x32, legal := [(50, 400)] }
def BRD_SLEW_SLEW1 : Fld := { off := 0x048, lo := 16, width := 9, acc := .gl, reset := 0x32, legal := [(50, 400)] }
def BRD_SLEW_SLEW2 : Fld := { off := 0x048, lo := 32, width := 9, acc := .gl, reset := 0x32, legal := [(50, 400)] }
def BRD_SLEW_SLEW3 : Fld := { off := 0x048, lo := 48, width := 9, acc := .gl, reset := 0x32, legal := [(50, 400)] }
def LT_SVC_VALUE : Fld := { off := 0x050, lo := 0, width := 10, acc := .rwL, reset := 0 }
def LT_SVC_SCALE : Fld := { off := 0x050, lo := 10, width := 3, acc := .rwL, reset := 0, legal := [(0, 5)] }
def LT_SVC_REQ : Fld := { off := 0x050, lo := 15, width := 1, acc := .rwL, reset := 0 }
def LT_MODULE_TOL : Fld := { off := 0x058, lo := 0, width := 16, acc := .ro, reset := 0 }
def LT_MODULE_SOURCE : Fld := { off := 0x058, lo := 16, width := 2, acc := .ro, reset := 0 }
def LT_LTR_PORT0 : Fld := { off := 0x060, lo := 0, width := 16, acc := .ro, reset := 0 }
def LT_LTR_PORT1 : Fld := { off := 0x060, lo := 16, width := 16, acc := .ro, reset := 0 }
def PKG_LIMIT_WATTS : Fld := { off := 0x068, lo := 0, width := 11, acc := .rwL, reset := 0x3c0, legal := [(400, 1110)] }
def PWR_STAT_PKG_W : Fld := { off := 0x070, lo := 0, width := 11, acc := .ro, reset := 0 }
def PWR_STAT_LIMITING : Fld := { off := 0x070, lo := 16, width := 1, acc := .ro, reset := 0 }
def PWR_STAT_THROTTLED : Fld := { off := 0x070, lo := 20, width := 4, acc := .ro, reset := 0 }
def PWR_STAT_TJ_MAX : Fld := { off := 0x070, lo := 24, width := 8, acc := .ro, reset := 0 }
def LFC_STAT_LAST : Fld := { off := 0x078, lo := 0, width := 32, acc := .ro, reset := 0 }
def LFC_CNT_RISES : Fld := { off := 0x080, lo := 0, width := 32, acc := .rwL, reset := 0 }
def LFC_CNT_FALLS : Fld := { off := 0x080, lo := 32, width := 16, acc := .rwL, reset := 0 }
def LFC_CNT_HELD : Fld := { off := 0x080, lo := 48, width := 16, acc := .rwL, reset := 0 }
def TILE_DIV_REQ : Fld := { off := 0x040, lo := 0, width := 3, acc := .rwL, reset := 4, legal := [(0, 4)] }
def TILE_DIV_CUR : Fld := { off := 0x040, lo := 4, width := 3, acc := .ro, reset := 4 }
def TILE_DIV_STEPPING : Fld := { off := 0x040, lo := 8, width := 1, acc := .ro, reset := 0 }
def TILE_STAT_TSTATE : Fld := { off := 0x048, lo := 0, width := 2, acc := .ro, reset := 0 }
def TILE_STAT_FORECAST : Fld := { off := 0x048, lo := 8, width := 8, acc := .ro, reset := 0 }
def TILE_STAT_THROTTLED : Fld := { off := 0x048, lo := 16, width := 1, acc := .ro, reset := 0 }
def TILE_STAT_CAPPED : Fld := { off := 0x048, lo := 17, width := 1, acc := .ro, reset := 0 }
def TILE_PSTATE_STATE0 : Fld := { off := 0x050, lo := 0, width := 3, acc := .ro, reset := 0 }
def TILE_PSTATE_STATE1 : Fld := { off := 0x050, lo := 3, width := 3, acc := .ro, reset := 0 }
def TILE_PSTATE_STATE2 : Fld := { off := 0x050, lo := 6, width := 3, acc := .ro, reset := 0 }
def TILE_PSTATE_STATE3 : Fld := { off := 0x050, lo := 9, width := 3, acc := .ro, reset := 0 }
def TILE_PSTATE_STATE4 : Fld := { off := 0x050, lo := 12, width := 3, acc := .ro, reset := 0 }
def TILE_PSTATE_STATE5 : Fld := { off := 0x050, lo := 15, width := 3, acc := .ro, reset := 0 }
def TILE_PSTATE_STATE6 : Fld := { off := 0x050, lo := 18, width := 3, acc := .ro, reset := 0 }
def TILE_PSTATE_STATE7 : Fld := { off := 0x050, lo := 21, width := 3, acc := .ro, reset := 0 }
def TILE_PSTATE_STATE8 : Fld := { off := 0x050, lo := 24, width := 3, acc := .ro, reset := 0 }
def TILE_PSTATE_STATE9 : Fld := { off := 0x050, lo := 27, width := 3, acc := .ro, reset := 0 }
def TILE_PSTATE_PIPE_DOZE0 : Fld := { off := 0x050, lo := 32, width := 2, acc := .ro, reset := 0 }
def TILE_PSTATE_PIPE_DOZE1 : Fld := { off := 0x050, lo := 34, width := 2, acc := .ro, reset := 0 }
def TILE_PSTATE_PIPE_DOZE2 : Fld := { off := 0x050, lo := 36, width := 2, acc := .ro, reset := 0 }
def TILE_PSTATE_PIPE_DOZE3 : Fld := { off := 0x050, lo := 38, width := 2, acc := .ro, reset := 0 }
def TILE_PSTATE_PIPE_DOZE4 : Fld := { off := 0x050, lo := 40, width := 2, acc := .ro, reset := 0 }
def TILE_PSTATE_PIPE_DOZE5 : Fld := { off := 0x050, lo := 42, width := 2, acc := .ro, reset := 0 }
def TILE_PSTATE_PIPE_DOZE6 : Fld := { off := 0x050, lo := 44, width := 2, acc := .ro, reset := 0 }
def TILE_PSTATE_PIPE_DOZE7 : Fld := { off := 0x050, lo := 46, width := 2, acc := .ro, reset := 0 }
def TILE_PSTATE_PIPE_DOZE8 : Fld := { off := 0x050, lo := 48, width := 2, acc := .ro, reset := 0 }
def TILE_PSTATE_PIPE_DOZE9 : Fld := { off := 0x050, lo := 50, width := 2, acc := .ro, reset := 0 }
def TILE_IMAX_POS : Fld := { off := 0x058, lo := 0, width := 8, acc := .ro, reset := 0 }
def TILE_IMAX_DOZE : Fld := { off := 0x058, lo := 8, width := 8, acc := .ro, reset := 0 }
def TILE_IMAX_COMMON : Fld := { off := 0x058, lo := 16, width := 8, acc := .ro, reset := 0 }
def TILE_THERM_TJ : Fld := { off := 0x060, lo := 0, width := 8, acc := .ro, reset := 0 }
def REC_CTL_RECMODE : Fld := { off := 0x040, lo := 0, width := 2, acc := .rwL, reset := 0, legal := [(0, 1)] }
def REC_STAT_KEPT_COUNT : Fld := { off := 0x048, lo := 0, width := 13, acc := .ro, reset := 0 }
def REC_STAT_KEPT_READ : Fld := { off := 0x048, lo := 16, width := 1, acc := .ro, reset := 0 }
def REC_STAT_WRAPPED : Fld := { off := 0x048, lo := 17, width := 1, acc := .ro, reset := 0 }
def REC_STAT_FILLING : Fld := { off := 0x048, lo := 18, width := 1, acc := .ro, reset := 0 }
def REC_STAT_KEPT_CLOSED : Fld := { off := 0x048, lo := 19, width := 1, acc := .ro, reset := 0 }
def REC_STAT_WRAPS : Fld := { off := 0x048, lo := 32, width := 32, acc := .ro, reset := 0 }
def REC_RATE_BURST : Fld := { off := 0x050, lo := 0, width := 8, acc := .rwL, reset := 0x10, legal := [(1, 255)] }
def REC_RATE_PERIOD : Fld := { off := 0x050, lo := 16, width := 16, acc := .rwL, reset := 0x3e8, legal := [(1, 65535)] }
def REC_CNT_DROPPED : Fld := { off := 0x058, lo := 0, width := 16, acc := .rwL, reset := 0 }
def REC_CNT_SUPPRESSED : Fld := { off := 0x058, lo := 16, width := 16, acc := .rwL, reset := 0 }
def REC_CNT_MERGED : Fld := { off := 0x058, lo := 32, width := 32, acc := .rwL, reset := 0 }
def REC_CMD_REARM : Fld := { off := 0x060, lo := 0, width := 1, acc := .cmd, reset := 0 }
def REC_RD_SEL_INDEX : Fld := { off := 0x068, lo := 0, width := 16, acc := .rwL, reset := 0 }
def REC_RD_SEL_WORD : Fld := { off := 0x068, lo := 16, width := 4, acc := .ro, reset := 0 }
def REC_RD_SEL_BAD : Fld := { off := 0x068, lo := 20, width := 1, acc := .ro, reset := 0 }
def REC_RD_DATA_DATA : Fld := { off := 0x070, lo := 0, width := 64, acc := .ro, reset := 0 }
def REC_HEAD_NEXT : Fld := { off := 0x078, lo := 0, width := 16, acc := .ro, reset := 0x1000 }
def REC_HEAD_LAST : Fld := { off := 0x078, lo := 16, width := 16, acc := .ro, reset := 0 }
def REC_HEAD_LAST_SEQ : Fld := { off := 0x078, lo := 32, width := 32, acc := .ro, reset := 0 }
def TOD_SEC_SECONDS : Fld := { off := 0x080, lo := 0, width := 64, acc := .ro, reset := 0 }
def TOD_NS_NANOS : Fld := { off := 0x088, lo := 0, width := 30, acc := .ro, reset := 0 }
def TOD_NS_LEAP : Fld := { off := 0x088, lo := 30, width := 1, acc := .ro, reset := 0 }
def TOD_NS_STEERED : Fld := { off := 0x088, lo := 31, width := 1, acc := .ro, reset := 0 }
def TOD_SET_SEC_SECONDS : Fld := { off := 0x090, lo := 0, width := 64, acc := .rwL, reset := 0 }
def TOD_SET_NS_NANOS : Fld := { off := 0x098, lo := 0, width := 30, acc := .rwL, reset := 0, legal := [(0, 999999999)] }
def TOD_CMD_SET_NOW : Fld := { off := 0x0A0, lo := 0, width := 1, acc := .cmd, reset := 0 }
def TOD_CMD_SET_AT_PPS : Fld := { off := 0x0A0, lo := 1, width := 1, acc := .cmd, reset := 0 }
def TOD_CMD_LEAP_INS : Fld := { off := 0x0A0, lo := 2, width := 1, acc := .cmd, reset := 0 }
def TOD_CMD_LEAP_DEL : Fld := { off := 0x0A0, lo := 3, width := 1, acc := .cmd, reset := 0 }
def TOD_CMD_LEAP_CANCEL : Fld := { off := 0x0A0, lo := 4, width := 1, acc := .cmd, reset := 0 }
def TOD_STAT_STEERED : Fld := { off := 0x0A8, lo := 0, width := 1, acc := .ro, reset := 0 }
def TOD_STAT_PPS_SEEN : Fld := { off := 0x0A8, lo := 1, width := 1, acc := .ro, reset := 0 }
def TOD_STAT_HOLDOVER : Fld := { off := 0x0A8, lo := 2, width := 1, acc := .ro, reset := 0 }
def TOD_STAT_BACKUP_OSC : Fld := { off := 0x0A8, lo := 3, width := 1, acc := .ro, reset := 0 }
def TOD_STAT_LEAP_PENDING : Fld := { off := 0x0A8, lo := 4, width := 1, acc := .ro, reset := 0 }
def TOD_STAT_SET : Fld := { off := 0x0A8, lo := 5, width := 1, acc := .ro, reset := 0 }
def TOD_STAT_OFFSET : Fld := { off := 0x0A8, lo := 32, width := 32, acc := .ro, reset := 0 }
def ZT_STAT_GLAZED : Fld := { off := 0x040, lo := 0, width := 1, acc := .ro, reset := 0 }
def ZT_STAT_BUSY : Fld := { off := 0x040, lo := 1, width := 1, acc := .ro, reset := 0 }
def ZT_STAT_RESULT : Fld := { off := 0x040, lo := 4, width := 4, acc := .ro, reset := 0 }
def ZT_STAT_FAIL_TABLE : Fld := { off := 0x040, lo := 8, width := 4, acc := .ro, reset := 0 }
def ZT_STAT_FAIL_INDEX : Fld := { off := 0x040, lo := 16, width := 16, acc := .ro, reset := 0 }
def ZT_GLAZE_CODE : Fld := { off := 0x048, lo := 0, width := 16, acc := .cmd, reset := 0 }
def ZT_DIGEST_DIGEST : Fld := { off := 0x050, lo := 0, width := 32, acc := .ro, reset := 0 }
def ZT_ZONES_ZONES : Fld := { off := 0x058, lo := 0, width := 9, acc := .ro, reset := 0 }
def POS_CTL_SPARE_NOW : Fld := { off := 0x040, lo := 0, width := 1, acc := .cmd, reset := 0 }
def POS_CTL_BENIGN_CRUMB : Fld := { off := 0x040, lo := 1, width := 1, acc := .rwL, reset := 0 }
def CORE_STAT_ROLE : Fld := { off := 0x048, lo := 0, width := 3, acc := .ro, reset := 0 }
def CORE_STAT_LOCKSTEP_LOST : Fld := { off := 0x048, lo := 3, width := 1, acc := .ro, reset := 0 }
def CORE_STAT_UNCHECKED : Fld := { off := 0x048, lo := 4, width := 1, acc := .ro, reset := 0 }
def CORE_STAT_SPLIT : Fld := { off := 0x048, lo := 5, width := 1, acc := .ro, reset := 0 }
def CORE_STAT_RETRYING : Fld := { off := 0x048, lo := 6, width := 1, acc := .ro, reset := 0 }
def CORE_STAT_PIPE_FAILED : Fld := { off := 0x048, lo := 7, width := 2, acc := .ro, reset := 0 }
def CORE_STAT_RETRIES : Fld := { off := 0x048, lo := 9, width := 2, acc := .ro, reset := 0 }
def CHK_CNT_RETRY : Fld := { off := 0x050, lo := 0, width := 16, acc := .rwL, reset := 0 }
def CHK_CNT_BENIGN : Fld := { off := 0x050, lo := 16, width := 16, acc := .rwL, reset := 0 }
def CHK_CNT_CHECKER : Fld := { off := 0x050, lo := 32, width := 8, acc := .rwL, reset := 0 }
def CHK_CNT_DELAY_PE : Fld := { off := 0x050, lo := 40, width := 8, acc := .rwL, reset := 0 }
def CHK_CNT_SELF : Fld := { off := 0x050, lo := 48, width := 8, acc := .rwL, reset := 0 }
def CHK_LAST_SOURCE : Fld := { off := 0x058, lo := 0, width := 4, acc := .ro, reset := 0 }
def CHK_LAST_SELFPIPE : Fld := { off := 0x058, lo := 4, width := 2, acc := .ro, reset := 0 }
def CHK_LAST_RETRIES : Fld := { off := 0x058, lo := 6, width := 2, acc := .ro, reset := 0 }
def CHK_LAST_OUTCOME : Fld := { off := 0x058, lo := 8, width := 3, acc := .ro, reset := 0 }
def CHK_LAST_INJECTED : Fld := { off := 0x058, lo := 11, width := 1, acc := .ro, reset := 0 }
def CHK_LAST_TIME : Fld := { off := 0x058, lo := 32, width := 32, acc := .ro, reset := 0 }
def CHK_LAST_PC_PC : Fld := { off := 0x060, lo := 0, width := 57, acc := .ro, reset := 0 }
def SPARE_INFO_PARTNER : Fld := { off := 0x068, lo := 0, width := 6, acc := .ro, reset := 0 }
def SPARE_INFO_VALID : Fld := { off := 0x068, lo := 6, width := 1, acc := .ro, reset := 0 }
def SPARE_INFO_CROSS_TILE : Fld := { off := 0x068, lo := 7, width := 1, acc := .ro, reset := 0 }
def SPARE_INFO_PIPE : Fld := { off := 0x068, lo := 8, width := 1, acc := .ro, reset := 0 }
def SPARE_INFO_DURATION : Fld := { off := 0x068, lo := 16, width := 16, acc := .ro, reset := 0 }
def CHK_INJECT_SOURCE : Fld := { off := 0x070, lo := 0, width := 4, acc := .rwL, reset := 0, legal := [(0, 6)] }
def CHK_INJECT_PIPE : Fld := { off := 0x070, lo := 4, width := 2, acc := .rwL, reset := 0 }
def CHK_INJECT_PERSIST : Fld := { off := 0x070, lo := 6, width := 1, acc := .rwL, reset := 0 }
def CHK_INJECT_ARM : Fld := { off := 0x070, lo := 7, width := 1, acc := .rwL, reset := 0 }
def CACHE_CTL_L1I_EN : Fld := { off := 0x100, lo := 0, width := 1, acc := .rwL, reset := 0 }
def CACHE_CTL_L1D_EN : Fld := { off := 0x100, lo := 1, width := 1, acc := .rwL, reset := 0 }
def CACHE_CTL_L2_EN : Fld := { off := 0x100, lo := 2, width := 1, acc := .rwL, reset := 0 }
def L2_WAYS_WAYS_A : Fld := { off := 0x108, lo := 0, width := 16, acc := .rwL, reset := 0xffff }
def L2_WAYS_WAYS_B : Fld := { off := 0x108, lo := 16, width := 16, acc := .rwL, reset := 0xffff }
def CACHE_STAT_FLUSHING : Fld := { off := 0x110, lo := 0, width := 1, acc := .ro, reset := 0 }
def CACHE_STAT_L1I_ON : Fld := { off := 0x110, lo := 1, width := 1, acc := .ro, reset := 0 }
def CACHE_STAT_L1D_ON : Fld := { off := 0x110, lo := 2, width := 1, acc := .ro, reset := 0 }
def CACHE_STAT_L2_ON : Fld := { off := 0x110, lo := 3, width := 1, acc := .ro, reset := 0 }
def CACHE_STAT_WAY_FAIL : Fld := { off := 0x110, lo := 16, width := 16, acc := .ro, reset := 0 }
def CACHE_ERRCNT_CE : Fld := { off := 0x118, lo := 0, width := 16, acc := .rwL, reset := 0 }
def CACHE_ERRCNT_TAGPE : Fld := { off := 0x118, lo := 16, width := 16, acc := .rwL, reset := 0 }
def CACHE_ERRCNT_UE : Fld := { off := 0x118, lo := 32, width := 16, acc := .rwL, reset := 0 }
def CACHE_ERRADDR_ADDR : Fld := { off := 0x120, lo := 0, width := 53, acc := .ro, reset := 0 }
def CACHE_ERRADDR_CACHE : Fld := { off := 0x120, lo := 53, width := 3, acc := .ro, reset := 0 }
def CACHE_ERRADDR_PIPE : Fld := { off := 0x120, lo := 56, width := 1, acc := .ro, reset := 0 }
def L3_CTL_EN : Fld := { off := 0x040, lo := 0, width := 1, acc := .rwL, reset := 0 }
def L3_CTL_MNT_FORM : Fld := { off := 0x040, lo := 4, width := 2, acc := .rwS, reset := 0, legal := [(0, 2)] }
def L3_WAYS_WAYS : Fld := { off := 0x048, lo := 0, width := 16, acc := .rwL, reset := 0xffff }
def L3_STAT_ON : Fld := { off := 0x050, lo := 0, width := 1, acc := .ro, reset := 0 }
def L3_STAT_FLUSHING : Fld := { off := 0x050, lo := 1, width := 1, acc := .ro, reset := 0 }
def L3_STAT_WAY_FAIL : Fld := { off := 0x050, lo := 16, width := 16, acc := .ro, reset := 0 }
def L3_ERRCNT_CE : Fld := { off := 0x058, lo := 0, width := 16, acc := .rwL, reset := 0 }
def L3_ERRCNT_TAGPE : Fld := { off := 0x058, lo := 16, width := 16, acc := .rwL, reset := 0 }
def L3_ERRCNT_UE : Fld := { off := 0x058, lo := 32, width := 16, acc := .rwL, reset := 0 }
def L3_ERRADDR_ADDR : Fld := { off := 0x060, lo := 0, width := 53, acc := .ro, reset := 0 }
def L3_ERRADDR_CACHE : Fld := { off := 0x060, lo := 53, width := 3, acc := .ro, reset := 0 }
def L3_ERRADDR_PIPE : Fld := { off := 0x060, lo := 56, width := 1, acc := .ro, reset := 0 }
def RNG_CTL_OP : Fld := { off := 0x080, lo := 0, width := 3, acc := .rwL, reset := 0, legal := [(0, 3)] }
def RNG_CTL_SCOPE : Fld := { off := 0x080, lo := 4, width := 2, acc := .rwL, reset := 0, legal := [(0, 1)] }
def RNG_CTL_ALL : Fld := { off := 0x080, lo := 8, width := 1, acc := .rwL, reset := 0 }
def RNG_BASE_BASE : Fld := { off := 0x088, lo := 7, width := 37, acc := .rwL, reset := 0 }
def RNG_LEN_LINES : Fld := { off := 0x090, lo := 0, width := 40, acc := .rwL, reset := 0 }
def RNG_CMD_GO : Fld := { off := 0x098, lo := 0, width := 1, acc := .cmd, reset := 0 }
def RNG_CMD_ABORT : Fld := { off := 0x098, lo := 1, width := 1, acc := .cmd, reset := 0 }
def RNG_STAT_BUSY : Fld := { off := 0x0A0, lo := 0, width := 1, acc := .ro, reset := 0 }
def RNG_STAT_OWNER : Fld := { off := 0x0A0, lo := 1, width := 2, acc := .ro, reset := 0 }
def RNG_STAT_RESULT : Fld := { off := 0x0A0, lo := 4, width := 4, acc := .ro, reset := 0 }
def RNG_STAT_DONE : Fld := { off := 0x0A0, lo := 8, width := 40, acc := .ro, reset := 0 }
def TD_CNT_EVICT : Fld := { off := 0x040, lo := 0, width := 32, acc := .rwL, reset := 0 }
def TD_CNT_EVICT_TX : Fld := { off := 0x040, lo := 32, width := 16, acc := .rwL, reset := 0 }
def TD_CNT_CE : Fld := { off := 0x040, lo := 48, width := 16, acc := .rwL, reset := 0 }
def TD_ERRADDR_ADDR : Fld := { off := 0x048, lo := 0, width := 53, acc := .ro, reset := 0 }
def TD_ERRADDR_UE : Fld := { off := 0x048, lo := 53, width := 1, acc := .ro, reset := 0 }
def COH_CTL_HOLD_MIN : Fld := { off := 0x040, lo := 0, width := 9, acc := .rwL, reset := 0x20, legal := [(8, 256)] }
def DOM_CTL_MEMBERS : Fld := { off := 0x048, lo := 0, width := 32, acc := .gl, reset := 0 }
def DOM_CTL_ARRANGE : Fld := { off := 0x048, lo := 32, width := 2, acc := .gl, reset := 0, legal := [(0, 2)] }
def DOM_CTL_XDOM : Fld := { off := 0x048, lo := 34, width := 1, acc := .gl, reset := 0 }
def MEMBER_DOWN_DOWN : Fld := { off := 0x050, lo := 0, width := 32, acc := .rwL, reset := 0 }
def DIR_STAT_VALID : Fld := { off := 0x058, lo := 0, width := 24, acc := .ro, reset := 0 }
def DIR_STAT_RESV_MAX : Fld := { off := 0x058, lo := 24, width := 4, acc := .ro, reset := 0 }
def DIR_STAT_EVBUF : Fld := { off := 0x058, lo := 32, width := 6, acc := .ro, reset := 0 }
def DIR_CNT_EVICT : Fld := { off := 0x060, lo := 0, width := 32, acc := .rwL, reset := 0 }
def DIR_CNT_EVICT_MARKED : Fld := { off := 0x060, lo := 32, width := 16, acc := .rwL, reset := 0 }
def DIR_CNT_SETRECALL : Fld := { off := 0x060, lo := 48, width := 16, acc := .rwL, reset := 0 }
def DIR_ERRADDR_SET : Fld := { off := 0x068, lo := 0, width := 19, acc := .ro, reset := 0 }
def DIR_ERRADDR_WAY : Fld := { off := 0x068, lo := 20, width := 4, acc := .ro, reset := 0 }
def DIR_ERRADDR_UE : Fld := { off := 0x068, lo := 24, width := 1, acc := .ro, reset := 0 }
def ROUTE_PRIMARY : Fld := { off := 0x100, lo := 0, width := 4, acc := .rwL, reset := 0, legal := [(0, 11), (15, 15)] }
def ROUTE_ALT : Fld := { off := 0x100, lo := 4, width := 4, acc := .rwL, reset := 0, legal := [(0, 11), (15, 15)] }
def ROUTE_USING_ALT : Fld := { off := 0x100, lo := 8, width := 1, acc := .ro, reset := 0 }
def ROUTE_VALID : Fld := { off := 0x100, lo := 9, width := 1, acc := .rwL, reset := 0 }
def ROUTE_XDOM_PRIMARY : Fld := { off := 0x200, lo := 0, width := 4, acc := .rwL, reset := 0, legal := [(0, 11), (15, 15)] }
def ROUTE_XDOM_ALT : Fld := { off := 0x200, lo := 4, width := 4, acc := .rwL, reset := 0, legal := [(0, 11), (15, 15)] }
def ROUTE_XDOM_USING_ALT : Fld := { off := 0x200, lo := 8, width := 1, acc := .ro, reset := 0 }
def ROUTE_XDOM_VALID : Fld := { off := 0x200, lo := 9, width := 1, acc := .rwL, reset := 0 }
def FP_CFG_KIND : Fld := { off := 0x040, lo := 0, width := 2, acc := .gl, reset := 0, legal := [(0, 2)] }
def FP_CFG_LANE_EN : Fld := { off := 0x040, lo := 8, width := 8, acc := .rwS, reset := 0xff }
def FP_CFG_MIN_WIDTH : Fld := { off := 0x040, lo := 16, width := 2, acc := .rwL, reset := 3 }
def FP_STAT_STATE : Fld := { off := 0x048, lo := 0, width := 3, acc := .ro, reset := 0 }
def FP_STAT_WIDTH : Fld := { off := 0x048, lo := 4, width := 2, acc := .ro, reset := 0 }
def FP_STAT_LANES_GOOD : Fld := { off := 0x048, lo := 8, width := 8, acc := .ro, reset := 0 }
def FP_STAT_PEER_MODULE : Fld := { off := 0x048, lo := 16, width := 16, acc := .ro, reset := 0 }
def FP_STAT_PEER_PORT : Fld := { off := 0x048, lo := 32, width := 4, acc := .ro, reset := 0 }
def FP_STAT_PEER_KIND : Fld := { off := 0x048, lo := 36, width := 2, acc := .ro, reset := 0 }
def FP_CNT_FEC_CORR : Fld := { off := 0x050, lo := 0, width := 32, acc := .rwL, reset := 0 }
def FP_CNT_FEC_UNCORR : Fld := { off := 0x050, lo := 32, width := 32, acc := .rwL, reset := 0 }
def FP_CNT_LINK_CRC : Fld := { off := 0x058, lo := 0, width := 16, acc := .rwL, reset := 0 }
def FP_CNT_LINK_REPLAY : Fld := { off := 0x058, lo := 16, width := 16, acc := .rwL, reset := 0 }
def FP_CNT_LINK_WIDTH_DROP : Fld := { off := 0x058, lo := 32, width := 8, acc := .rwL, reset := 0 }
def FP_CNT_LINK_DOWN : Fld := { off := 0x058, lo := 40, width := 8, acc := .rwL, reset := 0 }
def FP_CNT_LINK_BADMSG : Fld := { off := 0x058, lo := 48, width := 8, acc := .rwL, reset := 0 }
def FP_CMD_RETRAIN : Fld := { off := 0x060, lo := 0, width := 1, acc := .cmd, reset := 0 }
def FP_CMD_DOWN : Fld := { off := 0x060, lo := 1, width := 1, acc := .cmd, reset := 0 }
def MEM_MAP_USABLE : Fld := { off := 0x040, lo := 0, width := 14, acc := .ro, reset := 0 }
def MEM_MAP_ILV : Fld := { off := 0x040, lo := 16, width := 1, acc := .ro, reset := 0 }
def MEM_MAP_GROUPS : Fld := { off := 0x040, lo := 20, width := 4, acc := .ro, reset := 0 }
def MEM_STAT_OFFLINE : Fld := { off := 0x048, lo := 0, width := 4, acc := .ro, reset := 0 }
def MEM_STAT_UNPROT : Fld := { off := 0x048, lo := 4, width := 4, acc := .ro, reset := 0 }
def MEM_STAT_REBUILDING : Fld := { off := 0x048, lo := 8, width := 4, acc := .ro, reset := 0 }
def GRP_STAT_STATE : Fld := { off := 0x040, lo := 0, width := 3, acc := .ro, reset := 0 }
def GRP_STAT_SPEED : Fld := { off := 0x040, lo := 4, width := 1, acc := .ro, reset := 0 }
def GRP_STAT_PARITY_CH : Fld := { off := 0x040, lo := 8, width := 5, acc := .ro, reset := 0 }
def GRP_STAT_LOST_CH : Fld := { off := 0x040, lo := 16, width := 5, acc := .ro, reset := 0x1f }
def GRP_STAT_BASE : Fld := { off := 0x040, lo := 32, width := 16, acc := .ro, reset := 0 }
def GRP_CTL_SCRUB_H : Fld := { off := 0x048, lo := 0, width := 8, acc := .rwL, reset := 0x18, legal := [(1, 255)] }
def GRP_CTL_SHARE : Fld := { off := 0x048, lo := 8, width := 3, acc := .rwL, reset := 0, legal := [(0, 2)] }
def GRP_REBUILD_PTR : Fld := { off := 0x050, lo := 0, width := 40, acc := .ro, reset := 0 }
def GRP_CNT_PASSES : Fld := { off := 0x058, lo := 0, width := 16, acc := .rwL, reset := 0 }
def GRP_CNT_PAR_FIX : Fld := { off := 0x058, lo := 16, width := 32, acc := .rwL, reset := 0 }
def CH_STAT_STATE : Fld := { off := 0x040, lo := 0, width := 3, acc := .ro, reset := 0 }
def CH_STAT_POS : Fld := { off := 0x040, lo := 4, width := 2, acc := .ro, reset := 0 }
def CH_STAT_CAUSE : Fld := { off := 0x040, lo := 8, width := 4, acc := .ro, reset := 0 }
def CH_STAT_DIMMS : Fld := { off := 0x040, lo := 12, width := 2, acc := .ro, reset := 0 }
def CH_STAT_GIB : Fld := { off := 0x040, lo := 16, width := 16, acc := .ro, reset := 0 }
def CH_STAT_TEMP : Fld := { off := 0x040, lo := 32, width := 8, acc := .ro, reset := 0 }
def CH_CNT_CE : Fld := { off := 0x048, lo := 0, width := 32, acc := .rwL, reset := 0 }
def CH_CNT_UE_FIXED : Fld := { off := 0x048, lo := 32, width := 16, acc := .rwL, reset := 0 }
def CH_CNT_POISONED : Fld := { off := 0x048, lo := 48, width := 16, acc := .rwL, reset := 0 }
def CH_ERRADDR_ADDR : Fld := { off := 0x050, lo := 0, width := 53, acc := .ro, reset := 0 }
def CH_ERRADDR_UE : Fld := { off := 0x050, lo := 53, width := 1, acc := .ro, reset := 0 }
def CH_CMD_FAIL : Fld := { off := 0x058, lo := 0, width := 1, acc := .cmd, reset := 0 }
def CSS_CTL_PATHWAIT : Fld := { off := 0x040, lo := 0, width := 8, acc := .rwL, reset := 0x64 }
def CSS_CTL_DEF_TMO : Fld := { off := 0x040, lo := 16, width := 16, acc := .rwL, reset := 0x7530 }
def CSS_STAT_OUT_OF_IDLE : Fld := { off := 0x048, lo := 0, width := 13, acc := .ro, reset := 0 }
def CSS_STAT_ESE_DRAIN : Fld := { off := 0x048, lo := 16, width := 1, acc := .ro, reset := 0 }
def CSS_CNT_STARTS : Fld := { off := 0x050, lo := 0, width := 32, acc := .rwL, reset := 0 }
def CSS_CNT_REDRIVES : Fld := { off := 0x050, lo := 32, width := 16, acc := .rwL, reset := 0 }
def CSS_CNT_UNSOL_LOST : Fld := { off := 0x050, lo := 48, width := 16, acc := .rwL, reset := 0 }
def CSS_FWR_EN : Fld := { off := 0x058, lo := 0, width := 1, acc := .rwS, reset := 0 }
def CSS_FWR_ENT_LOG2 : Fld := { off := 0x058, lo := 4, width := 4, acc := .rwS, reset := 0, legal := [(4, 12)], force := some (0, 1) }
def CSS_FWR_BASE : Fld := { off := 0x058, lo := 12, width := 32, acc := .rwS, reset := 0 }
def CSS_FWR_DB_PI : Fld := { off := 0x060, lo := 0, width := 32, acc := .rwL, reset := 0 }
def CSS_ZRT_FIRST : Fld := { off := 0x800, lo := 0, width := 10, acc := .gl, reset := 0 }
def CSS_ZRT_COUNT : Fld := { off := 0x800, lo := 10, width := 5, acc := .gl, reset := 0, legal := [(0, 16)] }
def CSS_ZRT_ENT_LOG2 : Fld := { off := 0x800, lo := 16, width := 4, acc := .gl, reset := 0, legal := [(4, 12)], force := some (10, 5) }
def CSS_ZRT_BASE : Fld := { off := 0x800, lo := 24, width := 36, acc := .gl, reset := 0 }
def CSS_HOME_ENGINE : Fld := { off := 0x100, lo := 0, width := 1, acc := .gl, reset := 0 }
def CSS_HOME_AUTO_RETURN : Fld := { off := 0x100, lo := 1, width := 1, acc := .gl, reset := 1 }
def CSS_PAIR_STAT_MODE : Fld := { off := 0x108, lo := 0, width := 3, acc := .ro, reset := 0 }
def CSS_PAIR_STAT_HOLDER : Fld := { off := 0x108, lo := 3, width := 1, acc := .ro, reset := 0 }
def CSS_PAIR_STAT_PASSING : Fld := { off := 0x108, lo := 4, width := 1, acc := .ro, reset := 0 }
def CSS_PAIR_STAT_CLEAN : Fld := { off := 0x108, lo := 5, width := 1, acc := .ro, reset := 0 }
def CSS_PAIR_STAT_EPOCH : Fld := { off := 0x108, lo := 16, width := 16, acc := .ro, reset := 0 }
def CSS_PAIR_STAT_RESYNC_DONE : Fld := { off := 0x108, lo := 32, width := 13, acc := .ro, reset := 0 }
def CSS_PAIR_CMD_SPLIT : Fld := { off := 0x110, lo := 0, width := 1, acc := .cmd, reset := 0 }
def CSS_PAIR_CMD_REPAIR : Fld := { off := 0x110, lo := 1, width := 1, acc := .cmd, reset := 0 }
def CSS_PAIR_CMD_RESYNC : Fld := { off := 0x110, lo := 2, width := 1, acc := .cmd, reset := 0 }
def CSS_PAIR_CMD_ENGINE : Fld := { off := 0x110, lo := 8, width := 1, acc := .cmd, reset := 0 }
def CSS_PAIR_CNT_RETRIES : Fld := { off := 0x118, lo := 0, width := 16, acc := .rwL, reset := 0 }
def CSS_PAIR_CNT_MISMATCH : Fld := { off := 0x118, lo := 16, width := 16, acc := .rwL, reset := 0 }
def CSS_PAIR_CNT_SELFCHK : Fld := { off := 0x118, lo := 32, width := 16, acc := .rwL, reset := 0 }
def CSS_PAIR_CNT_SILENCE : Fld := { off := 0x118, lo := 48, width := 8, acc := .rwL, reset := 0 }
def CSS_PAIR_CNT_PASSES : Fld := { off := 0x118, lo := 56, width := 8, acc := .rwL, reset := 0 }
def CSS_PAIR_LAST_CAUSE : Fld := { off := 0x120, lo := 0, width := 4, acc := .ro, reset := 0 }
def CSS_PAIR_LAST_ENGINE : Fld := { off := 0x120, lo := 4, width := 1, acc := .ro, reset := 0 }
def CSS_PAIR_LAST_RECEIVER : Fld := { off := 0x120, lo := 8, width := 5, acc := .ro, reset := 0 }
def CSS_PAIR_LAST_OUTCOME : Fld := { off := 0x120, lo := 13, width := 3, acc := .ro, reset := 0 }
def CSS_PAIR_LAST_TIME : Fld := { off := 0x120, lo := 32, width := 32, acc := .ro, reset := 0 }
def CSS_PAIR_INJECT_KIND : Fld := { off := 0x128, lo := 0, width := 3, acc := .rwL, reset := 0, legal := [(0, 4)] }
def CSS_PAIR_INJECT_ENGINE : Fld := { off := 0x128, lo := 4, width := 1, acc := .rwL, reset := 0 }
def CSS_PAIR_INJECT_PERSIST : Fld := { off := 0x128, lo := 5, width := 1, acc := .rwL, reset := 0 }
def CSS_PAIR_INJECT_ARM : Fld := { off := 0x128, lo := 7, width := 1, acc := .rwL, reset := 0 }
def ENG_STAT_ROLE : Fld := { off := 0x040, lo := 0, width := 3, acc := .ro, reset := 0 }
def ENG_CNT_SELFCHK : Fld := { off := 0x048, lo := 0, width := 16, acc := .rwL, reset := 0 }
def ENG_CNT_STORE_CE : Fld := { off := 0x048, lo := 16, width := 16, acc := .rwL, reset := 0 }
def ENG_CHKINFO_UNIT : Fld := { off := 0x050, lo := 0, width := 4, acc := .ro, reset := 0 }
def CP_CFG_MEDIA : Fld := { off := 0x040, lo := 0, width := 2, acc := .rwS, reset := 0, legal := [(0, 2)] }
def CP_CFG_MAXPAY : Fld := { off := 0x040, lo := 4, width := 2, acc := .rwS, reset := 3 }
def CP_CFG_RTO : Fld := { off := 0x040, lo := 8, width := 8, acc := .rwL, reset := 0xa, legal := [(2, 255)] }
def CP_CFG_RTX_MAX : Fld := { off := 0x040, lo := 16, width := 4, acc := .rwL, reset := 8, legal := [(1, 15)] }
def CP_CFG_LINK_TMO : Fld := { off := 0x040, lo := 24, width := 8, acc := .rwL, reset := 5, legal := [(1, 255)] }
def CP_STAT_STATE : Fld := { off := 0x048, lo := 0, width := 3, acc := .ro, reset := 0 }
def CP_STAT_LANES : Fld := { off := 0x048, lo := 4, width := 2, acc := .ro, reset := 0 }
def CP_STAT_PEER_KIND : Fld := { off := 0x048, lo := 8, width := 2, acc := .ro, reset := 0 }
def CP_STAT_PEER_MAXPAY : Fld := { off := 0x048, lo := 10, width := 2, acc := .ro, reset := 0 }
def CP_STAT_PEER_ADDR : Fld := { off := 0x048, lo := 16, width := 12, acc := .ro, reset := 0 }
def CP_STAT_LOGGED_IN : Fld := { off := 0x048, lo := 32, width := 13, acc := .ro, reset := 0 }
def CP_PEER_IDENT : Fld := { off := 0x050, lo := 0, width := 64, acc := .ro, reset := 0 }
def CP_CMD_RETRAIN : Fld := { off := 0x058, lo := 0, width := 1, acc := .cmd, reset := 0 }
def CP_CMD_DOWN : Fld := { off := 0x058, lo := 1, width := 1, acc := .cmd, reset := 0 }
def CP_CNT_FEC_CORR : Fld := { off := 0x060, lo := 0, width := 32, acc := .rwL, reset := 0 }
def CP_CNT_FEC_UNCORR : Fld := { off := 0x060, lo := 32, width := 32, acc := .rwL, reset := 0 }
def CP_CNT_LINK_CRC : Fld := { off := 0x068, lo := 0, width := 16, acc := .rwL, reset := 0 }
def CP_CNT_LINK_RTX : Fld := { off := 0x068, lo := 16, width := 16, acc := .rwL, reset := 0 }
def CP_CNT_LINK_DUP : Fld := { off := 0x068, lo := 32, width := 16, acc := .rwL, reset := 0 }
def CP_CNT_LINK_DOWN : Fld := { off := 0x068, lo := 48, width := 8, acc := .rwL, reset := 0 }
def CP_CNT_LINK_INITS : Fld := { off := 0x068, lo := 56, width := 8, acc := .rwL, reset := 0 }
def CP_CNT_PROTO_BADFRAME : Fld := { off := 0x070, lo := 0, width := 16, acc := .rwL, reset := 0 }
def CP_CNT_PROTO_REJ_RX : Fld := { off := 0x070, lo := 16, width := 16, acc := .rwL, reset := 0 }
def CP_CNT_PROTO_REJ_TX : Fld := { off := 0x070, lo := 32, width := 16, acc := .rwL, reset := 0 }
def CP_CNT_PROTO_XPROTO : Fld := { off := 0x070, lo := 48, width := 16, acc := .rwL, reset := 0 }
def CP_XOPEN_OPEN : Fld := { off := 0x078, lo := 0, width := 13, acc := .ro, reset := 0 }
def CP_LANE_PORT_SPEED : Fld := { off := 0x0A8, lo := 0, width := 2, acc := .rwS, reset := 0, legal := [(0, 2)] }
def CP_LANE_LANE_SWAP : Fld := { off := 0x0A8, lo := 4, width := 1, acc := .rwS, reset := 0 }
def CP_LANE_TX_INV : Fld := { off := 0x0A8, lo := 8, width := 2, acc := .rwS, reset := 0 }
def CP_LANE_RX_INV : Fld := { off := 0x0A8, lo := 10, width := 2, acc := .rwS, reset := 0 }
def LG_SEL_ADDR : Fld := { off := 0x100, lo := 0, width := 12, acc := .rwL, reset := 0 }
def LG_STAT_STATE : Fld := { off := 0x108, lo := 0, width := 3, acc := .ro, reset := 0 }
def LG_STAT_RESULT : Fld := { off := 0x108, lo := 8, width := 8, acc := .ro, reset := 0 }
def LG_STAT_MAXPAY : Fld := { off := 0x108, lo := 16, width := 2, acc := .ro, reset := 0 }
def LG_UNIT_UNIT_ID : Fld := { off := 0x110, lo := 0, width := 64, acc := .ro, reset := 0 }
def PT_SEL_STATION : Fld := { off := 0x400, lo := 0, width := 16, acc := .gl, reset := 0 }
def PT_DATA_PARTNER : Fld := { off := 0x408, lo := 0, width := 12, acc := .gl, reset := 0 }
def PT_DATA_VALID : Fld := { off := 0x408, lo := 12, width := 1, acc := .gl, reset := 0 }
def PT_DATA_PREF : Fld := { off := 0x408, lo := 13, width := 3, acc := .gl, reset := 0 }
def PT_DATA_UNIT : Fld := { off := 0x408, lo := 16, width := 16, acc := .gl, reset := 0 }
def PT_DATA_ARING : Fld := { off := 0x408, lo := 32, width := 10, acc := .gl, reset := 0 }
def PT_DATA_ARING_EN : Fld := { off := 0x408, lo := 42, width := 1, acc := .gl, reset := 0 }
def PT_DATA_EN : Fld := { off := 0x408, lo := 48, width := 1, acc := .ro, reset := 0 }
def PT_COUNT_COUNT : Fld := { off := 0x410, lo := 0, width := 17, acc := .ro, reset := 0 }
def CIPH_CTL_INLINE_MIN : Fld := { off := 0x040, lo := 0, width := 5, acc := .rwL, reset := 8, legal := [(0, 16)] }
def CIPH_CTL_SEQ_MAX : Fld := { off := 0x040, lo := 8, width := 5, acc := .rwL, reset := 8, legal := [(1, 16)] }
def CIPH_STAT_PIPE_OK : Fld := { off := 0x048, lo := 0, width := 16, acc := .ro, reset := 0 }
def CIPH_STAT_PIPE_BUSY : Fld := { off := 0x048, lo := 16, width := 16, acc := .ro, reset := 0 }
def CIPH_STAT_LOADED : Fld := { off := 0x048, lo := 32, width := 13, acc := .ro, reset := 0 }
def CIPH_CNT_TAGFAIL : Fld := { off := 0x050, lo := 0, width := 32, acc := .rwL, reset := 0 }
def CIPH_CNT_ZEROIZE : Fld := { off := 0x050, lo := 32, width := 16, acc := .rwL, reset := 0 }
def CIPH_CNT_PIPEFAIL : Fld := { off := 0x050, lo := 48, width := 8, acc := .rwL, reset := 0 }
def CIPH_FWR_EN : Fld := { off := 0x058, lo := 0, width := 1, acc := .rwS, reset := 0 }
def CIPH_FWR_ENT_LOG2 : Fld := { off := 0x058, lo := 4, width := 4, acc := .rwS, reset := 0, legal := [(4, 12)], force := some (0, 1) }
def CIPH_FWR_BASE : Fld := { off := 0x058, lo := 12, width := 32, acc := .rwS, reset := 0 }
def CIPH_FWR_DB_PI : Fld := { off := 0x060, lo := 0, width := 32, acc := .rwL, reset := 0 }
def KEY_SEL_M_SLOT : Fld := { off := 0x068, lo := 0, width := 12, acc := .rwL, reset := 0 }
def KEY_SEL_M_LEN : Fld := { off := 0x068, lo := 12, width := 3, acc := .rwL, reset := 0, legal := [(0, 4)] }
def KEY_SEL_M_USE : Fld := { off := 0x068, lo := 16, width := 2, acc := .rwL, reset := 0, legal := [(0, 2)] }
def KEY_DATA_M_WORD : Fld := { off := 0x070, lo := 0, width := 64, acc := .wo, reset := 0 }
def KEY_COMMIT_M_COMMIT : Fld := { off := 0x078, lo := 0, width := 1, acc := .cmd, reset := 0 }
def KEY_COMMIT_M_ERASE : Fld := { off := 0x078, lo := 1, width := 1, acc := .cmd, reset := 0 }
def KEY_COMMIT_M_ABORT : Fld := { off := 0x078, lo := 2, width := 1, acc := .cmd, reset := 0 }
def KEY_STAT_M_STATE : Fld := { off := 0x080, lo := 0, width := 3, acc := .ro, reset := 0 }
def KEY_STAT_M_RESULT : Fld := { off := 0x080, lo := 4, width := 4, acc := .ro, reset := 0 }
def KEY_STAT_M_WORDS : Fld := { off := 0x080, lo := 8, width := 4, acc := .ro, reset := 0 }
def KEY_STAT_M_SLOT : Fld := { off := 0x080, lo := 16, width := 12, acc := .ro, reset := 0 }
def KEY_STAT_M_GEN : Fld := { off := 0x080, lo := 32, width := 16, acc := .ro, reset := 0 }
def KEY_QUERY_SLOT : Fld := { off := 0x088, lo := 0, width := 12, acc := .rwL, reset := 0 }
def KEY_INFO_LOADED : Fld := { off := 0x090, lo := 0, width := 1, acc := .ro, reset := 0 }
def KEY_INFO_LEN : Fld := { off := 0x090, lo := 1, width := 3, acc := .ro, reset := 0 }
def KEY_INFO_USE : Fld := { off := 0x090, lo := 4, width := 2, acc := .ro, reset := 0 }
def KEY_INFO_UPPER : Fld := { off := 0x090, lo := 6, width := 1, acc := .ro, reset := 0 }
def KEY_INFO_INUSE : Fld := { off := 0x090, lo := 16, width := 16, acc := .ro, reset := 0 }
def KEY_INFO_GEN : Fld := { off := 0x090, lo := 32, width := 16, acc := .ro, reset := 0 }
def CIPH_ZEROIZE_ALL : Fld := { off := 0x098, lo := 0, width := 1, acc := .cmd, reset := 0 }
def CIPH_ZRT_EN : Fld := { off := 0x800, lo := 0, width := 1, acc := .gl, reset := 0 }
def CIPH_ZRT_ENT_LOG2 : Fld := { off := 0x800, lo := 4, width := 4, acc := .gl, reset := 0, legal := [(4, 12)], force := some (0, 1) }
def CIPH_ZRT_BASE : Fld := { off := 0x800, lo := 24, width := 36, acc := .gl, reset := 0 }
def PIPE_STAT_STATE : Fld := { off := 0x040, lo := 0, width := 3, acc := .ro, reset := 0 }
def PIPE_STAT_HOLDING : Fld := { off := 0x040, lo := 4, width := 1, acc := .ro, reset := 0 }
def PIPE_CNT_BLOCKS : Fld := { off := 0x048, lo := 0, width := 40, acc := .rwL, reset := 0 }
def PIPE_CNT_SELFCHK : Fld := { off := 0x048, lo := 48, width := 8, acc := .rwL, reset := 0 }
def COMP_CTL_CINLINE_MIN : Fld := { off := 0x040, lo := 0, width := 4, acc := .rwL, reset := 4, legal := [(0, 8)] }
def COMP_CTL_DINLINE_MIN : Fld := { off := 0x040, lo := 8, width := 4, acc := .rwL, reset := 4, legal := [(0, 8)] }
def COMP_STAT_COMP_OK : Fld := { off := 0x048, lo := 0, width := 8, acc := .ro, reset := 0 }
def COMP_STAT_DECOMP_OK : Fld := { off := 0x048, lo := 8, width := 8, acc := .ro, reset := 0 }
def COMP_STAT_COMP_BUSY : Fld := { off := 0x048, lo := 16, width := 8, acc := .ro, reset := 0 }
def COMP_STAT_DECOMP_BUSY : Fld := { off := 0x048, lo := 24, width := 8, acc := .ro, reset := 0 }
def COMP_STAT_PARKED : Fld := { off := 0x048, lo := 32, width := 7, acc := .ro, reset := 0 }
def COMP_CNT_FORMAT_ERR : Fld := { off := 0x050, lo := 0, width := 32, acc := .rwL, reset := 0 }
def COMP_CNT_PARKS : Fld := { off := 0x050, lo := 32, width := 16, acc := .rwL, reset := 0 }
def COMP_CNT_UNITFAIL : Fld := { off := 0x050, lo := 48, width := 8, acc := .rwL, reset := 0 }
def COMP_FWR_EN : Fld := { off := 0x058, lo := 0, width := 1, acc := .rwS, reset := 0 }
def COMP_FWR_ENT_LOG2 : Fld := { off := 0x058, lo := 4, width := 4, acc := .rwS, reset := 0, legal := [(4, 12)], force := some (0, 1) }
def COMP_FWR_BASE : Fld := { off := 0x058, lo := 12, width := 32, acc := .rwS, reset := 0 }
def COMP_FWR_DB_PI : Fld := { off := 0x060, lo := 0, width := 32, acc := .rwL, reset := 0 }
def COMP_ZRT_EN : Fld := { off := 0x800, lo := 0, width := 1, acc := .gl, reset := 0 }
def COMP_ZRT_ENT_LOG2 : Fld := { off := 0x800, lo := 4, width := 4, acc := .gl, reset := 0, legal := [(4, 12)], force := some (0, 1) }
def COMP_ZRT_BASE : Fld := { off := 0x800, lo := 24, width := 36, acc := .gl, reset := 0 }
def ZU_STAT_STATE : Fld := { off := 0x040, lo := 0, width := 3, acc := .ro, reset := 0 }
def ZU_CNT_BYTES : Fld := { off := 0x048, lo := 0, width := 40, acc := .rwL, reset := 0 }
def ZU_CNT_STORE_CE : Fld := { off := 0x048, lo := 40, width := 8, acc := .rwL, reset := 0 }
def ZU_CNT_SELFCHK : Fld := { off := 0x048, lo := 48, width := 8, acc := .rwL, reset := 0 }
def IC_CTL_MSI_EN : Fld := { off := 0x040, lo := 0, width := 1, acc := .rwL, reset := 0 }
def IC_STAT_PENDING : Fld := { off := 0x048, lo := 0, width := 14, acc := .ro, reset := 0 }
def IC_STAT_ACTIVE : Fld := { off := 0x048, lo := 16, width := 14, acc := .ro, reset := 0 }
def IC_CNT_TAKEN : Fld := { off := 0x050, lo := 0, width := 32, acc := .rwL, reset := 0 }
def IC_CNT_MSI_BAD : Fld := { off := 0x050, lo := 32, width := 16, acc := .rwL, reset := 0 }
def IC_CNT_RING_BAD : Fld := { off := 0x050, lo := 48, width := 16, acc := .rwL, reset := 0 }
def IC_LAST_BAD_SRC : Fld := { off := 0x058, lo := 0, width := 13, acc := .ro, reset := 0 }
def IC_LAST_BAD_RID : Fld := { off := 0x058, lo := 16, width := 16, acc := .ro, reset := 0 }
def IC_LAST_BAD_PORT : Fld := { off := 0x058, lo := 32, width := 1, acc := .ro, reset := 0 }
def IC_LAST_BAD_WHY : Fld := { off := 0x058, lo := 33, width := 3, acc := .ro, reset := 0 }
def IC_CUR_SRC : Fld := { off := 0x040, lo := 0, width := 13, acc := .ro, reset := 0 }
def IC_CUR_VALID : Fld := { off := 0x040, lo := 15, width := 1, acc := .ro, reset := 0 }
def IC_CUR_RPRIO : Fld := { off := 0x040, lo := 16, width := 8, acc := .ro, reset := 0 }
def IC_CUR_DEPTH : Fld := { off := 0x040, lo := 24, width := 4, acc := .ro, reset := 0 }
def IC_EOI_SRC : Fld := { off := 0x048, lo := 0, width := 13, acc := .cmd, reset := 0 }
def IC_PEND_SRC : Fld := { off := 0x050, lo := 0, width := 13, acc := .ro, reset := 0 }
def IC_PEND_VALID : Fld := { off := 0x050, lo := 15, width := 1, acc := .ro, reset := 0 }
def IC_PEND_PRIO : Fld := { off := 0x050, lo := 16, width := 8, acc := .ro, reset := 0 }
def IC_PMASK_FLOOR : Fld := { off := 0x058, lo := 0, width := 8, acc := .rwL, reset := 0 }
def IC_COREEVT_SPARED : Fld := { off := 0x060, lo := 0, width := 1, acc := .w1c, reset := 0 }
def IC_COREEVT_STOPPED : Fld := { off := 0x060, lo := 1, width := 1, acc := .w1c, reset := 0 }
def IC_COREEVT_UNCHECKED : Fld := { off := 0x060, lo := 2, width := 1, acc := .w1c, reset := 0 }
def IC_STK_SRC : Fld := { off := 0x080, lo := 0, width := 13, acc := .ro, reset := 0 }
def IC_STK_VALID : Fld := { off := 0x080, lo := 15, width := 1, acc := .ro, reset := 0 }
def IC_STK_PRIO : Fld := { off := 0x080, lo := 16, width := 8, acc := .ro, reset := 0 }
def RP_CFG_BIFUR : Fld := { off := 0x040, lo := 0, width := 2, acc := .rwS, reset := 0 }
def RP_CFG_MAX_RATE : Fld := { off := 0x040, lo := 4, width := 3, acc := .rwS, reset := 5, legal := [(0, 5)] }
def RP_CFG_CTO : Fld := { off := 0x040, lo := 16, width := 8, acc := .rwL, reset := 0x64, legal := [(1, 255)] }
def RP_LINK_STATE : Fld := { off := 0x048, lo := 0, width := 3, acc := .ro, reset := 0 }
def RP_LINK_WIDTH : Fld := { off := 0x048, lo := 4, width := 3, acc := .ro, reset := 0 }
def RP_LINK_RATE : Fld := { off := 0x048, lo := 8, width := 3, acc := .ro, reset := 0 }
def RP_LINK_FLIT : Fld := { off := 0x048, lo := 11, width := 1, acc := .ro, reset := 0 }
def RP_LINK_LTR : Fld := { off := 0x048, lo := 32, width := 16, acc := .ro, reset := 0 }
def RP_FAULT_RID : Fld := { off := 0x068, lo := 0, width := 16, acc := .ro, reset := 0 }
def RP_FAULT_LINK : Fld := { off := 0x068, lo := 16, width := 2, acc := .ro, reset := 0 }
def RP_FAULT_CAUSE : Fld := { off := 0x068, lo := 20, width := 4, acc := .ro, reset := 0 }
def RP_FAULT_ZONE : Fld := { off := 0x068, lo := 24, width := 8, acc := .ro, reset := 0 }
def RP_FAULT_WRITE : Fld := { off := 0x068, lo := 32, width := 1, acc := .ro, reset := 0 }
def RP_FAULT_ADDR_ADDR : Fld := { off := 0x070, lo := 0, width := 64, acc := .ro, reset := 0 }
def RP_CNT_FAULTS : Fld := { off := 0x078, lo := 0, width := 16, acc := .rwL, reset := 0 }
def RP_CNT_CTO : Fld := { off := 0x078, lo := 16, width := 16, acc := .rwL, reset := 0 }
def RP_CNT_DOWNS : Fld := { off := 0x078, lo := 32, width := 16, acc := .rwL, reset := 0 }
def DB_ZONE_ZONE : Fld := { off := 0x040, lo := 0, width := 8, acc := .ro, reset := 0 }
def DB_ZONE_ZONE_VALID : Fld := { off := 0x040, lo := 8, width := 1, acc := .ro, reset := 0 }
def DB_ZONE_GLAZED : Fld := { off := 0x040, lo := 9, width := 1, acc := .ro, reset := 0 }
def CSS_DB_PI : Fld := { off := 0x080, lo := 0, width := 32, acc := .rwL, reset := 0 }
def CIPHER_DB_PI : Fld := { off := 0x100, lo := 0, width := 32, acc := .rwL, reset := 0 }
def COMP_DB_PI : Fld := { off := 0x140, lo := 0, width := 32, acc := .rwL, reset := 0 }
def KEY_SEL_SLOT : Fld := { off := 0x200, lo := 0, width := 12, acc := .rwL, reset := 0 }
def KEY_SEL_LEN : Fld := { off := 0x200, lo := 12, width := 3, acc := .rwL, reset := 0, legal := [(0, 4)] }
def KEY_SEL_USE : Fld := { off := 0x200, lo := 16, width := 2, acc := .rwL, reset := 0, legal := [(0, 2)] }
def KEY_DATA_WORD : Fld := { off := 0x208, lo := 0, width := 64, acc := .wo, reset := 0 }
def KEY_COMMIT_COMMIT : Fld := { off := 0x210, lo := 0, width := 1, acc := .cmd, reset := 0 }
def KEY_COMMIT_ERASE : Fld := { off := 0x210, lo := 1, width := 1, acc := .cmd, reset := 0 }
def KEY_COMMIT_ABORT : Fld := { off := 0x210, lo := 2, width := 1, acc := .cmd, reset := 0 }
def KEY_STAT_STATE : Fld := { off := 0x218, lo := 0, width := 3, acc := .ro, reset := 0 }
def KEY_STAT_RESULT : Fld := { off := 0x218, lo := 4, width := 4, acc := .ro, reset := 0 }
def KEY_STAT_WORDS : Fld := { off := 0x218, lo := 8, width := 4, acc := .ro, reset := 0 }
def KEY_STAT_SLOT : Fld := { off := 0x218, lo := 16, width := 12, acc := .ro, reset := 0 }
def KEY_STAT_GEN : Fld := { off := 0x218, lo := 32, width := 16, acc := .ro, reset := 0 }
def LT_CORE_VALUE : Fld := { off := 0x300, lo := 0, width := 10, acc := .rwL, reset := 0 }
def LT_CORE_SCALE : Fld := { off := 0x300, lo := 10, width := 3, acc := .rwL, reset := 0, legal := [(0, 5)] }
def LT_CORE_REQ : Fld := { off := 0x300, lo := 15, width := 1, acc := .rwL, reset := 0 }
def UC_CTL_OPEN : Fld := { off := 0x040, lo := 0, width := 1, acc := .cmd, reset := 0 }
def UC_CTL_COMMIT : Fld := { off := 0x040, lo := 1, width := 1, acc := .cmd, reset := 0 }
def UC_CTL_ABORT : Fld := { off := 0x040, lo := 2, width := 1, acc := .cmd, reset := 0 }
def UC_DATA_DATA : Fld := { off := 0x048, lo := 0, width := 64, acc := .wo, reset := 0 }
def UC_COUNT_BYTES : Fld := { off := 0x050, lo := 0, width := 19, acc := .ro, reset := 0 }
def UC_STAT_STATE : Fld := { off := 0x058, lo := 0, width := 3, acc := .ro, reset := 0 }
def UC_STAT_RESULT : Fld := { off := 0x058, lo := 4, width := 4, acc := .ro, reset := 0 }
def UC_STAT_OVF : Fld := { off := 0x058, lo := 8, width := 1, acc := .ro, reset := 0 }
def UC_STAT_PENDING : Fld := { off := 0x058, lo := 16, width := 8, acc := .ro, reset := 0 }
def UC_STAT_FAULT_UPC : Fld := { off := 0x058, lo := 24, width := 16, acc := .ro, reset := 0 }
def UC_STAT_FAULT_COPY : Fld := { off := 0x058, lo := 40, width := 8, acc := .ro, reset := 0 }
def UCODE_VER_BASE : Fld := { off := 0x060, lo := 0, width := 32, acc := .ro, reset := 0 }
def UCODE_VER_PATCH : Fld := { off := 0x060, lo := 32, width := 32, acc := .ro, reset := 0 }
def UC_DIGEST_DIGEST : Fld := { off := 0x068, lo := 0, width := 64, acc := .ro, reset := 0 }
def UC_INFO_MWORDS : Fld := { off := 0x070, lo := 0, width := 16, acc := .ro, reset := 0 }
def UC_INFO_NWORDS : Fld := { off := 0x070, lo := 16, width := 16, acc := .ro, reset := 0 }
def UC_INFO_COPIES : Fld := { off := 0x070, lo := 32, width := 8, acc := .ro, reset := 0 }
def UC_INFO_CLOCK : Fld := { off := 0x070, lo := 40, width := 2, acc := .ro, reset := 0 }
def UC_INFO_STACK : Fld := { off := 0x070, lo := 42, width := 1, acc := .ro, reset := 0 }
def UC_ERRCNT_CE : Fld := { off := 0x078, lo := 0, width := 32, acc := .rwL, reset := 0 }

end F

/-! ## Registers, by page -/

def regs.ident : List RegDef :=
 [
  { off := 0x040, count := 1, fields := [F.ID_PART_PART, F.ID_PART_VARIANT] },
  { off := 0x048, count := 1, fields := [F.ID_MODULE_MODULE_ID] },
  { off := 0x050, count := 1, fields := [F.CAP_POSN_PRESENT_MASK] },
  { off := 0x058, count := 1, fields := [F.CAP_POSN_ACTIVE_MASK] },
  { off := 0x060, count := 1, fields := [F.CAP_POSN_SPARE_MASK] },
  { off := 0x068, count := 1, fields := [F.CAP_POSN_FAILED_MASK] },
  { off := 0x070, count := 1, fields := [F.CAP_CORES_LCORES, F.CAP_CORES_SPARES, F.CAP_CORES_SPLIT, F.CAP_CORES_UNCHECKED] },
  { off := 0x078, count := 1, fields := [F.CAP_UNITS_CSS_A, F.CAP_UNITS_CSS_B, F.CAP_UNITS_CIPHER, F.CAP_UNITS_COMPRESS, F.CAP_UNITS_PCIE] },
  { off := 0x080, count := 1, fields := [F.CAP_MEM_CHANNELS, F.CAP_MEM_GROUPS] },
  { off := 0x088, count := 1, fields := [F.CAP_LINKS_FABRIC, F.CAP_LINKS_CHANNEL] },
  { off := 0x100, count := 64, fields := [F.LCORE_MAP_POSITION, F.LCORE_MAP_PIPE, F.LCORE_MAP_VALID] } ]

def regs.ese : List RegDef :=
 [
  { off := 0x040, count := 1, fields := [F.MODE_STAT_MODE, F.MODE_STAT_BASE, F.MODE_STAT_RECOVERY, F.MODE_STAT_DEBUG, F.MODE_STAT_GLAZED, F.MODE_STAT_CAUSE] },
  { off := 0x048, count := 1, fields := [F.MODE_CMD_CMD, F.MODE_CMD_REBOOT] },
  { off := 0x050, count := 1, fields := [F.BOOT_OPT_SPLIT, F.BOOT_OPT_ALLOW_UNCHECKED, F.BOOT_OPT_DEBUG_EN, F.BOOT_OPT_SVC_MEM] },
  { off := 0x058, count := 1, fields := [F.BOOT_STAT_PHASE, F.BOOT_STAT_FAIL, F.BOOT_STAT_SVN, F.BOOT_STAT_MIN_SVN] },
  { off := 0x060, count := 1, fields := [F.FW_ENTRY_ADDR] },
  { off := 0x068, count := 1, fields := [F.CORE_START_START] },
  { off := 0x070, count := 1, fields := [F.RST_STAT_KIND, F.RST_STAT_BY, F.RST_STAT_COUNT] },
  { off := 0x078, count := 1, fields := [F.SVC_ALERT_CHECKSTOP, F.SVC_ALERT_BOOTFAIL, F.SVC_ALERT_EVQ, F.SVC_ALERT_HALT] },
  { off := 0x080, count := 1, fields := [F.EVQ_DATA_SRC, F.EVQ_DATA_VALID, F.EVQ_DATA_TB] },
  { off := 0x088, count := 1, fields := [F.EVQ_STAT_COUNT] },
  { off := 0x090, count := 1, fields := [F.SVC_PORT_CFG_GAP] },
  { off := 0x098, count := 1, fields := [F.SVC_WIN_ADDR_ADDR, F.SVC_WIN_ADDR_AUTOINC] },
  { off := 0x0A0, count := 1, fields := [F.SVC_WIN_DATA_DATA] },
  { off := 0x0A8, count := 1, fields := [F.SVC_WIN_STAT_LAST, F.SVC_WIN_STAT_ERRORS] },
  { off := 0x0B0, count := 1, fields := [F.DBG_CTL_CORE, F.DBG_CTL_OP] },
  { off := 0x0B8, count := 1, fields := [F.DBG_STAT_HALTED] },
  { off := 0x0C0, count := 1, fields := [F.DBG_SEL_CORE, F.DBG_SEL_FILE, F.DBG_SEL_NUM] },
  { off := 0x0C8, count := 1, fields := [F.DBG_DATA_DATA] },
  { off := 0x0D0, count := 1, fields := [F.QSC_TMO_MS] } ]

def regs.pwr : List RegDef :=
 [
  { off := 0x040, count := 1, fields := [F.PWR_CTL_DEEPEST, F.PWR_CTL_LFC_EN, F.PWR_CTL_THR_TEMP] },
  { off := 0x048, count := 1, fields := [F.BRD_SLEW_SLEW0, F.BRD_SLEW_SLEW1, F.BRD_SLEW_SLEW2, F.BRD_SLEW_SLEW3] },
  { off := 0x050, count := 1, fields := [F.LT_SVC_VALUE, F.LT_SVC_SCALE, F.LT_SVC_REQ] },
  { off := 0x058, count := 1, fields := [F.LT_MODULE_TOL, F.LT_MODULE_SOURCE] },
  { off := 0x060, count := 1, fields := [F.LT_LTR_PORT0, F.LT_LTR_PORT1] },
  { off := 0x068, count := 1, fields := [F.PKG_LIMIT_WATTS] },
  { off := 0x070, count := 1, fields := [F.PWR_STAT_PKG_W, F.PWR_STAT_LIMITING, F.PWR_STAT_THROTTLED, F.PWR_STAT_TJ_MAX] },
  { off := 0x078, count := 1, fields := [F.LFC_STAT_LAST] },
  { off := 0x080, count := 1, fields := [F.LFC_CNT_RISES, F.LFC_CNT_FALLS, F.LFC_CNT_HELD] } ]

def regs.tilePwr : List RegDef :=
 [
  { off := 0x040, count := 1, fields := [F.TILE_DIV_REQ, F.TILE_DIV_CUR, F.TILE_DIV_STEPPING] },
  { off := 0x048, count := 1, fields := [F.TILE_STAT_TSTATE, F.TILE_STAT_FORECAST, F.TILE_STAT_THROTTLED, F.TILE_STAT_CAPPED] },
  { off := 0x050, count := 1, fields := [F.TILE_PSTATE_STATE0, F.TILE_PSTATE_STATE1, F.TILE_PSTATE_STATE2, F.TILE_PSTATE_STATE3, F.TILE_PSTATE_STATE4, F.TILE_PSTATE_STATE5, F.TILE_PSTATE_STATE6, F.TILE_PSTATE_STATE7, F.TILE_PSTATE_STATE8, F.TILE_PSTATE_STATE9, F.TILE_PSTATE_PIPE_DOZE0, F.TILE_PSTATE_PIPE_DOZE1, F.TILE_PSTATE_PIPE_DOZE2, F.TILE_PSTATE_PIPE_DOZE3, F.TILE_PSTATE_PIPE_DOZE4, F.TILE_PSTATE_PIPE_DOZE5, F.TILE_PSTATE_PIPE_DOZE6, F.TILE_PSTATE_PIPE_DOZE7, F.TILE_PSTATE_PIPE_DOZE8, F.TILE_PSTATE_PIPE_DOZE9] },
  { off := 0x058, count := 1, fields := [F.TILE_IMAX_POS, F.TILE_IMAX_DOZE, F.TILE_IMAX_COMMON] },
  { off := 0x060, count := 1, fields := [F.TILE_THERM_TJ] } ]

def regs.recorder : List RegDef :=
 [
  { off := 0x040, count := 1, fields := [F.REC_CTL_RECMODE] },
  { off := 0x048, count := 1, fields := [F.REC_STAT_KEPT_COUNT, F.REC_STAT_KEPT_READ, F.REC_STAT_WRAPPED, F.REC_STAT_FILLING, F.REC_STAT_KEPT_CLOSED, F.REC_STAT_WRAPS] },
  { off := 0x050, count := 1, fields := [F.REC_RATE_BURST, F.REC_RATE_PERIOD] },
  { off := 0x058, count := 1, fields := [F.REC_CNT_DROPPED, F.REC_CNT_SUPPRESSED, F.REC_CNT_MERGED] },
  { off := 0x060, count := 1, fields := [F.REC_CMD_REARM] },
  { off := 0x068, count := 1, fields := [F.REC_RD_SEL_INDEX, F.REC_RD_SEL_WORD, F.REC_RD_SEL_BAD] },
  { off := 0x070, count := 1, fields := [F.REC_RD_DATA_DATA] },
  { off := 0x078, count := 1, fields := [F.REC_HEAD_NEXT, F.REC_HEAD_LAST, F.REC_HEAD_LAST_SEQ] },
  { off := 0x080, count := 1, fields := [F.TOD_SEC_SECONDS] },
  { off := 0x088, count := 1, fields := [F.TOD_NS_NANOS, F.TOD_NS_LEAP, F.TOD_NS_STEERED] },
  { off := 0x090, count := 1, fields := [F.TOD_SET_SEC_SECONDS] },
  { off := 0x098, count := 1, fields := [F.TOD_SET_NS_NANOS] },
  { off := 0x0A0, count := 1, fields := [F.TOD_CMD_SET_NOW, F.TOD_CMD_SET_AT_PPS, F.TOD_CMD_LEAP_INS, F.TOD_CMD_LEAP_DEL, F.TOD_CMD_LEAP_CANCEL] },
  { off := 0x0A8, count := 1, fields := [F.TOD_STAT_STEERED, F.TOD_STAT_PPS_SEEN, F.TOD_STAT_HOLDOVER, F.TOD_STAT_BACKUP_OSC, F.TOD_STAT_LEAP_PENDING, F.TOD_STAT_SET, F.TOD_STAT_OFFSET] } ]

def regs.zctl : List RegDef :=
 [
  { off := 0x040, count := 1, fields := [F.ZT_STAT_GLAZED, F.ZT_STAT_BUSY, F.ZT_STAT_RESULT, F.ZT_STAT_FAIL_TABLE, F.ZT_STAT_FAIL_INDEX] },
  { off := 0x048, count := 1, fields := [F.ZT_GLAZE_CODE] },
  { off := 0x050, count := 1, fields := [F.ZT_DIGEST_DIGEST] },
  { off := 0x058, count := 1, fields := [F.ZT_ZONES_ZONES] } ]

def regs.position : List RegDef :=
 [
  { off := 0x040, count := 1, fields := [F.POS_CTL_SPARE_NOW, F.POS_CTL_BENIGN_CRUMB] },
  { off := 0x048, count := 1, fields := [F.CORE_STAT_ROLE, F.CORE_STAT_LOCKSTEP_LOST, F.CORE_STAT_UNCHECKED, F.CORE_STAT_SPLIT, F.CORE_STAT_RETRYING, F.CORE_STAT_PIPE_FAILED, F.CORE_STAT_RETRIES] },
  { off := 0x050, count := 1, fields := [F.CHK_CNT_RETRY, F.CHK_CNT_BENIGN, F.CHK_CNT_CHECKER, F.CHK_CNT_DELAY_PE, F.CHK_CNT_SELF] },
  { off := 0x058, count := 1, fields := [F.CHK_LAST_SOURCE, F.CHK_LAST_SELFPIPE, F.CHK_LAST_RETRIES, F.CHK_LAST_OUTCOME, F.CHK_LAST_INJECTED, F.CHK_LAST_TIME] },
  { off := 0x060, count := 1, fields := [F.CHK_LAST_PC_PC] },
  { off := 0x068, count := 1, fields := [F.SPARE_INFO_PARTNER, F.SPARE_INFO_VALID, F.SPARE_INFO_CROSS_TILE, F.SPARE_INFO_PIPE, F.SPARE_INFO_DURATION] },
  { off := 0x070, count := 1, fields := [F.CHK_INJECT_SOURCE, F.CHK_INJECT_PIPE, F.CHK_INJECT_PERSIST, F.CHK_INJECT_ARM] },
  { off := 0x100, count := 1, fields := [F.CACHE_CTL_L1I_EN, F.CACHE_CTL_L1D_EN, F.CACHE_CTL_L2_EN] },
  { off := 0x108, count := 1, fields := [F.L2_WAYS_WAYS_A, F.L2_WAYS_WAYS_B] },
  { off := 0x110, count := 1, fields := [F.CACHE_STAT_FLUSHING, F.CACHE_STAT_L1I_ON, F.CACHE_STAT_L1D_ON, F.CACHE_STAT_L2_ON, F.CACHE_STAT_WAY_FAIL] },
  { off := 0x118, count := 1, fields := [F.CACHE_ERRCNT_CE, F.CACHE_ERRCNT_TAGPE, F.CACHE_ERRCNT_UE] },
  { off := 0x120, count := 1, fields := [F.CACHE_ERRADDR_ADDR, F.CACHE_ERRADDR_CACHE, F.CACHE_ERRADDR_PIPE] } ]

def regs.l3 : List RegDef :=
 [
  { off := 0x040, count := 1, fields := [F.L3_CTL_EN, F.L3_CTL_MNT_FORM] },
  { off := 0x048, count := 1, fields := [F.L3_WAYS_WAYS] },
  { off := 0x050, count := 1, fields := [F.L3_STAT_ON, F.L3_STAT_FLUSHING, F.L3_STAT_WAY_FAIL] },
  { off := 0x058, count := 1, fields := [F.L3_ERRCNT_CE, F.L3_ERRCNT_TAGPE, F.L3_ERRCNT_UE] },
  { off := 0x060, count := 1, fields := [F.L3_ERRADDR_ADDR, F.L3_ERRADDR_CACHE, F.L3_ERRADDR_PIPE] },
  { off := 0x080, count := 1, fields := [F.RNG_CTL_OP, F.RNG_CTL_SCOPE, F.RNG_CTL_ALL] },
  { off := 0x088, count := 1, fields := [F.RNG_BASE_BASE] },
  { off := 0x090, count := 1, fields := [F.RNG_LEN_LINES] },
  { off := 0x098, count := 1, fields := [F.RNG_CMD_GO, F.RNG_CMD_ABORT] },
  { off := 0x0A0, count := 1, fields := [F.RNG_STAT_BUSY, F.RNG_STAT_OWNER, F.RNG_STAT_RESULT, F.RNG_STAT_DONE] } ]

def regs.tileDir : List RegDef :=
 [
  { off := 0x040, count := 1, fields := [F.TD_CNT_EVICT, F.TD_CNT_EVICT_TX, F.TD_CNT_CE] },
  { off := 0x048, count := 1, fields := [F.TD_ERRADDR_ADDR, F.TD_ERRADDR_UE] } ]

def regs.home : List RegDef :=
 [
  { off := 0x040, count := 1, fields := [F.COH_CTL_HOLD_MIN] },
  { off := 0x048, count := 1, fields := [F.DOM_CTL_MEMBERS, F.DOM_CTL_ARRANGE, F.DOM_CTL_XDOM] },
  { off := 0x050, count := 1, fields := [F.MEMBER_DOWN_DOWN] },
  { off := 0x058, count := 1, fields := [F.DIR_STAT_VALID, F.DIR_STAT_RESV_MAX, F.DIR_STAT_EVBUF] },
  { off := 0x060, count := 1, fields := [F.DIR_CNT_EVICT, F.DIR_CNT_EVICT_MARKED, F.DIR_CNT_SETRECALL] },
  { off := 0x068, count := 1, fields := [F.DIR_ERRADDR_SET, F.DIR_ERRADDR_WAY, F.DIR_ERRADDR_UE] },
  { off := 0x100, count := 32, fields := [F.ROUTE_PRIMARY, F.ROUTE_ALT, F.ROUTE_USING_ALT, F.ROUTE_VALID] },
  { off := 0x200, count := 1, fields := [F.ROUTE_XDOM_PRIMARY, F.ROUTE_XDOM_ALT, F.ROUTE_XDOM_USING_ALT, F.ROUTE_XDOM_VALID] } ]

def regs.fport : List RegDef :=
 [
  { off := 0x040, count := 1, fields := [F.FP_CFG_KIND, F.FP_CFG_LANE_EN, F.FP_CFG_MIN_WIDTH] },
  { off := 0x048, count := 1, fields := [F.FP_STAT_STATE, F.FP_STAT_WIDTH, F.FP_STAT_LANES_GOOD, F.FP_STAT_PEER_MODULE, F.FP_STAT_PEER_PORT, F.FP_STAT_PEER_KIND] },
  { off := 0x050, count := 1, fields := [F.FP_CNT_FEC_CORR, F.FP_CNT_FEC_UNCORR] },
  { off := 0x058, count := 1, fields := [F.FP_CNT_LINK_CRC, F.FP_CNT_LINK_REPLAY, F.FP_CNT_LINK_WIDTH_DROP, F.FP_CNT_LINK_DOWN, F.FP_CNT_LINK_BADMSG] },
  { off := 0x060, count := 1, fields := [F.FP_CMD_RETRAIN, F.FP_CMD_DOWN] } ]

def regs.memory : List RegDef :=
 [
  { off := 0x040, count := 1, fields := [F.MEM_MAP_USABLE, F.MEM_MAP_ILV, F.MEM_MAP_GROUPS] },
  { off := 0x048, count := 1, fields := [F.MEM_STAT_OFFLINE, F.MEM_STAT_UNPROT, F.MEM_STAT_REBUILDING] } ]

def regs.group : List RegDef :=
 [
  { off := 0x040, count := 1, fields := [F.GRP_STAT_STATE, F.GRP_STAT_SPEED, F.GRP_STAT_PARITY_CH, F.GRP_STAT_LOST_CH, F.GRP_STAT_BASE] },
  { off := 0x048, count := 1, fields := [F.GRP_CTL_SCRUB_H, F.GRP_CTL_SHARE] },
  { off := 0x050, count := 1, fields := [F.GRP_REBUILD_PTR] },
  { off := 0x058, count := 1, fields := [F.GRP_CNT_PASSES, F.GRP_CNT_PAR_FIX] } ]

def regs.chan : List RegDef :=
 [
  { off := 0x040, count := 1, fields := [F.CH_STAT_STATE, F.CH_STAT_POS, F.CH_STAT_CAUSE, F.CH_STAT_DIMMS, F.CH_STAT_GIB, F.CH_STAT_TEMP] },
  { off := 0x048, count := 1, fields := [F.CH_CNT_CE, F.CH_CNT_UE_FIXED, F.CH_CNT_POISONED] },
  { off := 0x050, count := 1, fields := [F.CH_ERRADDR_ADDR, F.CH_ERRADDR_UE] },
  { off := 0x058, count := 1, fields := [F.CH_CMD_FAIL] } ]

def regs.css : List RegDef :=
 [
  { off := 0x040, count := 1, fields := [F.CSS_CTL_PATHWAIT, F.CSS_CTL_DEF_TMO] },
  { off := 0x048, count := 1, fields := [F.CSS_STAT_OUT_OF_IDLE, F.CSS_STAT_ESE_DRAIN] },
  { off := 0x050, count := 1, fields := [F.CSS_CNT_STARTS, F.CSS_CNT_REDRIVES, F.CSS_CNT_UNSOL_LOST] },
  { off := 0x058, count := 1, fields := [F.CSS_FWR_EN, F.CSS_FWR_ENT_LOG2, F.CSS_FWR_BASE] },
  { off := 0x060, count := 1, fields := [F.CSS_FWR_DB_PI] },
  { off := 0x800, count := 256, fields := [F.CSS_ZRT_FIRST, F.CSS_ZRT_COUNT, F.CSS_ZRT_ENT_LOG2, F.CSS_ZRT_BASE] },
  { off := 0x100, count := 1, fields := [F.CSS_HOME_ENGINE, F.CSS_HOME_AUTO_RETURN] },
  { off := 0x108, count := 1, fields := [F.CSS_PAIR_STAT_MODE, F.CSS_PAIR_STAT_HOLDER, F.CSS_PAIR_STAT_PASSING, F.CSS_PAIR_STAT_CLEAN, F.CSS_PAIR_STAT_EPOCH, F.CSS_PAIR_STAT_RESYNC_DONE] },
  { off := 0x110, count := 1, fields := [F.CSS_PAIR_CMD_SPLIT, F.CSS_PAIR_CMD_REPAIR, F.CSS_PAIR_CMD_RESYNC, F.CSS_PAIR_CMD_ENGINE] },
  { off := 0x118, count := 1, fields := [F.CSS_PAIR_CNT_RETRIES, F.CSS_PAIR_CNT_MISMATCH, F.CSS_PAIR_CNT_SELFCHK, F.CSS_PAIR_CNT_SILENCE, F.CSS_PAIR_CNT_PASSES] },
  { off := 0x120, count := 1, fields := [F.CSS_PAIR_LAST_CAUSE, F.CSS_PAIR_LAST_ENGINE, F.CSS_PAIR_LAST_RECEIVER, F.CSS_PAIR_LAST_OUTCOME, F.CSS_PAIR_LAST_TIME] },
  { off := 0x128, count := 1, fields := [F.CSS_PAIR_INJECT_KIND, F.CSS_PAIR_INJECT_ENGINE, F.CSS_PAIR_INJECT_PERSIST, F.CSS_PAIR_INJECT_ARM] } ]

def regs.eng : List RegDef :=
 [
  { off := 0x040, count := 1, fields := [F.ENG_STAT_ROLE] },
  { off := 0x048, count := 1, fields := [F.ENG_CNT_SELFCHK, F.ENG_CNT_STORE_CE] },
  { off := 0x050, count := 1, fields := [F.ENG_CHKINFO_UNIT] } ]

def regs.cport : List RegDef :=
 [
  { off := 0x040, count := 1, fields := [F.CP_CFG_MEDIA, F.CP_CFG_MAXPAY, F.CP_CFG_RTO, F.CP_CFG_RTX_MAX, F.CP_CFG_LINK_TMO] },
  { off := 0x048, count := 1, fields := [F.CP_STAT_STATE, F.CP_STAT_LANES, F.CP_STAT_PEER_KIND, F.CP_STAT_PEER_MAXPAY, F.CP_STAT_PEER_ADDR, F.CP_STAT_LOGGED_IN] },
  { off := 0x050, count := 1, fields := [F.CP_PEER_IDENT] },
  { off := 0x058, count := 1, fields := [F.CP_CMD_RETRAIN, F.CP_CMD_DOWN] },
  { off := 0x060, count := 1, fields := [F.CP_CNT_FEC_CORR, F.CP_CNT_FEC_UNCORR] },
  { off := 0x068, count := 1, fields := [F.CP_CNT_LINK_CRC, F.CP_CNT_LINK_RTX, F.CP_CNT_LINK_DUP, F.CP_CNT_LINK_DOWN, F.CP_CNT_LINK_INITS] },
  { off := 0x070, count := 1, fields := [F.CP_CNT_PROTO_BADFRAME, F.CP_CNT_PROTO_REJ_RX, F.CP_CNT_PROTO_REJ_TX, F.CP_CNT_PROTO_XPROTO] },
  { off := 0x078, count := 1, fields := [F.CP_XOPEN_OPEN] },
  { off := 0x0A8, count := 1, fields := [F.CP_LANE_PORT_SPEED, F.CP_LANE_LANE_SWAP, F.CP_LANE_TX_INV, F.CP_LANE_RX_INV] },
  { off := 0x100, count := 1, fields := [F.LG_SEL_ADDR] },
  { off := 0x108, count := 1, fields := [F.LG_STAT_STATE, F.LG_STAT_RESULT, F.LG_STAT_MAXPAY] },
  { off := 0x110, count := 1, fields := [F.LG_UNIT_UNIT_ID] },
  { off := 0x400, count := 1, fields := [F.PT_SEL_STATION] },
  { off := 0x408, count := 1, fields := [F.PT_DATA_PARTNER, F.PT_DATA_VALID, F.PT_DATA_PREF, F.PT_DATA_UNIT, F.PT_DATA_ARING, F.PT_DATA_ARING_EN, F.PT_DATA_EN] },
  { off := 0x410, count := 1, fields := [F.PT_COUNT_COUNT] } ]

def regs.cipher : List RegDef :=
 [
  { off := 0x040, count := 1, fields := [F.CIPH_CTL_INLINE_MIN, F.CIPH_CTL_SEQ_MAX] },
  { off := 0x048, count := 1, fields := [F.CIPH_STAT_PIPE_OK, F.CIPH_STAT_PIPE_BUSY, F.CIPH_STAT_LOADED] },
  { off := 0x050, count := 1, fields := [F.CIPH_CNT_TAGFAIL, F.CIPH_CNT_ZEROIZE, F.CIPH_CNT_PIPEFAIL] },
  { off := 0x058, count := 1, fields := [F.CIPH_FWR_EN, F.CIPH_FWR_ENT_LOG2, F.CIPH_FWR_BASE] },
  { off := 0x060, count := 1, fields := [F.CIPH_FWR_DB_PI] },
  { off := 0x068, count := 1, fields := [F.KEY_SEL_M_SLOT, F.KEY_SEL_M_LEN, F.KEY_SEL_M_USE] },
  { off := 0x070, count := 1, fields := [F.KEY_DATA_M_WORD] },
  { off := 0x078, count := 1, fields := [F.KEY_COMMIT_M_COMMIT, F.KEY_COMMIT_M_ERASE, F.KEY_COMMIT_M_ABORT] },
  { off := 0x080, count := 1, fields := [F.KEY_STAT_M_STATE, F.KEY_STAT_M_RESULT, F.KEY_STAT_M_WORDS, F.KEY_STAT_M_SLOT, F.KEY_STAT_M_GEN] },
  { off := 0x088, count := 1, fields := [F.KEY_QUERY_SLOT] },
  { off := 0x090, count := 1, fields := [F.KEY_INFO_LOADED, F.KEY_INFO_LEN, F.KEY_INFO_USE, F.KEY_INFO_UPPER, F.KEY_INFO_INUSE, F.KEY_INFO_GEN] },
  { off := 0x098, count := 1, fields := [F.CIPH_ZEROIZE_ALL] },
  { off := 0x800, count := 256, fields := [F.CIPH_ZRT_EN, F.CIPH_ZRT_ENT_LOG2, F.CIPH_ZRT_BASE] } ]

def regs.cpipe : List RegDef :=
 [
  { off := 0x040, count := 1, fields := [F.PIPE_STAT_STATE, F.PIPE_STAT_HOLDING] },
  { off := 0x048, count := 1, fields := [F.PIPE_CNT_BLOCKS, F.PIPE_CNT_SELFCHK] } ]

def regs.comp : List RegDef :=
 [
  { off := 0x040, count := 1, fields := [F.COMP_CTL_CINLINE_MIN, F.COMP_CTL_DINLINE_MIN] },
  { off := 0x048, count := 1, fields := [F.COMP_STAT_COMP_OK, F.COMP_STAT_DECOMP_OK, F.COMP_STAT_COMP_BUSY, F.COMP_STAT_DECOMP_BUSY, F.COMP_STAT_PARKED] },
  { off := 0x050, count := 1, fields := [F.COMP_CNT_FORMAT_ERR, F.COMP_CNT_PARKS, F.COMP_CNT_UNITFAIL] },
  { off := 0x058, count := 1, fields := [F.COMP_FWR_EN, F.COMP_FWR_ENT_LOG2, F.COMP_FWR_BASE] },
  { off := 0x060, count := 1, fields := [F.COMP_FWR_DB_PI] },
  { off := 0x800, count := 256, fields := [F.COMP_ZRT_EN, F.COMP_ZRT_ENT_LOG2, F.COMP_ZRT_BASE] } ]

def regs.zunit : List RegDef :=
 [
  { off := 0x040, count := 1, fields := [F.ZU_STAT_STATE] },
  { off := 0x048, count := 1, fields := [F.ZU_CNT_BYTES, F.ZU_CNT_STORE_CE, F.ZU_CNT_SELFCHK] } ]

def regs.icGlobal : List RegDef :=
 [
  { off := 0x040, count := 1, fields := [F.IC_CTL_MSI_EN] },
  { off := 0x048, count := 1, fields := [F.IC_STAT_PENDING, F.IC_STAT_ACTIVE] },
  { off := 0x050, count := 1, fields := [F.IC_CNT_TAKEN, F.IC_CNT_MSI_BAD, F.IC_CNT_RING_BAD] },
  { off := 0x058, count := 1, fields := [F.IC_LAST_BAD_SRC, F.IC_LAST_BAD_RID, F.IC_LAST_BAD_PORT, F.IC_LAST_BAD_WHY] } ]

def regs.icIface : List RegDef :=
 [
  { off := 0x040, count := 1, fields := [F.IC_CUR_SRC, F.IC_CUR_VALID, F.IC_CUR_RPRIO, F.IC_CUR_DEPTH] },
  { off := 0x048, count := 1, fields := [F.IC_EOI_SRC] },
  { off := 0x050, count := 1, fields := [F.IC_PEND_SRC, F.IC_PEND_VALID, F.IC_PEND_PRIO] },
  { off := 0x058, count := 1, fields := [F.IC_PMASK_FLOOR] },
  { off := 0x060, count := 1, fields := [F.IC_COREEVT_SPARED, F.IC_COREEVT_STOPPED, F.IC_COREEVT_UNCHECKED] },
  { off := 0x080, count := 8, fields := [F.IC_STK_SRC, F.IC_STK_VALID, F.IC_STK_PRIO] } ]

def regs.rport : List RegDef :=
 [
  { off := 0x040, count := 1, fields := [F.RP_CFG_BIFUR, F.RP_CFG_MAX_RATE, F.RP_CFG_CTO] },
  { off := 0x048, count := 4, fields := [F.RP_LINK_STATE, F.RP_LINK_WIDTH, F.RP_LINK_RATE, F.RP_LINK_FLIT, F.RP_LINK_LTR] },
  { off := 0x068, count := 1, fields := [F.RP_FAULT_RID, F.RP_FAULT_LINK, F.RP_FAULT_CAUSE, F.RP_FAULT_ZONE, F.RP_FAULT_WRITE] },
  { off := 0x070, count := 1, fields := [F.RP_FAULT_ADDR_ADDR] },
  { off := 0x078, count := 1, fields := [F.RP_CNT_FAULTS, F.RP_CNT_CTO, F.RP_CNT_DOWNS] } ]

def regs.door : List RegDef :=
 [
  { off := 0x040, count := 1, fields := [F.DB_ZONE_ZONE, F.DB_ZONE_ZONE_VALID, F.DB_ZONE_GLAZED] },
  { off := 0x080, count := 16, fields := [F.CSS_DB_PI] },
  { off := 0x100, count := 8, fields := [F.CIPHER_DB_PI] },
  { off := 0x140, count := 8, fields := [F.COMP_DB_PI] },
  { off := 0x200, count := 1, fields := [F.KEY_SEL_SLOT, F.KEY_SEL_LEN, F.KEY_SEL_USE] },
  { off := 0x208, count := 1, fields := [F.KEY_DATA_WORD] },
  { off := 0x210, count := 1, fields := [F.KEY_COMMIT_COMMIT, F.KEY_COMMIT_ERASE, F.KEY_COMMIT_ABORT] },
  { off := 0x218, count := 1, fields := [F.KEY_STAT_STATE, F.KEY_STAT_RESULT, F.KEY_STAT_WORDS, F.KEY_STAT_SLOT, F.KEY_STAT_GEN] },
  { off := 0x300, count := 64, fields := [F.LT_CORE_VALUE, F.LT_CORE_SCALE, F.LT_CORE_REQ] } ]

def regs.ucode : List RegDef :=
 [
  { off := 0x040, count := 1, fields := [F.UC_CTL_OPEN, F.UC_CTL_COMMIT, F.UC_CTL_ABORT] },
  { off := 0x048, count := 1, fields := [F.UC_DATA_DATA] },
  { off := 0x050, count := 1, fields := [F.UC_COUNT_BYTES] },
  { off := 0x058, count := 1, fields := [F.UC_STAT_STATE, F.UC_STAT_RESULT, F.UC_STAT_OVF, F.UC_STAT_PENDING, F.UC_STAT_FAULT_UPC, F.UC_STAT_FAULT_COPY] },
  { off := 0x060, count := 1, fields := [F.UCODE_VER_BASE, F.UCODE_VER_PATCH] },
  { off := 0x068, count := 1, fields := [F.UC_DIGEST_DIGEST] },
  { off := 0x070, count := 1, fields := [F.UC_INFO_MWORDS, F.UC_INFO_NWORDS, F.UC_INFO_COPIES, F.UC_INFO_CLOCK, F.UC_INFO_STACK] },
  { off := 0x078, count := 1, fields := [F.UC_ERRCNT_CE] } ]

/-- The registers of a kind of page from offset 0x040 upward. -/
def PageType.regs : PageType → List RegDef
  | .ident => Sys2Proof.Machine.regs.ident | .ese => Sys2Proof.Machine.regs.ese
  | .pwr => Sys2Proof.Machine.regs.pwr | .tilePwr => Sys2Proof.Machine.regs.tilePwr
  | .recorder => Sys2Proof.Machine.regs.recorder | .zctl => Sys2Proof.Machine.regs.zctl
  | .zoneTable => [] | .position => Sys2Proof.Machine.regs.position
  | .l3 => Sys2Proof.Machine.regs.l3 | .tileDir => Sys2Proof.Machine.regs.tileDir
  | .home => Sys2Proof.Machine.regs.home | .fport => Sys2Proof.Machine.regs.fport
  | .memory => Sys2Proof.Machine.regs.memory | .group => Sys2Proof.Machine.regs.group
  | .chan => Sys2Proof.Machine.regs.chan | .css => Sys2Proof.Machine.regs.css
  | .eng => Sys2Proof.Machine.regs.eng | .cport => Sys2Proof.Machine.regs.cport
  | .cipher => Sys2Proof.Machine.regs.cipher | .cpipe => Sys2Proof.Machine.regs.cpipe
  | .comp => Sys2Proof.Machine.regs.comp | .compressor => Sys2Proof.Machine.regs.zunit
  | .decompressor => Sys2Proof.Machine.regs.zunit | .icGlobal => Sys2Proof.Machine.regs.icGlobal
  | .icIface => Sys2Proof.Machine.regs.icIface | .sourceArray => []
  | .rport => Sys2Proof.Machine.regs.rport | .door => Sys2Proof.Machine.regs.door
  | .ucode => Sys2Proof.Machine.regs.ucode

/-- The register of a page's table that stands at an offset. -/
def findReg : List RegDef → Nat → Option RegDef
  | [], _ => none
  | r :: rest, off =>
    if r.off ≤ off ∧ off < r.off + 8 * r.count ∧ (off - r.off) % 8 = 0 then some r else findReg rest off

/-- A word with a list of fields at their reset values. -/
def fieldsReset : List Fld → Word
  | [] => 0
  | f :: rest => putBits (fieldsReset rest) f.lo f.width f.reset

/-- The microcode store of a window: words, nano-words, copies, clock, micro-stack (Table 12.1, full part). -/
def storeInfo (u : Nat) : Nat :=
  if u = 0 then 4096 + 256 * 2 ^ 16 + 80 * 2 ^ 32 + 0 * 2 ^ 40 + 2 ^ 42
  else if u = 1 then 2048 + 256 * 2 ^ 16 + 40 * 2 ^ 32 + 1 * 2 ^ 40 + 2 ^ 42
  else if u = 2 then 32768 + 4096 * 2 ^ 16 + 2 * 2 ^ 32 + 2 * 2 ^ 40
  else if u = 3 then 32768 + 4096 * 2 ^ 16 + 1 * 2 ^ 32 + 1 * 2 ^ 40
  else if u = 4 then 8192 + 1024 * 2 ^ 16 + 4 * 2 ^ 32 + 1 * 2 ^ 40
  else if u = 5 then 8192 + 1024 * 2 ^ 16 + 1 * 2 ^ 32 + 2 * 2 ^ 40
  else if u = 6 then 16384 + 2048 * 2 ^ 16 + 1 * 2 ^ 32 + 2 * 2 ^ 40
  else 8192 + 1024 * 2 ^ 16 + 1 * 2 ^ 32 + 2 * 2 ^ 40

/-- What the registers of one page read as after a cold reset of the full part: the header of Table 2.4, the
reset values of the page's table, and the fused and per-instance values (Tables 12.1, 19.2, 22.4). -/
def pageReset (p : Page) (off : Nat) : Word :=
  if p.typ = .zoneTable ∨ p.typ = .sourceArray then 0
  else if off = 0x000 then
    BitVec.ofNat 64 (p.typ.code * 2 ^ 16 + (if p.typ = .door then p.inst % 256 else p.inst) * 2 ^ 8 + 1)
  else if off = 0x008 then BitVec.ofNat 64 (2 ^ 63 + p.typ.cap)
  else if off = 0x010 then BitVec.ofNat 64 (b2n p.typ.runReset)
  else if off = 0x018 then BitVec.ofNat 64 (b2n p.typ.runReset)
  else if off = 0x028 then BitVec.ofNat 64 (7 + p.typ.errBits)
  else if p.typ = .group ∧ off = 0x040 then BitVec.ofNat 64 ((5 * p.inst + 4) * 2 ^ 8 + 31 * 2 ^ 16)
  else if p.typ = .ucode ∧ off = 0x070 then BitVec.ofNat 64 (storeInfo p.inst)
  else if p.typ = .tilePwr ∧ off = 0x058 then BitVec.ofNat 64 (11 + 3 * 2 ^ 8 + 12 * 2 ^ 16)
  else match findReg p.typ.regs off with
    | some r => fieldsReset r.fields
    | none => 0

/-- What the 64-bit word at a window offset reads as after a cold reset of the full part. -/
def resetOf (w : Nat) : Word :=
  match pageAt (w / 0x1000) with
  | some p => pageReset p (w % 0x1000)
  | none => 0

end Sys2Proof.Machine
end

