-- ==== Sys2Proof/Machine/SMap.lean ====
section
/-!
DEFINITION. Sparse tables: a list of (key, entry) pairs, in which a key that is not listed reads as a
default. Every table of State is one of these: the register window, main memory, the logical cores, the
stations. The canonical form has its keys strictly rising and lists no entry equal to the default, so that
two tables with the same content are the same list.
-/

namespace Sys2Proof.Machine

/-- A sparse table keyed by a natural number. -/
abbrev SMap (α : Type) := List (Nat × α)

/-- The entry listed for a key, if there is one. -/
def SMap.find? {α : Type} : SMap α → Nat → Option α
  | [], _ => none
  | (j, v) :: rest, k => if j = k then some v else SMap.find? rest k

/-- What the table reads as at a key: the listed entry, or the default. -/
def SMap.get {α : Type} (d : α) (m : SMap α) (k : Nat) : α :=
  match SMap.find? m k with
  | some v => v
  | none => d

/-- Lists `v` at `k`, at its place in the rising order of the keys. -/
def SMap.put {α : Type} : SMap α → Nat → α → SMap α
  | [], k, v => [(k, v)]
  | (j, w) :: rest, k, v =>
    if k < j then (k, v) :: (j, w) :: rest
    else if j = k then (k, v) :: rest
    else (j, w) :: SMap.put rest k v

/-- Unlists a key. -/
def SMap.erase {α : Type} (m : SMap α) (k : Nat) : SMap α :=
  m.filter (fun e => e.1 != k)

/-- Writes `v` at `k`, where `d` is what an unlisted `k` reads as: the table stays canonical. -/
def SMap.set {α : Type} [DecidableEq α] (d : α) (m : SMap α) (k : Nat) (v : α) : SMap α :=
  if v = d then SMap.erase m k else SMap.put m k v

/-- The canonical form: keys strictly rising, and no entry equal to the default of its key. -/
def SMap.canonical {α : Type} [DecidableEq α] (d : Nat → α) : SMap α → Bool
  | [] => true
  | [(k, v)] => decide (v ≠ d k)
  | (k, v) :: (j, w) :: rest => decide (v ≠ d k) && decide (k < j) && SMap.canonical d ((j, w) :: rest)

end Sys2Proof.Machine
end

