-- ==== Sys2Proof/Machine/State.lean ====
section
/-!
DEFINITION. The state of the module as plain data: the register window, memory and every piece of internal
state the manual gives a block, the reasons a step can stop, and the state after reset.
-/

namespace Sys2Proof.Machine

/-- Why the machine stops. -/
inductive Fault where
  /-- Raised by every command but POWER_ON while VDD_SVC is out of its range (R463): no block has power. Safe:
  the model stops where the module does nothing. -/
  | unpowered
  deriving DecidableEq, Repr

/-- Why the model gives a command no next state. -/
inductive Refusal where
  /-- Raised by exec for a row that has no meaning yet. Safe. -/
  | notModelled (mnemonic : String)
  /-- Raised by a meaning whose event the manual rules out in the present state, such as the wake of a spare
  when no sparing is in progress. Safe: the hardware never shows the event there. -/
  | cannotOccur (mnemonic : String)
  deriving DecidableEq, Repr

/-! ## Event recorder and time of day (*Event Recorder*) -/

/-- A Crumb as submitted, with the time of its event (R446, R447, R452). -/
structure Crumb where
  code : Nat
  sev : Nat
  zone : Option Nat
  injected : Bool
  srcType : Nat
  srcInst : Nat
  payload : List Word
  seconds : Nat
  nanos : Nat
  leap : Bool
  steered : Bool
  tb : Word
  deriving DecidableEq, Repr

/-- A record of the recorder SRAM: a Crumb with its SEQ, REPEAT and LAST_TB (Table 20.1). -/
structure Record where
  crumb : Crumb
  seq : Nat
  repeats : Nat
  lastTb : Word
  deriving DecidableEq, Repr

/-- A token bucket of RECMODE 1 (R451). -/
structure Bucket where
  code : Nat
  tokens : Nat
  suppressed : Nat
  deriving DecidableEq, Repr

/-- The recorder beyond its registers: SRAM, input queue, drop and bucket state, read snapshot. -/
structure Recorder where
  records : SMap Record := []
  queue : List Crumb := []
  nextSeq : Nat := 1
  drops : Nat := 0
  dropSeq : Nat := 0
  buckets : List Bucket := []
  snapshot : List Word := []
  deriving DecidableEq, Repr

/-- The time-of-day clock and its steering (R452 to R455). `frac` is the fractional accumulator, in units of
10^-8 ns; `rate` the rate correction in parts per billion; `sinceEdge` counts time-base steps since the last PPS edge. -/
structure Tod where
  seconds : Nat := 0
  nanos : Nat := 0
  frac : Int := 0
  rate : Int := 0
  leap : Bool := false
  setAtPps : Bool := false
  leapArmed : Option Bool := none
  goodEdges : Nat := 0
  sinceEdge : Nat := 0
  deriving DecidableEq, Repr

/-! ## Interrupt controller -/

/-- An interrupt source: word 0 of its entry, the fields of word 1, and its moderation (R412 to R415).
`lastTaken` is the TIMEBASE at which it was last taken; `offerable` is set once R415 has ended its moderation;
`order` is its place in the order in which sources became offerable (R420). -/
structure IcSource where
  word0 : Word := 0
  pend : Bool := false
  active : Bool := false
  events : Nat := 0
  evkind : Nat := 0
  lastTaken : Option Word := none
  offerable : Bool := false
  order : Nat := 0
  deriving DecidableEq, Repr

/-! ## Logical cores -/

/-- The architected state of Table 3.1 and the special registers that a logical core holds itself. -/
structure Arch where
  g : SMap Word := []
  f : SMap Word := []
  acc : SMap (BitVec 128) := []
  pc : Word := 0
  sr : SMap Word := []
  deriving DecidableEq, Repr

/-- Where a store goes once it leaves the store buffer: a line the tile wins, the home, a register page, a PCI Express
window, nowhere; `bulk` is a ZERO.L under MNT_FORM = 2 (R210). -/
inductive StoreKind where
  | cached | uncached | bulk | register | window | lost
  deriving DecidableEq, Repr

/-- A store that has retired: its physical address, bytes, issuing level and zone (R168, R141). A store of kind
`lost` found no target. -/
structure Store where
  kind : StoreKind
  addr : Nat
  data : List Byte
  level : Nat
  zone : Nat
  deriving DecidableEq, Repr

/-- A TLB entry of a logical core (R165): its tags, the page it maps, and both leaves. -/
structure TlbEntry where
  zone : Nat
  vmid : Nat
  asid : Option Nat
  stage1 : Bool
  size : Nat
  va : Nat
  gpaSize : Nat
  gpa : Nat
  leaf1 : Option Word
  leaf2 : Option Word
  pa : Nat
  deriving DecidableEq, Repr

/-- An open transaction (R183 to R196). `saved` is the state recorded at the outermost TBEGIN; `lines` lists
the distinct lines touched, oldest first, with whether each was written; `gather` the listed lines an escalated
attempt has still to win and `won` those it has won. -/
structure Tx where
  bounded : Bool
  escal : Bool
  handler : Word
  begun : Word
  saved : Arch
  retired : Nat := 0
  reads : List Nat := []
  writes : List Nat := []
  wdata : SMap Byte := []
  lines : List (Nat × Bool) := []
  homes : List Nat := []
  pages : List TlbEntry := []
  gather : List (Nat × Bool) := []
  won : List (Nat × Bool) := []
  deriving DecidableEq, Repr

/-- An access made once on behalf of the position that has not committed, with its response (R248, R253): its kind is
0 a register load, 1 an uncached load, 2 an uncached CAS, 3 a device load, 4 a device CAS, 5 a device fetch. The
value is none where the response was poisoned. -/
structure Replay where
  addr : Nat
  size : Nat
  kind : Nat
  value : Option Nat
  deriving DecidableEq, Repr

/-- An exception: vector, DETAIL, STAGE2 and WRITE of ESTAT, and EADDR where Table 6.2 writes it. -/
structure Exc where
  vec : Nat
  detail : Nat := 0
  stage2 : Bool := false
  write : Bool := false
  eaddr : Option Word := none
  deriving DecidableEq, Repr

/-- An exception with the EPC and the PARCEL that it reports. -/
structure Taken where
  exc : Exc
  epc : Word
  parcel : Nat
  deriving DecidableEq, Repr

/-- A logical core beyond the registers of its position. `wafer` is its committed state (R250); `fresh` and
`group` are the stores and the number of instructions of the group that has not committed; `stores` is the
store buffer, oldest first; `lastTb` the last TBEGINB and the lines its attempt touched (R196); `mc` holds the
pending asynchronous Machine Checks (DETAIL, EADDR), oldest first; `ase` tells that an Asynchronous Store Error is
pending (R143); `sel` is the power state that the last WAIT selected (R429); `stepPending` tells that Debug Step
is due (R139); `haltDue` that a debug halt waits for a boundary, and `stepGrant` that a halted core may retire one
instruction (R475); `devLoad` is an access that waits on a PCI Express device (address, size, kind of Replay); `owed` an exception
that is taken at the boundary that the abort of a transaction created (R191). -/
structure LCore where
  arch : Arch := {}
  wafer : Arch := {}
  started : Bool := false
  waiting : Bool := false
  held : Bool := false
  halted : Bool := false
  stopped : Bool := false
  group : Nat := 0
  fresh : List Store := []
  stores : List Store := []
  replay : List Replay := []
  mc : List (Nat × Word) := []
  ase : Bool := false
  sel : Nat := 0
  haltDue : Bool := false
  stepGrant : Bool := false
  stepPending : Bool := false
  tx : Option Tx := none
  lastTb : Option (Word × List (Nat × Bool)) := none
  homeTile : Nat := 0
  tlb : List TlbEntry := []
  icStack : List (Nat × Nat) := []
  devLoad : Option (Nat × Nat × Nat) := none
  owed : Option Taken := none
  deriving DecidableEq, Repr

/-! ## Positions -/

/-- An open check event of a position (R254), or of one pipeline of a split position: the code that opened it,
the self-checks that fired, retries used, groups committed since the last restart, whether the restart is still
to come, and whether sparing has been decided. -/
structure CheckEvent where
  source : Nat
  selfLead : Bool
  selfTrail : Bool
  retries : Nat
  clean : Nat
  frozen : Bool
  injected : Bool
  lost : Bool
  deriving DecidableEq, Repr

/-- A sparing that has been decided (R257, Table 11.5): the failing position and pipeline, the logical core, the
TIMEBASE of the decision, whether a checker fault decided it, the spare position and pipeline once chosen, and the
steps done. -/
structure Sparing where
  position : Nat
  pipe : Nat
  core : Nat
  since : Word
  checker : Bool
  spare : Option (Nat × Nat)
  woken : Bool
  drained : Bool
  moved : Bool
  deriving DecidableEq, Repr

/-- A position beyond its registers: the check event of each pipeline (pipeline 0 in checked mode) and whether
each pipeline is in the spare pool; `failed` marks a position that has failed (R9, R11). -/
structure Pos where
  event0 : Option CheckEvent := none
  event1 : Option CheckEvent := none
  pool0 : Bool := false
  pool1 : Bool := false
  failed : Bool := false
  deriving DecidableEq, Repr

/-! ## Power -/

/-- A tile rail's slew track (R435, R438): the TAG of its last message, the intervals reserved, and the announced
rises with the times at which their ramps begin. Times are in ns of the time base. -/
structure Rail where
  tag : Nat := 0
  slots : List (Nat × Nat) := []
  rises : List (Nat × Nat) := []
  deriving DecidableEq, Repr

/-- The power controller beyond its registers: the tile rails, the time at which the Load Forecast link is free,
the last message driven on it, and the tiles in Tile Deep with an L3 bank raised (R425). -/
structure Power where
  rails : SMap Rail := []
  linkFree : Nat := 0
  sent : Nat := 0
  raised : List Nat := []
  deriving DecidableEq, Repr

/-! ## Caches, coherence and the fabric -/

/-- The states of Table 10.1. -/
inductive LineState where
  | i | s | f | e | m
  deriving DecidableEq, Repr

/-- A coherence message (Table 10.3) with the data and byte mask it carries, and the offset, size, compare value
and new value of a CAS. `tile` names the tile that a forward of the module's own home goes to. -/
structure Msg where
  cls : Nat
  code : Nat
  dest : Nat
  src : Nat
  agent : Nat
  txn : Nat
  line : Nat
  tx : Bool := false
  esc : Bool := false
  poison : Bool := false
  reissue : Bool := false
  ext : Nat := 0
  dztv : Bool := false
  data : List Byte := []
  mask : Nat := 0
  cas : Option (Nat × Nat × Nat × Nat) := none
  tile : Option Nat := none
  deriving DecidableEq, Repr

/-- A line held in a tile, as the tile directory records it: its state, data and poison, and the caches that
hold it, each with its way (cache i below 10 is the L2 of the tile's position i; 10 is the L3). -/
structure TileLine where
  st : LineState
  data : List Byte
  poison : Bool
  places : List (Nat × Nat)
  deriving DecidableEq, Repr

/-- A line won and held (R223), with the forwards that wait for the end of the hold (R224). -/
structure Hold where
  line : Nat
  esc : Bool
  waiting : List Msg
  deriving DecidableEq, Repr

/-- A line that the home is busy with: the request, how many answers are due, and whether the request conflicts with what
a reservation of the line protects (R229). -/
structure BusyLine where
  line : Nat
  req : Msg
  due : Nat
  conflict : Bool := false
  deriving DecidableEq, Repr

/-- A job of a tile's range engine: OWNER of Table 9.5; for a disable flush or a way drain the cache and the ways
it empties; whether a software operation is to stop (R212), and its operation, scope, ALL, first line and lines as they were
read at GO (R201). -/
structure RangeJob where
  owner : Nat
  cache : Nat
  ways : Nat
  abort : Bool
  op : Nat := 0
  scope : Nat := 0
  all : Bool := false
  base : Nat := 0
  lines : Nat := 0
  deriving DecidableEq, Repr

/-- The caches of a tile: its lines, its eviction buffer (R217), its holds, and its range engine's jobs (the first is the one
in progress), and the way masks in effect where they differ from their reset values (R202); `ordering` is the tile's ordering
queue, oldest first, each store with its logical core (R168). -/
structure Tile where
  lines : SMap TileLine := []
  evicting : SMap TileLine := []
  holds : List Hold := []
  jobs : List RangeJob := []
  ways : SMap Nat := []
  ordering : List (Nat × Store) := []
  deriving DecidableEq, Repr

/-- A request of one of the module's agents that has not been answered in full. `won` tells that its data or
grant has arrived; `result` is the answer to a read-once or CAS request; `refused` is 1 for a refusal under R164,
2 for no target, 3 for a fabric timeout. -/
structure Outstanding where
  req : Msg
  core : Option Nat
  cache : Nat
  won : Bool
  state : LineState
  data : List Byte
  poison : Bool
  acksDue : Nat
  acks : Nat
  result : Option (List Byte)
  refused : Nat
  deriving DecidableEq, Repr

/-- A home directory entry (Table 10.5). SHARERS is kept as a mask by member number; `used` orders its uses. -/
structure DirEntry where
  st : Nat
  who : Nat
  sharers : Nat
  resv : Option Nat
  used : Nat
  deriving DecidableEq, Repr

/-- A mark of the transaction mark table (R228). -/
structure Mark where
  line : Nat
  core : Nat
  epoch : Nat
  deriving DecidableEq, Repr

/-- The home agent (R225 to R231): the directory by line, the request each busy line is busy with, the requests
that wait, the directory eviction buffers (line, answers due), set recalls (set, answers due), marks (oldest
first), transaction epochs by core of the domain, the members whose loss has been handled, and the lines written
back that wait for their stripe partner (R485). -/
structure Home where
  dir : SMap DirEntry := []
  busy : List BusyLine := []
  queue : List Msg := []
  evicting : List (Nat × Nat) := []
  recalls : List (Nat × Nat) := []
  marks : List Mark := []
  epochs : SMap Nat := []
  uses : Nat := 0
  lost : Nat := 0
  partnerWait : List Nat := []
  deriving DecidableEq, Repr

/-- A fabric port's link layer (R235): the next SEQ, the frames kept for replay (one message each),
the last SEQ received in order, the successive NAKs of one frame, whether a NAK is due to the peer, the bytes of
a message that continues into the next frame, and the credits by class and virtual channel (R220). -/
structure FabPort where
  nextSeq : Nat := 0
  replay : List (Nat × Msg) := []
  lastRx : Nat := 4095
  naks : Nat := 0
  nakDue : Bool := false
  partialRx : List Byte := []
  credits : SMap Nat := []
  deriving DecidableEq, Repr

/-- A translation of the I/O TLB (R167). -/
structure IoTlbEntry where
  zone : Nat
  iova : Nat
  size : Nat
  leaf : Word
  deriving DecidableEq, Repr

/-! ## Cipher engine -/

/-- A key slot (R363, R364): its words while loaded, LEN, USE, generation, whether it is the upper half of an
XTS pair, and how many requests use it. -/
structure KeySlot where
  words : List Word := []
  len : Nat := 0
  use : Nat := 0
  upper : Bool := false
  gen : Nat := 0
  uses : Nat := 0
  deriving DecidableEq, Repr

/-- A key load buffer (R365, R366): the key words received, and whether a KEY_SEL has been accepted. -/
structure KeyLoad where
  words : List Word := []
  selected : Bool := false
  deriving DecidableEq, Repr

/-! ## Ehrold service engine -/

/-- A recovery that MODE_STAT.RECOVERY reports (R462): the sparing of a position, an engine gap, an E12 engine
recovery, the reroute after the loss of a fabric port, the recall of a home set, the rebuild of a group. -/
inductive Recovery where
  | sparing (position : Nat)
  | engineGap
  | engineRecovery
  | reroute (port : Nat)
  | setRecall (set : Nat)
  | rebuild (group : Nat)
  deriving DecidableEq, Repr

/-- The ESE beyond its registers: the event queue (source and TIMEBASE of each entry, oldest first), the
recoveries in progress, whether the module is in Quiesce, whether it started short of cores (R9), and whether a
paired module runs on one channel engine because it lost the other (R23); a QUIESCE whose steps have not ended (R473);
a reset in progress, whether Secure Boot follows it, whether it is a warm one (R464, R465); SYS_RST_N held low and
TEST_EN high; the rails raised, the root PLL locked, the reference present, VDD_SVC in range; THERMTRIP_N asserted;
the IEEE 1149.1 instruction in effect; by offset, the data and status of the word that an unfinished service port READ
holds, and the bytes that the last service port or SMBus transaction returned (R477, R479). -/
structure Ese where
  queue : List (Nat × Nat) := []
  recoveries : List Recovery := []
  inQuiesce : Bool := false
  shortStart : Bool := false
  oneEngine : Bool := false
  quiescing : Bool := false
  quiesceBegan : Bool := false
  resetting : Bool := false
  bootNext : Bool := false
  warm : Bool := false
  resetLow : Bool := false
  testEn : Bool := false
  rails : Nat := 0
  pllLocked : Bool := false
  reference : Bool := true
  vdd : Bool := true
  thermtrip : Bool := false
  jtag : Nat := 1
  spiHeld : SMap (Word × Nat) := []
  spiOut : List Byte := []
  deriving DecidableEq, Repr

/-! ## Channel ports (*Channel Port Link Protocol*) -/

/-- A channel frame: the header of Table 14.1, but for what the link layer fills in on sending, and the payload. -/
structure Frame where
  typ : Nat
  flags : Nat := 0
  partner : Nat := 0
  station : Nat := 0
  seq : Nat := 0
  ack : Nat := 0
  xid : Nat := 0
  crlim : Nat := 0
  xoff : Nat := 0
  cidx : Nat := 0
  payload : List Byte := []
  deriving DecidableEq, Repr

/-- The login of a partner address (R330, R331): STATE of LG_STAT, LOGINs sent without an answer, RESULT, the agreed
MAXPAY, the unit identity. -/
structure Login where
  state : Nat := 1
  tries : Nat := 0
  result : Nat := 0
  maxpay : Nat := 0
  unit : Word := 0
  deriving DecidableEq, Repr

/-- A channel port's link layer (R322 to R330): the next SEQ; the frames kept until an ACK covers them, with how
often each was sent; the frames that wait for credit; the last SEQ received in order; the frames held beyond a gap;
the sequenced frames delivered and not yet taken, and the unsequenced ones; the peer's CRLIM; whether an INIT_ACK
has been sent and received; successive starts that failed; the lanes of the next training; CP_CMD.DOWN; whether the
link is lost and R328 is still to act; whether an LSTAT is due; the logins by partner address; and the frame driven
last. -/
structure CPort where
  nextSeq : Nat := 1
  unacked : List (Frame × Nat) := []
  outq : List Frame := []
  ack : Nat := 0
  held : List Frame := []
  inbox : List Frame := []
  now : List Frame := []
  limit : Nat := 0
  sentAck : Bool := false
  gotAck : Bool := false
  starts : Nat := 0
  lanes : Nat := 3
  down : Bool := false
  lossDue : Bool := false
  ackDue : Bool := false
  logins : SMap Login := []
  sent : Option Frame := none
  deriving DecidableEq, Repr

/-! ## Stations and rings (*Channel Subsystem*) -/

/-- A transform descriptor of a START (Table 13.7) with the fields of its parameter block; the segments or data units
begun, the bytes that a CTR or XTS stream has passed, NEXT_IV once a block has been formed, the compression stream,
whether ZSTATE has been looked at, the unit that serves the stream (compressors 0 to 7, decompressors 8 to 15), and
whether it is parked. -/
structure Transform where
  kind : Nat
  slot : Nat
  cmode : Nat
  zparm : Nat
  cparam : Nat
  zstate : Nat
  iv : List Byte := []
  taglen : Nat := 0
  seglog : Nat := 0
  dulog : Nat := 0
  segs : Nat := 0
  next : Option (List Byte) := none
  stream : Option ZState := none
  opened : Bool := false
  unit : Option Nat := none
  parked : Bool := false
  deriving DecidableEq, Repr

/-- The completion of a request, as a status block (Table 13.8) with whether INT was set, and the station that its
writing leaves IDLE. -/
structure Completion where
  op : Nat
  status : Nat
  station : Nat
  errinfo : Nat := 0
  path : Nat := 0
  redrives : Nat := 0
  dstat : Nat := 0
  tag : Word := 0
  lastSe : Nat := 0
  residual : Nat := 0
  overrun : Bool := false
  suppressed : Bool := false
  lineBytes : Nat := 0
  xid : Nat := 0
  info : Word := 0
  state : Nat := 0
  intr : Bool := false
  idles : Option Nat := none
  deriving DecidableEq, Repr

/-- A HALT that waits for its station to reach IDLE: ring, TAG, INT. -/
structure Halt where
  ring : Nat
  tag : Word
  intr : Bool
  deriving DecidableEq, Repr

/-- A START from its acceptance to its completion (R295 to R313). `zone` is none on the firmware ring; `zpas` the
physical addresses of its stream state blocks, and `waits` that one of them is in use (R397); `port` the path in use,
`lost` the paths lost; `resume` counts the repeats of an unanswered RESUME; `se`, `word` and `addr` are the script
entry in progress; `due` that the next entry is to be sent; `link`, `total`, `sent` and `acked` the outbound data of
the command and how much of it is sent and acknowledged; `rxoff`, `rxbuf` and `done` the inbound link bytes in order,
those that wait for a transform, and the memory-side bytes; `results` the outcome of its cipher units in order, `given`
how many of them have been passed on; `places` the memory of the command's data (IOVA, length); `ended` that its data has ended, `over` that more than COUNT was offered, `status` a device
status that waits for the data; `ending` the status, ERRINFO and address of a request in HALTING; `closing` that its
completion has been handed to the ring. -/
structure Request where
  ring : Nat
  zone : Option Nat
  intr : Bool
  tag : Word
  tmo : Nat
  script : Nat
  xforms : List Transform := []
  zpas : List Nat := []
  waits : Bool := false
  xid : Nat := 0
  heard : Bool := false
  port : Option Nat := none
  lastPort : Nat := 0
  lost : List Nat := []
  resume : Option Nat := none
  se : Nat := 0
  word : Nat := 0
  addr : Nat := 0
  due : Bool := false
  cidx : Nat := 0
  commands : Nat := 0
  redrives : Nat := 0
  dstat : Nat := 0
  lineBytes : Nat := 0
  link : List Byte := []
  total : Nat := 0
  sent : Nat := 0
  acked : Nat := 0
  rxoff : Nat := 0
  rxbuf : List Byte := []
  done : Nat := 0
  results : List (Option (List Byte)) := []
  given : Nat := 0
  places : List (Nat × Nat) := []
  ended : Bool := false
  tooLong : Bool := false
  status : Option (Nat × Nat) := none
  retries : Nat := 0
  overrun : Bool := false
  suppressed : Bool := false
  ending : Option (Nat × Nat × Word) := none
  closing : Bool := false
  deriving DecidableEq, Repr

/-- A station (R310): 0 IDLE, 1 PENDING, 2 ACTIVE, 3 HALTING; its START; the HALTs that wait for IDLE; and an
unsolicited status held, with its port (R309). -/
structure Station where
  state : Nat := 0
  req : Option Request := none
  halts : List Halt := []
  unsol : Option (Nat × Nat) := none
  deriving DecidableEq, Repr

/-- A channel ring pair (R289 to R294), 0 to 1,023 by global number and 1,024 the firmware ring: SUB_CONS, CMP_PROD,
the reserved completion slots, the producer index, the copy of the control record's software part, error state, and
the completions held while in error; `stalled` that an entry waits for a slot or a station. -/
structure Ring where
  cons : Nat := 0
  prod : Nat := 0
  reserved : Nat := 0
  target : Nat := 0
  cmpCons : Nat := 0
  irq : Nat := 0
  irqEn : Bool := false
  resetGen : Nat := 0
  resetSeen : Nat := 0
  error : Bool := false
  cause : Nat := 0
  stalled : Bool := false
  held : List Completion := []
  deriving DecidableEq, Repr

/-- The channel subsystem beyond its registers: ports, stations, rings, path table entries by port × 65,536 +
station, the last XID, the XIDs abandoned under R335 with their stations, oldest first, and the doorbells that wait
for an engine (R352): ring and value. -/
structure Css where
  ports : SMap CPort := []
  stations : SMap Station := []
  rings : SMap Ring := []
  paths : SMap Word := []
  lastXid : Nat := 0
  abandoned : List (Nat × Nat) := []
  doorbells : List (Nat × Nat) := []
  deriving DecidableEq, Repr

/-! ## The engine pair (*Channel Engine Pair and Lossless Switch-over*) -/

/-- A copy of an output held at a receiver: its engine, OSEQ, content and engine cycle. -/
structure Copy where
  engine : Nat
  oseq : Nat
  data : Word
  cycle : Nat
  deriving DecidableEq, Repr

/-- A receiver (R343, R348 to R350): NEXT, the copies held, the content delivered last, its own copy of holder and
epoch, whether its lease is unexpired and the TIMEBASE of its last renewal, whether it has acknowledged REVOKE, and a
GRANT kept pending. -/
structure Receiver where
  next : Nat := 0
  held : List Copy := []
  delivered : Word := 0
  holder : Nat := 0
  epoch : Nat := 0
  lease : Bool := false
  renewed : Word := 0
  revoked : Bool := false
  grant : Option (Nat × Nat) := none
  deriving DecidableEq, Repr

/-- A retry event of a cycle (R345): cause, receiver, the engines whose self-checks fired, whether it was injected,
whether the retry has been ordered, and whether a second event has followed on the same cycle. -/
structure PairEvent where
  cause : Nat
  receiver : Nat
  cycle : Nat
  selfA : Bool := false
  selfB : Bool := false
  injected : Bool := false
  retried : Bool := false
  second : Bool := false
  deriving DecidableEq, Repr

/-- The pair controller: the engine cycle, the event that is open, the engine that a pass makes holder with the
receivers that have not acknowledged REVOKE, the counting of R356, the engine under repair, and the time base at which
the copy of state lines in progress began (R353, R354). -/
structure Pair where
  cycle : Nat := 0
  event : Option PairEvent := none
  pass : Option (Nat × List Nat) := none
  receivers : SMap Receiver := []
  repairing : Option Nat := none
  copyFrom : Word := 0
  deriving DecidableEq, Repr

/-! ## Cipher and compression rings (*Cipher Engine*, *Compression Engine*) -/

/-- A descriptor ring (R375, R400), number 8 × zone + ring, 2,048 the firmware ring: CONS, the descriptors taken, the
producer index, the software part of the control record, and error state. -/
structure DRing where
  cons : Nat := 0
  taken : Nat := 0
  target : Nat := 0
  irq : Nat := 0
  irqEn : Bool := false
  resetGen : Nat := 0
  resetSeen : Nat := 0
  error : Bool := false
  cause : Nat := 0
  deriving DecidableEq, Repr

/-- A cipher descriptor job (R376 to R380): ring, index, zone; words 0 to 5 of the descriptor; the fields of its
parameter block; the units it is cut into, how many have been queued and ended, the bytes written; NEXT_IV; the first
tag of a two-pass job; STATUS once it has ended, with RESULT; whether the ring was reset past it. -/
structure CJob where
  ring : Nat
  index : Nat
  zone : Option Nat
  words : List Nat
  iv : List Byte := []
  aad : Nat := 0
  aadLen : Nat := 0
  taglen : Nat := 0
  seglog : Nat := 0
  dulog : Nat := 0
  tag : Nat := 0
  units : Nat := 0
  ended : Nat := 0
  written : Nat := 0
  next : Option (List Byte) := none
  status : Nat := 0
  result : Nat := 0
  orphan : Bool := false
  deriving DecidableEq, Repr

/-- A unit of cipher work (R380): an inline unit of a station, with its input, or unit `index` of a descriptor job.
`last` marks the last segment of a message, `enc` the direction, `iv` the IV, counter block or tweak it starts from. -/
structure CUnit where
  inline : Bool
  owner : Nat
  job : Nat
  index : Nat
  input : List Byte := []
  iv : List Byte := []
  last : Bool := false
  deriving DecidableEq, Repr

/-- A cipher pipeline: the unit it holds, the plaintext in its release buffer, whether its tag was right, the tag of a
verify pass, whether it zeroizes its buffer. -/
structure CPipe where
  unit : Option CUnit := none
  plain : List Byte := []
  tagOk : Bool := false
  verify : Option (List Byte) := none
  zeroizing : Bool := false
  deriving DecidableEq, Repr

/-- A compression descriptor job (R400 to R402): ring, index, zone, words 0 to 5; the physical address of its ZSTATE;
its supplied table; its unit; its stream, the block to save, and what its status word will hold. `phase` is 0 waiting
for the state block (R397), 1 restoring, 2 saving, 3 done, 4 to run again (R405). -/
structure ZJob where
  ring : Nat
  index : Nat
  zone : Option Nat
  words : List Nat
  zpa : Option Nat := none
  table : List Byte := []
  unit : Option Nat := none
  phase : Nat := 0
  stream : Option ZState := none
  save : Option (List Byte) := none
  status : Nat := 0
  outLen : Nat := 0
  flags : Nat := 0
  result : Word := 0
  orphan : Bool := false
  deriving DecidableEq, Repr

/-! ## Microcode (*Microcode Sequencers, Nano-Store and Patches*) -/

/-- The sequencer of one copy of a store (R274 to R280): its µPC, micro-stack (top first), whether it waits on the
microword at µPC, TIMED_OUT, whether a fault has stopped it, and the CONTROL of the nano-word it issued last. -/
structure UcodeSeq where
  upc : Nat := 0
  stack : List Nat := []
  waiting : Bool := true
  timedOut : Bool := false
  stopped : Bool := false
  control : Nat := 0
  deriving DecidableEq, Repr

/-- The words of a store: microwords (32 bits) and nano-words (256 bits) by index. -/
structure UcodeImage where
  micro : SMap Nat := []
  nano : SMap Nat := []
  deriving DecidableEq, Repr

/-- A microcode store: the image in force, the image being applied with its versions and digest, the copies that
hold the new image already (R285), and the sequencers by copy. -/
structure Ucode where
  image : UcodeImage := {}
  next : UcodeImage := {}
  version : Word := 0
  digest : Word := 0
  switched : List Nat := []
  seqs : SMap UcodeSeq := []
  deriving DecidableEq, Repr

/-! ## The module -/

/-- The state of the module. -/
structure State where
  /-- VDD_SVC is in range and the ESE has passed its ROM self-check (R463). -/
  powered : Bool
  /-- The register window: (window offset, 64-bit word), canonical over `resetOf`. -/
  regs : SMap Word
  /-- Main memory by local byte address (Table 2.1), canonical over 0 (R494). -/
  mem : List Host.Cell
  /-- The count of 10 ns time-base steps (R525). -/
  timebase : Word
  recorder : Recorder
  tod : Tod
  /-- Sources of the interrupt controller by number. -/
  ic : SMap IcSource
  /-- Logical cores by number. -/
  cores : SMap LCore
  /-- Positions by number. -/
  positions : SMap Pos
  /-- The sparings decided, oldest first; the first is in progress. -/
  sparings : List Sparing
  power : Power
  /-- Tiles by number. -/
  tiles : SMap Tile
  home : Home
  fports : SMap FabPort
  /-- Messages accepted from the fabric: class, code, source, agent, identity (R239). -/
  accepted : List (Nat × Nat × Nat × Nat × Nat)
  requests : List Outstanding
  /-- The next transaction identity of the module's requests. -/
  txn : Nat
  ioTlb : List IoTlbEntry
  /-- Key slots by number. -/
  keys : SMap KeySlot
  /-- Key load buffers by zone; 256 is that of the global page. -/
  keyLoads : SMap KeyLoad
  /-- Lines of main memory that carry the poison pattern (R487), by local line number. -/
  poison : SMap Bool
  css : Css
  pair : Pair
  /-- Cipher descriptor rings, the jobs in progress (oldest first), the units that wait, the pipelines. -/
  cRings : SMap DRing
  cJobs : List CJob
  cUnits : List CUnit
  cPipes : SMap CPipe
  /-- Compression descriptor rings and the jobs in progress. -/
  zRings : SMap DRing
  zJobs : List ZJob
  ese : Ese
  /-- Microcode stores by number. -/
  ucode : SMap Ucode
  /-- The staging buffer of the microcode windows (R282). -/
  staging : List Byte
  /-- The boot flash on the board: its bytes and its size. -/
  flash : SMap Byte
  flashSize : Nat
  /-- The stripe that each group's scrubber reads next (R488). -/
  scrub : SMap Nat
  /-- Bytes written in the configuration space of the root port functions: function 4 × port + link, 4 KiB each. -/
  pcie : SMap Byte
  /-- How many sources have become offerable (R420). -/
  icOrder : Nat
  /-- How many free values have been drawn. The model's own field. -/
  freeCtr : Nat
  /-- Commands that wait, first in first out. The model's own field. -/
  pending : List Instr
  deriving DecidableEq, Repr

/-- The module right after its power-on reset: Service Standby, with the zero-fill of the recorder running (R456,
R463). -/
def State.reset : State where
  powered := true
  regs := [(0x20048, 0x40000)]
  mem := []
  timebase := 0
  recorder := {}
  tod := {}
  ic := []
  cores := []
  positions := []
  sparings := []
  power := {}
  tiles := []
  home := {}
  fports := []
  accepted := []
  requests := []
  txn := 0
  ioTlb := []
  keys := []
  keyLoads := []
  poison := []
  css := {}
  pair := {}
  cRings := []
  cJobs := []
  cUnits := []
  cPipes := []
  zRings := []
  zJobs := []
  ese := {}
  ucode := []
  staging := []
  flash := []
  flashSize := 0
  scrub := []
  pcie := []
  icOrder := 0
  freeCtr := 0
  pending := []

end Sys2Proof.Machine
end

