-- ==== Sys2Proof/Machine/Ops.lean ====
section
/-!
DEFINITION. The operations every chapter shares: registers and their fields, Crumbs, block errors, interrupt
sources, the operating mode, memory bytes, free values, and the shape of a command's outcome.
-/

namespace Sys2Proof.Machine

/-! ## Outcomes -/

/-- The outcome of a command whose event the state allows (`ok`) or rules out. -/
def event (m : String) (ok : Bool) (s t : State) : Host.Outcome State Fault Refusal :=
  if s.powered then if ok then .next t else .refused (.cannotOccur m) else .fault .unpowered

/-! ## Registers -/

/-- A register of the window, by window offset. -/
def State.reg (s : State) (w : Nat) : Word := SMap.get (resetOf w) s.regs w

/-- Writes a register of the window. -/
def State.setReg (s : State) (w : Nat) (v : Word) : State :=
  { s with regs := SMap.set (resetOf w) s.regs w v }

/-- A field of a register of the page at window offset `b` (for element i of an array, `b + 8 i`). -/
def State.fld (s : State) (b : Nat) (f : Fld) : Nat := bits (s.reg (b + f.off)) f.lo f.width

/-- Writes a field, and leaves the register's other bits as they are. -/
def State.setFld (s : State) (b : Nat) (f : Fld) (n : Nat) : State :=
  s.setReg (b + f.off) (putBits (s.reg (b + f.off)) f.lo f.width n)

/-- A one-bit field as a truth value. -/
def State.flag (s : State) (b : Nat) (f : Fld) : Bool := s.fld b f == 1

/-- Writes a one-bit field. -/
def State.setFlag (s : State) (b : Nat) (f : Fld) (v : Bool) : State := s.setFld b f (b2n v)

/-- Adds to a counter field, which saturates. -/
def State.count (s : State) (b : Nat) (f : Fld) (k : Nat := 1) : State :=
  s.setFld b f (satAdd f.width (s.fld b f) k)

/-! ## Page offsets -/

def bIdent : Nat := Page.base ⟨.ident, 0⟩
def bEse : Nat := Page.base ⟨.ese, 0⟩
def bPwr : Nat := Page.base ⟨.pwr, 0⟩
def bTilePwr (t : Nat) : Nat := Page.base ⟨.tilePwr, t⟩
def bRec : Nat := Page.base ⟨.recorder, 0⟩
def bZctl : Nat := Page.base ⟨.zctl, 0⟩
def bPos (p : Nat) : Nat := Page.base ⟨.position, p⟩
def bL3 (t : Nat) : Nat := Page.base ⟨.l3, t⟩
def bTileDir (t : Nat) : Nat := Page.base ⟨.tileDir, t⟩
def bHome : Nat := Page.base ⟨.home, 0⟩
def bFport (f : Nat) : Nat := Page.base ⟨.fport, f⟩
def bMem : Nat := Page.base ⟨.memory, 0⟩
def bGroup (g : Nat) : Nat := Page.base ⟨.group, g⟩
def bChan (c : Nat) : Nat := Page.base ⟨.chan, c⟩
def bCss : Nat := Page.base ⟨.css, 0⟩
def bEng (e : Nat) : Nat := Page.base ⟨.eng, e⟩
def bCport (n : Nat) : Nat := Page.base ⟨.cport, n⟩
def bCipher : Nat := Page.base ⟨.cipher, 0⟩
def bCpipe (n : Nat) : Nat := Page.base ⟨.cpipe, n⟩
def bComp : Nat := Page.base ⟨.comp, 0⟩
def bIc : Nat := Page.base ⟨.icGlobal, 0⟩
def bIface (n : Nat) : Nat := Page.base ⟨.icIface, n⟩
def bRport (n : Nat) : Nat := Page.base ⟨.rport, n⟩
def bDoor (z : Nat) : Nat := Page.base ⟨.door, z⟩
def bUcode (u : Nat) : Nat := Page.base ⟨.ucode, u⟩

/-- Whether the unit behind a page is present (R3). -/
def State.present (s : State) (p : Page) : Bool := s.flag p.base F.PRESENT

/-- BLK_STAT.RUNNING of a page. -/
def State.running (s : State) (p : Page) : Bool := s.flag p.base F.RUNNING

/-- Whether the Glaze is set (R156). -/
def State.glazed (s : State) : Bool := s.flag bZctl F.ZT_STAT_GLAZED

/-- The operating mode (R460). -/
def State.mode (s : State) : Nat := s.fld bEse F.MODE_STAT_MODE

/-- MODE_STAT.BASE. -/
def State.modeBase (s : State) : Nat := s.fld bEse F.MODE_STAT_BASE

/-- BOOT_OPT.SPLIT: the module runs split cores. -/
def State.split (s : State) : Bool := s.flag bEse F.BOOT_OPT_SPLIT

/-- A rule that requires mode 4, 5 or 6 is met (R461). -/
def State.inService (s : State) : Bool :=
  decide (4 ≤ s.modeBase) && s.mode != 9 && s.mode != 10

/-! ## Zones and cores -/

/-- ZONE_ID of a logical core (Table 7.4, CORE_ZONE): its zone, or 0 while its entry is not valid. -/
def State.zoneOf (s : State) (core : Nat) : Nat :=
  let e := s.reg (0x31000 + 8 * core)
  if bit e 8 then bits e 0 8 else 0

/-- An owner entry of a table of 2-byte entries: the owning zone, or none (Table 7.4). -/
def State.ownerAt (s : State) (table i : Nat) : Option Nat :=
  let e := bits (s.reg (table + 8 * (i / 4))) (16 * (i % 4)) 16
  if e / 2 ^ 15 = 1 then some (e % 256) else none

/-- The owning zone of a station (STN_OWN). -/
def State.stationOwner (s : State) (i : Nat) : Option Nat := s.ownerAt 0x43000 i

/-- The owning zone of a key slot (KEY_OWN). -/
def State.keyOwner (s : State) (i : Nat) : Option Nat := s.ownerAt 0x63000 i

/-- The owning zone of an interrupt source (IRQ_OWN). -/
def State.irqOwner (s : State) (i : Nat) : Option Nat := s.ownerAt 0x65000 i

/-- The position that hosts a logical core (LCORE_MAP). -/
def State.posOf (s : State) (core : Nat) : Nat := s.fld (bIdent + 8 * core) F.LCORE_MAP_POSITION

/-- The pipeline that hosts a logical core (LCORE_MAP); 0 in checked mode. -/
def State.pipeOf (s : State) (core : Nat) : Nat := s.fld (bIdent + 8 * core) F.LCORE_MAP_PIPE

/-- LCORE_MAP[n].VALID: the logical core exists and is running. -/
def State.coreValid (s : State) (core : Nat) : Bool := s.flag (bIdent + 8 * core) F.LCORE_MAP_VALID

/-- The TILE_PSTATE field of a position. -/
def pstateFld (i : Nat) : Fld := { off := 0x050, lo := 3 * i, width := 3, acc := .ro, reset := 0 }

/-- The PIPE_DOZE bit of a pipeline of a position (split mode). -/
def pipeDozeFld (i pipe : Nat) : Fld := { off := 0x050, lo := 32 + 2 * i + pipe, width := 1, acc := .ro, reset := 0 }

/-- The power state of a position: 0 Run, 1 Doze, 2 Nap, 3 Sleep, 4 powered down (Table 19.7). -/
def State.pstate (s : State) (p : Nat) : Nat := s.fld (bTilePwr (p / 10)) (pstateFld (p % 10))

/-- Whether a logical core is in Doze or deeper (R415). -/
def State.coreDozing (s : State) (core : Nat) : Bool :=
  let p := s.posOf core
  decide (0 < s.pstate p) || s.flag (bTilePwr (p / 10)) (pipeDozeFld (p % 10) (s.pipeOf core))

/-! ## Free values -/

/-- A value the manual leaves open. -/
def State.freeVal (s : State) : Word := Config.freeWord s.freeCtr

/-- Moves on to the next free value. -/
def State.drawn (s : State) : State := { s with freeCtr := s.freeCtr + 1 }

/-! ## Interrupt sources (R414, R415) -/

/-- An interrupt source's entry. -/
def State.source (s : State) (n : Nat) : IcSource := SMap.get {} s.ic n

/-- Writes an interrupt source's entry. -/
def State.setSource (s : State) (n : Nat) (e : IcSource) : State := { s with ic := SMap.set {} s.ic n e }

def IcSource.target (e : IcSource) : Nat := bits e.word0 0 6
def IcSource.toEse (e : IcSource) : Bool := bit e.word0 6
def IcSource.enabled (e : IcSource) : Bool := bit e.word0 7
def IcSource.prio (e : IcSource) : Nat := bits e.word0 8 8
def IcSource.holdoff (e : IcSource) : Nat := bits e.word0 16 12
def IcSource.countField (e : IcSource) : Nat := bits e.word0 32 8

/-- The conditions of R415 under which a pending source becomes offerable now. -/
def State.moderationOver (s : State) (e : IcSource) : Bool :=
  e.holdoff == 0 ||
  (match e.lastTaken with
   | none => true
   | some t => decide (10 * e.holdoff ≤ (s.timebase - t).toNat)) ||
  (decide (2 ≤ e.countField) && decide (e.countField ≤ e.events)) ||
  (!e.toEse && s.coreDozing e.target)

/-- Marks a pending source offerable, at the end of the order of R420. -/
def State.makeOfferable (s : State) (n : Nat) : State :=
  let e := s.source n
  if e.offerable then s
  else { s.setSource n { e with offerable := true, order := s.icOrder } with icOrder := s.icOrder + 1 }

/-- A source becomes offerable when it is Pending and its moderation is over. -/
def State.checkModeration (s : State) (n : Nat) : State :=
  let e := s.source n
  if e.pend && !e.active && s.moderationOver e then s.makeOfferable n else s

/-- An event at a source: EVENTS counts it, the source moves as Table 18.5 gives, and its moderation is judged. -/
def State.sourceEvent (s : State) (n : Nat) : State :=
  let e := s.source n
  (s.setSource n { e with pend := true, events := satAdd 8 e.events 1 }).checkModeration n

/-! ## Block errors (R36) -/

/-- Sets bit `i` of BLK_ERR; a bit that goes from 0 to 1 unmasked raises the block's error source. -/
def State.raiseErr (s : State) (p : Page) (i : Nat) : State :=
  let e := s.reg (p.base + 0x020)
  if bit e i then s
  else
    let s1 := s.setReg (p.base + 0x020) (putBit e i true)
    if bit (s.reg (p.base + 0x028)) i then s1
    else
      match p.slot with
      | some k => s1.sourceEvent (0x1C00 + k)
      | none => s1

/-! ## Crumbs (R446 to R450) -/

/-- Puts a Crumb into the input queue. A full queue drops it, unless it is of SEV 5 and displaces the oldest
queued submission of lower SEV (R450). -/
def Recorder.submit (r : Recorder) (lastSeq : Nat) (c : Crumb) : Recorder × Bool :=
  if r.queue.length < 256 then ({ r with queue := r.queue ++ [c] }, false)
  else
    let r1 := { r with drops := r.drops + 1, dropSeq := if r.drops = 0 then lastSeq else r.dropSeq }
    match r.queue.findIdx? (fun q => decide (q.sev < 5)) with
    | some i => if c.sev = 5 then ({ r1 with queue := r.queue.eraseIdx i ++ [c] }, true) else (r1, true)
    | none => (r1, true)

/-- A Crumb stamped with the time of its event. -/
def State.stamp (s : State) (p : Page) (code sev : Nat) (payload : List Word) (zone : Option Nat)
    (injected : Bool) : Crumb :=
  { code := code, sev := sev, zone := zone, injected := injected, srcType := p.typ.code, srcInst := p.inst,
    payload := payload, seconds := s.tod.seconds, nanos := s.tod.nanos, leap := s.tod.leap,
    steered := s.flag bRec F.TOD_STAT_STEERED, tb := s.timebase }

/-- A block submits a Crumb. -/
def State.crumb (s : State) (p : Page) (code sev : Nat) (payload : List Word) (zone : Option Nat := none)
    (injected : Bool := false) : State :=
  let r := s.recorder.submit (s.fld bRec F.REC_HEAD_LAST_SEQ) (s.stamp p code sev payload zone injected)
  let s1 := { s with recorder := r.1 }
  if r.2 then (s1.count bRec F.REC_CNT_DROPPED).raiseErr ⟨.recorder, 0⟩ 8 else s1

/-- Sets core-event bits of a logical core and raises its core-event source (R262, R423): 1 SPARED, 2 STOPPED,
4 UNCHECKED. -/
def State.coreEvent (s : State) (core : Nat) (kind : Nat) : State :=
  let e := s.source (0x1E00 + core)
  (s.setSource (0x1E00 + core) { e with evkind := e.evkind ||| kind }).sourceEvent (0x1E00 + core)

/-- A block submits a Crumb whose SEV no rule gives. -/
def State.crumbOpen (s : State) (p : Page) (code : Nat) (payload : List Word) (zone : Option Nat := none)
    (injected : Bool := false) : State :=
  s.crumb p code (Config.crumbSev code p.typ.code).val payload zone injected

/-! ## Memory -/

/-- One byte of main memory. -/
def State.byte (s : State) (a : Nat) : Byte := SMap.get 0 s.mem a

/-- Writes one byte of main memory. -/
def State.setByte (s : State) (a : Nat) (b : Byte) : State := { s with mem := SMap.set 0 s.mem a b }

/-- `k` bytes of main memory from an address upward. -/
def State.readBytes (s : State) (a : Nat) : Nat → List Byte
  | 0 => []
  | k + 1 => s.byte a :: State.readBytes s (a + 1) k

/-- Writes bytes of main memory from an address upward. -/
def State.writeBytes (s : State) (a : Nat) : List Byte → State
  | [] => s
  | b :: rest => State.writeBytes (s.setByte a b) (a + 1) rest

/-- A little-endian number of `k` bytes of main memory. -/
def State.readNat (s : State) (a k : Nat) : Nat := leNat (s.readBytes a k)

/-- Writes a little-endian number of `k` bytes. -/
def State.writeNat (s : State) (a k n : Nat) : State := s.writeBytes a (leBytes k n)

/-- The canonical form of main memory. -/
abbrev Memory.wf (m : List Host.Cell) : Prop := SMap.canonical (fun _ => (0 : Byte)) m = true

/-- The canonical form of the register window. -/
abbrev Regs.wf (m : SMap Word) : Prop := SMap.canonical resetOf m = true

/-! ## The operating mode (R460 to R462) -/

/-- SEV of a mode-change Crumb (Table 20.6). -/
def modeSev (m : Nat) : Nat := if m = 6 then 4 else if m = 10 then 5 else 1

/-- Writes MODE_STAT; a change of MODE writes its Crumb. -/
def State.putMode (s : State) (mode base : Nat) : State :=
  let old := s.reg (bEse + F.MODE_STAT_MODE.off)
  let s1 := (s.setFld bEse F.MODE_STAT_MODE mode).setFld bEse F.MODE_STAT_BASE base
  if s.mode = mode then s1
  else s1.crumb ⟨.ese, 0⟩ (0x0200 + mode) (modeSev mode) [old, s1.reg (bEse + F.MODE_STAT_MODE.off)]

/-- A logical core's state. -/
def State.core (s : State) (n : Nat) : LCore := SMap.get {} s.cores n

/-- Writes a logical core's state. -/
def State.setCore (s : State) (n : Nat) (c : LCore) : State := { s with cores := SMap.set {} s.cores n c }

/-- A position's state. -/
def State.pos (s : State) (p : Nat) : Pos := SMap.get {} s.positions p

/-- Writes a position's state. -/
def State.setPos (s : State) (p : Nat) (x : Pos) : State := { s with positions := SMap.set {} s.positions p x }

/-- A tile's caches. -/
def State.tile (s : State) (t : Nat) : Tile := SMap.get {} s.tiles t

/-- Writes a tile's caches. -/
def State.setTile (s : State) (t : Nat) (x : Tile) : State := { s with tiles := SMap.set {} s.tiles t x }

/-- A fabric port's link layer. -/
def State.fport (s : State) (f : Nat) : FabPort := SMap.get {} s.fports f

/-- Writes a fabric port's link layer. -/
def State.setFport (s : State) (f : Nat) (x : FabPort) : State := { s with fports := SMap.set {} s.fports f x }

/-- A logical core is stopped under R13. -/
def State.anyStopped (s : State) : Bool := (List.range 64).any (fun n => (s.core n).stopped)

end Sys2Proof.Machine
end

