-- ==== Sys2Proof/Machine/Zones.lean ====
section
/-!
DEFINITION. Zones and the Glaze (*Zones, Address Translation and the Glaze*): the tables of Table 7.3, their
fields and their validation, the bounds of a zone, remote grants and the requester map.
-/

namespace Sys2Proof.Machine

/-- The zone and protection control page. -/
def zctlPage : Page := ⟨.zctl, 0⟩

/-! ## The tables (Tables 7.3 and 7.4), by window offset -/

def ztCoreZone : Nat := 0x31000
def ztZd : Nat := 0x32000
def ztReg : Nat := 0x33000
def ztStn : Nat := 0x43000
def ztKey : Nat := 0x63000
def ztIrq : Nat := 0x65000
def ztGrant : Nat := 0x69000
def ztIorid : Nat := 0x79000
def ztEnd : Nat := 0x7B000

/-- The bits that Table 7.4 assigns in the word at a window offset; none for an offset outside the tables. -/
def ztMask (w : Nat) : Option Word :=
  if w < ztCoreZone then none
  else if w < 0x31200 then some 0x1FF
  else if w < ztZd then none
  else if w < ztReg then if w % 16 = 0 then some 0x3FF01 else some 0x0FFFFFFFFFFFF001
  else if w < ztStn then if w % 16 = 0 then some 0x3FFF else some 0x0FFFFFFFFFFFFFFF
  else if w < ztGrant then some 0x80FF80FF80FF80FF
  else if w < ztIorid then if w % 16 = 0 then some 0x3FF3F07 else some 0xFFFFFFFFFFF
  else if w < ztEnd then if w % 16 = 0 then some 0xFFFFFFFFFF0003 else some 0
  else none

/-- A LOG2SIZE that Table 7.4 allows. -/
def log2Legal (n : Nat) : Bool := decide (12 ≤ n) && decide (n ≤ 43)

/-- Whether a write places no reserved value in an enumerated field of a table word (R39, R524). -/
def ztLegal (w : Nat) (v : Word) : Bool :=
  if ztReg ≤ w ∧ w < ztStn ∧ w % 16 = 0 then
    decide (bits v 6 2 < 2) && (!bit v 0 || log2Legal (bits v 8 6))
  else if ztGrant ≤ w ∧ w < ztIorid ∧ w % 16 = 0 then !bit v 0 || log2Legal (bits v 8 6)
  else true

/-! ## Zones -/

/-- ZD word 0 of a zone. -/
def State.zd0 (s : State) (z : Nat) : Word := s.reg (ztZd + 16 * z)

/-- ZD word 1 of a zone. -/
def State.zd1 (s : State) (z : Nat) : Word := s.reg (ztZd + 16 * z + 8)

/-- ZD[z].VALID: zone z exists. -/
def State.zoneValid (s : State) (z : Nat) : Bool := bit (s.zd0 z) 0

/-- The domain zone tag of a zone. -/
def State.dzt (s : State) (z : Nat) : Nat := bits (s.zd0 z) 8 10

/-- How many zones are valid (ZT_ZONES). -/
def State.zoneCount (s : State) : Nat := ((List.range 256).filter (fun z => s.zoneValid z)).length

/-- The kinds of access that bounds distinguish. -/
inductive Access3 where
  | read | write | fetch
  deriving DecidableEq, Repr

/-- The permission bit of a REG entry for a kind of access. -/
def Access3.bit : Access3 → Nat
  | .read => 1
  | .write => 2
  | .fetch => 3

/-- Region r of zone z is in force, covers a global physical address and permits a kind of access. -/
def State.regionAllows (s : State) (z r pa : Nat) (k : Access3) (dma : Bool) : Bool :=
  let w0 := s.reg (ztReg + 0x100 * z + 0x10 * r)
  let base := bits (s.reg (ztReg + 0x100 * z + 0x10 * r + 8)) 0 60
  bit w0 0 && bit w0 k.bit && decide (base ≤ pa) && decide (pa < base + 2 ^ bits w0 8 6) &&
  (!dma || (bit w0 5 && decide (bits w0 6 2 = 0)))

/-- Some region of the zone permits the access (R163); with `dma`, only the regions open to I/O (R167). -/
def State.inRegions (s : State) (z pa : Nat) (k : Access3) (dma : Bool) : Bool :=
  (List.range 16).any (fun r => s.regionAllows z r pa k dma)

/-- The module's own ID. -/
def State.moduleId (s : State) : Nat := s.fld bIdent F.ID_MODULE_MODULE_ID

/-- The window offset that a global physical address names on this module, if it lies in the register window. -/
def State.windowOf (s : State) (pa : Nat) : Option Nat :=
  if pa / 2 ^ 44 = s.moduleId ∧ 0xFFFF0000000 ≤ pa % 2 ^ 44 then some (pa % 2 ^ 44 - 0xFFFF0000000) else none

/-- The bounds of a zone for an access of a level (R163). -/
def State.inBounds (s : State) (z level pa : Nat) (k : Access3) : Bool :=
  s.inRegions z pa k false ||
  (match s.windowOf pa with
   | none => false
   | some w =>
     match pageAt (w / 0x1000) with
     | some ⟨.door, i⟩ => decide (i = z)
     | some ⟨.icIface, n⟩ => bit (s.reg (ztCoreZone + 8 * n)) 8 && decide (s.zoneOf n = z)
     | some ⟨.sourceArray, _⟩ => decide (level = 2)
     | _ => false)

/-- Whether a valid GRANT entry with a domain zone tag covers a local address (R164). -/
def State.granted (s : State) (dzt a : Nat) (write : Bool) : Bool :=
  (List.range 4096).any (fun i =>
    let w0 := s.reg (ztGrant + 16 * i)
    let base := bits (s.reg (ztGrant + 16 * i + 8)) 0 44
    bit w0 0 && bit w0 (if write then 2 else 1) && decide (bits w0 16 10 = dzt) && decide (base ≤ a) &&
    decide (a < base + 2 ^ bits w0 8 6))

/-- The zone of a requester: that of the lowest-numbered valid IORID entry it matches (R167). -/
def State.requesterZone (s : State) (port rid : Nat) : Option Nat :=
  let hit := (List.range 512).find? (fun i =>
    let w0 := s.reg (ztIorid + 16 * i)
    bit w0 0 && decide (bits w0 1 1 = port) && decide ((bits w0 16 16 ^^^ rid) &&& bits w0 32 16 = 0))
  hit.map (fun i => bits (s.reg (ztIorid + 16 * i)) 48 8)

/-! ## The address map (Table 2.1) -/

/-- The installed usable capacity in bytes (R483). -/
def State.usable (s : State) : Nat := s.fld bMem F.MEM_MAP_USABLE * 2 ^ 30

/-- The root port whose memory window holds a local address. -/
def pciePort (a : Nat) : Option Nat :=
  if 0x80000000000 ≤ a ∧ a < 0xA0000000000 then some 0
  else if 0xA0000000000 ≤ a ∧ a < 0xC0000000000 then some 1
  else none

/-- The root port whose configuration window holds a local address. -/
def ecamPort (a : Nat) : Option Nat :=
  if 0xC0000000000 ≤ a ∧ a < 0xC0010000000 then some 0
  else if 0xC0010000000 ≤ a ∧ a < 0xC0020000000 then some 1
  else none

/-! ## Validation at the Glaze (R156, Table 7.5) -/

/-- The windows offsets of the entries of a table that are not zero: its listed words, each to its entry. -/
def State.listedEntries (s : State) (base stop size : Nat) : List Nat :=
  let keys := (s.regs.filter (fun e => decide (base ≤ e.1) && decide (e.1 < stop))).map (fun e => (e.1 - base) / size)
  keys.foldl (fun acc k => if acc.getLast? = some k then acc else acc ++ [k]) []

/-- A valid CORE_ZONE entry, or that of a logical core in service, that Table 7.5 faults. -/
def State.coreZoneFault (s : State) (n : Nat) : Option Nat :=
  let e := s.reg (ztCoreZone + 8 * n)
  if s.coreValid n ∧ (¬ bit e 8 ∨ ¬ s.zoneValid (bits e 0 8)) then some 2
  else if bit e 8 ∧ ¬ s.zoneValid (bits e 0 8) then some 5
  else none

/-- A valid zone whose DZT another valid zone carries. -/
def State.zdFault (s : State) (z : Nat) : Option Nat :=
  if s.zoneValid z ∧ (List.range 256).any (fun y => y != z && s.zoneValid y && s.dzt y == s.dzt z) then some 6
  else none

/-- Base and end of a region. -/
def State.regionRange (s : State) (i : Nat) : Nat × Nat :=
  let base := bits (s.reg (ztReg + 16 * i + 8)) 0 60
  (base, base + 2 ^ bits (s.reg (ztReg + 16 * i)) 8 6)

/-- Whether a region (index z × 16 + r) is malformed (RESULT 0x3). -/
def State.regionMalformed (s : State) (i : Nat) : Bool :=
  let w0 := s.reg (ztReg + 16 * i)
  let base := (s.regionRange i).1
  let size := 2 ^ bits w0 8 6
  let mod := base / 2 ^ 44
  let a := base % 2 ^ 44
  decide (base % size ≠ 0) ||
  (if bits w0 6 2 = 0 then
     decide (0x80000000000 < a + size) || (decide (mod = s.moduleId) && decide (s.usable < a + size))
   else
     match pciePort a with
     | some p => decide (mod ≠ s.moduleId) || !s.present ⟨.rport, p⟩ || decide (pciePort (a + size - 1) ≠ some p)
     | none => true)

/-- Whether two regions of different zones overlap and are not both SHARED (RESULT 0x4). -/
def State.regionsClash (s : State) (i j : Nat) : Bool :=
  let x := s.regionRange i
  let y := s.regionRange j
  let v := s.reg (ztReg + 16 * i)
  let w := s.reg (ztReg + 16 * j)
  decide (i / 16 ≠ j / 16) && bit v 0 && bit w 0 && decide (x.1 < y.2) && decide (y.1 < x.2) &&
  !(bit v 4 && bit w 4)

/-- What Table 7.5 faults in a REG entry. -/
def State.regFault (s : State) (es : List Nat) (i : Nat) : Option Nat :=
  if ¬ bit (s.reg (ztReg + 16 * i)) 0 then none
  else if s.regionMalformed i then some 3
  else if es.any (fun j => s.regionsClash i j) then some 4
  else if ¬ s.zoneValid (i / 16) then some 5
  else none

/-- What Table 7.5 faults in a word of four owner entries: the entry within the word. -/
def State.ownerFault (s : State) (base k : Nat) : Option Nat :=
  let v := s.reg (base + 8 * k)
  (List.range 4).find? (fun j => bit v (16 * j + 15) && !s.zoneValid (bits v (16 * j) 8))

/-- Whether a valid GRANT entry is malformed. -/
def State.grantFault (s : State) (i : Nat) : Option Nat :=
  let w0 := s.reg (ztGrant + 16 * i)
  let base := bits (s.reg (ztGrant + 16 * i + 8)) 0 44
  let size := 2 ^ bits w0 8 6
  if bit w0 0 ∧ (base % size ≠ 0 ∨ s.usable < base + size) then some 7 else none

/-- Whether a valid IORID entry names a zone that does not exist. -/
def State.ioridFault (s : State) (i : Nat) : Option Nat :=
  let w0 := s.reg (ztIorid + 16 * i)
  if bit w0 0 ∧ ¬ s.zoneValid (bits w0 48 8) then some 5 else none

/-- The first fault of a list of entries, as (RESULT, FAIL_TABLE, FAIL_INDEX). -/
def firstFault (table : Nat) (f : Nat → Option Nat) : List Nat → Option (Nat × Nat × Nat)
  | [] => none
  | i :: rest =>
    match f i with
    | some r => some (r, table, i)
    | none => firstFault table f rest

/-- The first fault of an owner table. -/
def State.firstOwnerFault (s : State) (table base : Nat) : List Nat → Option (Nat × Nat × Nat)
  | [] => none
  | k :: rest =>
    match s.ownerFault base k with
    | some j => some (5, table, 4 * k + j)
    | none => State.firstOwnerFault s table base rest

/-- Validation of the tables: the first failing entry in table order (R156). -/
def State.validation (s : State) : Option (Nat × Nat × Nat) :=
  let regs := s.listedEntries ztReg ztStn 16
  (firstFault 1 s.coreZoneFault (List.range 64)).orElse fun _ =>
  (firstFault 2 s.zdFault (List.range 256)).orElse fun _ =>
  (firstFault 3 (s.regFault regs) regs).orElse fun _ =>
  (s.firstOwnerFault 4 ztStn (s.listedEntries ztStn ztKey 8)).orElse fun _ =>
  (s.firstOwnerFault 5 ztKey (s.listedEntries ztKey ztIrq 8)).orElse fun _ =>
  (s.firstOwnerFault 6 ztIrq (s.listedEntries ztIrq ztGrant 8)).orElse fun _ =>
  (firstFault 7 s.grantFault (s.listedEntries ztGrant ztIorid 16)).orElse fun _ =>
  firstFault 8 s.ioridFault (s.listedEntries ztIorid ztEnd 16)

/-- ZT_DIGEST: CRC-32C over the table area, each word as its eight bytes (Table 7.1). -/
def State.ztDigest (s : State) : Nat :=
  ((List.range ((ztEnd - ztCoreZone) / 8)).foldl
    (fun c i => crc32cUpd c (leBytes 8 (s.reg (ztCoreZone + 8 * i)).toNat)) 0xFFFFFFFF) ^^^ 0xFFFFFFFF

/-- Writes RESULT, FAIL_TABLE and FAIL_INDEX of ZT_STAT. -/
def State.ztResult (s : State) (r table index : Nat) : State :=
  ((s.setFld bZctl F.ZT_STAT_RESULT r).setFld bZctl F.ZT_STAT_FAIL_TABLE table).setFld bZctl F.ZT_STAT_FAIL_INDEX index

/-- GLAZE_VALIDATION_COMPLETE (R156): the Glaze is set, its digest written and its Crumb submitted, or the first
failing entry is recorded; BUSY clears in both cases. -/
def State.glazeDone (s : State) : State :=
  let s1 := s.setFlag bZctl F.ZT_STAT_BUSY false
  match s.validation with
  | some (r, t, i) => s1.ztResult r t i
  | none =>
    let d := s.ztDigest
    let s2 := (((s1.ztResult 1 0 0).setFlag bZctl F.ZT_STAT_GLAZED true).setFld bZctl F.ZT_DIGEST_DIGEST d).setFlag bEse
      F.MODE_STAT_GLAZED true
    s2.crumb zctlPage 0x0402 1
      [BitVec.ofNat 64 d, BitVec.ofNat 64 s.zoneCount, s.reg (bIdent + F.ID_MODULE_MODULE_ID.off)]

/-- GLAZE_VALIDATION_COMPLETE (R156). -/
def execGlazeValidationComplete (s : State) : Host.Outcome State Fault Refusal :=
  event "GLAZE_VALIDATION_COMPLETE" (s.flag bZctl F.ZT_STAT_BUSY && s.mode == 3) s s.glazeDone

/-- ZT_GLAZE is refused once the Glaze is set, while a validation runs, and for any code but 0x6C7A. -/
def zctlRefused (s : State) (off : Nat) (v : Word) : List Fld :=
  if off = 0x048 ∧ (s.glazed ∨ s.flag bZctl F.ZT_STAT_BUSY ∨ bits v 0 16 ≠ 0x6C7A) then [F.ZT_GLAZE_CODE] else []

/-- An accepted write of ZT_GLAZE starts the validation in Initialization; elsewhere it sets RESULT 0x8. -/
def zctlWrote (off : Nat) (v : Word) (s : State) : State :=
  if off = 0x048 ∧ bits v 0 16 = 0x6C7A then
    if s.mode = 3 then s.setFlag bZctl F.ZT_STAT_BUSY true else s.setFld bZctl F.ZT_STAT_RESULT 8
  else s

end Sys2Proof.Machine
end

