-- ==== Sys2Proof/Machine/ChanLink.lean ====
section
/-!
DEFINITION. The channel ports' frames, link layer and logins (*Channel Port Link Protocol*, R317 to R331). What the
exchange layer does with the frames delivered, and with a lost path, is in Exchange.lean.
-/

namespace Sys2Proof.Machine

def cportPage (p : Nat) : Page := ⟨.cport, p⟩
def cssPage : Page := ⟨.css, 0⟩

/-- A channel port's link layer. -/
def State.cport (s : State) (p : Nat) : CPort := SMap.get {} s.css.ports p

/-- Writes a channel port's link layer. -/
def State.setCport (s : State) (p : Nat) (x : CPort) : State :=
  { s with css := { s.css with ports := SMap.set {} s.css.ports p x } }

/-- STATE of a channel port. -/
def State.cpState (s : State) (p : Nat) : Nat := s.fld (bCport p) F.CP_STAT_STATE

/-- The link is up. -/
def State.cpUp (s : State) (p : Nat) : Bool := s.cpState p == 3 || s.cpState p == 4

/-- Moves a channel port to a state. -/
def State.cpGo (s : State) (p st : Nat) : State := s.setFld (bCport p) F.CP_STAT_STATE st

/-! ## Path table entries (R305, Table 13.15) -/

/-- The entry of a station on a port. -/
def State.path (s : State) (p st : Nat) : Word := SMap.get 0 s.css.paths (65536 * p + st)
def pePartner (e : Word) : Nat := bits e 0 12
def peValid (e : Word) : Bool := bit e 12
def pePref (e : Word) : Nat := bits e 13 3
def peUnit (e : Word) : Nat := bits e 16 16
def peAring (e : Word) : Nat := bits e 32 10
def peAringEn (e : Word) : Bool := bit e 42
def peEn (e : Word) : Bool := bit e 48

/-- The stations with a path on a port, with their entries. -/
def State.pathsOn (s : State) (p : Nat) : List (Nat × Word) :=
  s.css.paths.filterMap (fun (x : Nat × Word) =>
    if x.1 / 65536 = p ∧ peValid x.2 then some (x.1 % 65536, x.2) else none)

/-- The ports on which a station has a path, in ascending order. -/
def State.portsOf (s : State) (st : Nat) : List Nat := (List.range 16).filter (fun p => peValid (s.path p st))

/-! ## Frames (Tables 14.1 and 14.2) -/

/-- Bytes of a MAXPAY code. -/
def maxpayBytes (m : Nat) : Nat := 512 * 2 ^ m

/-- The smaller of two MAXPAY codes. -/
def minNat (a b : Nat) : Nat := if a < b then a else b

/-- The MAXPAY that bounds the link's DATA frames. -/
def State.linkMaxpay (s : State) (p : Nat) : Nat :=
  minNat (s.fld (bCport p) F.CP_CFG_MAXPAY) (s.fld (bCport p) F.CP_STAT_PEER_MAXPAY)

/-- Whether number `a` precedes `b` (R323). -/
def seqBefore (a b : Nat) : Bool :=
  let d := (b + 2 ^ 32 - a % 2 ^ 32) % 2 ^ 32
  decide (1 ≤ d) && decide (d < 2 ^ 31)

/-- The header fields of a received frame. -/
def parseFrame (bytes : List Byte) : Frame :=
  let w := fun (i : Nat) => leNat ((bytes.drop (8 * i)).take 8)
  { typ := w 0 % 256, flags := w 0 / 2 ^ 8 % 256, partner := w 0 / 2 ^ 32 % 2 ^ 12, station := w 0 / 2 ^ 48,
    seq := w 1 % 2 ^ 32, ack := w 1 / 2 ^ 32, xid := w 2 % 2 ^ 32, crlim := w 2 / 2 ^ 32,
    xoff := w 3 % 2 ^ 32, cidx := w 3 / 2 ^ 32 % 2 ^ 16, payload := (bytes.drop 32).take (bytes.length - 36) }

/-- LENGTH of a received frame. -/
def frameLength (bytes : List Byte) : Nat := leNat (bytes.take 8) / 2 ^ 16 % 2 ^ 13

/-- The reserved bits of a received header. -/
def headerReserved (bytes : List Byte) : Bool :=
  let w0 := leNat (bytes.take 8)
  w0 / 2 ^ 12 % 16 != 0 || w0 / 2 ^ 29 % 8 != 0 || w0 / 2 ^ 44 % 16 != 0 || leNat ((bytes.drop 30).take 2) != 0

/-- A number in a frame's payload. -/
def Frame.num (f : Frame) (off k : Nat) : Nat := leNat ((f.payload.drop off).take k)

/-- A sequenced frame (R321). -/
def Frame.sequenced (f : Frame) : Bool := decide (0x10 ≤ f.typ)

/-- A frame that the Vexxo may receive, of the payload length that Table 14.2 gives. -/
def Frame.wellFormed (f : Frame) (maxpay : Nat) : Bool :=
  let n := f.payload.length
  if f.typ = 1 ∨ f.typ = 2 then
    n == 64 && decide (f.num 1 1 ≤ 2) && decide (4 ≤ f.num 0x10 4) && decide (f.num 0x10 4 ≤ 256) &&
    (f.payload.drop 0x1A).all (fun b => b == 0)
  else if f.typ = 3 then n == 32
  else if f.typ = 0x11 ∨ f.typ = 0x27 then n == 16
  else if f.typ = 0x12 ∨ f.typ = 0x25 ∨ f.typ = 0x2A then n == 0
  else if f.typ = 0x21 then decide (1 ≤ n) && decide (n ≤ maxpayBytes maxpay)
  else if f.typ = 0x22 ∨ f.typ = 0x28 then n == 8
  else if f.typ = 0x29 then n == 8 && decide (1 ≤ f.num 0 1) && decide (f.num 0 1 ≤ 4)
  else false

/-! ## Sending (R324, R326) -/

/-- What the link layer fills in: ACK and CRLIM. -/
def CPort.stamp (x : CPort) (f : Frame) : Frame := { f with ack := x.ack, crlim := (x.ack + 256) % 2 ^ 32 }

/-- A sequenced frame may be sent now: within the peer's credit and 256 beyond the oldest unacknowledged frame. -/
def CPort.mayEmit (x : CPort) (f : Frame) : Bool :=
  let room := (x.limit + 2 ^ 32 - x.nextSeq % 2 ^ 32) % 2 ^ 32
  let need := if f.typ = 0x20 ∨ f.typ = 0x21 then 4 else 0
  decide (room < 2 ^ 31) && decide (need ≤ room) &&
  (match x.unacked with
   | [] => true
   | u :: _ => decide ((x.nextSeq + 2 ^ 32 - u.1.seq) % 2 ^ 32 < 256))

/-- Sends the frames that wait, in order, as far as credit goes. CMD and DATA do not hold up the types that the last
four credits are kept for. -/
def CPort.flush : Nat → CPort → CPort
  | 0, x => x
  | k + 1, x =>
    match x.outq.findIdx? (fun f => x.mayEmit f) with
    | some i =>
      match x.outq[i]? with
      | some f =>
        let g := x.stamp { f with seq := x.nextSeq }
        CPort.flush k { x with outq := x.outq.eraseIdx i, unacked := x.unacked ++ [(g, 1)],
                               nextSeq := (x.nextSeq + 1) % 2 ^ 32, sent := some g, ackDue := false }
      | none => x
    | none => x

/-- A sequenced frame is handed to a port's transmitter; nothing follows once the link is lost (R328, R331). -/
def State.transmit (s : State) (p : Nat) (f : Frame) : State :=
  if s.cpUp p ∧ ¬ (s.cport p).lossDue then
    let x := s.cport p
    s.setCport p (CPort.flush (x.outq.length + 1) { x with outq := x.outq ++ [f] })
  else s

/-- An unsequenced frame is sent at once. -/
def State.transmitNow (s : State) (p : Nat) (f : Frame) : State :=
  let x := s.cport p
  s.setCport p { x with sent := some (x.stamp { f with seq := x.nextSeq }) }

/-- The map of held frames that an LSTAT carries. -/
def CPort.map (x : CPort) : Nat :=
  x.held.foldl (fun m f => m ||| 2 ^ ((f.seq + 2 ^ 32 - (x.ack + 1) % 2 ^ 32) % 2 ^ 32 % 256)) 0

/-- Sends LSTAT (R325). -/
def State.sendLstat (s : State) (p : Nat) : State :=
  let s1 := s.transmitNow p { typ := 3, payload := leBytes 32 (s.cport p).map }
  s1.setCport p { s1.cport p with ackDue := false }

/-- An INIT or INIT_ACK payload of a port (Table 14.3). -/
def State.initPayload (s : State) (p : Nat) : List Byte :=
  leBytes 8 (1 + 2 ^ 16 * s.fld (bCport p) F.CP_CFG_MAXPAY + 2 ^ 24 * p) ++ leBytes 8 s.moduleId ++ leBytes 4 256 ++
  List.replicate 44 0

def State.sendInit (s : State) (p : Nat) : State := s.transmitNow p { typ := 1, payload := s.initPayload p }
def State.sendInitAck (s : State) (p : Nat) : State := s.transmitNow p { typ := 2, payload := s.initPayload p }

/-! ## Logins (R330, R331) -/

/-- Writes a login of a port. -/
def State.setLogin (s : State) (p a : Nat) (l : Login) : State :=
  s.setCport p { s.cport p with logins := SMap.put (s.cport p).logins a l }

/-- Sends LOGIN to a partner address. -/
def State.sendLogin (s : State) (p a state tries : Nat) : State :=
  let l := (SMap.find? (s.cport p).logins a).getD {}
  (s.setLogin p a { l with state := state, tries := tries }).transmit p
    { typ := 0x10, partner := a, payload := leBytes 8 (s.moduleId + 2 ^ 16 * s.fld (bCport p) F.CP_CFG_MAXPAY) }

/-- The partner addresses to log in to: those of the valid entries; to an end unit, only the one it named. -/
def State.loginTargets (s : State) (p : Nat) : List Nat :=
  let all := ((s.pathsOn p).map (fun x => pePartner x.2)).eraseDups
  if s.fld (bCport p) F.CP_STAT_PEER_KIND = 1 then all.filter (fun a => a == s.fld (bCport p) F.CP_STAT_PEER_ADDR)
  else all

/-- LOGIN goes to every address that has none in progress. -/
def State.startLogins (s : State) (p : Nat) : State :=
  (s.loginTargets p).foldl (fun st a =>
    if (SMap.find? (st.cport p).logins a).isSome then st else st.sendLogin p a 1 1) s

/-- A partner address is logged in. -/
def State.loggedIn (s : State) (p a : Nat) : Bool :=
  match SMap.find? (s.cport p).logins a with
  | some l => l.state == 2
  | none => false

/-- LG_STAT, LG_UNIT, PT_COUNT and the LOGGED_IN field as they read. -/
def State.lgStat (s : State) (p : Nat) : Word :=
  let a := s.fld (bCport p) F.LG_SEL_ADDR
  if (s.pathsOn p).any (fun x => pePartner x.2 == a) then
    match SMap.find? (s.cport p).logins a with
    | some l => BitVec.ofNat 64 (l.state + 2 ^ 8 * l.result + 2 ^ 16 * l.maxpay)
    | none => 1
  else 0
def State.lgUnit (s : State) (p : Nat) : Word :=
  match SMap.find? (s.cport p).logins (s.fld (bCport p) F.LG_SEL_ADDR) with
  | some l => l.unit
  | none => 0
def State.ptCount (s : State) (p : Nat) : Word := BitVec.ofNat 64 (s.pathsOn p).length
def State.cpStat (s : State) (p : Nat) : Word :=
  putBits (s.reg (bCport p + 0x048)) 32 13 ((s.cport p).logins.filter (fun (x : Nat × Login) => x.2.state == 2)).length

/-! ## Link starts (R317, R318, R327 to R329) -/

/-- The lanes that PORT_SPEED allows. -/
def State.allLanes (s : State) (p : Nat) : Nat := if s.fld (bCport p) F.CP_LANE_PORT_SPEED = 2 then 1 else 3

/-- The link is lost (R327); R328 acts next, and the next training uses the lanes given. -/
def State.linkLost (s : State) (p lanes : Nat) : State :=
  s.setCport p { s.cport p with lossDue := true, lanes := lanes }

/-- The link layer of a link that starts anew: nothing is carried over but the count of starts. -/
def CPort.restarted (x : CPort) : CPort := { starts := x.starts, lanes := x.lanes, down := x.down, sent := x.sent }

/-- The link comes up: both sides have sent and received an INIT_ACK. -/
def State.linkUp (s : State) (p : Nat) : State :=
  let x := s.cport p
  if x.sentAck ∧ x.gotAck ∧ s.cpState p = 2 then
    let s1 := s.setCport p { x with starts := 0 }
    let s2 := (s1.cpGo p (if x.lanes = 3 then 3 else 4)).count (bCport p) F.CP_CNT_LINK_INITS
    s2.startLogins p
  else s

/-- PCS_LOCK (R317): a training port locks on its lanes and sends INIT. -/
def execPcsLock (p : Fin 16) (s : State) : Host.Outcome State Fault Refusal :=
  let x := s.cport p.val
  let s1 := (s.setCport p.val x.restarted).cpGo p.val 2
  event "PCS_LOCK"
    (s.flag (bCport p.val) F.RUN && !x.lossDue && (s.cpState p.val == 1 || s.cpState p.val == 5) && s.mode != 10) s
    ((s1.setFld (bCport p.val) F.CP_STAT_LANES x.lanes).sendInit p.val)

/-- CHANNEL_LANE_LOSS (R318): a lane in use is lost. -/
def execChannelLaneLoss (p : Fin 16) (lane : Fin 2) (s : State) : Host.Outcome State Fault Refusal :=
  let lanes := s.fld (bCport p.val) F.CP_STAT_LANES
  let next := if s.fld (bCport p.val) F.CP_LANE_PORT_SPEED = 0 ∧ lanes = 3 then 2 - lane.val
    else if s.fld (bCport p.val) F.CP_LANE_PORT_SPEED = 0 then lanes else s.allLanes p.val
  event "CHANNEL_LANE_LOSS"
    (lanes.testBit lane.val && decide (2 ≤ s.cpState p.val) && decide (s.cpState p.val ≤ 4) &&
     !(s.cport p.val).lossDue && s.mode != 10) s
    (s.linkLost p.val next)

/-- LINK_SILENCE_TIMEOUT (R327): no frame passes the CRC for LINK_TMO. -/
def execLinkSilenceTimeout (p : Fin 16) (s : State) : Host.Outcome State Fault Refusal :=
  event "LINK_SILENCE_TIMEOUT"
    (decide (2 ≤ s.cpState p.val) && decide (s.cpState p.val ≤ 4) && !(s.cport p.val).lossDue && s.mode != 10) s
    (s.linkLost p.val (s.fld (bCport p.val) F.CP_STAT_LANES))

/-- INIT_RESEND (R329): 10 µs have passed without an INIT_ACK. -/
def execInitResend (p : Fin 16) (s : State) : Host.Outcome State Fault Refusal :=
  event "INIT_RESEND" (s.cpState p.val == 2 && !(s.cport p.val).gotAck && !(s.cport p.val).lossDue && s.mode != 10) s
    (s.sendInit p.val)

/-- LSTAT_SEND (R325): an ACK is due, or the keepalive. -/
def execLstatSend (p : Fin 16) (s : State) : Host.Outcome State Fault Refusal :=
  event "LSTAT_SEND" (s.cpUp p.val && !(s.cport p.val).lossDue && s.mode != 10) s (s.sendLstat p.val)

/-! ## Receiving (R322) -/

/-- Step 2 of R322: ACK releases frames, and CRLIM gives credit. -/
def CPort.takeLink (x : CPort) (f : Frame) : CPort :=
  let y := { x with unacked := x.unacked.filter (fun u => seqBefore f.ack u.1.seq)
                    limit := if seqBefore x.limit f.crlim then f.crlim else x.limit }
  CPort.flush (y.outq.length + 1) y

/-- A malformed frame is counted and reported. -/
def State.malformed (s : State) (p : Nat) (f : Frame) : State :=
  ((s.count (bCport p) F.CP_CNT_PROTO_BADFRAME).raiseErr (cportPage p) 9).crumbOpen (cportPage p) 0x0A00
    [BitVec.ofNat 64 p, BitVec.ofNat 64 f.typ]

/-- Delivers, in SEQ order, the held frames that follow ACK; `fuel` bounds their number. A malformed one has been
emptied (type 0) and only occupies its number. -/
def CPort.advance : Nat → CPort → CPort
  | 0, x => x
  | k + 1, x =>
    match x.held.find? (fun f => f.seq == (x.ack + 1) % 2 ^ 32) with
    | some f =>
      CPort.advance k { x with ack := f.seq, held := x.held.filter (fun g => g.seq != f.seq),
                               inbox := if f.typ = 0 then x.inbox else x.inbox ++ [f] }
    | none => x

/-- Steps 3 to 5 of R322 for a sequenced frame. -/
def State.takeSequenced (s : State) (p : Nat) (f : Frame) (good : Bool) : State :=
  let x := s.cport p
  if ¬ seqBefore x.ack f.seq ∨ x.held.any (fun g => g.seq == f.seq) then s.count (bCport p) F.CP_CNT_LINK_DUP
  else if seqBefore ((x.ack + 256) % 2 ^ 32) f.seq then s.count (bCport p) F.CP_CNT_PROTO_BADFRAME
  else
    let kept := if good then f else { f with typ := 0 }
    let y := CPort.advance 257 { x with held := x.held ++ [kept], ackDue := true }
    let s1 := s.setCport p y
    let s2 := if good then s1 else s1.malformed p f
    if ¬ y.held.isEmpty ∨ f.flags.testBit 2 then s2.sendLstat p else s2

/-- CHANNEL_FRAME_RECEIVE (R322): a frame arrives at a port; `fec` tells of an uncorrectable codeword in it. -/
def execChannelFrameReceive (p : Fin 16) (bytes : List Byte) (fec : Bool) (s : State) :
    Host.Outcome State Fault Refusal :=
  let n := bytes.length
  let f := parseFrame bytes
  let bad := fec || decide (n < 36) || crc32c (bytes.take (n - 4)) != leNat (bytes.drop (n - 4))
  let good := f.wellFormed (s.linkMaxpay p.val) && !headerReserved bytes && frameLength bytes == n - 36
  let s1 := s.setCport p.val ((s.cport p.val).takeLink f)
  event "CHANNEL_FRAME_RECEIVE"
    (decide (2 ≤ s.cpState p.val) && decide (s.cpState p.val ≤ 4) && !(s.cport p.val).lossDue && s.mode != 10) s
    (if bad then
       (if fec then s.count (bCport p.val) F.CP_CNT_FEC_UNCORR else s).count (bCport p.val) F.CP_CNT_LINK_CRC
     else if f.sequenced then (if s.cpUp p.val then s1.takeSequenced p.val f good else s)
     else if ¬ good then s1.malformed p.val f
     else
       let s2 := s1.setCport p.val { s1.cport p.val with now := (s1.cport p.val).now ++ [f] }
       if f.flags.testBit 2 ∧ s.cpUp p.val then s2.sendLstat p.val else s2)

/-- The unsequenced frame that a port acts on next. -/
def State.nowFrame (s : State) (p typ : Nat) : Option Frame :=
  match (s.cport p).now with
  | f :: _ => if f.typ = typ ∧ ¬ (s.cport p).lossDue then some f else none
  | [] => none

/-- The unsequenced frame has been acted on. -/
def State.nowTaken (s : State) (p : Nat) : State := s.setCport p { s.cport p with now := (s.cport p).now.drop 1 }

/-- What INIT and INIT_ACK say of the peer (R329); false where the frame must not be acted on. -/
def State.takePeer (s : State) (p : Nat) (f : Frame) : State × Bool :=
  if f.num 0 1 ≠ 1 then (s.count (bCport p) F.CP_CNT_PROTO_BADFRAME, false)
  else if f.num 1 1 = 0 then
    ((s.cpGo p 6).crumbOpen (cportPage p) 0x0A00 [BitVec.ofNat 64 p, BitVec.ofNat 64 f.typ], false)
  else
    let b := bCport p
    let s1 := ((s.setFld b F.CP_STAT_PEER_KIND (f.num 1 1)).setFld b F.CP_STAT_PEER_MAXPAY (f.num 2 1 % 4)).setFld b
      F.CP_STAT_PEER_ADDR (if f.num 1 1 = 1 then f.num 0x18 2 % 4096 else 0)
    let s2 := s1.setReg (b + F.CP_PEER_IDENT.off) (BitVec.ofNat 64 (f.num 8 8))
    (s2.setCport p { s2.cport p with limit := f.num 0x10 4 }, true)

/-- INIT (R329): answered with INIT_ACK; while the link is up it loses the link. -/
def execInit (p : Fin 16) (s : State) : Host.Outcome State Fault Refusal :=
  match s.nowFrame p.val 1 with
  | some f =>
    let s0 := s.nowTaken p.val
    event "INIT" (s.mode != 10) s
      (if s.cpUp p.val then s0.linkLost p.val (s.fld (bCport p.val) F.CP_STAT_LANES)
       else if s.cpState p.val ≠ 2 then s0
       else
         let r := s0.takePeer p.val f
         if r.2 then
           let s1 := r.1.sendInitAck p.val
           (s1.setCport p.val { s1.cport p.val with sentAck := true }).linkUp p.val
         else r.1)
  | none => event "INIT" false s s

/-- INIT_ACK (R329). -/
def execInitAck (p : Fin 16) (s : State) : Host.Outcome State Fault Refusal :=
  match s.nowFrame p.val 2 with
  | some f =>
    let s0 := s.nowTaken p.val
    event "INIT_ACK" (s.mode != 10) s
      (if s.cpState p.val ≠ 2 then s0
       else
         let r := s0.takePeer p.val f
         if r.2 then (r.1.setCport p.val { r.1.cport p.val with gotAck := true }).linkUp p.val else r.1)
  | none => event "INIT_ACK" false s s

/-- Sends a frame again; a frame sent RTX_MAX + 1 times without an ACK loses the link. -/
def State.resend (s : State) (p seq : Nat) : State :=
  let x := s.cport p
  match x.unacked.find? (fun u => u.1.seq == seq) with
  | some u =>
    if s.fld (bCport p) F.CP_CFG_RTX_MAX + 1 ≤ u.2 then s.linkLost p (s.fld (bCport p) F.CP_STAT_LANES)
    else
      let g := x.stamp { u.1 with flags := u.1.flags ||| 8 }
      (s.setCport p { x with unacked := x.unacked.map (fun v => if v.1.seq = seq then (g, v.2 + 1) else v),
                             sent := some g }).count (bCport p) F.CP_CNT_LINK_RTX
  | none => s

/-- LSTAT (R326): the frames that the map shows missing below one held are sent again. -/
def execLstat (p : Fin 16) (s : State) : Host.Outcome State Fault Refusal :=
  match s.nowFrame p.val 3 with
  | some f =>
    let m := f.num 0 32
    let top := Nat.log2 m
    let lack := ((s.cport p.val).unacked.map (fun u => u.1.seq)).filter (fun q =>
      let i := (q + 2 ^ 32 - (f.ack + 1) % 2 ^ 32) % 2 ^ 32
      m != 0 && decide (i < top) && !m.testBit i)
    event "LSTAT" (s.mode != 10) s (lack.foldl (fun st q => st.resend p.val q) (s.nowTaken p.val))
  | none => event "LSTAT" false s s

/-- RETRANSMISSION_TIMER (R326): RTO has passed since a frame was last sent. -/
def execRetransmissionTimer (p : Fin 16) (seq : BitVec 32) (s : State) : Host.Outcome State Fault Refusal :=
  event "RETRANSMISSION_TIMER"
    (s.cpUp p.val && (s.cport p.val).unacked.any (fun u => u.1.seq == seq.toNat) && !(s.cport p.val).lossDue &&
     s.mode != 10) s
    (s.resend p.val seq.toNat)

/-! ## Register writes (R331, R339) -/

/-- LOGOUT goes to every address that is logged in. -/
def State.sendLogouts (s : State) (p : Nat) : State :=
  (((s.cport p).logins.filter (fun (x : Nat × Login) => x.2.state == 2)).map (·.1)).foldl
    (fun st a => st.transmit p { typ := 0x12, partner := a }) s

/-- RUN set: training begins. -/
def cportStart (p : Nat) (s : State) : State :=
  (s.setCport p { (s.cport p) with lanes := s.allLanes p, starts := 0, down := false }).cpGo p 1

/-- RUN cleared: LOGOUT, and the link is lost. -/
def cportStop (p : Nat) (s : State) : State :=
  let s1 := if s.cpUp p then s.sendLogouts p else s
  if s.cpState p = 0 then s1 else if s.cpState p = 6 then s1.cpGo p 0 else s1.linkLost p (s.allLanes p)

/-- CP_CMD.RETRAIN is refused while RUN = 0. -/
def cportRefused (s : State) (p off : Nat) (v : Word) : List Fld :=
  if off = 0x058 ∧ bit v 0 ∧ ¬ s.flag (bCport p) F.RUN then [F.CP_CMD_RETRAIN] else []

/-- CP_CMD: DOWN takes the link down, RETRAIN retrains it on the lanes that PORT_SPEED allows. -/
def cportCommand (p off : Nat) (v : Word) (s : State) : State :=
  if off = 0x058 then
    let s1 := if bit v 1 then
        let a := if s.cpUp p then s.sendLogouts p else s
        (if s.cpState p = 0 ∨ s.cpState p = 6 then a.cpGo p 0 else a.linkLost p (s.allLanes p))
      else s
    let s2 := if bit v 1 then s1.setCport p { s1.cport p with down := true } else s1
    if bit v 0 then
      let s3 := s2.setCport p { s2.cport p with down := false, starts := 0, lanes := s.allLanes p }
      if s3.cpState p = 0 ∨ s3.cpState p = 6 then s3.cpGo p 1 else s3.linkLost p (s.allLanes p)
    else s2
  else s

end Sys2Proof.Machine
end

