-- ==== Sys2Proof/Machine/Interrupts.lean ====
section
/-!
DEFINITION. The interrupt controller (*Interrupt Controller*): offers, the running-priority stacks, end of
interrupt, the source array, message writes of the root ports and delivery to the ESE.
-/

namespace Sys2Proof.Machine

/-- The controller's global page. -/
def icPage : Page := ⟨.icGlobal, 0⟩

/-! ## Offers (R416, R418 to R420) -/

/-- A source that R416 may offer to a logical core. -/
def IcSource.offerableTo (e : IcSource) (core : Nat) : Bool :=
  e.offerable && e.pend && !e.active && e.enabled && !e.toEse && e.target == core && e.prio != 0

/-- Of two candidates the one with the higher PRIO; the earlier one on a tie. -/
def betterSource (best : Option (Nat × Nat)) (n prio : Nat) : Option (Nat × Nat) :=
  match best with
  | some (m, p) => if p < prio then some (n, prio) else some (m, p)
  | none => some (n, prio)

/-- The source that R416 would offer to a core, with its PRIO, ignoring the running priority, FLOOR and depth. -/
def State.bestSource (s : State) (core : Nat) : Option (Nat × Nat) :=
  s.ic.foldl (fun best x => if x.2.offerableTo core then betterSource best x.1 x.2.prio else best) none

/-- The running priority of a logical core. -/
def State.runningPrio (s : State) (core : Nat) : Nat :=
  match (s.core core).icStack.getLast? with
  | some (_, p) => p
  | none => 0

/-- The controller makes offers: it runs and is not quiesced (R422, R424). -/
def State.icOffers (s : State) : Bool := s.running icPage && s.flag bIc F.RUN && !s.flag bIc F.QUIESCE

/-- The current offer to a logical core: source and PRIO (R416). -/
def State.offer (s : State) (core : Nat) : Option (Nat × Nat) :=
  match s.bestSource core with
  | some (n, p) =>
    if s.icOffers && decide (s.runningPrio core < p) && decide (s.fld (bIface core) F.IC_PMASK_FLOOR < p) &&
       decide ((s.core core).icStack.length < 8) && s.coreValid core && !(s.core core).stopped then some (n, p)
    else none
  | none => none

/-- The core's entry for an offer commits: push, running priority, Active, EVENTS cleared (R417). -/
def State.takeOffer (s : State) (core n prio : Nat) : State :=
  let c := s.core core
  let e := s.source n
  let s1 := s.setCore core { c with icStack := c.icStack ++ [(n, prio)] }
  (s1.setSource n { e with pend := false, active := true, events := 0, offerable := false, order := 0,
                           lastTaken := some s.timebase }).count bIc F.IC_CNT_TAKEN

/-- The source leaves Active (Table 18.5): Idle, or Pending with its moderation bypassed (R415). -/
def State.endSource (s : State) (n : Nat) : State :=
  let s1 := s.setSource n { s.source n with active := false }
  if (s.source n).pend then s1.makeOfferable n else s1

/-- End of interrupt of the source at the top of a core's stack (R418). -/
def State.endOfInterrupt (s : State) (core n : Nat) : State :=
  let c := s.core core
  (s.setCore core { c with icStack := c.icStack.dropLast }).endSource n

/-- An end of interrupt names the source at the top of the stack. -/
def State.eoiLegal (s : State) (core n : Nat) : Bool :=
  match (s.core core).icStack.getLast? with
  | some (m, _) => m == n
  | none => false

/-- A logical core enters Doze or deeper: the pending sources targeted at it become offerable (R415). -/
def State.dozeOffers (s : State) (core : Nat) : State :=
  s.ic.foldl (fun t x => if x.2.pend && !x.2.active && !x.2.toEse && x.2.target == core then t.makeOfferable x.1 else t) s

/-! ## The registers as they read -/

/-- IC_CUR of a logical core. -/
def State.icCur (s : State) (core : Nat) : Word :=
  let st := (s.core core).icStack
  match st.getLast? with
  | some (n, p) => BitVec.ofNat 64 (n + 2 ^ 15 + 2 ^ 16 * p + 2 ^ 24 * st.length)
  | none => 0

/-- IC_PEND of a logical core. -/
def State.icPend (s : State) (core : Nat) : Word :=
  match s.bestSource core with
  | some (n, p) => BitVec.ofNat 64 (n + 2 ^ 15 + 2 ^ 16 * p)
  | none => 0

/-- IC_STK[i] of a logical core. -/
def State.icStk (s : State) (core i : Nat) : Word :=
  match (s.core core).icStack[i]? with
  | some (n, p) => BitVec.ofNat 64 (n + 2 ^ 15 + 2 ^ 16 * p)
  | none => 0

/-- IC_STAT: how many sources are pending and active. -/
def State.icStat (s : State) : Word :=
  BitVec.ofNat 64 ((s.ic.filter (fun x => x.2.pend)).length + 2 ^ 16 * (s.ic.filter (fun x => x.2.active)).length)

/-- IC_COREEVT of a logical core: EVKIND of its core-event source. -/
def State.coreEvt (s : State) (core : Nat) : Nat := (s.source (0x1E00 + core)).evkind

/-- Word 0 or 1 of a source entry. -/
def IcSource.word (e : IcSource) (one : Bool) : Word :=
  if one then BitVec.ofNat 64 (b2n e.pend + 2 * b2n e.active + 2 ^ 8 * e.events + 2 ^ 16 * e.evkind)
  else e.word0

/-! ## The source array (R412 to R414) -/

/-- The fields of word 0 that Table 18.3 lists. -/
def srcWord0Mask : Word := 0xFF0FFFFFFF

/-- A write of word 0: the fields take their values, and the moderation is judged anew (R413, R421). -/
def State.writeSource0 (s : State) (n : Nat) (v : Word) : State :=
  (s.setSource n { s.source n with word0 := v &&& srcWord0Mask }).checkModeration n

/-- PEND = 1 discards a pending event (R414). -/
def State.discardPend (s : State) (n : Nat) : State :=
  s.setSource n { s.source n with pend := false, offerable := false, order := 0 }

/-- EVKIND = 1 clears a core-event bit; IC_COREEVT is the same set of bits (R423). -/
def State.clearEvkind (s : State) (n mask : Nat) : State :=
  let e := s.source n
  s.setSource n { e with evkind := e.evkind - (e.evkind &&& mask) }

/-- A write of word 1: PEND, then TRIGGER, then EVKIND of a core-event source. -/
def State.writeSource1 (s : State) (n : Nat) (v : Word) : State :=
  let s1 := if bit v 0 then s.discardPend n else s
  let s2 := if bit v 2 then s1.sourceEvent n else s1
  if 0x1E00 ≤ n ∧ n < 0x1E40 then s2.clearEvkind n (bits v 16 3) else s2

/-- Whether a zone's hypervisor may write an entry, and may write this word 0 (R32, R412, R413). -/
def State.sourceWriteOwned (s : State) (zone n : Nat) (one : Bool) (v : Word) : Bool :=
  decide (s.irqOwner n = some zone) &&
  (one || (!bit v 6 && bit (s.reg (ztCoreZone + 8 * bits v 0 6)) 8 &&
           decide (bits (s.reg (ztCoreZone + 8 * bits v 0 6)) 0 8 = zone)))

/-! ## Events -/

/-- SOURCE_EVENT (R414): an event at a source; no event reaches the sources that Table 18.1 marks never raised. -/
def execSourceEvent (n : BitVec 13) (s : State) : Host.Outcome State Fault Refusal :=
  event "SOURCE_EVENT" (decide (n.toNat < 0x1E44)) s (s.sourceEvent n.toNat)

/-- HOLDOFF_EXPIRY (R415): the holdoff of a pending source ends. -/
def execHoldoffExpiry (n : BitVec 13) (s : State) : Host.Outcome State Fault Refusal :=
  let e := s.source n.toNat
  event "HOLDOFF_EXPIRY" (e.pend && !e.active && !e.offerable) s (s.makeOfferable n.toNat)

/-- What R411 requires of a write in the message range: WHY of IC_LAST_BAD where it fails. -/
def State.msiFault (s : State) (port rid : Nat) (addr : Word) (len : Nat) (data : Nat) : Option Nat :=
  if s.fld bIc F.IC_CTL_MSI_EN = 0 then some 4
  else if len ≠ 4 ∨ addr.toNat % 4 ≠ 0 ∨ data / 2 ^ 13 ≠ 0 then some 3
  else if 0x1C00 ≤ data then some 2
  else match s.requesterZone port rid with
    | some z => if s.irqOwner data = some z then none else some 1
    | none => some 1

/-- A message write that raises nothing: counted, recorded and reported (R411). -/
def State.msiBad (s : State) (port rid data why : Nat) : State :=
  let s1 := s.count bIc F.IC_CNT_MSI_BAD
  let s2 := (((s1.setFld bIc F.IC_LAST_BAD_SRC (data % 2 ^ 13)).setFld bIc F.IC_LAST_BAD_RID rid).setFld bIc
    F.IC_LAST_BAD_PORT port).setFld bIc F.IC_LAST_BAD_WHY why
  (s2.raiseErr icPage 8).crumbOpen icPage 0x0B00 [BitVec.ofNat 64 port, BitVec.ofNat 64 rid, BitVec.ofNat 64 data]

/-- What Table 18.2 requires of the IRQ_SRC of a ring's completion: WHY of IC_LAST_BAD where it fails. -/
def State.ringIrqFault (s : State) (zone : Option Nat) (irq : Nat) : Option Nat :=
  if 0x1C00 ≤ irq then some 2
  else match zone with
    | some z => if s.irqOwner irq = some z then none else some 1
    | none => none

/-- A completion whose IRQ_SRC fails Table 18.2 is counted and recorded (Tables 18.8 and 18.9). -/
def State.ringIrqBad (s : State) (irq why : Nat) : State :=
  let s1 := s.count bIc F.IC_CNT_RING_BAD
  (((s1.setFld bIc F.IC_LAST_BAD_SRC irq).setFld bIc F.IC_LAST_BAD_RID 0).setFld bIc F.IC_LAST_BAD_PORT 0).setFld bIc
    F.IC_LAST_BAD_WHY why

/-- Whether a posted write lies in the range that R411 claims. -/
def msiRange (addr : Word) : Bool := decide (0xFFFFFF000000 ≤ addr.toNat) && decide (addr.toNat ≤ 0xFFFFFFFFFFFF)

/-- A posted write of a root port in the message range (R411); false where it was discarded. -/
def State.msiWrite (s : State) (port rid : Nat) (addr : Word) (len data : Nat) : State × Bool :=
  match s.msiFault port rid addr len data with
  | some why => (s.msiBad port rid data why, false)
  | none => (s.sourceEvent data, true)

/-! ## The ESE (R420, R480) -/

/-- A source that may be delivered to the ESE. -/
def IcSource.deliverable (e : IcSource) : Bool := e.toEse && e.enabled && e.pend && e.offerable && !e.active

/-- The source that is delivered next: the first to have become offerable. -/
def State.nextForEse (s : State) : Option Nat :=
  (s.ic.foldl (fun best x =>
    if x.2.deliverable then
      match best with
      | some (n, o) => if x.2.order < o then some (x.1, x.2.order) else some (n, o)
      | none => some (x.1, x.2.order)
    else best) (none : Option (Nat × Nat))).map (·.1)

/-- A source enters the ESE event queue and becomes Idle. -/
def State.deliverToEse (s : State) (n : Nat) : State :=
  let e := s.source n
  let s1 := s.setSource n { e with pend := false, events := 0, offerable := false, order := 0,
                                   lastTaken := some s.timebase }
  let s2 := { s1 with ese := { s1.ese with queue := s1.ese.queue ++ [(n, s.timebase.toNat % 2 ^ 32)] } }
  (s2.count bIc F.IC_CNT_TAKEN).setFlag bEse F.SVC_ALERT_EVQ true

/-- ESE_EVENT_DELIVERY (R420, R480): the first source in order enters the event queue while it has room. -/
def execEseEventDelivery (s : State) : Host.Outcome State Fault Refusal :=
  match s.nextForEse with
  | some n => event "ESE_EVENT_DELIVERY" (s.icOffers && decide (s.ese.queue.length < 64)) s (s.deliverToEse n)
  | none => event "ESE_EVENT_DELIVERY" false s s

/-- EVQ_DATA as a read returns it (R480, Table 21.8). -/
def State.evqData (s : State) : Word :=
  match s.ese.queue with
  | (n, t) :: _ => BitVec.ofNat 64 (n + 2 ^ 15 + 2 ^ 32 * t)
  | [] => 0

/-- A read of EVQ_DATA removes one entry. -/
def State.evqPop (s : State) : State :=
  let s1 := { s with ese := { s.ese with queue := s.ese.queue.drop 1 } }
  s1.setFlag bEse F.SVC_ALERT_EVQ (!s1.ese.queue.isEmpty)

/-- IC_EOI is refused unless it names the top of the core's stack. -/
def ifaceRefused (s : State) (core off : Nat) (v : Word) : List Fld :=
  if off = 0x048 ∧ ¬ s.eoiLegal core (bits v 0 13) then [F.IC_EOI_SRC] else []

/-- What an accepted write of an interrupt interface page does. -/
def ifaceWrote (core off : Nat) (v : Word) (s : State) : State :=
  if off = 0x048 then (if s.eoiLegal core (bits v 0 13) then s.endOfInterrupt core (bits v 0 13) else s)
  else if off = 0x060 then s.clearEvkind (0x1E00 + core) (bits v 0 3)
  else s

end Sys2Proof.Machine
end

