-- ==== Sys2Proof/Machine/Recorder.lean ====
section
/-!
DEFINITION. The event recorder and the time of day (*Event Recorder*): records and their areas, flood control,
readout, and the setting, steering and leap seconds of the calendar clock.
-/

namespace Sys2Proof.Machine

/-- The recorder's own page, as the source of its Crumbs and errors. -/
def recPage : Page := ⟨.recorder, 0⟩

/-! ## Records (Table 20.1) -/

/-- Word 0x18 of a record: nanoseconds, leap and steered flags. -/
def timeWord (nanos : Nat) (leap steered : Bool) : Word :=
  BitVec.ofNat 64 (nanos + 2 ^ 30 * b2n leap + 2 ^ 31 * b2n steered)

/-- Words 0 to 14 of a record. -/
def Record.body (r : Record) : List Word :=
  [ BitVec.ofNat 64 (r.crumb.code + 2 ^ 16 * r.crumb.sev + 2 ^ 20 * b2n r.crumb.zone.isSome
      + 2 ^ 21 * b2n r.crumb.injected + 2 ^ 24 * r.crumb.zone.getD 0 + 2 ^ 32 * r.crumb.srcType
      + 2 ^ 48 * r.crumb.srcInst),
    BitVec.ofNat 64 (r.seq + 2 ^ 32 * r.repeats),
    BitVec.ofNat 64 r.crumb.seconds,
    timeWord r.crumb.nanos r.crumb.leap r.crumb.steered,
    r.crumb.tb,
    r.lastTb ] ++ (r.crumb.payload ++ List.replicate 9 0).take 9

/-- The sixteen words of a record; its CRC covers bytes 0x00 to 0x7B (R446). -/
def Record.words (r : Record) : List Word :=
  let bs := r.body.flatMap (fun w => leBytes 8 w.toNat)
  r.body ++ [BitVec.ofNat 64 (2 ^ 32 * crc32c (bs ++ [0, 0, 0, 0]))]

/-- The sixteen words of record index i; an empty record is zero-filled (R456). -/
def State.recordWords (s : State) (i : Nat) : List Word :=
  match SMap.find? s.recorder.records i with
  | some r => r.words
  | none => List.replicate 16 0

/-- Stores a record at an index. -/
def State.putRecord (s : State) (i : Nat) (r : Record) : State :=
  { s with recorder := { s.recorder with records := SMap.put s.recorder.records i r } }

/-- Whether the next record goes to the kept area (R448, R457). -/
def State.keptOpen (s : State) : Bool :=
  decide (s.fld bRec F.REC_STAT_KEPT_COUNT < 4096) && !s.flag bRec F.REC_STAT_KEPT_CLOSED

/-- Moves the write position past a circulating index (R448). -/
def State.advanceNext (s : State) : State :=
  if s.fld bRec F.REC_HEAD_NEXT = 65535 then
    ((s.setFld bRec F.REC_HEAD_NEXT 4096).setFlag bRec F.REC_STAT_WRAPPED true).count bRec F.REC_STAT_WRAPS
  else s.setFld bRec F.REC_HEAD_NEXT (s.fld bRec F.REC_HEAD_NEXT + 1)

/-- Notes the index and SEQ of the last record written (REC_HEAD). -/
def State.noteLast (s : State) (i seq : Nat) : State :=
  (s.setFld bRec F.REC_HEAD_LAST i).setFld bRec F.REC_HEAD_LAST_SEQ seq

/-- Writes a Crumb as a new record (R448, R449). -/
def State.writeRecord (s : State) (c : Crumb) : State :=
  let seq := s.recorder.nextSeq
  let r : Record := { crumb := c, seq := seq, repeats := 1, lastTb := c.tb }
  let s1 := { s with recorder := { s.recorder with nextSeq := (seq + 1) % 2 ^ 32 } }
  if s.keptOpen then
    let i := s.fld bRec F.REC_STAT_KEPT_COUNT
    (((s1.putRecord i r).setFld bRec F.REC_STAT_KEPT_COUNT (i + 1)).setFlag bRec F.REC_STAT_KEPT_READ
      false).noteLast i seq
  else
    let i := s.fld bRec F.REC_HEAD_NEXT
    ((s1.putRecord i r).advanceNext).noteLast i seq

/-! ## Flood control (R451) -/

/-- Whether a submission equals the last record in every field that R451 names. -/
def Record.mergeable (r : Record) (c : Crumb) : Bool :=
  r.crumb.code == c.code && r.crumb.sev == c.sev && r.crumb.zone == c.zone && r.crumb.srcType == c.srcType &&
  r.crumb.srcInst == c.srcInst && r.crumb.payload == c.payload && r.crumb.injected == c.injected &&
  decide (r.repeats < 0xFFFFFFFF)

/-- RECMODE 0: merge into the last record, or write a new one. -/
def State.takeMerging (s : State) (c : Crumb) : State :=
  let i := s.fld bRec F.REC_HEAD_LAST
  match SMap.find? s.recorder.records i with
  | some r =>
    if r.mergeable c then
      let s1 := (s.putRecord i { r with repeats := r.repeats + 1, lastTb := c.tb }).count bRec F.REC_CNT_MERGED
      if i < 4096 then s1.setFlag bRec F.REC_STAT_KEPT_READ false else s1
    else s.writeRecord c
  | none => s.writeRecord c

/-- A Crumb of the recorder itself, stamped now. -/
def State.ownCrumb (s : State) (code sev : Nat) (payload : List Word) : Crumb :=
  s.stamp recPage code sev payload none false

/-- Reports a bucket's suppressed count with Crumb 0x0E01. -/
def State.reportSuppressed (s : State) (b : Bucket) : State :=
  if b.suppressed = 0 then s
  else s.writeRecord (s.ownCrumb 0x0E01 2 [BitVec.ofNat 64 b.code, BitVec.ofNat 64 b.suppressed])

/-- Takes the bucket of a code to the most recently used place, replacing the least recently used of 64. -/
def State.bucketFor (s : State) (code : Nat) : State × Bucket :=
  let bs := s.recorder.buckets
  match bs.find? (fun b => b.code == code) with
  | some b => ({ s with recorder := { s.recorder with buckets := bs.filter (fun x => x.code != code) } }, b)
  | none =>
    let fresh : Bucket := { code := code, tokens := s.fld bRec F.REC_RATE_BURST, suppressed := 0 }
    if bs.length < 64 then (s, fresh)
    else
      match bs with
      | [] => (s, fresh)
      | old :: rest => (({ s with recorder := { s.recorder with buckets := rest } }).reportSuppressed old, fresh)

/-- Puts a bucket back as the most recently used. -/
def State.putBucket (s : State) (b : Bucket) : State :=
  { s with recorder := { s.recorder with buckets := s.recorder.buckets ++ [b] } }

/-- RECMODE 1: spend a token, or suppress. -/
def State.takeLimited (s : State) (c : Crumb) : State :=
  let cls := c.code / 256
  if cls = 0x01 ∨ cls = 0x0D ∨ cls = 0x0E ∨ c.sev = 5 then s.writeRecord c
  else
    let r := s.bucketFor c.code
    if 0 < r.2.tokens then (r.1.putBucket { r.2 with tokens := r.2.tokens - 1 }).writeRecord c
    else (r.1.putBucket { r.2 with suppressed := r.2.suppressed + 1 }).count bRec F.REC_CNT_SUPPRESSED

/-- The recorder takes one submission under the RECMODE in force. -/
def State.takeSubmission (s : State) (c : Crumb) : State :=
  if s.fld bRec F.REC_CTL_RECMODE = 1 then s.takeLimited c else s.takeMerging c

/-- CRUMB_SUBMISSION (R450): a block submits a Crumb. -/
def execCrumbSubmission (page : BitVec 16) (code : BitVec 16) (sev : Fin 6) (zone : Option (BitVec 8))
    (injected : Bool) (payload : List Word) (s : State) : Host.Outcome State Fault Refusal :=
  match pageAt page.toNat with
  | some p =>
    event "CRUMB_SUBMISSION"
      (s.present p && decide (1 ≤ code.toNat / 256) && decide (code.toNat / 256 ≤ 0x10) && decide (payload.length ≤ 9))
      s (s.crumb p code.toNat sev.val payload (zone.map (·.toNat)) injected)
  | none => event "CRUMB_SUBMISSION" false s s

/-- CRUMB_WRITE (R448, R451): the recorder takes the oldest submission. -/
def execCrumbWrite (s : State) : Host.Outcome State Fault Refusal :=
  match s.recorder.queue with
  | c :: rest =>
    event "CRUMB_WRITE" (!s.flag bRec F.REC_STAT_FILLING) s
      ({ s with recorder := { s.recorder with queue := rest } }.takeSubmission c)
  | [] => event "CRUMB_WRITE" false s s

/-- DROP_REPORT (R450): with the queue empty after drops, Crumb 0x0E02 reports them. -/
def execDropReport (s : State) : Host.Outcome State Fault Refusal :=
  event "DROP_REPORT" (s.recorder.queue.isEmpty && decide (0 < s.recorder.drops) && !s.flag bRec F.REC_STAT_FILLING) s
    ({ s with recorder := { s.recorder with drops := 0 } }.writeRecord
      (s.ownCrumb 0x0E02 3 [BitVec.ofNat 64 s.recorder.drops, BitVec.ofNat 64 s.recorder.dropSeq]))

/-- TOKEN_GAIN (R451): the bucket of a code gains a token, which it keeps below BURST; a suppressed count is
reported and cleared. -/
def execTokenGain (code : BitVec 16) (s : State) : Host.Outcome State Fault Refusal :=
  match s.recorder.buckets.find? (fun b => b.code == code.toNat) with
  | some b =>
    let b1 := { b with tokens := if b.tokens < s.fld bRec F.REC_RATE_BURST then b.tokens + 1 else b.tokens,
                       suppressed := 0 }
    let bs := s.recorder.buckets.map (fun x => if x.code = code.toNat then b1 else x)
    event "TOKEN_GAIN" true s ({ s with recorder := { s.recorder with buckets := bs } }.reportSuppressed b)
  | none => event "TOKEN_GAIN" false s s

/-- The power-on Crumb (R456). -/
def State.powerOnCrumb (s : State) : Crumb :=
  s.ownCrumb 0x0100 0 [s.reg (bEse + F.RST_STAT_KIND.off)]

/-- RECORDER_FILL_COMPLETE (R456): the SRAM is zero-filled, SEQ starts at 1 and the power-on Crumb is written
before the queued submissions. -/
def execRecorderFillComplete (s : State) : Host.Outcome State Fault Refusal :=
  let s1 := { s with recorder := { s.recorder with records := [], nextSeq := 1 } }.setFlag bRec F.REC_STAT_FILLING false
  event "RECORDER_FILL_COMPLETE" (s.flag bRec F.REC_STAT_FILLING) s (s1.writeRecord s.powerOnCrumb)

/-- Re-arms the kept area and writes Crumb 0x0E03 into it (R457). -/
def State.rearm (s : State) : State :=
  let s1 := ((s.setFld bRec F.REC_STAT_KEPT_COUNT 0).setFlag bRec F.REC_STAT_KEPT_READ false).setFlag bRec
    F.REC_STAT_KEPT_CLOSED false
  s1.crumb recPage 0x0E03 1 []

/-! ## Readout (R458) -/

/-- Copies a record into the read snapshot. `bad` names a word that was uncorrectable at readout: it is returned
as it stands in the array, which the manual leaves open, and BAD is set. -/
def State.snapshot (s : State) (i : Nat) (bad : Option (Fin 16)) : State :=
  let ws := s.recordWords i
  let s1 :=
    match bad with
    | some k => { s.drawn with recorder := { s.recorder with snapshot := ws.set k.val s.freeVal } }
    | none => { s with recorder := { s.recorder with snapshot := ws } }
  ((s1.setFld bRec F.REC_RD_SEL_INDEX i).setFld bRec F.REC_RD_SEL_WORD 0).setFlag bRec F.REC_RD_SEL_BAD bad.isSome

/-- The snapshot word a read of REC_RD_DATA returns. -/
def State.recData (s : State) : Word :=
  (s.recorder.snapshot[s.fld bRec F.REC_RD_SEL_WORD]?).getD 0

/-- A read of REC_RD_DATA advances the snapshot; the last word of record KEPT_COUNT - 1 sets KEPT_READ. -/
def State.recAdvance (s : State) (bad : Option (Fin 16)) : State :=
  let w := s.fld bRec F.REC_RD_SEL_WORD
  let i := s.fld bRec F.REC_RD_SEL_INDEX
  if w = 15 then
    let s1 := if i + 1 = s.fld bRec F.REC_STAT_KEPT_COUNT then s.setFlag bRec F.REC_STAT_KEPT_READ true else s
    s1.snapshot ((i + 1) % 65536) bad
  else s.setFld bRec F.REC_RD_SEL_WORD (w + 1)

/-! ## The calendar clock (R452 to R455) -/

/-- The TOD as the two words of a time item. -/
def State.todWords (s : State) : List Word :=
  [BitVec.ofNat 64 s.tod.seconds, timeWord s.tod.nanos s.tod.leap (s.flag bRec F.TOD_STAT_STEERED)]

/-- Clears STEERED; a fall from 1 to 0 sets BLK_ERR.UNSTEERED (R459). -/
def State.unsteer (s : State) : State :=
  let s1 := { s with tod := { s.tod with goodEdges := 0 } }
  if s.flag bRec F.TOD_STAT_STEERED then (s1.setFlag bRec F.TOD_STAT_STEERED false).raiseErr recPage 9 else s1

/-- Sets the TOD to TOD_SET_SEC and TOD_SET_NS (R453). -/
def State.todSet (s : State) : State :=
  let before := s.todWords
  let s1 := { s with tod := { s.tod with seconds := s.fld bRec F.TOD_SET_SEC_SECONDS,
                                         nanos := s.fld bRec F.TOD_SET_NS_NANOS, frac := 0, leap := false,
                                         setAtPps := false } }
  let s2 := (s1.setFlag bRec F.TOD_STAT_SET true).unsteer
  s2.crumb recPage 0x0D01 1 (before ++ s2.todWords)

/-- The TOD after the end of its second, with an armed leap applied at the end of the UTC day (R455). -/
def Tod.nextSecond (t : Tod) : Tod :=
  let day := t.seconds % 86400
  if t.leap then { t with seconds := t.seconds + 1, leap := false }
  else if day = 86399 ∧ t.leapArmed = some true then { t with leap := true, leapArmed := none }
  else if day = 86398 ∧ t.leapArmed = some false then { t with seconds := t.seconds + 2, leapArmed := none }
  else { t with seconds := t.seconds + 1 }

/-- LEAP_PENDING follows the armed leap. -/
def State.leapStat (s : State) : State := s.setFlag bRec F.TOD_STAT_LEAP_PENDING s.tod.leapArmed.isSome

/-- Arms an inserted (`true`) or deleted leap second, or disarms (R455). -/
def State.armLeap (s : State) (kind : Option Bool) : State :=
  { s with tod := { s.tod with leapArmed := kind } }.leapStat

/-- One time-base step of the TOD: 10 ns and the rate correction, 10^-8 ns per step and part per billion. -/
def Tod.tick (t : Tod) : Tod :=
  let frac := t.frac + t.rate
  let ns := frac / 100000000
  let total : Int := (t.nanos : Int) + 10 + ns
  let t1 := { t with frac := frac - ns * 100000000, sinceEdge := t.sinceEdge + 1 }
  if total < 0 then { t1 with nanos := 0 }
  else if total.toNat < 1000000000 then { t1 with nanos := total.toNat }
  else { t1.nextSecond with nanos := total.toNat - 1000000000 }

/-- PPS_SEEN falls 1.5 s after the last edge (Table 20.5). -/
def State.ppsStat (s : State) : State :=
  if 150000000 < s.tod.sinceEdge then s.setFlag bRec F.TOD_STAT_PPS_SEEN false else s

/-- LEAP_SECOND (R455): the last second before an armed leap ends. -/
def execLeapSecond (s : State) : Host.Outcome State Fault Refusal :=
  let day := s.tod.seconds % 86400
  event "LEAP_SECOND"
    (!s.tod.leap && ((s.tod.leapArmed == some true && day == 86399) || (s.tod.leapArmed == some false && day == 86398)))
    s ({ s with tod := { s.tod.nextSecond with nanos := 0, frac := 0 } }.leapStat)

/-- The offset of the TOD from the nearest whole second, in ns. -/
def Tod.offset (t : Tod) : Int :=
  if t.nanos < 500000000 then t.nanos else (t.nanos : Int) - 1000000000

/-- The TOD at the whole second nearest to it. -/
def Tod.toSecond (t : Tod) : Tod :=
  if t.nanos < 500000000 then { t with nanos := 0, frac := 0 } else { t.nextSecond with nanos := 0, frac := 0 }

/-- A rate correction limited to 100 ppm. -/
def clampRate (r : Int) : Int := if r < -100000 then -100000 else if 100000 < r then 100000 else r

/-- TOD_STAT.OFFSET: e as a signed 32-bit number. -/
def offsetField (e : Int) : Nat := (BitVec.ofInt 32 e).toNat

/-- The steering of a PPS edge with offset e (R454). -/
def State.steer (s : State) (e : Int) : State :=
  if 100000 ≤ e.natAbs then
    ({ s with tod := s.tod.toSecond }.leapStat.unsteer).crumb recPage 0x0D02 3 [wordOfInt e]
  else
    let good := if e.natAbs ≤ 50 then s.tod.goodEdges + 1 else 0
    let s1 := { s with tod := { s.tod with rate := clampRate (s.tod.rate - e), goodEdges := min good 3 } }
    if 3 ≤ good ∧ ¬ s.flag bRec F.TOD_STAT_STEERED ∧ ¬ s.flag bRec F.TOD_STAT_BACKUP_OSC then
      (s1.setFlag bRec F.TOD_STAT_STEERED true).crumb recPage 0x0D04 1 []
    else s1

/-- PPS_EDGE (R454): a rising edge of PPS_IN applies a pending set, steps the TOD or steers it. -/
def execPpsEdge (s : State) : Host.Outcome State Fault Refusal :=
  let e := s.tod.offset
  let s1 := (({ s with tod := { s.tod with sinceEdge := 0 } }.setFlag bRec F.TOD_STAT_PPS_SEEN true).setFld bRec F.TOD_STAT_OFFSET (offsetField e)).setFlag bRec
    F.TOD_STAT_HOLDOVER (s.flag bRec F.TOD_STAT_BACKUP_OSC)
  event "PPS_EDGE" true s (if s.tod.setAtPps then s1.todSet else s1.steer e)

/-- No PPS edge, or the backup oscillator in use: HOLDOVER set, STEERED cleared, last rate kept (R454). -/
def State.holdover (s : State) : State :=
  ((s.setFlag bRec F.TOD_STAT_HOLDOVER true).unsteer).crumb recPage 0x0D03 2 []

/-- PPS_HOLDOVER (R454): no edge for 3 s. -/
def execPpsHoldover (s : State) : Host.Outcome State Fault Refusal :=
  event "PPS_HOLDOVER" (!s.flag bRec F.TOD_STAT_HOLDOVER) s ((s.setFlag bRec F.TOD_STAT_PPS_SEEN false).holdover)

/-- The TOD changes to the backup oscillator (R20, R454). -/
def State.backupOscillator (s : State) : State :=
  if s.flag bRec F.TOD_STAT_BACKUP_OSC then s else (s.setFlag bRec F.TOD_STAT_BACKUP_OSC true).holdover

/-! ## The recorder's registers -/

/-- A read of TOD_SEC latches TOD_NS (Table 20.4). -/
def State.latchTod (s : State) : State :=
  (s.setReg (bRec + 0x080) (BitVec.ofNat 64 s.tod.seconds)).setReg (bRec + 0x088)
    (timeWord s.tod.nanos s.tod.leap (s.flag bRec F.TOD_STAT_STEERED))

/-- The command fields of the recorder page that a write is refused for (reason 0x05). -/
def recRefused (s : State) (off : Nat) (v : Word) : List Fld :=
  if off = 0x0A0 then
    let n := popCount (v &&& 0x1F)
    if 2 ≤ n ∨ (s.tod.setAtPps ∧ (bit v 0 ∨ bit v 1)) then
      [F.TOD_CMD_SET_NOW, F.TOD_CMD_SET_AT_PPS, F.TOD_CMD_LEAP_INS, F.TOD_CMD_LEAP_DEL, F.TOD_CMD_LEAP_CANCEL]
    else []
  else []

/-- What an accepted write of the recorder page does. -/
def recWrote (off : Nat) (v : Word) (s : State) : State :=
  if off = 0x060 then (if bit v 0 then s.rearm else s)
  else if off = 0x068 then s.snapshot (bits v 0 16) none
  else if off = 0x0A0 then
    if bit v 0 then s.todSet
    else if bit v 1 then { s with tod := { s.tod with setAtPps := true } }
    else if bit v 2 then s.armLeap (some true)
    else if bit v 3 then s.armLeap (some false)
    else if bit v 4 then s.armLeap none
    else s
  else s

end Sys2Proof.Machine
end

