-- ==== Sys2Proof/Machine/Modes.lean ====
section
/-!
DEFINITION. The operating mode, Check-Stop and the zeroization of keys (*Operating Modes, Boot and the Ehrold
Service Engine*, R363).
-/

namespace Sys2Proof.Machine

/-- The ESE page, as the source of its Crumbs. -/
def esePage : Page := ⟨.ese, 0⟩

/-- MODE_STAT. -/
def State.modeStat (s : State) : Word := s.reg (bEse + F.MODE_STAT_MODE.off)

/-! ## The mode (R23, R461, R462) -/

/-- A memory group is offline. -/
def State.groupOffline (s : State) (g : Nat) : Bool := s.fld (bGroup g) F.GRP_STAT_STATE == 5

/-- A condition of R23 holds. -/
def State.degraded (s : State) : Bool :=
  s.anyStopped || s.ese.shortStart || (List.range 4).any (fun g => s.groupOffline g) || s.ese.oneEngine ||
  s.flag bIdent F.CAP_CORES_UNCHECKED

/-- BASE as R23 and Table 21.2 give it. -/
def State.baseNow (s : State) : Nat :=
  if s.modeBase = 0 then 0 else if s.degraded then 6 else if s.split then 5 else 4

/-- MODE as R461 gives it. -/
def State.modeNow (s : State) : Nat :=
  if s.mode = 10 then 10
  else if s.baseNow = 0 then s.mode
  else if s.ese.inQuiesce then 9
  else if s.reg (bEse + F.DBG_STAT_HALTED.off) ≠ 0 then 8
  else if ¬ s.ese.recoveries.isEmpty then 7
  else s.baseNow

/-- MODE_STAT follows the conditions it reports; a change of MODE writes its Crumb, which holds `old`, the MODE_STAT
before the change (R461). -/
def State.refreshModeFrom (old : Word) (s : State) : State :=
  let s1 := ((s.setFlag bEse F.MODE_STAT_RECOVERY (!s.ese.recoveries.isEmpty)).setFlag bEse F.MODE_STAT_DEBUG
    (s.reg (bEse + F.DBG_STAT_HALTED.off) != 0)).setFld bEse F.MODE_STAT_BASE s.baseNow
  let m := s.modeNow
  if s.mode = m then s1
  else
    let s2 := s1.setFld bEse F.MODE_STAT_MODE m
    s2.crumb esePage (0x0200 + m) (modeSev m) [old, s2.modeStat]

/-- MODE_STAT follows the conditions it reports, from what it holds. -/
def State.refreshMode (s : State) : State := s.refreshModeFrom s.modeStat

/-- A recovery of R462 begins. -/
def State.recoveryBegins (s : State) (r : Recovery) : State :=
  { s with ese := { s.ese with recoveries := s.ese.recoveries ++ [r] } }.refreshMode

/-- A recovery of R462 ends. -/
def State.recoveryEnds (s : State) (r : Recovery) : State :=
  { s with ese := { s.ese with recoveries := s.ese.recoveries.filter (fun x => x != r) } }.refreshMode

/-! ## Zeroization (R363) -/

/-- How many slots are loaded. -/
def State.loadedSlots (s : State) : Nat := (s.keys.filter (fun x => !x.2.words.isEmpty)).length

/-- Zeroizes the key array, every load buffer and every release buffer. Every slot is empty and its GEN is 0; the uses of running
requests, and the LEN they count under, stay until those requests end. `cause` counts the list of R363. -/
def State.zeroizeKeys (s : State) (cause : Nat) : State :=
  { s with
    keys := (s.keys.filter (fun (x : Nat × KeySlot) => x.2.uses != 0)).map
      (fun (x : Nat × KeySlot) => (x.1, ({ len := x.2.len, uses := x.2.uses } : KeySlot))),
    keyLoads := []
    cPipes := [] }.crumbOpen ⟨.cipher, 0⟩ 0x0B00 [Config.zeroizeCause cause, BitVec.ofNat 64 s.loadedSlots]

/-! ## Check-Stop (R474) -/

/-- A core stops issue: uncommitted work and stores not yet performed are discarded. -/
def LCore.checkStopped (c : LCore) : LCore :=
  { c with arch := c.wafer, fresh := [], stores := [], group := 0, tx := none, replay := [], devLoad := none,
           owed := none }

/-- The pages whose blocks stop in Check-Stop: engines, ports, the interrupt controller and the home agent. -/
def checkStopPages : List Page :=
  [⟨.css, 0⟩, ⟨.eng, 0⟩, ⟨.eng, 1⟩, ⟨.cipher, 0⟩, ⟨.comp, 0⟩, ⟨.icGlobal, 0⟩, ⟨.home, 0⟩] ++
  (List.range 16).map (fun n => ⟨.cport, n⟩) ++ (List.range 12).map (fun f => ⟨.fport, f⟩)

/-- Stops a block: BLK_STAT.RUNNING clears. -/
def State.stopPage (s : State) (p : Page) : State := s.setFlag p.base F.RUNNING false

/-- Every position that runs is clock-gated, which is its Doze state (R425, R474). -/
def State.gatePositions (s : State) : State :=
  (List.range 40).foldl (fun t p =>
    if t.pstate p = 0 then t.setFld (bTilePwr (p / 10)) (pstateFld (p % 10)) 1 else t) s

/-- Entry to Check-Stop, or the further Crumb of a later cause, but for the current (see `State.checkStop`). -/
def State.enterCheckStop (s : State) (cause : Nat) (extra : List Word) : State :=
  let old := s.modeStat
  let report := fun (t : State) => t.crumb esePage (0x1000 + cause) 5 (old :: extra)
  if s.mode = 10 then report s
  else
    let s1 := { s with cores := s.cores.map (fun (x : Nat × LCore) => (x.1, x.2.checkStopped)),
                       tiles := s.tiles.map (fun (x : Nat × Tile) => (x.1, { x.2 with ordering := [] })),
                       ese := { s.ese with bootNext := false } }
    let s2 := (checkStopPages.foldl State.stopPage s1).gatePositions
    let s3 := (s2.setFld bEse F.MODE_STAT_CAUSE cause).setFld bEse F.MODE_STAT_MODE 10
    let s4 := report (s3.crumb esePage 0x020A 5 [old, s3.modeStat])
    (s4.setFlag bEse F.SVC_ALERT_CHECKSTOP true).zeroizeKeys 1

end Sys2Proof.Machine
end

