-- ==== Sys2Proof/Machine/CoreRegs.lean ====
section
/-!
DEFINITION. The registers a logical core holds itself (Tables 3.1 and 3.2) and the abort of a transaction
(R185, R186).
-/

namespace Sys2Proof.Machine

/-! ## Special register numbers (Table 3.2) -/

def srFPCR : Nat := 0x001
def srFPSR : Nat := 0x002
def srTXSTAT : Nat := 0x003
def srLC : Nat := 0x010
def srLB : Nat := 0x011
def srLE : Nat := 0x012
def srPSW : Nat := 0x100
def srFPTRAP_PC : Nat := 0x107
def srCORE_CTL : Nat := 0x108
def srTTB_S : Nat := 0x110
def srTTB_H : Nat := 0x210
def srLSE_LOG : Nat := 0x220

/-- EPC, ESTAT, VBAR, EADDR of a level, and its stack limit (the level's number is the hundred above 0). -/
def srEPC (level : Nat) : Nat := 0x100 * level + 1
def srESTAT (level : Nat) : Nat := 0x100 * level + 2
def srVBAR (level : Nat) : Nat := 0x100 * level + 3
def srEADDR (level : Nat) : Nat := 0x100 * level + 4
def srSPLIM (level : Nat) : Nat := if level = 0 then 0x105 else 0x100 * level + 6

/-- The reset value of a special register (Table 3.2). -/
def srReset (n : Nat) : Word := if n = srPSW then 3 else if n = srCORE_CTL then 6 else 0

/-! ## Register files -/

/-- A general register; G0 reads as zero (R53). -/
def Arch.getG (a : Arch) (r : Nat) : Word := if r = 0 then 0 else SMap.get 0 a.g r

/-- Writes a general register; a write to G0 is discarded (R53). -/
def Arch.setG (a : Arch) (r : Nat) (v : Word) : Arch := if r = 0 then a else { a with g := SMap.set 0 a.g r v }

/-- A floating-point register. -/
def Arch.getF (a : Arch) (r : Nat) : Word := SMap.get 0 a.f r

/-- Writes a floating-point register. -/
def Arch.setF (a : Arch) (r : Nat) (v : Word) : Arch := { a with f := SMap.set 0 a.f r v }

/-- An accumulator. -/
def Arch.getAcc (a : Arch) (r : Nat) : BitVec 128 := SMap.get 0 a.acc r

/-- Writes an accumulator. -/
def Arch.setAcc (a : Arch) (r : Nat) (v : BitVec 128) : Arch := { a with acc := SMap.set 0 a.acc r v }

/-- A special register that the core holds. -/
def Arch.getS (a : Arch) (n : Nat) : Word := SMap.get (srReset n) a.sr n

/-- Writes a special register that the core holds. -/
def Arch.setS (a : Arch) (n : Nat) (v : Word) : Arch := { a with sr := SMap.set (srReset n) a.sr n v }

/-- A field of a special register. -/
def Arch.sf (a : Arch) (n lo width : Nat) : Nat := bits (a.getS n) lo width

/-- Writes a field of a special register. -/
def Arch.setSf (a : Arch) (n lo width v : Nat) : Arch := a.setS n (putBits (a.getS n) lo width v)

/-- The current privilege level (Table 6.1). -/
def Arch.level (a : Arch) : Nat := a.sf srPSW 0 2

/-- The registers that a rollback or a retry never restores: TXSTAT and the late store error log (R185, R250). -/
def keptSr : List Nat := [srTXSTAT, srLSE_LOG, srLSE_LOG + 1, srLSE_LOG + 2, srLSE_LOG + 3]

/-- A recorded state with TXSTAT and the log as they stand now. -/
def Arch.restored (saved now : Arch) : Arch := keptSr.foldl (fun a n => a.setS n (now.getS n)) saved

/-! ## The end of a transaction -/

/-- The abort codes whose cause may be absent on the next attempt (R186). -/
def abortRetry (code : Nat) : Bool := [0x02, 0x04, 0x07, 0x0A, 0x0B, 0x0C, 0x0F].contains code

/-- TXSTAT after an abort (R186). `counted` is false for the aborts that R191 and R195 leave out of BCOUNT. -/
def abortTxstat (v : Word) (code vector : Nat) (counted : Bool) : Word :=
  let v1 := putBits (putBits v 8 8 code) 30 1 (b2n (abortRetry code))
  let v2 := if code = 0x06 then putBits v1 24 6 vector else v1
  let v3 := putBits (putBits v2 0 1 0) 2 4 0
  if bits v 1 1 = 1 ∧ counted then putBits v3 32 4 (satAdd 4 (bits v 32 4) 1) else v3

/-- The core's state after an abort: the recorded state, the abort handler, TXSTAT written; the abort is one
retirement, at which the Wafer is taken (R186, R192). -/
def LCore.aborted (c : LCore) (t : Tx) (code vector : Nat) (counted : Bool) : LCore :=
  let a := (t.saved.restored c.arch).setS srTXSTAT (abortTxstat (c.arch.getS srTXSTAT) code vector counted)
  let a1 := { a with pc := t.handler }
  { c with arch := a1, wafer := a1, group := 0, tx := none,
           lastTb := if t.bounded ∧ t.gather = [] then some (t.begun, t.lines) else c.lastTb }

end Sys2Proof.Machine
end

