-- ==== Sys2Proof/Machine/Power.lean ====
section
/-!
DEFINITION. Power states, latency tolerances, dividers and the Load Forecast (*Power States, Latency Tolerance and
Load Forecast*, R425 to R445).
-/

namespace Sys2Proof.Machine

def pwrPage : Page := ⟨.pwr, 0⟩

/-! ## Currents and the forecast level (R432, R434) -/

/-- The figures of Table 19.2 at a divider code: a position running, a position in Doze, the tile common part. -/
def divFigures (d : Nat) : Nat × Nat × Nat :=
  if d = 0 then (24, 6, 22) else if d = 1 then (22, 5, 20) else if d = 2 then (18, 4, 17)
  else if d = 3 then (14, 3, 14) else (11, 3, 12)

/-- The divider in force in a tile, as its code. -/
def State.divider (s : State) (t : Nat) : Nat := s.fld (bTilePwr t) F.TILE_DIV_CUR

/-- TILE_STAT.TSTATE: 0 active, 2 in Tile Deep. -/
def State.tileDeep (s : State) (t : Nat) : Bool := s.fld (bTilePwr t) F.TILE_STAT_TSTATE == 2

/-- ROLE of a position. -/
def State.role (s : State) (p : Nat) : Nat := s.fld (bPos p) F.CORE_STAT_ROLE

/-- What a position counts for in the forecast level at a divider (R434, R440, R474). -/
def State.positionLoad (s : State) (d p : Nat) : Nat :=
  let f := divFigures d
  if ¬ s.present ⟨.position, p⟩ ∨ s.role p = 2 ∨ s.role p = 3 ∨ 2 < s.pstate p then 0
  else if (s.role p = 4 ∧ ¬ s.split) ∨ s.mode = 10 then f.2.1
  else f.1

/-- The forecast level F of a tile rail at a divider. -/
def State.forecastAt (s : State) (t d : Nat) : Nat :=
  if s.tileDeep t then 12
  else (divFigures d).2.2 + ((List.range 10).map (fun i => s.positionLoad d (10 * t + i))).sum

/-- The forecast level F of a tile rail. -/
def State.forecast (s : State) (t : Nat) : Nat := s.forecastAt t (s.divider t)

/-- TILE_STAT.CAPPED: R441 holds the divider below the one requested. -/
def State.capped (s : State) (t : Nat) : Bool :=
  decide (s.fld (bTilePwr t) F.TILE_DIV_REQ < s.divider t) && decide (220 < s.forecastAt t (s.divider t - 1))

/-- TILE_STAT as it reads. -/
def State.tileStat (s : State) (t : Nat) : Word :=
  putBit (putBits (s.reg (bTilePwr t + 0x048)) 8 8 (s.forecast t)) 17 (s.capped t)

/-- TILE_IMAX as it reads. -/
def State.tileImax (s : State) (t : Nat) : Word :=
  let f := divFigures (s.divider t)
  BitVec.ofNat 64 (f.1 + 2 ^ 8 * f.2.1 + 2 ^ 16 * f.2.2)

/-! ## The slew track and the messages (R435 to R439) -/

/-- The time base in ns. -/
def State.nowNs (s : State) : Nat := 10 * s.timebase.toNat

/-- BRD_SLEW of a rail, in A/µs. -/
def State.slew (s : State) (t : Nat) : Nat := bits (s.reg (bPwr + 0x048)) (16 * t) 9

/-- A tile rail. -/
def State.rail (s : State) (t : Nat) : Rail := SMap.get {} s.power.rails t

/-- Writes a tile rail. -/
def State.setRail (s : State) (t : Nat) (x : Rail) : State :=
  { s with power := { s.power with rails := SMap.set {} s.power.rails t x } }

/-- The first start of an interval of `len` ns on a track, at `t0` or later in steps of `step` ns. -/
def freeSlot (slots : List (Nat × Nat)) (len step : Nat) : Nat → Nat → Nat
  | 0, t0 => t0
  | k + 1, t0 =>
    match slots.find? (fun x => decide (x.1 < t0 + len) && decide (t0 < x.2)) with
    | some x => freeSlot slots len step k (t0 + (x.2 - t0 + step - 1) / step * step)
    | none => t0

/-- CHK of a message: the XOR of its nibbles 0 to 6. -/
def lfcCheck (m : Nat) : Nat := (List.range 7).foldl (fun x i => x ^^^ (m / 16 ^ i % 16)) 0

/-- A Load Forecast message (Table 19.3). -/
def lfcMessage (typ rail amount lead tag : Nat) : Nat :=
  let m := 9 + 2 ^ 4 * typ + 2 ^ 8 * rail + 2 ^ 12 * (amount % 256) + 2 ^ 20 * lead + 2 ^ 24 * tag
  m + 2 ^ 28 * lfcCheck m

/-- Reserves an interval; HELD counts a change placed behind another reservation. -/
def State.reserveSlot (s : State) (t start len wanted : Nat) : State :=
  let x := s.rail t
  let s1 := s.setRail t { x with slots := (x.slots.filter (fun y => decide (s.nowNs < y.2))) ++ [(start, start + len)] }
  if start = wanted then s1 else s1.count bPwr F.LFC_CNT_HELD

/-- An unannounced change of 20 A or less. -/
def State.quietChange (s : State) (t amount : Nat) : State :=
  if amount = 0 then s
  else
    let len := amount * 1000 / s.slew t
    s.reserveSlot t (freeSlot (s.rail t).slots len 1 64 s.nowNs) len s.nowNs

/-- An announced change: the message is sent once the link is free, and the change begins LEAD × 100 ns after its
end, `lead` at the earliest. -/
def State.announce (s : State) (t amount lead : Nat) (rise : Bool) : State :=
  let len := amount * 1000 / s.slew t
  let x := s.rail t
  let ready := (if s.nowNs < s.power.linkFree then s.power.linkFree else s.nowNs) + 80
  let wanted := ready + 100 * lead
  let start := freeSlot x.slots len 100 64 wanted
  let sentBy := if start ≤ ready + 1500 then ready else start - 1500
  let waiting := ((x.rises.filter (fun y => decide (sentBy < y.2))).map (·.1)).sum
  let s1 := s.reserveSlot t start len wanted
  let s2 := s1.setRail t { s1.rail t with
    tag := (x.tag + 1) % 16
    rises := if rise then x.rises.filter (fun y => decide (s.nowNs < y.2)) ++ [(amount, start)] else x.rises }
  if s.flag bPwr F.PWR_CTL_LFC_EN then
    let m := lfcMessage (if rise then 1 else 2) t (if rise then waiting + amount else amount)
      ((start - sentBy) / 100) ((x.tag + 1) % 16)
    let s3 := { s2 with power := { s2.power with linkFree := sentBy, sent := m } }
    (s3.setFld bPwr F.LFC_STAT_LAST m).count bPwr (if rise then F.LFC_CNT_RISES else F.LFC_CNT_FALLS)
  else s2.setRail t { s2.rail t with tag := x.tag }

/-- F rises; a rise of 20 A or less is not announced. -/
def State.rise (s : State) (t amount : Nat) : State :=
  if amount ≤ 20 then s.quietChange t amount else s.announce t amount 3 true

/-- F falls; a fall of 20 A or less is not announced. -/
def State.fall (s : State) (t amount : Nat) : State :=
  if amount ≤ 20 then s.quietChange t amount else s.announce t amount 1 false

/-- The rail follows the change of F from an earlier state. -/
def State.railFollows (s old : State) (t : Nat) : State :=
  if old.forecast t ≤ s.forecast t then s.rise t (s.forecast t - old.forecast t)
  else s.fall t (old.forecast t - s.forecast t)

/-- Check-Stop (R474): the entry, and the fall of each tile's forecast level to its Doze and common figures. -/
def State.checkStop (s : State) (cause : Nat) (extra : List Word) : State :=
  (List.range 4).foldl (fun t k => t.railFollows s k) (s.enterCheckStop cause extra)

/-! ## Dividers (R433, R441) -/

/-- STEPPING: a step toward the requested divider is under way. -/
def State.noteStepping (s : State) (t : Nat) : State :=
  let req := s.fld (bTilePwr t) F.TILE_DIV_REQ
  let up := decide (req < s.divider t) && !s.capped t && !s.flag (bTilePwr t) F.TILE_STAT_THROTTLED &&
    !s.flag bPwr F.PWR_STAT_LIMITING
  s.setFlag (bTilePwr t) F.TILE_DIV_STEPPING (up || decide (s.divider t < req))

/-- Puts a divider in force; the rail follows. -/
def State.setDivider (s : State) (t d : Nat) : State :=
  ((s.setFld (bTilePwr t) F.TILE_DIV_CUR d).railFollows s t).noteStepping t

/-- Steps a tile down until a load that `after` adds would fit within 220 A (R441). -/
def State.makeRoom (t : Nat) (after : State → State) : Nat → State → State
  | 0, s => s
  | k + 1, s =>
    if 220 < (after s).forecast t ∧ s.divider t < 4 then State.makeRoom t after k (s.setDivider t (s.divider t + 1)) else s

/-- DIVIDER_STEP (R433): one step toward TILE_DIV.REQ. -/
def execDividerStep (t : Fin 4) (s : State) : Host.Outcome State Fault Refusal :=
  let req := s.fld (bTilePwr t.val) F.TILE_DIV_REQ
  let d := s.divider t.val
  event "DIVIDER_STEP" (s.flag (bTilePwr t.val) F.TILE_DIV_STEPPING && s.mode != 0 && s.mode != 10) s
    (if req < d then s.setDivider t.val (d - 1) else s.setDivider t.val (d + 1))

/-! ## Latency tolerances (R427 to R430) -/

/-- The nanoseconds of a tolerance, or none where it is unbounded (R427). -/
def toleranceNs (v : Nat) : Option Nat :=
  if v / 2 ^ 15 % 2 = 1 then some (v % 2 ^ 10 * 32 ^ (v / 2 ^ 10 % 8)) else none

/-- The smaller of two tolerances. -/
def minTolerance : Option Nat → Option Nat → Option Nat
  | none, b => b
  | a, none => a
  | some a, some b => some (if b < a then b else a)

/-- LT_MODULE: the tolerance in force and its source (R428). -/
def State.ltModule (s : State) : Word :=
  let cands := [(s.reg (bPwr + 0x050)).toNat % 2 ^ 16, s.fld bPwr F.LT_LTR_PORT0, s.fld bPwr F.LT_LTR_PORT1]
  let best := (cands.zipIdx).foldl (fun (b : Option (Nat × Nat × Nat)) x =>
    match toleranceNs x.1, b with
    | some n, some (m, _, _) => if n < m then some (n, x.1, x.2 + 1) else b
    | some n, none => some (n, x.1, x.2 + 1)
    | none, _ => b) none
  match best with
  | some (_, v, i) => BitVec.ofNat 64 (v + 2 ^ 16 * i)
  | none => 0

/-- The tolerance T of a logical core (R429). -/
def State.tolerance (s : State) (n : Nat) : Option Nat :=
  minTolerance (toleranceNs ((s.reg (bDoor (s.zoneOf n) + 0x300 + 8 * n)).toNat % 2 ^ 16))
    (toleranceNs (s.ltModule.toNat % 2 ^ 16))

/-- A latency fits a tolerance. -/
def fits (lat : Nat) (t : Option Nat) : Bool :=
  match t with
  | some n => decide (lat ≤ n)
  | none => true

/-- The state that WAIT selects for a logical core (R429): 0 Run, 1 Doze, 2 Nap, 3 Sleep. -/
def State.selectState (s : State) (n : Nat) : Nat :=
  let tol := s.tolerance n
  let deep := s.fld bPwr F.PWR_CTL_DEEPEST
  let b := bPos (s.posOf n)
  if fits 25000 tol && decide (3 ≤ deep) && s.flag b F.CACHE_STAT_L2_ON && !s.flag b F.CACHE_STAT_FLUSHING then 3
  else if fits 900 tol && decide (2 ≤ deep) then 2
  else if fits 15 tol && decide (1 ≤ deep) then 1
  else 0

/-- An event of R150 is pending for a logical core. -/
def State.wakePending (s : State) (n : Nat) : Bool :=
  (s.offer n).isSome || !(s.core n).mc.isEmpty || (s.core n).ase

/-! ## Power states (R425, R426, R429) -/

/-- The logical cores hosted by a position. -/
def State.coresAt (s : State) (p : Nat) : List Nat :=
  (List.range 64).filter (fun n => s.coreValid n && s.posOf n == p)

/-- The selection that counts for a logical core: that of its WAIT, or Run while it runs. -/
def State.selection (s : State) (n : Nat) : Nat := if (s.core n).waiting then (s.core n).sel else 0

/-- The state that a position's cores select: the shallowest of their selections. -/
def State.positionTarget (s : State) (p : Nat) : Nat :=
  (s.coresAt p).foldl (fun m n => if s.selection n < m then s.selection n else m) 3

/-- A logical core's Doze shows in PIPE_DOZE in split mode. -/
def State.dozing (s : State) (n : Nat) (v : Bool) : State :=
  if s.split then s.setFlag (bTilePwr (s.posOf n / 10)) (pipeDozeFld (s.posOf n % 10) (s.pipeOf n)) v else s

/-- Sleep loses the L1s and the TLBs (Table 19.1). -/
def State.dropTlbs (s : State) (p : Nat) : State :=
  (s.coresAt p).foldl (fun st n => st.setCore n { st.core n with tlb := [] }) s

/-- A position moves to a power state; the rail follows. -/
def State.movePosition (s : State) (p st : Nat) : State :=
  let put := fun (u : State) => u.setFld (bTilePwr (p / 10)) (pstateFld (p % 10)) st
  let s0 := State.makeRoom (p / 10) put 4 s
  let s1 := (put s0).railFollows s0 (p / 10)
  if st = 3 then s1.dropTlbs p else s1

/-- The state in which a logical core's position will stand after its selection is applied. -/
def State.applySelection (s : State) (n : Nat) : State :=
  let p := s.posOf n
  let s1 := s.dozing n (decide (0 < s.selection n))
  if s1.positionTarget p = s1.pstate p then s1 else s1.movePosition p (s1.positionTarget p)

/-- The logical core reports Doze or deeper to the interrupt controller (R426). -/
def State.reportsDoze (s : State) (p : Nat) : State :=
  (s.coresAt p).foldl (fun st n => if st.coreDozing n then st.dozeOffers n else st) s

/-- POWER_STATE_ENTRY (R425): the entry of a waiting logical core into the state that R429 selected ends. A
sparing in progress keeps the request for its end (R261). -/
def execPowerStateEntry (n : Fin 64) (s : State) : Host.Outcome State Fault Refusal :=
  let p := s.posOf n.val
  let s1 := s.applySelection n.val
  event "POWER_STATE_ENTRY"
    (s.coreValid n.val && decide (0 < s.selection n.val) && !s.wakePending n.val && s.role p == 1 && s.mode != 10 &&
     (decide (s.pstate p < s1.pstate p) || (!s.coreDozing n.val && s1.coreDozing n.val))) s
    (s1.reportsDoze p)

/-- POWER_STATE_WAKE (R425): an event of R150 wakes the position of a waiting logical core, once its tile is out
of Tile Deep; the core runs again. -/
def execPowerStateWake (n : Fin 64) (s : State) : Host.Outcome State Fault Refusal :=
  let c := s.core n.val
  event "POWER_STATE_WAKE"
    (s.coreValid n.val && c.waiting && s.coreDozing n.val && s.wakePending n.val && s.mode != 10 &&
     !s.tileDeep (s.posOf n.val / 10)) s
    ((s.setCore n.val { c with sel := 0 }).applySelection n.val)

/-- TILE_DEEP_ENTRY (R431): every condition holds and the entry ends. -/
def execTileDeepEntry (t : Fin 4) (s : State) : Host.Outcome State Fault Refusal :=
  let act := (List.range 10).filter (fun i => s.role (10 * t.val + i) == 1)
  let ok := !act.isEmpty && act.all (fun i => s.pstate (10 * t.val + i) == 3) &&
    s.fld bPwr F.PWR_CTL_DEEPEST == 4 && !s.flag (bTilePwr t.val) F.TILE_DIV_STEPPING && s.mode != 10 &&
    !s.tileDeep t.val &&
    ((List.range 64).filter (fun n => s.coreValid n && s.posOf n / 10 == t.val)).all (fun n =>
      fits 120000 (s.tolerance n))
  event "TILE_DEEP_ENTRY" ok s ((s.setFld (bTilePwr t.val) F.TILE_STAT_TSTATE 2).railFollows s t.val)

/-- A tile leaves Tile Deep. -/
def State.leaveDeep (s : State) (t : Nat) : State :=
  let s1 := { s with power := { s.power with raised := s.power.raised.filter (fun x => x != t) } }
  (s1.setFld (bTilePwr t) F.TILE_STAT_TSTATE 0).railFollows s t

/-- TILE_DEEP_EXIT (R431): a wake of a position, or a change of R430, first brings the tile out of Tile Deep. -/
def execTileDeepExit (t : Fin 4) (s : State) : Host.Outcome State Fault Refusal :=
  event "TILE_DEEP_EXIT"
    (s.tileDeep t.val && (List.range 64).any (fun n => s.coreValid n && s.posOf n / 10 == t.val &&
      (s.wakePending n || !fits 120000 (s.tolerance n)))) s
    (s.leaveDeep t.val)

/-- A forward finds a line in an L3 bank at retention: the bank is raised (R425). -/
def State.raiseBank (s : State) (t : Nat) : State :=
  if s.tileDeep t ∧ ¬ s.power.raised.contains t then { s with power := { s.power with raised := t :: s.power.raised } }
  else s

/-- L3_BANK_RETENTION_TIMEOUT (R425): 10 µs without an access, and the raised bank returns to retention. -/
def execL3BankRetentionTimeout (t : Fin 4) (s : State) : Host.Outcome State Fault Refusal :=
  event "L3_BANK_RETENTION_TIMEOUT" (s.tileDeep t.val && s.power.raised.contains t.val) s
    { s with power := { s.power with raised := s.power.raised.filter (fun x => x != t.val) } }

/-- The exit latency of a state, in ns (Table 19.1). -/
def exitLatency (st : Nat) : Nat := if st = 0 then 0 else if st = 1 then 15 else if st = 2 then 900 else 25000

/-- A tolerance below the exit latency of a waiting core's state moves the core to the state that the new
tolerance selects (R430). -/
def State.reselect (s : State) (n : Nat) : State :=
  let c := s.core n
  let cur := if s.split ∧ s.pstate (s.posOf n) = 0 ∧ s.coreDozing n then 1 else s.pstate (s.posOf n)
  if s.coreValid n ∧ c.waiting ∧ s.role (s.posOf n) = 1 ∧ ¬ fits (exitLatency cur) (s.tolerance n) then
    let s0 := if s.tileDeep (s.posOf n / 10) then s.leaveDeep (s.posOf n / 10) else s
    (s0.setCore n { c with sel := s0.selectState n }).applySelection n
  else s

/-- A change of LT_MODULE acts on every logical core (R430). -/
def State.reselectAll (s : State) : State := (List.range 64).foldl (fun st n => st.reselect n) s

/-! ## The link (R439) -/

/-- LEVEL (R439): the link is idle and a LEVEL of a present tile's rail is sent. -/
def execLevel (t : Fin 4) (s : State) : Host.Outcome State Fault Refusal :=
  event "LEVEL" (s.flag bPwr F.PWR_CTL_LFC_EN && decide (s.power.linkFree ≤ s.nowNs)) s
    { s with power := { s.power with linkFree := s.nowNs + 80,
                                     sent := lfcMessage 3 t.val (s.forecast t.val) 0 (s.rail t.val).tag } }

/-! ## Thermal and package limits (R442, R443) -/

/-- TJ_MAX follows the tiles' readings. -/
def State.hottest (s : State) : State :=
  s.setFld bPwr F.PWR_STAT_TJ_MAX ((List.range 4).foldl (fun m t =>
    let j := s.fld (bTilePwr t) F.TILE_THERM_TJ
    if m < j then j else m) 0)

/-- THROTTLED of a tile, in its own page and in PWR_STAT. -/
def State.setThrottled (s : State) (t : Nat) (v : Bool) : State :=
  (s.setFlag (bTilePwr t) F.TILE_STAT_THROTTLED v).setFld bPwr F.PWR_STAT_THROTTLED
    (((List.range 4).filter (fun k => if k = t then v else s.flag (bTilePwr k) F.TILE_STAT_THROTTLED)).foldl
      (fun m k => m + 2 ^ k) 0)

/-- THERMAL_READING (R442): a tile's junction sensor is read. -/
def execThermalReading (t : Fin 4) (tj : BitVec 8) (s : State) : Host.Outcome State Fault Refusal :=
  let s1 := (s.setFld (bTilePwr t.val) F.TILE_THERM_TJ tj.toNat).hottest
  let hot := decide (s.fld bPwr F.PWR_CTL_THR_TEMP ≤ tj.toNat) && !s.flag (bTilePwr t.val) F.TILE_STAT_THROTTLED
  let s2 := if hot then
      ((s1.setThrottled t.val true).raiseErr pwrPage 8).crumbOpen ⟨.tilePwr, t.val⟩ 0x0C00 [BitVec.ofNat 64 tj.toNat]
    else s1
  event "THERMAL_READING" (s.mode != 0 && s.mode != 10) s
    (if 110 < tj.toNat then s2.checkStop 9 [BitVec.ofNat 64 t.val, BitVec.ofNat 64 tj.toNat] else s2.noteStepping t.val)

/-- Steps a tile one step back toward TILE_DIV.REQ, within its ceiling. -/
def State.stepBack (s : State) (t : Nat) : State :=
  if s.fld (bTilePwr t) F.TILE_DIV_REQ < s.divider t ∧ ¬ s.capped t then s.setDivider t (s.divider t - 1) else s

/-- THROTTLE_STEP (R442): a throttled tile steps down, or back up once it reads 5 °C or more below THR_TEMP. -/
def execThrottleStep (t : Fin 4) (s : State) : Host.Outcome State Fault Refusal :=
  let tj := s.fld (bTilePwr t.val) F.TILE_THERM_TJ
  let thr := s.fld bPwr F.PWR_CTL_THR_TEMP
  let down := decide (thr ≤ tj)
  let up := decide (tj + 5 ≤ thr)
  let s1 := if down then
      (if s.divider t.val < 4 then s.setDivider t.val (s.divider t.val + 1) else s)
    else s.stepBack t.val
  let s2 := if ¬ down ∧ s1.divider t.val ≤ s.fld (bTilePwr t.val) F.TILE_DIV_REQ then s1.setThrottled t.val false else s1
  event "THROTTLE_STEP" (s.flag (bTilePwr t.val) F.TILE_STAT_THROTTLED && (down || up) && s.mode != 0 && s.mode != 10) s
    (s2.noteStepping t.val)

/-- The tile that draws the most current, of those that can still step down. -/
def State.heaviest (s : State) : Option Nat :=
  ((List.range 4).foldl (fun (b : Option (Nat × Nat)) t =>
    if s.divider t < 4 then
      match b with
      | some (_, f) => if f < s.forecast t then some (t, s.forecast t) else b
      | none => some (t, s.forecast t)
    else b) none).map (·.1)

/-- PACKAGE_LIMIT_STEP (R443): with the 10 ms average at `watts`, one step down, or one step back. -/
def execPackageLimitStep (watts : BitVec 11) (s : State) : Host.Outcome State Fault Refusal :=
  let limit := s.fld bPwr F.PKG_LIMIT_WATTS
  let s1 := s.setFld bPwr F.PWR_STAT_PKG_W watts.toNat
  let exceeded := decide (limit < watts.toNat)
  let s2 :=
    if exceeded then
      let s3 := (s1.setFlag bPwr F.PWR_STAT_LIMITING true).raiseErr pwrPage 9
      match s3.heaviest with
      | some t => s3.setDivider t (s3.divider t + 1)
      | none => s3
    else if s.flag bPwr F.PWR_STAT_LIMITING ∧ watts.toNat + 20 ≤ limit then
      let s3 := (List.range 4).foldl (fun (st : State) t =>
        if st.flag (bTilePwr t) F.TILE_STAT_THROTTLED then st else st.stepBack t) s1
      let done := (List.range 4).all (fun t => decide (s3.divider t ≤ s3.fld (bTilePwr t) F.TILE_DIV_REQ) || s3.capped t ||
        s3.flag (bTilePwr t) F.TILE_STAT_THROTTLED)
      let s4 := if done then s3.setFlag bPwr F.PWR_STAT_LIMITING false else s3
      (List.range 4).foldl (fun (st : State) t => st.noteStepping t) s4
    else s1
  event "PACKAGE_LIMIT_STEP" (s.mode != 0 && s.mode != 10) s s2

/-! ## Register writes -/

/-- A new request of a tile's divider starts a step (R433). -/
def tilePwrWrote (t off : Nat) (s : State) : State := if off = 0x040 then s.noteStepping t else s

/-- A change of the module tolerance or of DEEPEST (R430). -/
def pwrWrote (off : Nat) (s : State) : State := if off = 0x050 then s.reselectAll else s

end Sys2Proof.Machine
end

