-- ==== Sys2Proof/Machine/Lines.lean ====
section
/-!
DEFINITION. Lines of main memory and of the tiles' caches (*Cache Hierarchy*, R214 to R217): memory by line,
poison, the caches of a tile, the ways a core may allocate in, and the routing of messages to other modules.
A line is named by bits [59:7] of its global physical address.
-/

namespace Sys2Proof.Machine

/-! ## Main memory by line -/

/-- The module that is home to a line. -/
def lineHome (line : Nat) : Nat := line / 2 ^ 37 % 2 ^ 16

/-- The local address of a line's first byte. -/
def lineAddr (line : Nat) : Nat := line % 2 ^ 37 * 128

/-- The line that holds a local address of this module. -/
def State.lineOf (s : State) (a : Nat) : Nat := s.moduleId * 2 ^ 37 + a / 128

/-- The populated groups, in ascending number (R484). -/
def State.populated (s : State) : List Nat :=
  (List.range 4).filter (fun g => (s.fld bMem F.MEM_MAP_GROUPS).testBit g)

/-- The group of which a local address is part under ILV = 0: the last populated group whose base it reaches. -/
def State.groupByBase (s : State) (a : Nat) : Nat :=
  s.populated.foldl (fun best g => if s.fld (bGroup g) F.GRP_STAT_BASE * 2 ^ 30 ≤ a then g else best) 0

/-- The memory group that a local address decodes to (R484). -/
def State.groupOf (s : State) (a : Nat) : Nat :=
  if s.flag bMem F.MEM_MAP_ILV then (s.populated[(a / 4096) % s.populated.length]?).getD 0 else s.groupByBase a

/-- The address within its group that a local address decodes to (R484). -/
def State.groupAddr (s : State) (a : Nat) : Nat :=
  if s.flag bMem F.MEM_MAP_ILV then a / 4096 / s.populated.length * 4096 + a % 4096
  else a - s.fld (bGroup (s.groupByBase a)) F.GRP_STAT_BASE * 2 ^ 30

/-- Whether memory serves a line poisoned: it carries the poison pattern, or its group is offline (R487, R493). -/
def State.memPoisoned (s : State) (a : Nat) : Bool :=
  SMap.get false s.poison (a / 128) || s.groupOffline (s.groupOf a)

/-- The 128 bytes of a line of main memory. -/
def State.memLine (s : State) (line : Nat) : List Byte := s.readBytes (lineAddr line) 128

/-- Marks a line of main memory poisoned or not. -/
def State.setPoison (s : State) (line : Nat) (p : Bool) : State :=
  { s with poison := SMap.set false s.poison (line % 2 ^ 37) p }

/-- Writes a whole line of main memory, poisoned or not; a write to an offline group is discarded (R487, R493). -/
def State.putMemLine (s : State) (line : Nat) (data : List Byte) (p : Bool) : State :=
  if s.groupOffline (s.groupOf (lineAddr line)) then s
  else (s.writeBytes (lineAddr line) data).setPoison line p

/-- A partial write of a line of main memory leaves a poisoned line poisoned (R487). -/
def State.patchMem (s : State) (a : Nat) (data : List Byte) : State :=
  if s.groupOffline (s.groupOf a) then s else s.writeBytes a data

/-- A list with the entries from position `off` replaced. -/
def patchList (l : List Byte) (off : Nat) (data : List Byte) : List Byte :=
  l.take off ++ data ++ l.drop (off + data.length)

/-- Replaces the bytes of a line that a mask selects (R219). -/
def maskMerge : List Byte → List Byte → Nat → List Byte
  | o :: os, n :: ns, m => (if m % 2 = 1 then n else o) :: maskMerge os ns (m / 2)
  | os, _, _ => os

/-! ## Routing (R238 to R241) -/

/-- The domain of a module. -/
def domainOf (m : Nat) : Nat := m / 32

/-- The port that a route word names. -/
def routePort (r : Word) : Option Nat :=
  if ¬ bit r 9 then none
  else
    let p := if bit r 8 then bits r 4 4 else bits r 0 4
    if p < 12 then some p else none

/-- The fabric port toward a module, if it has a route. -/
def State.portFor (s : State) (dest : Nat) : Option Nat :=
  if domainOf dest = domainOf s.moduleId then
    if (s.fld bHome F.MEMBER_DOWN_DOWN).testBit (dest % 32) then none
    else routePort (s.reg (bHome + 0x100 + 8 * (dest % 32)))
  else if s.flag bHome F.DOM_CTL_XDOM then routePort (s.reg (bHome + 0x200))
  else none

/-- The 16-byte slots of a message (R219). -/
def Msg.slots (m : Msg) : Nat :=
  if (m.cls = 0 ∧ m.code = 5) ∨ (m.cls = 3 ∧ m.code < 2) ∨ (m.cls = 4 ∧ m.code = 0) then 9
  else if m.cls = 0 ∧ m.code = 6 then 10
  else if m.cls = 3 ∧ m.code = 2 then 2
  else 1

/-- The credits of a class and virtual channel at the start (Table 10.4); the key is 2 × class + VC. -/
def creditsReset (k : Nat) : Nat :=
  if k / 2 = 0 then 96 else if k / 2 = 3 then 160 else if k / 2 = 4 then 96 else 64

/-- The credits of a class and virtual channel. -/
def FabPort.credit (x : FabPort) (k : Nat) : Nat := SMap.get (creditsReset k) x.credits k

/-- Writes the credits of a class and virtual channel. -/
def FabPort.setCredit (x : FabPort) (k n : Nat) : FabPort :=
  { x with credits := SMap.set (creditsReset k) x.credits k n }

/-- Sends a message to another module: it waits in the replay buffer of its port until acknowledged (R235). -/
def State.enqueue (s : State) (m : Msg) : State :=
  match s.portFor m.dest with
  | some f =>
    let x := (s.fport f).setCredit (2 * m.cls) ((s.fport f).credit (2 * m.cls) - m.slots)
    s.setFport f { x with nextSeq := (x.nextSeq + 1) % 4096, replay := x.replay ++ [(x.nextSeq, m)] }
  | none => s

/-! ## Lines of a tile -/

/-- Order of the states for the choice of a holder (R214). -/
def LineState.rank : LineState → Nat
  | .i => 0 | .s => 1 | .f => 2 | .e => 3 | .m => 4

/-- The code of a granted state in DATA and CMP (Table 10.3). -/
def LineState.grant : LineState → Nat
  | .f => 1 | .e => 2 | .m => 3 | _ => 0

/-- The state that a grant code names. -/
def grantState (n : Nat) : LineState := if n = 1 then .f else if n = 2 then .e else if n = 3 then .m else .i

/-- A line as the tile directory records it, in the caches or the eviction buffer (R217). -/
def Tile.line? (t : Tile) (line : Nat) : Option TileLine :=
  match SMap.find? t.lines line with
  | some x => some x
  | none => SMap.find? t.evicting line

/-- The state in which a tile holds a line. -/
def State.tileState (s : State) (t line : Nat) : LineState :=
  match (s.tile t).line? line with
  | some x => x.st
  | none => .i

/-- Lists a line of a tile. -/
def State.putLine (s : State) (t line : Nat) (x : TileLine) : State :=
  s.setTile t { s.tile t with lines := SMap.put (s.tile t).lines line x }

/-- Removes a line from a tile's caches. -/
def State.dropLine (s : State) (t line : Nat) : State :=
  s.setTile t { s.tile t with lines := SMap.erase (s.tile t).lines line }

/-- Removes a line from a tile's eviction buffer. -/
def State.dropEvicting (s : State) (t line : Nat) : State :=
  s.setTile t { s.tile t with evicting := SMap.erase (s.tile t).evicting line }

/-- Whether cache `c` of a tile holds the line. -/
def TileLine.inCache (x : TileLine) (c : Nat) : Bool := x.places.any (fun p => p.1 == c)

/-- The tile of the module that holds a line in the highest state (R214). -/
def State.holderTile (s : State) (line : Nat) : Option Nat :=
  ((List.range 4).foldl (fun (best : Option (Nat × Nat)) t =>
    let r := (s.tileState t line).rank
    if r = 0 then best
    else match best with
      | some (_, q) => if q < r then some (t, r) else best
      | none => some (t, r)) none).map (·.1)

/-- The caches of a tile that are in use: the L2 of a position, or the L3 (cache 10). -/
def State.cacheOn (s : State) (t c : Nat) : Bool :=
  if c < 10 then s.flag (bPos (10 * t + c)) F.CACHE_STAT_L2_ON else s.flag (bL3 t) F.L3_STAT_ON

/-- A disable flush or a way drain of the cache runs. -/
def State.cacheFlushing (s : State) (t c : Nat) : Bool :=
  if c < 10 then s.flag (bPos (10 * t + c)) F.CACHE_STAT_FLUSHING else s.flag (bL3 t) F.L3_STAT_FLUSHING

/-- A disable flush of the cache runs: it is still on, with its enable cleared. -/
def State.cacheClosing (s : State) (t c : Nat) : Bool :=
  (s.tile t).jobs.any (fun j => j.owner == 2 && j.cache == c)

/-- The number of sets of a cache (Table 9.1). -/
def cacheSets (c : Nat) : Nat := if c < 10 then 2048 else 65536

/-- The way masks in effect for a cache: for an L2, WAYS_A in the low half and WAYS_B in the high half. -/
def State.waysInEffect (s : State) (t c : Nat) : Nat := SMap.get 0xFFFFFFFF (s.tile t).ways c

/-- The ways in which a core of pipeline `pipe` may allocate in a cache (R203): its mask less the failed ways. -/
def State.allocWays (s : State) (t c pipe : Nat) : Nat :=
  let w := s.waysInEffect t c
  let mask := if c < 10 ∧ pipe = 1 then w / 2 ^ 16 % 2 ^ 16 else w % 2 ^ 16
  let bad := if c < 10 then s.fld (bPos (10 * t + c)) F.CACHE_STAT_WAY_FAIL else s.fld (bL3 t) F.L3_STAT_WAY_FAIL
  mask - (mask &&& bad)

/-- The lines that stand in a set of a cache, with their ways. -/
def State.inSet (s : State) (t c line : Nat) : List (Nat × Nat) :=
  (s.tile t).lines.filterMap (fun (x : Nat × TileLine) =>
    if x.1 % cacheSets c = line % cacheSets c then (x.2.places.find? (fun p => p.1 == c)).map (fun p => (x.1, p.2))
    else none)

/-- The write set of some open transaction of the tile holds the line. -/
def State.inWriteSet (s : State) (t line : Nat) : Bool :=
  s.cores.any (fun (x : Nat × LCore) =>
    decide (s.posOf x.1 / 10 = t) &&
    (match x.2.tx with
     | some y => y.writes.contains line
     | none => false))

/-- A way for a line in a cache: a free one, or the way of a victim, which the manual does not choose; lines of
a write set are taken last. Answers the way, the victim, and whether a choice was drawn. -/
def State.chooseWay (s : State) (t c pipe line : Nat) : Option (Nat × Option Nat × Bool) :=
  let ways := (List.range 16).filter (fun w => (s.allocWays t c pipe).testBit w)
  let held := s.inSet t c line
  match ways.find? (fun w => !held.any (fun x => x.2 == w)) with
  | some w => some (w, none, false)
  | none =>
    let open' := (held.filter (fun x => ways.contains x.2))
    let plain := open'.filter (fun x => !s.inWriteSet t x.1)
    let pool := if plain.isEmpty then open' else plain
    match pool[s.freeVal.toNat % pool.length]? with
    | some x => some (x.2, some x.1, true)
    | none => none

end Sys2Proof.Machine
end

