-- ==== Sys2Proof/Machine/Coherence.lean ====
section
/-!
DEFINITION. The coherence protocol (*Coherence Protocol and Fabric Links*): the home agent, its directory, the
holders' answers, the requesters' grants, and the delivery of messages among the agents of the module. A message
to an agent of the module acts at once; a message to another module is sent by the fabric.
-/

namespace Sys2Proof.Machine

def homePage : Page := ⟨.home, 0⟩

/-! ## Message codes (Table 10.2) -/

def Msg.toReq (m : Msg) (cls code : Nat) : Msg :=
  { m with cls := cls, code := code, dest := m.src, data := [], mask := 0, cas := none, tile := none, ext := 0,
           dztv := false, tx := false, esc := false, poison := false, reissue := false }

/-- DATA or CMP to the requester of `m`, with the state granted and the ACKs to expect. -/
def Msg.grantTo (m : Msg) (data : Option (List Byte)) (poison : Bool) (st : LineState) (acks : Nat) : Msg :=
  match data with
  | some d => { m.toReq 3 0 with data := d, poison := poison, ext := acks + 64 * st.grant }
  | none => { m.toReq 2 1 with ext := acks + 64 * st.grant }

/-- DATA_NC to the requester of `m`. -/
def Msg.answerOnce (m : Msg) (data : List Byte) (poison : Bool) : Msg :=
  { m.toReq 3 2 with data := data, poison := poison }

/-- A forward for the request `m`. -/
def Msg.forward (m : Msg) (code dest : Nat) (tile : Option Nat) (acks : Nat) : Msg :=
  { m with cls := 1, code := code, dest := dest, data := [], mask := 0, cas := none, tile := tile, ext := acks,
           dztv := false, tx := false, esc := false, poison := false, reissue := false }

/-- FWD_DONE for the forward `m`, to the home of its line. -/
def Msg.fwdDone (m : Msg) (absent : Bool) : Msg :=
  { m.toReq 2 2 with dest := lineHome m.line, ext := b2n absent }

/-- DAT_WB to the home of the line. -/
def Msg.datWb (m : Msg) (data : List Byte) (poison : Bool) : Msg :=
  { m.toReq 3 1 with dest := lineHome m.line, data := data, poison := poison }

/-- The member number of a module. -/
def memberOf (m : Nat) : Nat := m % 32

/-- The module of a member of this module's domain. -/
def State.memberModule (s : State) (k : Nat) : Nat := domainOf s.moduleId * 32 + k

/-- Whether a request comes from one of the module's own tiles. -/
def State.fromTile (s : State) (m : Msg) : Bool := m.src == s.moduleId && decide (m.agent < 4)

/-- Whether a request comes from another member, as a caching agent. -/
def State.fromMember (s : State) (m : Msg) : Bool :=
  m.src != s.moduleId && domainOf m.src == domainOf s.moduleId && decide (m.agent < 4)

/-! ## The home directory (R225 to R230) -/

/-- A line's directory entry. -/
def State.dirEntry (s : State) (line : Nat) : Option DirEntry := SMap.find? s.home.dir line

/-- Writes a line's entry; an entry that records no holder and no reservation is not valid. -/
def State.setDir (s : State) (line : Nat) (e : DirEntry) : State :=
  if e.st = 0 ∧ e.resv = none then { s with home := { s.home with dir := SMap.erase s.home.dir line } }
  else
    { s with home := { s.home with dir := SMap.put s.home.dir line { e with used := s.home.uses }, uses := s.home.uses + 1 } }

/-- The directory set of a line: address bits [25:7]. -/
def dirSet (line : Nat) : Nat := line % 2 ^ 19

/-- The entries of a line's set. -/
def State.dirInSet (s : State) (line : Nat) : List (Nat × DirEntry) :=
  s.home.dir.filter (fun (x : Nat × DirEntry) => dirSet x.1 == dirSet line)

/-- A mark of the line is live (R228). -/
def State.markLive (s : State) (line : Nat) : Bool :=
  s.home.marks.any (fun k => k.line == line && k.epoch == SMap.get 0 s.home.epochs k.core)

/-- The line is busy with a forward (R226). -/
def State.lineBusy (s : State) (line : Nat) : Option BusyLine := s.home.busy.find? (fun b => b.line == line)

/-- A request for the line must wait: it is busy, in a directory eviction buffer, or its set is being recalled. -/
def State.lineWaits (s : State) (line : Nat) : Bool :=
  (s.lineBusy line).isSome || s.home.evicting.any (fun x => x.1 == line) ||
  s.home.recalls.any (fun x => x.1 == dirSet line)

/-- Who holds a line, across the domain (R226). A holder is a tile of the module or another member. -/
inductive Holder where
  | tile (t : Nat)
  | member (k : Nat)
  deriving DecidableEq, Repr

/-- The home's view of a line. -/
inductive View where
  | u
  | sh
  | shF (f : Holder)
  | o (h : Holder)
  deriving DecidableEq, Repr

/-- The view shows sharers, with or without a Forwarder. -/
def View.shared : View → Bool
  | .sh => true
  | .shF _ => true
  | _ => false

/-- The home's view: its entry together with its own four tile directories. -/
def State.view (s : State) (line : Nat) : View :=
  let e := (s.dirEntry line).getD { st := 0, who := 0, sharers := 0, resv := none, used := 0 }
  if e.st = 3 then .o (.member e.who)
  else
    match s.holderTile line with
    | some t =>
      match s.tileState t line with
      | .m => .o (.tile t)
      | .e => .o (.tile t)
      | .f => .shF (.tile t)
      | _ => if e.st = 2 then .shF (.member e.who) else .sh
    | none => if e.st = 2 then .shF (.member e.who) else if e.st = 1 then .sh else .u

/-- The holders of a line other than the requester and one more. -/
def State.others (s : State) (m : Msg) (also : Option Holder) : List Holder :=
  let e := (s.dirEntry m.line).getD { st := 0, who := 0, sharers := 0, resv := none, used := 0 }
  let tiles := ((List.range 4).filter (fun t => (s.tileState t m.line).rank != 0 &&
    !(s.fromTile m && m.agent == t))).map Holder.tile
  let members := ((List.range 32).filter (fun k => e.sharers.testBit k &&
    !(s.fromMember m && memberOf m.src == k))).map Holder.member
  (tiles ++ members).filter (fun h => decide (some h ≠ also))

/-- A forward of request `m` to a holder. -/
def State.forwardTo (s : State) (m : Msg) (code : Nat) (h : Holder) (acks : Nat) : Msg :=
  match h with
  | .tile t => m.forward code s.moduleId (some t) acks
  | .member k => m.forward code (s.memberModule k) none acks

/-- The entry once `m`'s agent owns the line. -/
def State.dirOwned (s : State) (m : Msg) : State :=
  let resv := ((s.dirEntry m.line).bind (·.resv))
  if s.fromMember m then
    s.setDir m.line { st := 3, who := memberOf m.src, sharers := 2 ^ memberOf m.src, resv := resv, used := 0 }
  else s.setDir m.line { st := 0, who := 0, sharers := 0, resv := resv, used := 0 }

/-- The entry once `m`'s agent is the line's Forwarder, the former holders keeping shares. -/
def State.dirForwarder (s : State) (m : Msg) : State :=
  let e := (s.dirEntry m.line).getD { st := 0, who := 0, sharers := 0, resv := none, used := 0 }
  if s.fromMember m then
    s.setDir m.line { e with st := 2, who := memberOf m.src, sharers := e.sharers ||| 2 ^ memberOf m.src }
  else s.setDir m.line { e with st := if e.sharers = 0 then 0 else 1 }

/-- The entry once no member holds the line. -/
def State.dirNone (s : State) (line : Nat) : State :=
  let resv := ((s.dirEntry line).bind (·.resv))
  s.setDir line { st := 0, who := 0, sharers := 0, resv := resv, used := 0 }

/-- The line becomes busy with a request. `due` counts the answers that a write or CAS waits for, and for a
forwarded RD_O the ACKs that its requester is told to expect. -/
def State.setBusy (s : State) (m : Msg) (due : Nat) : State :=
  { s with home := { s.home with busy := s.home.busy ++ [{ line := m.line, req := m, due := due }] } }

/-- The line is busy no longer. -/
def State.clearBusy (s : State) (line : Nat) : State :=
  { s with home := { s.home with busy := s.home.busy.filter (fun b => b.line != line) } }

/-- Requests that waited for a line are handled again, in order of arrival. -/
def State.wakeQueue (s : State) (ok : Nat → Bool) : State × List Msg :=
  ({ s with home := { s.home with queue := s.home.queue.filter (fun m => !ok m.line) } },
   s.home.queue.filter (fun m => ok m.line))

/-- Holds a request at the home. -/
def State.queueReq (s : State) (m : Msg) : State :=
  { s with home := { s.home with queue := s.home.queue ++ [m] } }

/-! ## The end of a transaction at the homes (R196, R228, R229) -/

/-- The number of a core of the domain in marks and epochs: the member and the logical core, which TXN[5:0]
carries (see notes/assumptions). -/
def markCore (src txn : Nat) : Nat := 64 * memberOf src + txn % 64

/-- Drops the reservations of a core's escalated attempt. -/
def State.dropReservations (s : State) (core : Nat) : State :=
  let dir :=
      (s.home.dir.map (fun (x : Nat × DirEntry) =>
        if x.2.resv = some core then (x.1, { x.2 with resv := none }) else x)).filter
      (fun (x : Nat × DirEntry) => decide (x.2.st ≠ 0) || x.2.resv.isSome)
  { s with home := { s.home with dir := dir } }

/-- Messages of a core at the end of a transaction: TXEND to each remote home it marked, and RLS when the
attempt was escalated. -/
def State.txMessages (s : State) (core : Nat) (t : Tx) : State :=
  let msg := fun (code d : Nat) =>
    ({ cls := 4, code := code, dest := d, src := s.moduleId, agent := s.posOf core / 10, txn := core, line := 0 } : Msg)
  let homes := t.homes.filter (fun d => d != s.moduleId)
  let s1 := homes.foldl (fun st d => st.enqueue (msg 3 d)) s
  if t.escal then
    (homes.foldl (fun st d => st.enqueue (msg 2 d)) s1).dropReservations (markCore s.moduleId core)
  else s1

/-- Ends the holds of an escalated attempt; a hold on which forwards wait ends at its HOLD_END (R196). -/
def State.endEscalatedHolds (s : State) (core : Nat) (t : Tx) : State :=
  let k := s.posOf core / 10
  if t.escal then
    s.setTile k { s.tile k with holds := (s.tile k).holds.filter (fun h =>
      !(h.esc && h.waiting.isEmpty && (t.lines ++ t.won).any (fun x => x.1 == h.line))) }
  else s

/-- An abort of the open transaction of a logical core (R186). -/
def State.txAbort (s : State) (core code : Nat) (vector : Nat := 0) (counted : Bool := true) : State :=
  let c := s.core core
  match c.tx with
  | some t => ((s.setCore core (c.aborted t code vector counted)).txMessages core t).endEscalatedHolds core t
  | none => s

/-- Aborts the open transactions of a tile that an access to a line conflicts with (R188): every access
conflicts with a write set, and one that seeks ownership conflicts with a read set. -/
def State.txConflict (s : State) (t line : Nat) (own : Bool) (except : Option Nat) (code : Nat) : State :=
  s.cores.foldl (fun (st : State) (x : Nat × LCore) =>
    match x.2.tx with
    | some y =>
      if s.posOf x.1 / 10 = t ∧ except ≠ some x.1 ∧ (y.writes.contains line ∨ (own ∧ y.reads.contains line)) then
        st.txAbort x.1 code
      else st
    | none => st) s

/-! ## Directory room (R229, R230) -/

/-- The victim of a full set: an entry that is neither busy nor reserved, without a live mark before one with,
and of those the least recently used. -/
def State.dirVictim (s : State) (line : Nat) : Option (Nat × Bool) :=
  let free := (s.dirInSet line).filter (fun x => x.2.resv == none && (s.lineBusy x.1).isNone)
  let pick := fun (l : List (Nat × DirEntry)) =>
    (l.foldl (fun (best : Option (Nat × DirEntry)) x =>
      match best with
      | some b => if x.2.used < b.2.used then some x else best
      | none => some x) none).map (·.1)
  match pick (free.filter (fun x => !s.markLive x.1)) with
  | some v => some (v, false)
  | none => (pick free).map (fun v => (v, true))

/-- Evicts a directory entry: INV to its sharers or RECALL to its owner, answered to the home. -/
def State.dirEvict (s : State) (line : Nat) (marked : Bool) : State × List Msg :=
  match s.dirEntry line with
  | none => (s, [])
  | some e =>
    let ks := (List.range 32).filter (fun k => e.sharers.testBit k)
    let own : Msg := { cls := 0, code := 0, dest := s.moduleId, src := s.moduleId, agent := 9, txn := 0, line := line }
    let s1 := { s with home := { s.home with dir := SMap.erase s.home.dir line, evicting := s.home.evicting ++ [(line, ks.length)] } }
    let s2 := s1.count bHome F.DIR_CNT_EVICT
    let s3 := if marked then s2.count bHome F.DIR_CNT_EVICT_MARKED else s2
    (s3, ks.map (fun k => own.forward (if e.st = 3 then 5 else 3) (s.memberModule k) none 0))

/-- Every open transaction of the module whose set contains a line aborts (R230). -/
def State.abortHolding (s : State) (line code : Nat) : State :=
  (List.range 4).foldl (fun st t => st.txConflict t line true none code) s

/-- Whether a request needs a directory entry: it grants a state to another member, or marks or reserves. -/
def State.needsEntry (s : State) (m : Msg) : Bool :=
  (s.fromMember m && (decide (m.code < 4) || m.tx)) || m.esc

/-- Makes room for a request's entry: none where the request must wait. -/
def State.dirRoom (s : State) (m : Msg) : Option (State × List Msg) :=
  if ¬ s.needsEntry m ∨ (s.dirEntry m.line).isSome then some (s, [])
  else if (s.dirInSet m.line).length < 16 then some (s, [])
  else
    match s.dirVictim m.line with
    | some (v, marked) =>
      if 32 ≤ s.home.evicting.length then none
      else
        let s1 := if marked then s.abortHolding v 0x0B else s
        some (s1.dirEvict v marked)
    | none => none

/-- Enters the mark of a transactional request of another member (R228). -/
def State.addMark (s : State) (m : Msg) : State :=
  if m.tx ∧ s.fromMember m then
    let core := markCore m.src m.txn
    let k : Mark := { line := m.line, core := core, epoch := SMap.get 0 s.home.epochs core }
    let rest := s.home.marks.filter (fun x => x.line != m.line)
    let inSet := rest.filter (fun x => x.line % 512 == m.line % 512)
    let kept := match inSet with
      | old :: _ => if 8 ≤ inSet.length then rest.filter (fun x => x != old) else rest
      | [] => rest
    { s with home := { s.home with marks := kept ++ [k] } }
  else s

/-- Reserves the entry of an escalated request (R229): at most 8 ways of a set. -/
def State.reserve (s : State) (m : Msg) : State :=
  if m.esc then
    let e := (s.dirEntry m.line).getD { st := 0, who := 0, sharers := 0, resv := none, used := 0 }
    s.setDir m.line { e with resv := some (markCore m.src m.txn) }
  else s

/-- A request conflicts with what a reservation protects (R188, R229): it seeks ownership, or reads a line that an agent
owns. -/
def State.conflicts (s : State) (m : Msg) : Bool :=
  if m.code = 0 ∨ m.code = 4 then
    match s.view m.line with
    | .o _ => true
    | _ => false
  else true

/-- The granting of a conflicting request ends another core's reservation of the line (R229). -/
def State.endReservation (s : State) (m : Msg) : State :=
  match s.dirEntry m.line with
  | some e =>
    if e.resv = none ∨ (m.agent < 4 ∧ e.resv = some (markCore m.src m.txn)) then s
    else s.setDir m.line { e with resv := none }
  | none => s

/-- An escalated request must wait for a reservation of its set to end. -/
def State.reserveFull (s : State) (m : Msg) : Bool :=
  m.esc && decide (8 ≤ ((s.dirInSet m.line).filter (fun x => x.2.resv.isSome && x.1 != m.line)).length)

/-! ## Requests at the home (Table 10.6) -/

/-- The old value of a CAS and the bytes it leaves. -/
def casApply (old : List Byte) (c : Nat × Nat × Nat × Nat) : List Byte :=
  let cur := leNat ((old.drop c.1).take c.2.1)
  if cur = c.2.2.1 % 2 ^ (8 * c.2.1) then patchList old c.1 (leBytes c.2.1 c.2.2.2) else old

/-- A write or CAS performed at the home, once no agent holds the line. -/
def State.homePerform (s : State) (m : Msg) : State × List Msg :=
  let old := s.memLine m.line
  let bad := s.memPoisoned (lineAddr m.line)
  if m.code = 5 then
    (s.putMemLine m.line (m.data.take 128 ++ List.replicate (128 - m.data.length) 0) m.poison,
     [m.grantTo none false .i 0])
  else if m.code = 6 then
    (s.patchMem (lineAddr m.line) (maskMerge old m.data m.mask), [m.grantTo none false .i 0])
  else
    match m.cas with
    | some c =>
      let new := casApply old c
      (if bad then s else s.patchMem (lineAddr m.line) new, [m.answerOnce old bad])
    | none => (s, [m.answerOnce old bad])

/-- A write or CAS: the holders are invalidated first, and the home performs it when all have answered. -/
def State.homeWrite (s : State) (m : Msg) : State × List Msg :=
  let own := { m with src := s.moduleId, agent := 9 }
  match s.view m.line with
  | .u => s.homePerform m
  | .o h =>
    ((s.setBusy m 1), [s.forwardTo own (if m.code = 5 then 4 else 5) h 0])
  | _ =>
    let hs := s.others own none
    if hs.isEmpty then (s.dirNone m.line).homePerform m
    else ((s.dirNone m.line).setBusy m hs.length, hs.map (fun h => s.forwardTo own 3 h 0))

/-- A read of ownership or an upgrade from view Sh or ShF: the others are invalidated, the requester counts
their ACKs. -/
def State.homeOwn (s : State) (m : Msg) (data : Option (List Byte)) (also : Option Holder) : State × List Msg :=
  let hs := s.others m also
  let bad := s.memPoisoned (lineAddr m.line)
  match also with
  | none => (s.dirOwned m, hs.map (fun h => s.forwardTo m 3 h 0) ++ [m.grantTo data bad .e hs.length])
  | some f =>
    ((s.dirOwned m).setBusy m hs.length, hs.map (fun h => s.forwardTo m 3 h 0) ++ [s.forwardTo m 1 f hs.length])

/-- The requester of an upgrade still shares the line. -/
def State.isSharer (s : State) (m : Msg) : Bool :=
  if s.fromTile m then (s.tileState m.agent m.line).rank != 0
  else match s.dirEntry m.line with
    | some e => e.sharers.testBit (memberOf m.src)
    | none => false

/-- The requester already owns the line (an escalated request for a line it holds, R196). -/
def State.ownsAlready (s : State) (m : Msg) : Bool :=
  match s.view m.line with
  | .o (.tile t) => s.fromTile m && m.agent == t
  | .o (.member k) => s.fromMember m && memberOf m.src == k
  | _ => false

/-- Table 10.6. -/
def State.homeTable (s : State) (m : Msg) : State × List Msg :=
  let mem := some (s.memLine m.line)
  let bad := s.memPoisoned (lineAddr m.line)
  let v := s.view m.line
  if m.esc ∧ s.ownsAlready m then (s, [m.grantTo none false .e 0])
  else if m.code = 0 then
    match v with
    | .u => (s.dirOwned m, [m.grantTo mem bad .e 0])
    | .sh => (s.dirForwarder m, [m.grantTo mem bad .f 0])
    | .shF f => ((s.dirForwarder m).setBusy m 1, [s.forwardTo m 0 f 0])
    | .o h =>
      let s1 := match h with
        | .member k => s.setDir m.line { st := 1, who := 0, sharers := 2 ^ k,
                                         resv := (s.dirEntry m.line).bind (·.resv), used := 0 }
        | .tile _ => s
      ((s1.dirForwarder m).setBusy m 1, [s.forwardTo m 0 h 0])
  else if m.code = 3 then
    match v with
    | .u => (s.dirOwned m, [m.grantTo none false .e 0])
    | .o h => (s.dirOwned m, [s.forwardTo m 4 h 0, m.grantTo none false .e 1])
    | _ => s.homeOwn m none none
  else if m.code = 4 then
    match v with
    | .shF f => (s.setBusy m 1, [s.forwardTo m 2 f 0])
    | .o h => (s.setBusy m 1, [s.forwardTo m 2 h 0])
    | _ => (s, [m.answerOnce (s.memLine m.line) bad])
  else if 5 ≤ m.code then s.homeWrite m
  else if m.code = 2 ∧ s.isSharer m ∧ v.shared then
    s.homeOwn m none none
  else
    match v with
    | .u => (s.dirOwned m, [m.grantTo mem bad .e 0])
    | .sh => s.homeOwn m mem none
    | .shF f =>
      if (s.others m none).contains f then s.homeOwn m none (some f) else s.homeOwn m mem none
    | .o h => ((s.dirOwned m).setBusy m 0, [s.forwardTo m 1 h 0])

/-- Whether the grants let a request of another module proceed (R164): ownership and writes need write. -/
def State.requestGranted (s : State) (m : Msg) : Bool :=
  m.src == s.moduleId || !m.dztv ||
  s.granted m.ext (lineAddr m.line) (decide (m.code ≠ 0 ∧ m.code ≠ 4 ∧ (m.code ≠ 7 ∨ m.cas ≠ none)))

/-- A conflicting request has been handled: one that the line is busy with ends the reservation when it is granted, any other
ends it now. -/
def State.grantedAt (s : State) (m : Msg) : State :=
  match s.lineBusy m.line with
  | some _ =>
    { s with home := { s.home with busy := s.home.busy.map (fun x =>
        if x.line = m.line then { x with conflict := true } else x) } }
  | none => s.endReservation m

/-- The end of a line's busy time: a request that conflicted ends a reservation. -/
def State.busyOver (s : State) (b : BusyLine) : State :=
  if b.conflict then (s.clearBusy b.line).endReservation b.req else s.clearBusy b.line

/-- A request reaches the home (R226, R227). -/
def State.homeRequest (s : State) (m : Msg) : State × List Msg :=
  if m.src ≠ s.moduleId ∧ (¬ s.running homePage ∨ ¬ s.requestGranted m) then (s, [m.toReq 2 4])
  else if lineHome m.line ≠ s.moduleId ∨ s.usable ≤ lineAddr m.line then (s, [m.toReq 2 4])
  else if s.lineWaits m.line ∨ s.reserveFull m then (s.queueReq m, [])
  else
    match s.dirRoom m with
    | none => (s.queueReq m, [])
    | some (s1, inv) =>
      let s2 := (s1.addMark m).reserve m
      let r := s2.homeTable m
      let t := if s2.conflicts m then r.1.grantedAt m else r.1
      (t, inv ++ r.2)

/-! ## Holders (Table 10.7, R223, R224, R232) -/

/-- The hold on a line of a tile. -/
def State.holdOn (s : State) (t line : Nat) : Option Hold := (s.tile t).holds.find? (fun h => h.line == line)

/-- A snapshot read by an I/O agent does not wait for the hold of a line that is in no read or write set. -/
def State.holdWaived (s : State) (m : Msg) (t : Nat) : Bool :=
  m.code == 2 && decide (4 ≤ m.agent) &&
  !s.cores.any (fun (x : Nat × LCore) => decide (s.posOf x.1 / 10 = t) &&
    (match x.2.tx with
     | some y => y.writes.contains m.line || y.reads.contains m.line
     | none => false))

/-- A forward waits for the end of the line's hold. -/
def State.holdBack (s : State) (t : Nat) (m : Msg) : State :=
  s.setTile t { s.tile t with holds := (s.tile t).holds.map (fun h =>
    if h.line = m.line then { h with waiting := h.waiting ++ [m] } else h) }

/-- Sets the state of a line the tile holds; I removes it. A line in the eviction buffer keeps its place. -/
def State.setLineState (s : State) (t line : Nat) (st : LineState) : State :=
  match SMap.find? (s.tile t).lines line with
  | some x => if st = .i then s.dropLine t line else s.putLine t line { x with st := st }
  | none => s

/-- What a holder answers to a forward (Table 10.7). -/
def State.holderAnswer (s : State) (t : Nat) (m : Msg) : State × List Msg :=
  match (s.tile t).line? m.line with
  | none => (s, [if m.code < 3 then m.fwdDone true else m.toReq 2 0])
  | some x =>
    let ack := m.toReq 2 0
    let give := fun (st : LineState) => m.grantTo (some x.data) x.poison st m.ext
    let wb := m.datWb x.data x.poison
    if m.code = 0 then
      (s.setLineState t m.line .s, [give .f, m.fwdDone false] ++ (if x.st = .m then [wb] else []))
    else if m.code = 1 then
      (s.setLineState t m.line .i, [give (if x.st = .m then .m else .e), m.fwdDone false])
    else if m.code = 2 then (s, [m.answerOnce x.data x.poison, m.fwdDone false])
    else if m.code = 5 then
      (s.setLineState t m.line .i, [if x.st = .m then wb else ack])
    else (s.setLineState t m.line .i, [ack])

/-- A line in an L3 bank at retention is answered once its bank is raised (R425). -/
def State.readyBank (s : State) (t line : Nat) : State :=
  match SMap.find? (s.tile t).lines line with
  | some (x : TileLine) => if x.places.any (fun p => p.1 == 10) then s.raiseBank t else s
  | none => s

/-- A forward is served once no hold keeps it: transactions that it meets abort first (R188). -/
def State.serveForward (s : State) (t : Nat) (m : Msg) : State × List Msg :=
  ((s.readyBank t m.line).txConflict t m.line (decide (m.code ≠ 0 ∧ m.code ≠ 2)) none 0x02).holderAnswer t m

/-- A forward reaches a tile. -/
def State.tileForward (s : State) (t : Nat) (m : Msg) : State × List Msg :=
  if (s.holdOn t m.line).isSome ∧ ¬ s.holdWaived m t then (s.holdBack t m, []) else s.serveForward t m

/-- A set recall: a tile loses every line of the home and set, returning dirty ones (R231). -/
def State.recallSet (s : State) (home set t : Nat) : State × List Msg :=
  let hit := (s.tile t).lines.filter (fun (x : Nat × TileLine) => lineHome x.1 == home && dirSet x.1 == set)
  hit.foldl (fun (r : State × List Msg) (x : Nat × TileLine) =>
    let m : Msg := { cls := 1, code := 6, dest := s.moduleId, src := home, agent := 9, txn := 0, line := x.1 }
    (((r.1.txConflict t x.1 true none 0x0B).dropLine t x.1),
     r.2 ++ (if x.2.st = .m then [m.datWb x.2.data x.2.poison] else []))) (s, [])

/-- The module answers a set recall as one member: every tile empties the set, then one ACK. -/
def State.memberRecall (s : State) (home set : Nat) : State × List Msg :=
  let r := (List.range 4).foldl (fun (r : State × List Msg) t =>
    let q := r.1.recallSet home set t
    (q.1, r.2 ++ q.2)) (s, [])
  let ack : Msg := { cls := 2, code := 0, dest := home, src := home, agent := 9, txn := 0, line := home * 2 ^ 37 + set }
  (r.1, r.2 ++ [ack])

/-- A forward reaches the module: its own home names the tile; for another home the I/O die delivers it to the
tile that holds the line in the highest state, and an invalidation to every tile that holds it, answering once
(R214). -/
def State.takeForward (s : State) (m : Msg) : State × List Msg :=
  if m.code = 6 then s.memberRecall m.src (dirSet m.line)
  else
    match m.tile with
    | some t => s.tileForward t m
    | none =>
      match s.holderTile m.line with
      | none => s.holderAnswer 0 m
      | some t =>
        if m.code < 3 then s.tileForward t m
        else
          match (List.range 4).find? (fun k => (s.holdOn k m.line).isSome && (s.tileState k m.line).rank != 0) with
          | some k => (s.holdBack k m, [])
          | none =>
            let s1 := (List.range 4).foldl (fun st k =>
              if k = t then st else (st.txConflict k m.line true none 0x02).setLineState k m.line .i) s
            s1.tileForward t m

/-! ## Allocation and eviction in a tile (R197, R203, R215 to R217) -/

/-- The line leaves the tile: a dirty line is written back, E and F are announced, S is silent. -/
def State.evictLine (s : State) (t line : Nat) : State × List Msg :=
  match SMap.find? (s.tile t).lines line with
  | none => (s, [])
  | some x =>
    let m : Msg := { cls := 4, code := if x.st = .m then 0 else 1, dest := lineHome line, src := s.moduleId, agent := t,
                     txn := 0, line := line, data := if x.st = .m then x.data else [], poison := x.poison }
    let s1 := (s.txConflict t line false none 0x04).dropLine t line
    if x.st = .s ∨ x.st = .i then (s1, [])
    else (s1.setTile t { s1.tile t with evicting := SMap.put (s1.tile t).evicting line { x with places := [] } }, [m])

/-- A line loses its place in a cache; a line left without a place leaves the tile. -/
def State.losePlace (s : State) (t c line : Nat) : State × List Msg :=
  match SMap.find? (s.tile t).lines line with
  | none => (s, [])
  | some x =>
    let places := x.places.filter (fun p => p.1 != c)
    let s1 := if c < 10 then s.txConflict t line false none 0x04 else s
    if places.isEmpty then s1.evictLine t line else (s1.putLine t line { x with places := places }, [])

/-- Adds a place in a cache to a line of the tile, evicting a victim of that cache. An L2 victim with no other
place moves to the L3 while that is in use. -/
def State.placeIn (s : State) (t c pipe line : Nat) : State × List Msg :=
  match SMap.find? (s.tile t).lines line, s.chooseWay t c pipe line with
  | some x, some (w, victim, drew) =>
    let s0 := if drew then s.drawn else s
    let s1 := s0.putLine t line { x with places := x.places.filter (fun p => p.1 != c) ++ [(c, w)] }
    match victim with
    | some v => s1.losePlace t c v
    | none => (s1, [])
  | some x, none => if x.places.isEmpty then s.evictLine t line else (s, [])
  | none, _ => (s, [])

/-- Allocates a line the tile has won: in the L2 of the requesting position, or in the L3 while that L2 is off;
an L2 victim that has no other place is kept in the L3 while the L3 is on. -/
def State.allocate (s : State) (t c pipe line : Nat) : State × List Msg :=
  if decide (c < 10) && s.cacheOn t c && !s.cacheClosing t c then
    match s.chooseWay t c pipe line with
    | some (_, some v, _) =>
      let only := match SMap.find? (s.tile t).lines v with
        | some (x : TileLine) => x.places.all (fun p => p.1 == c)
        | none => false
      if only && s.cacheOn t 10 && !s.cacheClosing t 10 then
        let r := (s.txConflict t v false none 0x04).placeIn t 10 0 v
        let q := r.1.placeIn t c pipe line
        (q.1, r.2 ++ q.2)
      else s.placeIn t c pipe line
    | _ => s.placeIn t c pipe line
  else if s.cacheOn t 10 ∧ ¬ s.cacheClosing t 10 then s.placeIn t 10 0 line
  else s.evictLine t line

/-! ## Requesters (R223) -/

/-- The module's request with an identity at an agent. -/
def State.findRequest (s : State) (agent txn : Nat) : Option Outstanding :=
  s.requests.find? (fun q => q.req.agent == agent && q.req.txn == txn)

/-- Replaces a request. -/
def State.putRequest (s : State) (q : Outstanding) : State :=
  { s with requests := s.requests.map (fun x =>
      if x.req.agent = q.req.agent ∧ x.req.txn = q.req.txn then q else x) }

/-- Removes a request. -/
def State.dropRequest (s : State) (agent txn : Nat) : State :=
  { s with requests := s.requests.filter (fun x => !(x.req.agent == agent && x.req.txn == txn)) }

/-- The pipeline of a logical core for the choice of its ways. -/
def State.corePipe (s : State) (core : Option Nat) : Nat :=
  match core with
  | some n => if s.split then s.pipeOf n else 0
  | none => 0

/-- A request that has its data or grant and every ACK has won its line: the line is entered in the tile and the
hold begins. -/
def State.winLine (s : State) (q : Outstanding) : State × List Msg :=
  let t := q.req.agent
  let line := q.req.line
  let old := (s.tile t).line? line
  let data := if q.req.code = 3 then List.replicate 128 0 else if q.data.isEmpty then (old.map (·.data)).getD [] else q.data
  let poison := if q.req.code = 3 then false else if q.data.isEmpty then (old.map (·.poison)).getD false else q.poison
  let st := if q.req.code = 3 then .m else if q.state = .i then .e else q.state
  let places := (old.map (·.places)).getD []
  let s1 := (s.dropRequest t q.req.txn).putLine t line { st := st, data := data, poison := poison, places := places }
  let s2 := s1.setTile t { s1.tile t with holds := (s1.tile t).holds.filter (fun h => h.line != line) ++
    [{ line := line, esc := q.req.esc, waiting := ((s1.holdOn t line).map (·.waiting)).getD [] }] }
  if places.any (fun p => p.1 == q.cache) then (s2, []) else s2.allocate t q.cache (s.corePipe q.core) line

/-- A caching request is complete. -/
def State.settle (s : State) (q : Outstanding) : State × List Msg :=
  if q.won ∧ q.acksDue ≤ q.acks ∧ q.req.code < 4 then s.winLine q else (s.putRequest q, [])

/-- The bytes of an answer that its requester keeps. -/
def onceResult (m : Msg) : Option (List Byte) := some m.data

/-- A response or data message reaches one of the module's agents. -/
def State.takeAnswer (s : State) (m : Msg) : State × List Msg :=
  match s.findRequest m.agent m.txn with
  | none => (s, [])
  | some q =>
    if m.cls = 2 ∧ m.code = 0 then s.settle { q with acks := q.acks + 1 }
    else if m.cls = 2 ∧ m.code = 1 then
      if 4 ≤ q.req.code then (s.putRequest { q with won := true, result := some [] }, [])
      else s.settle { q with won := true, state := grantState (m.ext / 64), acksDue := m.ext % 64 }
    else if m.cls = 2 ∧ m.code = 4 then (s.putRequest { q with refused := 1 }, [])
    else if m.cls = 3 ∧ m.code = 0 then
      s.settle { q with won := true, state := grantState (m.ext / 64), data := m.data, poison := m.poison,
                        acksDue := m.ext % 64 }
    else if m.cls = 3 ∧ m.code = 2 then
      (s.putRequest { q with won := true, result := onceResult m, poison := m.poison }, [])
    else (s, [])

/-! ## Answers at the home -/

/-- The home is named as the agent that an answer goes to. -/
def State.forHome (s : State) (m : Msg) : Bool := m.src == s.moduleId && m.agent == 9

/-- A directory eviction or set recall gets one of its answers. -/
def State.answerEviction (s : State) (m : Msg) : State :=
  { s with home := { s.home with
      evicting := s.home.evicting.map (fun x => if x.1 = m.line then (x.1, x.2 - 1) else x),
      recalls := s.home.recalls.map (fun x =>
        if m.cls = 2 ∧ x.1 = dirSet m.line ∧ ¬ s.home.evicting.any (fun y => y.1 == m.line) then (x.1, x.2 - 1)
        else x) } }

/-- A holder's answer to the home: the request that the line is busy with goes on once all have arrived. -/
def State.homeAnswered (s : State) (m : Msg) : State × List Msg :=
  match s.lineBusy m.line with
  | none => (s.answerEviction m, [])
  | some b =>
    if 5 ≤ b.req.code then
      if b.due ≤ 1 then
        let r := ((s.busyOver b).dirNone m.line).homePerform b.req
        let w := r.1.wakeQueue (fun l => l == m.line)
        (w.1, r.2 ++ w.2)
      else
        ({ s with home := { s.home with busy := s.home.busy.map (fun x =>
            if x.line = m.line then { x with due := x.due - 1 } else x) } }, [])
    else (s, [])

/-- FWD_DONE: the line is busy no longer, or the holder was absent and memory serves the request (R232). -/
def State.homeFwdDone (s : State) (m : Msg) : State × List Msg :=
  match s.lineBusy m.line with
  | none => (s, [])
  | some b =>
    let s1 := s.busyOver b
    let mem := some (s.memLine m.line)
    let bad := s.memPoisoned (lineAddr m.line)
    let w := s1.wakeQueue (fun l => l == m.line)
    if m.ext % 2 = 0 then w
    else if b.req.code = 4 then (w.1, b.req.answerOnce (s.memLine m.line) bad :: w.2)
    else if b.req.code = 0 then (w.1, b.req.grantTo mem bad .f 0 :: w.2)
    else (w.1, b.req.grantTo mem bad .e b.due :: w.2)

/-- DAT_WB: the home takes dirty data, and a write that waited for it goes on. -/
def State.homeDatWb (s : State) (m : Msg) : State × List Msg :=
  (s.putMemLine m.line m.data m.poison).homeAnswered m

/-- The designation of the view names the sender of a WB or EVN. -/
def State.designates (s : State) (m : Msg) : Bool :=
  let who : Holder := if m.src = s.moduleId then .tile m.agent else .member (memberOf m.src)
  match s.view m.line with
  | .o h => h == who
  | .shF h => h == who
  | _ => false

/-- A line written back waits for its stripe partner; the second line of a stripe ends the wait (R485). -/
def State.partnerNote (s : State) (line : Nat) : State :=
  let w := s.home.partnerWait
  let mate := 2 * (line / 2) + (1 - line % 2)
  let w1 := if w.contains mate then w.filter (fun l => l != mate) else (w.filter (fun l => l != line)) ++ [line]
  { s with home := { s.home with partnerWait := w1 } }

/-- WB or EVN: sunk while the designation names its sender, and acknowledged in every case (R216). -/
def State.homeWriteback (s : State) (m : Msg) : State × List Msg :=
  let ack := { m.toReq 2 3 with line := m.line }
  if ¬ s.designates m then (s, [ack])
  else
    let s1 := if m.code = 0 then
        (s.putMemLine m.line m.data m.poison).partnerNote m.line
      else s
    let e := (s1.dirEntry m.line).getD { st := 0, who := 0, sharers := 0, resv := none, used := 0 }
    let left := if m.src = s.moduleId then e.sharers else e.sharers - (e.sharers &&& 2 ^ memberOf m.src)
    (s1.setDir m.line { e with st := if left = 0 then 0 else 1, sharers := left }, [ack])

/-- WB_ACK: the eviction buffer entry is free. -/
def State.takeWbAck (s : State) (m : Msg) : State := s.dropEvicting (m.agent % 4) m.line

/-- TXEND: the home advances the transaction epoch of the core (R228). -/
def State.homeTxEnd (s : State) (m : Msg) : State :=
  let k := markCore m.src m.txn
  { s with home := { s.home with epochs := SMap.set 0 s.home.epochs k ((SMap.get 0 s.home.epochs k + 1) % 16) } }

/-! ## Delivery -/

/-- A message reaches an agent of this module: what it does, and the messages that follow. -/
def State.handle (s : State) (m : Msg) : State × List Msg :=
  if m.cls = 0 then s.homeRequest m
  else if m.cls = 1 then s.takeForward m
  else if m.cls = 2 then
    if m.code = 2 then s.homeFwdDone m
    else if m.code = 3 then (s.takeWbAck m, [])
    else if m.code = 0 ∧ s.forHome m then s.homeAnswered m
    else s.takeAnswer m
  else if m.cls = 3 then (if m.code = 1 then s.homeDatWb m else s.takeAnswer m)
  else if m.code < 2 then s.homeWriteback m
  else if m.code = 2 then
    let s1 := s.dropReservations (markCore m.src m.txn)
    s1.wakeQueue (fun _ => true)
  else (s.homeTxEnd m, [])

/-- Delivers messages and those that follow from them, in order; one to another module is sent. -/
def State.pump : Nat → State → List Msg → State
  | 0, s, _ => s
  | _ + 1, s, [] => s
  | n + 1, s, m :: rest =>
    if m.dest = s.moduleId then
      let r := s.handle m
      State.pump n r.1 (rest ++ r.2)
    else State.pump n (s.enqueue m) rest

/-- Delivers the messages of one event. -/
def State.deliver (s : State) (ms : List Msg) : State := s.pump 65536 ms

end Sys2Proof.Machine
end

