-- ==== Sys2Proof/Machine/Fabric.lean ====
section
/-!
DEFINITION. Messages and fabric ports as commands: the messages of Table 10.2 that reach the module, fabric
frames (Table 10.8), training, lane and port loss, rerouting, and the loss of a member (R234 to R240).
-/

namespace Sys2Proof.Machine

/-- The uncore runs: not in Service Standby, Check-Stop or Manufacturing Test (Table 21.1). -/
def State.uncoreUp (s : State) : Bool := s.mode != 0 && s.mode != 10 && s.mode != 11

/-! ## Messages -/

/-- The message that a header and its command spell. -/
def hdrMsg (h : Hdr) (cls code dest : Nat) : Msg :=
  { cls := cls, code := code, dest := dest, src := h.src.toNat, agent := h.agent.toNat, txn := h.txn.toNat,
    line := h.line.toNat, tx := h.tx, esc := h.esc, poison := h.poison, reissue := h.reissue, ext := h.ext.toNat,
    dztv := h.dztv }

/-- A message is received: a reissued one that was accepted before is discarded (R239). -/
def State.receive (s : State) (m : Msg) : State :=
  let key := (m.cls, m.code, m.src, m.agent, m.txn)
  if m.reissue ∧ s.accepted.contains key then s
  else ({ s with accepted := key :: s.accepted.filter (fun k => k != key) }).deliver [m]

/-- A request of one of the module's own tiles: it is entered among the module's requests and goes to the home. -/
def State.request (s : State) (core : Option Nat) (cache : Nat) (m : Msg) : State :=
  let q : Outstanding := { req := m, core := core, cache := cache, won := false, state := .i, data := [],
                           poison := false, acksDue := 0, acks := 0, result := none, refused := 0 }
  let s1 := { s with requests := s.requests ++ [q], txn := (s.txn + 1) % 64 }
  if m.dest = s.moduleId ∨ (s.portFor m.dest).isSome then s1.deliver [m]
  else s1.putRequest { q with refused := 2 }

/-- A request reaches the module's home. -/
def State.reqCommand (s : State) (m : Msg) : State :=
  if s.fromTile m ∧ m.code < 4 then s.request none 10 m else s.receive m

/-- The guard of a request: it names a line of this module, and an agent that sends requests. -/
def State.reqOk (s : State) (h : Hdr) : Bool :=
  s.uncoreUp && lineHome h.line.toNat == s.moduleId && decide (h.agent.toNat < 11) && h.agent.toNat != 9

/-- RD_S (Table 10.6): a read for sharing reaches the home. -/
def execRdS (h : Hdr) (s : State) : Host.Outcome State Fault Refusal :=
  event "RD_S" (s.reqOk h && decide (h.agent.toNat < 4)) s (s.reqCommand (hdrMsg h 0 0 s.moduleId))

/-- RD_O (Table 10.6): a read for ownership reaches the home. -/
def execRdO (h : Hdr) (s : State) : Host.Outcome State Fault Refusal :=
  event "RD_O" (s.reqOk h && decide (h.agent.toNat < 4)) s (s.reqCommand (hdrMsg h 0 1 s.moduleId))

/-- UPG (Table 10.6): an upgrade reaches the home. -/
def execUpg (h : Hdr) (s : State) : Host.Outcome State Fault Refusal :=
  event "UPG" (s.reqOk h && decide (h.agent.toNat < 4)) s (s.reqCommand (hdrMsg h 0 2 s.moduleId))

/-- OWN_Z (Table 10.6): a request for ownership without data reaches the home. -/
def execOwnZ (h : Hdr) (s : State) : Host.Outcome State Fault Refusal :=
  event "OWN_Z" (s.reqOk h && decide (h.agent.toNat < 4)) s (s.reqCommand (hdrMsg h 0 3 s.moduleId))

/-- RD_ONCE (Table 10.6): a snapshot read reaches the home. -/
def execRdOnce (h : Hdr) (s : State) : Host.Outcome State Fault Refusal :=
  event "RD_ONCE" (s.reqOk h) s (s.reqCommand (hdrMsg h 0 4 s.moduleId))

/-- WR_LINE (Table 10.6): a whole-line write reaches the home. -/
def execWrLine (h : Hdr) (data : BitVec 1024) (s : State) : Host.Outcome State Fault Refusal :=
  event "WR_LINE" (s.reqOk h) s (s.reqCommand { hdrMsg h 0 5 s.moduleId with data := leBytes 128 data.toNat })

/-- WR_PART (Table 10.6): a masked write reaches the home. -/
def execWrPart (h : Hdr) (data : BitVec 1024) (mask : BitVec 128) (s : State) : Host.Outcome State Fault Refusal :=
  event "WR_PART" (s.reqOk h) s
    (s.reqCommand { hdrMsg h 0 6 s.moduleId with data := leBytes 128 data.toNat, mask := mask.toNat })

/-- CAS_NC (Table 10.6): a CAS, CAS.Q or LD.Q.A reaches the home. The header of Table 10.3 has no place for its
operands, so the command gives them: offset in the line, size, and the compare and new values of a CAS. -/
def execCasNc (h : Hdr) (off : Fin 128) (size : Fin 5) (ops : Option (BitVec 128 × BitVec 128)) (s : State) :
    Host.Outcome State Fault Refusal :=
  event "CAS_NC" (s.reqOk h && decide (off.val % 2 ^ size.val = 0)) s
    (s.reqCommand { hdrMsg h 0 7 s.moduleId with
      cas := ops.map (fun x => (off.val, 2 ^ size.val, x.1.toNat, x.2.toNat)) })

/-- A forward reaches a holder of the module. -/
def State.fwdCommand (s : State) (h : Hdr) (code : Nat) : State :=
  let tile := if lineHome h.line.toNat = s.moduleId then s.holderTile h.line.toNat else none
  s.receive { hdrMsg h 1 code s.moduleId with tile := tile }

/-- FWD_S (Table 10.7): send the line as F and keep S. -/
def execFwdS (h : Hdr) (s : State) : Host.Outcome State Fault Refusal :=
  event "FWD_S" s.uncoreUp s (s.fwdCommand h 0)

/-- FWD_O (Table 10.7): send the line and become I. -/
def execFwdO (h : Hdr) (s : State) : Host.Outcome State Fault Refusal :=
  event "FWD_O" s.uncoreUp s (s.fwdCommand h 1)

/-- FWD_ONCE (Table 10.7): send a copy, the state unchanged. -/
def execFwdOnce (h : Hdr) (s : State) : Host.Outcome State Fault Refusal :=
  event "FWD_ONCE" s.uncoreUp s (s.fwdCommand h 2)

/-- INV (Table 10.7): become I and acknowledge. -/
def execInv (h : Hdr) (s : State) : Host.Outcome State Fault Refusal :=
  event "INV" s.uncoreUp s (s.fwdCommand h 3)

/-- INV_Z (Table 10.7): become I, discarding dirty data, and acknowledge. -/
def execInvZ (h : Hdr) (s : State) : Host.Outcome State Fault Refusal :=
  event "INV_Z" s.uncoreUp s (s.fwdCommand h 4)

/-- RECALL (Table 10.7): become I and return dirty data. -/
def execRecall (h : Hdr) (s : State) : Host.Outcome State Fault Refusal :=
  event "RECALL" s.uncoreUp s (s.fwdCommand h 5)

/-- The members of the domain other than this module. -/
def State.otherMembers (s : State) : List Nat :=
  (List.range 32).filter (fun k => (s.fld bHome F.DOM_CTL_MEMBERS).testBit k && k != memberOf s.moduleId)

/-- The home begins a set recall (R231): SET_RECALL to every member; the home's own tiles empty the set. -/
def State.startRecall (s : State) (set way : Nat) : State :=
  let ks := s.otherMembers
  let s1 := { s with home := { s.home with recalls := s.home.recalls ++ [(set, ks.length + 1)] } }
  let s2 := ((s1.setFld bHome F.DIR_ERRADDR_SET set).setFld bHome F.DIR_ERRADDR_WAY way).setFlag bHome F.DIR_ERRADDR_UE true
  let msgs := ks.map (fun k =>
    ({ cls := 1, code := 6, dest := s.memberModule k, src := s.moduleId, agent := 9, txn := 0,
       line := s.moduleId * 2 ^ 37 + set } : Msg))
  let own : Msg := { cls := 1, code := 6, dest := s.moduleId, src := s.moduleId, agent := 9, txn := 0,
                     line := s.moduleId * 2 ^ 37 + set }
  ((s2.recoveryBegins (.setRecall set)).deliver (msgs ++ [own]))

/-- SET_RECALL (R231): a member removes every line of the home and set, returns dirty lines and acknowledges.
With this module as the home, an uncorrectable entry (set, way) was found and the recall begins. -/
def execSetRecall (home : BitVec 16) (set : BitVec 19) (way : Fin 16) (s : State) : Host.Outcome State Fault Refusal :=
  let m : Msg := { cls := 1, code := 6, dest := s.moduleId, src := home.toNat, agent := 9, txn := 0,
                   line := home.toNat * 2 ^ 37 + set.toNat }
  event "SET_RECALL" (s.uncoreUp && !s.home.recalls.any (fun x => home.toNat == s.moduleId && x.1 == set.toNat)) s
    (if home.toNat = s.moduleId then s.startRecall set.toNat way.val else s.receive m)

/-- SET_RECALL_COMPLETE (R231): every answer is in; the set is cleared, counted and reported. -/
def execSetRecallComplete (set : BitVec 19) (s : State) : Host.Outcome State Fault Refusal :=
  let home := { s.home with dir := s.home.dir.filter (fun (x : Nat × DirEntry) => dirSet x.1 != set.toNat),
                            recalls := s.home.recalls.filter (fun x => x.1 != set.toNat) }
  let s1 := { s with home := home }.count bHome F.DIR_CNT_SETRECALL
  let s2 := (s1.raiseErr homePage 8).crumbOpen homePage 0x0600 [BitVec.ofNat 64 set.toNat]
  let w := (s2.recoveryEnds (.setRecall set.toNat)).wakeQueue (fun l => dirSet l == set.toNat)
  event "SET_RECALL_COMPLETE" (s.home.recalls.any (fun x => x.1 == set.toNat && x.2 == 0)) s (w.1.deliver w.2)

/-- ACK (R223): an invalidation is acknowledged to the requester or the home. -/
def execAck (h : Hdr) (s : State) : Host.Outcome State Fault Refusal :=
  event "ACK" s.uncoreUp s (s.receive (hdrMsg h 2 0 s.moduleId))

/-- CMP (R223): a grant without data, or the completion of a write. -/
def execCmp (h : Hdr) (s : State) : Host.Outcome State Fault Refusal :=
  event "CMP" s.uncoreUp s (s.receive (hdrMsg h 2 1 s.moduleId))

/-- FWD_DONE (R232): a forward has been served, or its holder was absent. -/
def execFwdDone (h : Hdr) (s : State) : Host.Outcome State Fault Refusal :=
  event "FWD_DONE" s.uncoreUp s (s.receive (hdrMsg h 2 2 s.moduleId))

/-- WB_ACK (R217): the eviction buffer entry of the tile is freed. -/
def execWbAck (h : Hdr) (s : State) : Host.Outcome State Fault Refusal :=
  event "WB_ACK" (s.uncoreUp && decide (h.agent.toNat < 4)) s (s.receive (hdrMsg h 2 3 s.moduleId))

/-- REFUSED (R164): the request is refused, or has no target. -/
def execRefused (h : Hdr) (s : State) : Host.Outcome State Fault Refusal :=
  event "REFUSED" s.uncoreUp s (s.receive (hdrMsg h 2 4 s.moduleId))

/-- DATA (R223): 128 bytes with the state granted. -/
def execData (h : Hdr) (data : BitVec 1024) (s : State) : Host.Outcome State Fault Refusal :=
  event "DATA" s.uncoreUp s (s.receive { hdrMsg h 3 0 s.moduleId with data := leBytes 128 data.toNat })

/-- DAT_WB (R227): the home receives dirty data. -/
def execDatWb (h : Hdr) (data : BitVec 1024) (s : State) : Host.Outcome State Fault Refusal :=
  event "DAT_WB" (s.uncoreUp && lineHome h.line.toNat == s.moduleId) s
    (s.receive { hdrMsg h 3 1 s.moduleId with data := leBytes 128 data.toNat })

/-- DATA_NC (R227): the result of a read-once or CAS request, as the line's 128 bytes. -/
def execDataNc (h : Hdr) (data : BitVec 1024) (s : State) : Host.Outcome State Fault Refusal :=
  event "DATA_NC" s.uncoreUp s (s.receive { hdrMsg h 3 2 s.moduleId with data := leBytes 128 data.toNat })

/-- WB (R222): a dirty line is written back. -/
def execWb (h : Hdr) (data : BitVec 1024) (s : State) : Host.Outcome State Fault Refusal :=
  event "WB" (s.uncoreUp && lineHome h.line.toNat == s.moduleId) s
    (s.receive { hdrMsg h 4 0 s.moduleId with data := leBytes 128 data.toNat })

/-- EVN (R216): a clean E or F line has been evicted. -/
def execEvn (h : Hdr) (s : State) : Host.Outcome State Fault Refusal :=
  event "EVN" (s.uncoreUp && lineHome h.line.toNat == s.moduleId) s (s.receive (hdrMsg h 4 1 s.moduleId))

/-- RLS (R229): the reservations of an escalated attempt end. -/
def execRls (h : Hdr) (s : State) : Host.Outcome State Fault Refusal :=
  event "RLS" s.uncoreUp s (s.receive (hdrMsg h 4 2 s.moduleId))

/-- TXEND (R228): the transaction epoch of the core advances. -/
def execTxend (h : Hdr) (s : State) : Host.Outcome State Fault Refusal :=
  event "TXEND" s.uncoreUp s (s.receive (hdrMsg h 4 3 s.moduleId))

/-- HOLD_END (R223, R224): the hold of a line ends and the forwards that waited are served in order. -/
def execHoldEnd (t : Fin 4) (line : BitVec 53) (s : State) : Host.Outcome State Fault Refusal :=
  match s.holdOn t.val line.toNat with
  | some h =>
    let s1 := s.setTile t.val { s.tile t.val with holds := (s.tile t.val).holds.filter (fun x => x.line != line.toNat) }
    event "HOLD_END" s.uncoreUp s (s1.deliver (h.waiting.map (fun m => { m with tile := some t.val })))
  | none => event "HOLD_END" false s s

/-- DIRECTORY_EVICTION_BUFFER_FREE (R230): every answer for a victim has arrived; requests for its line go on. -/
def execDirectoryEvictionBufferFree (line : BitVec 53) (s : State) : Host.Outcome State Fault Refusal :=
  let s1 := { s with home := { s.home with evicting := s.home.evicting.filter (fun x => x.1 != line.toNat) } }
  let w := s1.wakeQueue (fun _ => true)
  event "DIRECTORY_EVICTION_BUFFER_FREE" (s.home.evicting.any (fun x => x.1 == line.toNat && x.2 == 0)) s
    (w.1.deliver w.2)

/-- RESERVATION_EXPIRY (R229): a reservation ends 4,608 uncore cycles after its grant. -/
def execReservationExpiry (line : BitVec 53) (s : State) : Host.Outcome State Fault Refusal :=
  match s.dirEntry line.toNat with
  | some e =>
    let w := (s.setDir line.toNat { e with resv := none }).wakeQueue (fun _ => true)
    event "RESERVATION_EXPIRY" e.resv.isSome s (w.1.deliver w.2)
  | none => event "RESERVATION_EXPIRY" false s s

/-! ## Fabric ports (R234 to R236) -/

def fportPage (f : Nat) : Page := ⟨.fport, f⟩

/-- The width that a set of healthy lanes trains at: 3 x8, 2 x4 (lanes 0–3 or 4–7), 1 x2 (an aligned pair),
0 x1 (R236); none without a lane. -/
def laneWidth (l : BitVec 8) : Option Nat :=
  if l = 0xFF then some 3
  else if l &&& 0x0F = 0x0F ∨ l &&& 0xF0 = 0xF0 then some 2
  else if l &&& 0x03 = 0x03 ∨ l &&& 0x0C = 0x0C ∨ l &&& 0x30 = 0x30 ∨ l &&& 0xC0 = 0xC0 then some 1
  else if l ≠ 0 then some 0
  else none

/-- A port carries traffic. -/
def State.fportUp (s : State) (f : Nat) : Bool :=
  let st := s.fld (bFport f) F.FP_STAT_STATE
  st == 2 || st == 3

/-- Every route whose primary or gateway uses a lost port switches to its alternative (R239). -/
def State.switchRoutes (s : State) (f : Nat) : State :=
  let s1 := (List.range 32).foldl (fun st m =>
    let w := bHome + 8 * m
    if st.flag w F.ROUTE_VALID ∧ st.fld w F.ROUTE_PRIMARY = f then st.setFlag w F.ROUTE_USING_ALT true else st) s
  if s1.flag bHome F.ROUTE_XDOM_VALID ∧ s1.fld bHome F.ROUTE_XDOM_PRIMARY = f then
    s1.setFlag bHome F.ROUTE_XDOM_USING_ALT true
  else s1

/-- The loss of a port: state failed, routes switched, unacknowledged messages sent again with REISSUE (R236,
R239). -/
def State.losePort (s : State) (f : Nat) : State :=
  let lost := (s.fport f).replay.map (fun x => { x.2 with reissue := true })
  let s1 := ((s.setFport f {}).setFld (bFport f) F.FP_STAT_STATE 4).count (bFport f) F.FP_CNT_LINK_DOWN
  let s2 := ((s1.setFlag (bFport f) F.FAULT true).raiseErr (fportPage f) 8).crumbOpen (fportPage f) 0x0A00
    [BitVec.ofNat 64 f]
  lost.foldl (fun st m => st.enqueue m) ((s2.switchRoutes f).recoveryBegins (.reroute f))

/-- A message of a frame: its bytes spell the header of Table 10.3 and what follows it. -/
def parseMsg (bs : List Byte) : Option (Msg × Nat) :=
  if bs.length < 16 then none
  else
    let n := leNat (bs.take 16)
    let fd := fun (lo w : Nat) => n / 2 ^ lo % 2 ^ w
    let m : Msg := { cls := fd 0 3, code := fd 3 5, dest := fd 8 16, src := fd 24 16, agent := fd 40 4, txn := fd 44 12,
                     line := fd 56 53, tx := n.testBit 109, esc := n.testBit 110, poison := n.testBit 111,
                     reissue := n.testBit 112, ext := fd 113 10, dztv := n.testBit 123 }
    let len := 16 * m.slots
    if bs.length < len then none
    else if 9 ≤ m.slots then
      some ({ m with data := (bs.drop 16).take 128, mask := if m.slots = 10 then leNat ((bs.drop 144).take 16) else 0 }, len)
    else if m.slots = 2 then some ({ m with data := (bs.drop 16).take 16 ++ List.replicate 112 0 }, len)
    else some (m, len)

/-- A class and code that Table 10.2 defines. -/
def msgDefined (m : Msg) : Bool :=
  decide ((m.cls = 0 ∧ m.code < 8) ∨ (m.cls = 1 ∧ m.code < 7) ∨ (m.cls = 2 ∧ m.code < 5) ∨ (m.cls = 3 ∧ m.code < 3) ∨
          (m.cls = 4 ∧ m.code < 4))

/-- A message with a reserved class or code is discarded, counted and reported (R218). -/
def State.badMessage (s : State) (f : Nat) (m : Msg) : State :=
  (s.count (bFport f) F.FP_CNT_LINK_BADMSG).crumbOpen (fportPage f) 0x0A00
    [BitVec.ofNat 64 m.cls, BitVec.ofNat 64 m.code, BitVec.ofNat 64 m.src]

/-- Whether the home takes messages from a module: a member of the domain, or another domain by a gateway port
(R241, Table 10.12). -/
def State.knownSource (s : State) (f : Nat) (m : Msg) : Bool :=
  if domainOf m.src = domainOf s.moduleId then (s.fld bHome F.DOM_CTL_MEMBERS).testBit (memberOf m.src)
  else decide (s.fld (bFport f) F.FP_CFG_KIND = 2)

/-- The operands of a CAS_NC that came in a frame, which Table 10.3 gives no place: free values. -/
def State.casOperands (s : State) (m : Msg) : State × Msg :=
  if m.cls = 0 ∧ m.code = 7 then
    let a := s.freeVal
    let b := s.drawn.freeVal
    let c := s.drawn.drawn.freeVal
    (s.drawn.drawn.drawn, { m with cas := some (8 * (c.toNat % 16), 8, a.toNat, b.toNat) })
  else (s, m)

/-- A message that came over a port: for this module it is received; for another it is passed on (R238). -/
def State.portMessage (s : State) (f : Nat) (m : Msg) : State :=
  if ¬ msgDefined m then s.badMessage f m
  else if m.dest ≠ s.moduleId then s.enqueue m
  else if m.cls = 0 ∧ ¬ s.knownSource f m then
    if domainOf m.src = domainOf s.moduleId then s.crumbOpen homePage 0x0A00 [BitVec.ofNat 64 m.src]
    else s.deliver [m.toReq 2 4]
  else
    let r := s.casOperands m
    r.1.receive r.2

/-- The messages of received slots; what is left of one that continues into the next frame. -/
def State.takeSlots : Nat → State → Nat → List Byte → State
  | 0, s, f, bs => s.setFport f { s.fport f with partialRx := bs }
  | n + 1, s, f, bs =>
    match parseMsg bs with
    | some (m, len) => State.takeSlots n (s.portMessage f m) f (bs.drop len)
    | none => s.setFport f { s.fport f with partialRx := bs }

/-- Frames that an ACK covers leave the replay buffer. -/
def ackFrames (ack : Nat) (l : List (Nat × Msg)) : List (Nat × Msg) :=
  l.filter (fun x => decide (2048 ≤ (ack + 4096 - x.1) % 4096))

/-- The NAK of a frame: it is sent again; the eighth successive NAK of one frame loses the port. -/
def State.takeNak (s : State) (f : Nat) : State :=
  let x := s.fport f
  if 8 ≤ x.naks + 1 then s.losePort f
  else (s.setFport f { x with naks := x.naks + 1 }).count (bFport f) F.FP_CNT_LINK_REPLAY

/-- FABRIC_FRAME (R235): CRC, ACK, credits and NAK, then the messages of the frame in order. -/
def execFabricFrame (f : Fin 12) (frame : BitVec 2048) (s : State) : Host.Outcome State Fault Refusal :=
  let bs := leBytes 256 frame.toNat
  let h := leNat (bs.take 8)
  let x := s.fport f.val
  let ok := s.uncoreUp && s.fportUp f.val
  if leNat (bs.drop 252) ≠ crc32c (bs.take 252) then
    event "FABRIC_FRAME" ok s ((s.count (bFport f.val) F.FP_CNT_LINK_CRC).setFport f.val { x with nakDue := true })
  else
    let ack := h / 2 ^ 12 % 4096
    let kept := ackFrames ack x.replay
    let key := 2 * (h / 2 ^ 25 % 8) + h / 2 ^ 28 % 2
    let x1 := { (x.setCredit key (x.credit key + h / 2 ^ 29 % 128)) with
      replay := kept, naks := if kept.length = x.replay.length then x.naks else 0 }
    let s1 := s.setFport f.val x1
    let s2 := if h.testBit 24 then s1.takeNak f.val else s1
    let seq := h % 4096
    if seq ≠ (x.lastRx + 1) % 4096 ∨ ¬ s2.fportUp f.val then event "FABRIC_FRAME" ok s s2
    else
      let s3 := s2.setFport f.val { s2.fport f.val with lastRx := seq, nakDue := false }
      let slots := if h.testBit 40 then [] else (bs.drop 8).take (16 * (h / 2 ^ 36 % 16))
      event "FABRIC_FRAME" ok s (s3.takeSlots 16 f.val (x.partialRx ++ slots))

/-- FABRIC_IDENTITY_FRAME (R234): the peer's identity lands in FP_STAT with the lanes trained; a member link to
another domain fails. -/
def execFabricIdentityFrame (f : Fin 12) (peer : BitVec 16) (port : BitVec 4) (kind : BitVec 2) (lanes : BitVec 8)
    (s : State) : Host.Outcome State Fault Refusal :=
  let b := bFport f.val
  let s1 := ((s.setFld b F.FP_STAT_PEER_MODULE peer.toNat).setFld b F.FP_STAT_PEER_PORT port.toNat).setFld b
    F.FP_STAT_PEER_KIND kind.toNat
  let ok := s.uncoreUp && decide (s.fld b F.FP_STAT_STATE = 1) &&
    decide (lanes &&& BitVec.ofNat 8 (s.fld b F.FP_CFG_LANE_EN) = lanes)
  match laneWidth lanes with
  | some w =>
    let s2 := (s1.setFld b F.FP_STAT_LANES_GOOD lanes.toNat).setFld b F.FP_STAT_WIDTH w
    if s.fld b F.FP_CFG_KIND = 1 ∧ domainOf peer.toNat ≠ domainOf s.moduleId then
      event "FABRIC_IDENTITY_FRAME" ok s
        (((s2.setFld b F.FP_STAT_STATE 4).setFlag b F.FAULT true).crumbOpen (fportPage f.val) 0x0A00
          [BitVec.ofNat 64 f.val, BitVec.ofNat 64 peer.toNat])
    else if w < s.fld b F.FP_CFG_MIN_WIDTH then event "FABRIC_IDENTITY_FRAME" ok s (s2.losePort f.val)
    else event "FABRIC_IDENTITY_FRAME" ok s (s2.setFld b F.FP_STAT_STATE (if w = 3 then 2 else 3))
  | none => event "FABRIC_IDENTITY_FRAME" false s s

/-- FABRIC_LANE_FAILURE (R236): the lane is dropped; the port retrains at the next width down, or is lost. -/
def execFabricLaneFailure (f : Fin 12) (lane : Fin 8) (s : State) : Host.Outcome State Fault Refusal :=
  let b := bFport f.val
  let good := s.fld b F.FP_STAT_LANES_GOOD
  let lanes := BitVec.ofNat 8 (good - (good &&& 2 ^ lane.val))
  let ok := s.uncoreUp && s.fportUp f.val && good.testBit lane.val
  let s1 := s.setFld b F.FP_STAT_LANES_GOOD lanes.toNat
  match laneWidth lanes with
  | some w =>
    if w < s.fld b F.FP_CFG_MIN_WIDTH then event "FABRIC_LANE_FAILURE" ok s (s1.losePort f.val)
    else
      let s2 := ((s1.setFld b F.FP_STAT_STATE 1).setFld b F.FP_STAT_WIDTH w).count b F.FP_CNT_LINK_WIDTH_DROP
      event "FABRIC_LANE_FAILURE" ok s (s2.raiseErr (fportPage f.val) 9)
  | none => event "FABRIC_LANE_FAILURE" ok s (s1.losePort f.val)

/-- FABRIC_PORT_LOSS (R236): the port enters state failed and its messages are sent by the alternative routes. -/
def execFabricPortLoss (f : Fin 12) (s : State) : Host.Outcome State Fault Refusal :=
  event "FABRIC_PORT_LOSS" (s.uncoreUp && (s.fportUp f.val || s.fld (bFport f.val) F.FP_STAT_STATE == 1)) s
    (s.losePort f.val)

/-- FABRIC_ACK_TIMEOUT (R236): no ACK for 1 µs loses the port. -/
def execFabricAckTimeout (f : Fin 12) (s : State) : Host.Outcome State Fault Refusal :=
  event "FABRIC_ACK_TIMEOUT" (s.uncoreUp && s.fportUp f.val && !(s.fport f.val).replay.isEmpty) s (s.losePort f.val)

/-- FABRIC_RETRAIN_COMPLETE (R236): the port resumes at the width it trained, and the replay buffer resends. -/
def execFabricRetrainComplete (f : Fin 12) (s : State) : Host.Outcome State Fault Refusal :=
  let b := bFport f.val
  let s1 := s.setFld b F.FP_STAT_STATE (if s.fld b F.FP_STAT_WIDTH = 3 then 2 else 3)
  event "FABRIC_RETRAIN_COMPLETE"
    (s.uncoreUp && s.fld b F.FP_STAT_STATE == 1 && s.fld b F.FP_STAT_LANES_GOOD != 0) s
    (if (s.fport f.val).replay.isEmpty then s1 else s1.count b F.FP_CNT_LINK_REPLAY)

/-- ROUTING_RESUME (R239): routing resumes over the alternative routes. -/
def execRoutingResume (f : Fin 12) (s : State) : Host.Outcome State Fault Refusal :=
  event "ROUTING_RESUME" (s.ese.recoveries.contains (.reroute f.val)) s (s.recoveryEnds (.reroute f.val))

/-! ## The loss of a member (R240) -/

/-- The home drops a lost member: from the sharers, from the Forwarder designations, and the lines it owned are
written as poisoned. -/
def State.dropMember (s : State) (k : Nat) : State :=
  s.home.dir.foldl (fun (st : State) (x : Nat × DirEntry) =>
    let e := x.2
    if e.st = 3 ∧ e.who = k then (st.setPoison x.1 true).dirNone x.1
    else
      let left := e.sharers - (e.sharers &&& 2 ^ k)
      if left = e.sharers then st
      else st.setDir x.1 { e with st := if left = 0 then 0 else if e.st = 2 ∧ e.who = k then 1 else e.st, sharers := left }) s

/-- Requests to a lost member's memory end as fabric timeouts. -/
def State.timeoutRequests (s : State) (module : Nat) : State :=
  { s with requests := s.requests.map (fun q => if q.req.dest = module then { q with refused := 3 } else q) }

/-- A member is lost. -/
def State.loseMember (s : State) (k : Nat) : State :=
  let s1 := s.setFld bHome F.MEMBER_DOWN_DOWN (s.fld bHome F.MEMBER_DOWN_DOWN ||| 2 ^ k)
  let s2 := { s1 with home := { s1.home with lost := s1.home.lost ||| 2 ^ k } }
  let s3 := (s2.dropMember k).timeoutRequests (s.memberModule k)
  let busy := s3.home.busy.filter (fun b => memberOf b.req.src == k)
  let s4 := busy.foldl (fun st b => st.clearBusy b.line) s3
  let w := s4.wakeQueue (fun l => busy.any (fun b => b.line == l))
  ((w.1.deliver w.2).raiseErr homePage 9).crumbOpen homePage 0x0900 [BitVec.ofNat 64 k]

/-- MEMBER_LOSS (R240): both routes to a member have failed for 12 µs. -/
def execMemberLoss (k : Fin 32) (s : State) : Host.Outcome State Fault Refusal :=
  event "MEMBER_LOSS"
    (s.uncoreUp && (s.fld bHome F.DOM_CTL_MEMBERS).testBit k.val && k.val != memberOf s.moduleId &&
     !(s.fld bHome F.MEMBER_DOWN_DOWN).testBit k.val) s (s.loseMember k.val)

/-- A route to a member is up. -/
def State.routeUp (s : State) (k : Nat) : Bool :=
  let r := s.reg (bHome + 0x100 + 8 * k)
  bit r 9 && ((decide (bits r 0 4 < 12) && s.fportUp (bits r 0 4)) || (decide (bits r 4 4 < 12) && s.fportUp (bits r 4 4)))

/-! ## Register writes of the home and fabric pages -/

/-- Clearing a bit of MEMBER_DOWN is refused while no route to the member is up; RETRAIN while RUN = 0. -/
def homeRefused (s : State) (off : Nat) (v : Word) : List Fld :=
  if off = 0x050 ∧
     (List.range 32).any (fun k => (s.fld bHome F.MEMBER_DOWN_DOWN).testBit k && !bit v k && !s.routeUp k) then
    [F.MEMBER_DOWN_DOWN]
  else []

/-- What an accepted write of the home directory page does: members that firmware marks down are lost; a write
of a route clears USING_ALT. -/
def homeWrote (off : Nat) (old : State) (s : State) : State :=
  if off = 0x050 then
    let now := s.fld bHome F.MEMBER_DOWN_DOWN
    let was := old.fld bHome F.MEMBER_DOWN_DOWN
    let s1 := { s with home := { s.home with lost := s.home.lost &&& now } }
    (List.range 32).foldl (fun st k => if now.testBit k ∧ ¬ was.testBit k then st.loseMember k else st) s1
  else if 0x100 ≤ off ∧ off ≤ 0x200 then s.setReg (bHome + off) (putBit (s.reg (bHome + off)) 8 false)
  else s

/-- RETRAIN is refused while RUN = 0 (Table 10.14). -/
def fportRefused (s : State) (f off : Nat) (v : Word) : List Fld :=
  if off = 0x060 ∧ bit v 0 ∧ ¬ s.flag (bFport f) F.RUN then [F.FP_CMD_RETRAIN] else []

/-- FP_CMD: retrain at full width, or declare the port lost. -/
def fportWrote (f off : Nat) (v : Word) (s : State) : State :=
  if off = 0x060 then
    let s1 := if bit v 0 then (s.setFld (bFport f) F.FP_STAT_STATE 1).setFlag (bFport f) F.FAULT false else s
    if bit v 1 then s1.losePort f else s1
  else s

/-- A fabric port starts training when RUN is set (R244). -/
def fportStart (f : Nat) (s : State) : State := s.setFld (bFport f) F.FP_STAT_STATE 1

/-- A fabric port that has stopped is down. -/
def fportStop (f : Nat) (s : State) : State :=
  (s.setFport f {}).setFld (bFport f) F.FP_STAT_STATE 0

end Sys2Proof.Machine
end

