-- ==== Sys2Proof/Machine/Caches.lean ====
section
/-!
DEFINITION. Cache enables, way masks, flushes and drains, and the range engine of a tile (*Cache Hierarchy and
Cache Maintenance*, R200 to R213).
-/

namespace Sys2Proof.Machine

def l3Page (t : Nat) : Page := ⟨.l3, t⟩
def posPage (p : Nat) : Page := ⟨.position, p⟩

/-! ## The range engine's jobs -/

/-- RNG_STAT.BUSY and OWNER follow the job in progress; the fall of BUSY raises the completion source (R212). -/
def State.setJobs (s : State) (t : Nat) (js : List RangeJob) : State :=
  let s1 := s.setTile t { s.tile t with jobs := js }
  let was := s.flag (bL3 t) F.RNG_STAT_BUSY
  let s2 := (s1.setFlag (bL3 t) F.RNG_STAT_BUSY (!js.isEmpty)).setFld (bL3 t) F.RNG_STAT_OWNER
    ((js.head?.map (·.owner)).getD 0)
  if was ∧ js.isEmpty then s2.sourceEvent (0x1E40 + t) else s2

/-- FLUSHING of a cache. -/
def State.setFlushing (s : State) (t c : Nat) (v : Bool) : State :=
  if c < 10 then s.setFlag (bPos (10 * t + c)) F.CACHE_STAT_FLUSHING v else s.setFlag (bL3 t) F.L3_STAT_FLUSHING v

/-- Adds a flush or drain job. -/
def State.addJob (s : State) (t : Nat) (j : RangeJob) : State :=
  (s.setJobs t ((s.tile t).jobs ++ [j])).setFlushing t j.cache true

/-- Ends the job in progress. -/
def State.endJob (s : State) (t : Nat) : State :=
  let js := (s.tile t).jobs
  match js with
  | j :: rest =>
    let s1 := s.setJobs t rest
    if j.owner = 1 ∨ rest.any (fun x => x.cache == j.cache && x.owner != 1) then s1 else s1.setFlushing t j.cache false
  | [] => s

/-! ## Enables and way masks (R202 to R204) -/

/-- The way masks that the registers of a cache ask for. -/
def State.waysAsked (s : State) (t c : Nat) : Nat :=
  if c < 10 then s.fld (bPos (10 * t + c)) F.L2_WAYS_WAYS_A + 2 ^ 16 * s.fld (bPos (10 * t + c)) F.L2_WAYS_WAYS_B
  else s.fld (bL3 t) F.L3_WAYS_WAYS

/-- The ways that a pair of masks uses: WAYS_A in checked mode, the union in split mode. -/
def State.waysUsed (s : State) (c m : Nat) : Nat :=
  if c < 10 ∧ s.split then (m % 2 ^ 16) ||| (m / 2 ^ 16) else m % 2 ^ 16

/-- WAY_FAIL of a cache. -/
def State.waysFailed (s : State) (t c : Nat) : Nat :=
  if c < 10 then s.fld (bPos (10 * t + c)) F.CACHE_STAT_WAY_FAIL else s.fld (bL3 t) F.L3_STAT_WAY_FAIL

/-- A cache with fewer than two usable ways, its mask less WAY_FAIL, is out of use (R203, R208). -/
def State.waysLeft (s : State) (t c : Nat) : Bool :=
  let m := s.waysUsed c (s.waysAsked t c)
  decide (2 ≤ ((List.range 16).filter (fun i => m.testBit i && !(s.waysFailed t c).testBit i)).length)

/-- The enable of a cache; an L3 with fewer than two usable ways stays disabled (R208). -/
def State.cacheEnabled (s : State) (t c : Nat) : Bool :=
  if c < 10 then s.flag (bPos (10 * t + c)) F.CACHE_CTL_L2_EN
  else s.flag (bL3 t) F.L3_CTL_EN && s.waysLeft t 10

/-- L1I_ON and L1D_ON follow their enables while the L2 is on. -/
def State.setL1s (s : State) (t c : Nat) (on : Bool) : State :=
  if c < 10 then
    let b := bPos (10 * t + c)
    (s.setFlag b F.CACHE_STAT_L1I_ON (on && s.flag b F.CACHE_CTL_L1I_EN)).setFlag b F.CACHE_STAT_L1D_ON
      (on && s.flag b F.CACHE_CTL_L1D_EN)
  else s

/-- ON of a cache. -/
def State.setCacheOn (s : State) (t c : Nat) (v : Bool) : State :=
  if c < 10 then s.setFlag (bPos (10 * t + c)) F.CACHE_STAT_L2_ON v else s.setFlag (bL3 t) F.L3_STAT_ON v

/-- Puts the way masks of the registers in effect. -/
def State.applyWays (s : State) (t c : Nat) : State :=
  s.setTile t { s.tile t with ways := SMap.set 0xFFFFFFFF (s.tile t).ways c (s.waysAsked t c) }

/-- A position in Sleep is brought out to Nap before the disable flush of its L2 begins (R429). -/
def State.outOfSleep (s : State) (t c : Nat) : State :=
  if c < 10 ∧ s.pstate (10 * t + c) = 3 then
    (if s.tileDeep t then s.leaveDeep t else s).movePosition (10 * t + c) 2
  else s

/-- What a maintenance boundary does: turn on, begin a disable flush, follow the L1 enables, change the ways. -/
def State.boundary (s : State) (t c : Nat) : State :=
  let on := s.cacheOn t c
  let want := s.cacheEnabled t c
  if want ∧ ¬ on then ((s.setCacheOn t c true).setL1s t c true).applyWays t c
  else if on ∧ ¬ want then (s.outOfSleep t c).addJob t { owner := 2, cache := c, ways := 0xFFFF, abort := false }
  else
    let old := s.waysUsed c (s.waysInEffect t c)
    let new := s.waysUsed c (s.waysAsked t c)
    let gone := old - (old &&& new)
    let s1 := (s.setL1s t c on).applyWays t c
    if on ∧ gone ≠ 0 then s1.addJob t { owner := 3, cache := c, ways := gone, abort := false } else s1

/-- A cache has a miss outstanding. -/
def State.missOut (s : State) (t c : Nat) : Bool :=
  s.requests.any (fun q => q.req.agent == t && q.cache == c && decide (q.req.code < 4))

/-- MAINTENANCE_BOUNDARY (R202): the range engine is not working on the cache and no miss is outstanding. -/
def execMaintenanceBoundary (t : Fin 4) (c : Fin 11) (s : State) : Host.Outcome State Fault Refusal :=
  event "MAINTENANCE_BOUNDARY"
    (s.uncoreUp && !(s.tile t.val).jobs.any (fun j => j.owner == 1 || j.cache == c.val) &&
     !s.missOut t.val c.val) s
    (s.boundary t.val c.val)

/-- The lines that stand in some of the ways of a cache. -/
def State.linesIn (s : State) (t c ways : Nat) : List Nat :=
  (s.tile t).lines.filterMap (fun (x : Nat × TileLine) =>
    if x.2.places.any (fun p => p.1 == c && ways.testBit p.2) then some x.1 else none)

/-- A line is taken out of a cache: to the L3 where that is in use, else out of the tile. -/
def State.flushLine (s : State) (t c line : Nat) : State × List Msg :=
  let only := match SMap.find? (s.tile t).lines line with
    | some (x : TileLine) => x.places.all (fun p => p.1 == c)
    | none => false
  if decide (c < 10) && only && s.cacheOn t 10 && !s.cacheClosing t 10 then
    let s1 := s.txConflict t line false none 0x04
    let r := s1.placeIn t 10 0 line
    let q := r.1.losePlace t c line
    (q.1, r.2 ++ q.2)
  else s.losePlace t c line

/-- Empties ways of a cache: dirty lines are written back and every line is invalidated (R202, R204). -/
def State.emptyWays (s : State) (t c ways : Nat) : State :=
  (s.linesIn t c ways).foldl (fun st l =>
    let r := st.flushLine t c l
    r.1.deliver r.2) s

/-- DISABLE_FLUSH_COMPLETE (R204): the last line is out and the cache is off. -/
def execDisableFlushComplete (t : Fin 4) (c : Fin 11) (s : State) : Host.Outcome State Fault Refusal :=
  let ok := match (s.tile t.val).jobs with
    | j :: _ => j.owner == 2 && j.cache == c.val
    | [] => false
  event "DISABLE_FLUSH_COMPLETE" ok s
    ((((s.emptyWays t.val c.val 0xFFFF).setCacheOn t.val c.val false).setL1s t.val c.val false).endJob t.val)

/-- WAY_DRAIN_COMPLETE (R202): the removed ways have been drained. -/
def execWayDrainComplete (t : Fin 4) (c : Fin 11) (s : State) : Host.Outcome State Fault Refusal :=
  match (s.tile t.val).jobs with
  | j :: _ =>
    event "WAY_DRAIN_COMPLETE" (j.owner == 3 && j.cache == c.val) s ((s.emptyWays t.val c.val j.ways).endJob t.val)
  | [] => event "WAY_DRAIN_COMPLETE" false s s

/-! ## Range operations (R211, R212) -/

/-- The software operation that RNG_CTL, RNG_BASE and RNG_LEN ask for. -/
def State.rngAsked (s : State) (t : Nat) : RangeJob :=
  let b := bL3 t
  { owner := 1, cache := 11, ways := 0, abort := false, op := s.fld b F.RNG_CTL_OP, scope := s.fld b F.RNG_CTL_SCOPE
    all := s.flag b F.RNG_CTL_ALL, base := s.fld b F.RNG_BASE_BASE, lines := s.fld b F.RNG_LEN_LINES }

/-- RESULT of a GO that is refused at its start; none where the operation runs (Table 9.6). -/
def State.rngStartFault (s : State) (j : RangeJob) : Option Nat :=
  if ¬ j.all ∧ (j.lines = 0 ∨ s.usable < 128 * (j.base + j.lines)) then some 3
  else if (j.all ∧ (j.scope ≠ 0 ∨ j.op = 3)) ∨ (j.op = 3 ∧ j.scope = 0) then some 4
  else none

/-- Whether a line lies in the first `done` lines of an operation. -/
def State.rngHits (s : State) (j : RangeJob) (done line : Nat) : Bool :=
  j.all || (lineHome line == s.moduleId && decide (j.base ≤ line % 2 ^ 37) && decide (line % 2 ^ 37 < j.base + done))

/-- Writes a dirty line of a tile back and leaves it clean. -/
def State.cleanLine (s : State) (t line : Nat) : State :=
  match SMap.find? (s.tile t).lines line with
  | some x =>
    if x.st = .m then
      let m : Msg := { cls := 3, code := 1, dest := lineHome line, src := lineHome line, agent := 9, txn := 0,
                       line := line, data := x.data, poison := x.poison }
      (s.putLine t line { x with st := .e }).deliver [m]
    else s
  | none => s

/-- One line of a tile under CLEAN, INVAL or CLINV; removals meet transactions as invalidations do (R211). -/
def State.rngLine (s : State) (op t line : Nat) : State :=
  let s1 := if op = 0 then s else s.txConflict t line true none 0x02
  if op = 0 then s1.cleanLine t line
  else if op = 2 then
    let r := s1.evictLine t line
    r.1.deliver r.2
  else
    match SMap.find? (s1.tile t).lines line with
    | some x =>
      let m : Msg := { cls := 4, code := 1, dest := lineHome line, src := s.moduleId, agent := t, txn := 0, line := line }
      if lineHome line = s.moduleId ∨ x.st = .s then s1.dropLine t line else (s1.dropLine t line).deliver [m]
    | none => s1

/-- The part of a DOMAIN operation at the other members: dirty data is recalled or discarded, copies removed. -/
def State.rngRemote (s : State) (op line : Nat) : State :=
  match s.dirEntry line with
  | some e =>
    let own : Msg := { cls := 0, code := 0, dest := s.moduleId, src := s.moduleId, agent := 9, txn := 0, line := line }
    let ks := (List.range 32).filter (fun k => e.sharers.testBit k)
    if op = 0 then
      if e.st = 3 then
        (s.setDir line { e with st := 1 }).deliver [own.forward 0 (s.memberModule e.who) none 0]
      else s
    else
      let code := if e.st = 3 then (if op = 2 then 5 else 4) else 3
      (s.dirNone line).deliver (ks.map (fun k => own.forward code (s.memberModule k) none 0))
  | none => s

/-- Zeroes a range of main memory and clears its poison (ZERO, R211). -/
def State.zeroRange (s : State) (lo hi : Nat) : State :=
  { s with mem := s.mem.filter (fun c => decide (c.1 < 128 * lo) || decide (128 * hi ≤ c.1)),
           poison := s.poison.filter (fun (x : Nat × Bool) => decide (x.1 < lo) || decide (hi ≤ x.1)) }

/-- The lines that an operation finds poisoned. -/
def State.rngPoisoned (s : State) (t : Nat) (j : RangeJob) (done : Nat) : List Nat :=
  let cached := ((s.tile t).lines.filter (fun (x : Nat × TileLine) => x.2.poison && s.rngHits j done x.1)).map (·.1)
  if j.all ∨ j.scope = 0 then cached
  else cached ++ ((s.poison.map (fun (x : Nat × Bool) => s.moduleId * 2 ^ 37 + x.1)).filter
    (fun l => s.rngHits j done l && !cached.contains l))

/-- The effect of a software range operation on the lines it has completed. -/
def State.rngEffect (s : State) (t : Nat) (j : RangeJob) (done : Nat) : State :=
  let tiles := if j.scope = 0 then [t] else List.range 4
  let s1 := tiles.foldl (fun (st : State) k =>
    ((s.tile k).lines.filter (fun (x : Nat × TileLine) => s.rngHits j done x.1)).foldl
      (fun (u : State) (x : Nat × TileLine) => u.rngLine (if j.op = 3 then 1 else j.op) k x.1) st) s
  if j.scope = 0 then s1
  else
    let remote := (s.home.dir.filter (fun (x : Nat × DirEntry) => s.rngHits j done x.1)).map (·.1)
    let s2 := remote.foldl (fun st l => st.rngRemote j.op l) s1
    if j.op = 3 then s2.zeroRange j.base (j.base + done) else s2

/-- A cache is asked to be disabled or to lose ways. -/
def State.flushAsked (s : State) (t c : Nat) : Bool :=
  let old := s.waysUsed c (s.waysInEffect t c)
  s.cacheOn t c && !s.cacheClosing t c &&
  (!s.cacheEnabled t c || (old &&& s.waysUsed c (s.waysAsked t c)) != old)

/-- The flushes and drains that were requested while a software operation ran take their place behind it (R212). -/
def State.queueFlushes (s : State) (t : Nat) : State :=
  (List.range 11).foldl (fun u c => if u.flushAsked t c then u.boundary t c else u) s

/-- RANGE_OPERATION_COMPLETE (R212): the lines are done, RESULT and DONE are set and BUSY falls, unless a flush or drain
follows. `done` counts the lines, or the sets under ALL, completed: all of them unless the operation was aborted. -/
def execRangeOperationComplete (t : Fin 4) (done : BitVec 40) (s : State) : Host.Outcome State Fault Refusal :=
  let b := bL3 t.val
  let n := done.toNat
  match (s.tile t.val).jobs with
  | j :: _ =>
    let ok := j.owner == 1 && (j.all || n == j.lines || (j.abort && decide (n ≤ j.lines))) &&
      !(List.range 11).any (fun c => s.flushAsked t.val c && s.missOut t.val c)
    let bad := if j.op = 3 then [] else s.rngPoisoned t.val j n
    let s1 := bad.foldl (fun st l => st.crumbOpen (l3Page t.val) 0x0600 [BitVec.ofNat 64 (128 * l)])
      (s.rngEffect t.val j n)
    let result := if j.abort then 2 else if bad.isEmpty then 1 else 5
    event "RANGE_OPERATION_COMPLETE" ok s
      ((((s1.setFld b F.RNG_STAT_RESULT result).setFld b F.RNG_STAT_DONE n).queueFlushes t.val).endJob t.val)
  | [] => event "RANGE_OPERATION_COMPLETE" false s s

/-! ## Register writes -/

/-- GO is refused while BUSY = 1 and under MNT_FORM = 1 (R212). -/
def l3Refused (s : State) (t off : Nat) (v : Word) : List Fld :=
  if off = 0x098 ∧ bit v 0 ∧ (s.flag (bL3 t) F.RNG_STAT_BUSY ∨ s.fld (bL3 t) F.L3_CTL_MNT_FORM = 1) then
    [F.RNG_CMD_GO]
  else []

/-- GO starts an operation or records why it does not; ABORT stops the operation in progress. -/
def l3Wrote (t off : Nat) (v : Word) (s : State) : State :=
  if off = 0x098 then
    let s1 :=
      if bit v 0 then
        match s.rngStartFault (s.rngAsked t) with
        | some r => (s.setFld (bL3 t) F.RNG_STAT_RESULT r).setFld (bL3 t) F.RNG_STAT_DONE 0
        | none =>
          (s.setFld (bL3 t) F.RNG_STAT_DONE 0).setJobs t [s.rngAsked t]
      else s
    if bit v 1 then
      s1.setTile t { s1.tile t with jobs := (s1.tile t).jobs.map (fun j => if j.owner = 1 then { j with abort := true } else j) }
    else s1
  else s

/-- A way mask needs two bits (R203). -/
def waysLegal (m : Nat) : Bool := decide (2 ≤ ((List.range 16).filter (fun i => m.testBit i)).length)

/-! ## Errors in the arrays (R205 to R207) -/

/-- A line of a cache is marked poisoned: BLK_ERR.POISON and a Crumb naming the address (R206). -/
def State.poisonLine (s : State) (t c line : Nat) : State :=
  let p := if c < 10 then posPage (10 * t + c) else l3Page t
  let s1 := match SMap.find? (s.tile t).lines line with
    | some x => s.putLine t line { x with poison := true }
    | none => s
  (s1.raiseErr p 8).crumbOpen p 0x0600 [BitVec.ofNat 64 (128 * line)]

/-- The line that stands in a set and way of a cache. -/
def State.lineAtWay (s : State) (t c set way : Nat) : Option Nat :=
  (((s.tile t).lines.filter (fun (x : Nat × TileLine) =>
    x.1 % cacheSets c == set && x.2.places.any (fun p => p.1 == c && p.2 == way))).head?).map (·.1)

/-- An asynchronous Machine Check becomes pending at a logical core. -/
def State.raiseMc (s : State) (n detail : Nat) (addr : Word) : State :=
  let c := s.core n
  s.setCore n { c with mc := c.mc ++ [(detail, addr)] }

/-- TAG_REBUILD_COMPLETE (R207): a dirty tag of an L2, or of the tile's L3, is rebuilt from its shadow tag; with the
shadow tag also uncorrectable the entry is lost and an asynchronous Machine Check with DETAIL 0x4 is raised. -/
def execTagRebuildComplete (p : Fin 40) (l3 rebuilt : Bool) (set : BitVec 16) (way : Fin 16) (s : State) :
    Host.Outcome State Fault Refusal :=
  let t := p.val / 10
  let c := if l3 then 10 else p.val % 10
  let page := if l3 then l3Page t else posPage p.val
  let due := fun (e : Option CheckEvent) => match e with
    | some x => x.source == 7 && x.frozen
    | none => false
  let ok := due (s.pos p.val).event0 || due (s.pos p.val).event1
  let s1 := if l3 then s.count (bL3 t) F.L3_ERRCNT_TAGPE else s.count (bPos p.val) F.CACHE_ERRCNT_TAGPE
  if rebuilt then event "TAG_REBUILD_COMPLETE" ok s s1
  else
    let s2 := match s.lineAtWay t c (set.toNat % cacheSets c) way.val with
      | some l => (s1.txConflict t l false none 0x04).dropLine t l
      | none => s1
    let s3 := s2.crumbOpen page 0x0600 [BitVec.ofNat 64 t, BitVec.ofNat 64 set.toNat, BitVec.ofNat 64 way.val]
    event "TAG_REBUILD_COMPLETE" ok s ((s.coresAt p.val).foldl (fun st n => st.raiseMc n 4 0) s3)

end Sys2Proof.Machine
end

