-- ==== Sys2Proof/Machine/Ucode.lean ====
section
/-!
DEFINITION. The microcode stores and their windows: loading, checking and applying an image (*Microcode
Sequencers, Nano-Store and Patches*, R270 to R273, R281 to R286). The sequencers are in Microcode.lean.
-/

namespace Sys2Proof.Machine

def ucodePage (u : Nat) : Page := ⟨.ucode, u⟩

/-! ## Stores and copies (Table 12.1) -/

/-- A store. -/
def State.store (s : State) (u : Nat) : Ucode := SMap.get {} s.ucode u

/-- Writes a store. -/
def State.setStore (s : State) (u : Nat) (x : Ucode) : State := { s with ucode := SMap.set {} s.ucode u x }

/-- Microwords of a store. -/
def ucWords (u : Nat) : Nat :=
  if u = 0 then 4096 else if u = 1 then 2048 else if u = 2 ∨ u = 3 then 32768 else if u = 6 then 16384 else 8192

/-- Nano-words of a store. -/
def ucNanos (u : Nat) : Nat :=
  if u ≤ 1 then 256 else if u = 2 ∨ u = 3 then 4096 else if u = 6 then 2048 else 1024

/-- The page of the unit that a copy of a store belongs to. -/
def ucUnit (u c : Nat) : Page :=
  if u = 0 then ⟨.position, c / 2⟩ else if u = 1 then ⟨.position, c⟩ else if u = 2 then ⟨.eng, c⟩
  else if u = 3 then ⟨.home, 0⟩ else if u = 4 then ⟨.group, c⟩ else if u = 5 then ⟨.cipher, 0⟩
  else if u = 6 then ⟨.comp, 0⟩ else ⟨.icGlobal, 0⟩

/-- The copies of a store: of the units that are present and, for stores 0 and 1, have not failed (R270, R285). -/
def State.ucCopies (s : State) (u : Nat) : List Nat :=
  let n := if u = 0 then 80 else if u = 1 then 40 else if u = 2 then 2 else if u = 4 then 4 else 1
  (List.range n).filter (fun c => s.present (ucUnit u c) &&
    (if u ≤ 1 then s.role ((ucUnit u c).inst) != 3 else true))

/-- The unit of a copy runs, so that its sequencer does; a position in Nap or deeper does not. -/
def State.ucRuns (s : State) (u c : Nat) : Bool :=
  if u ≤ 1 then s.role (ucUnit u c).inst != 0 && s.role (ucUnit u c).inst != 2 && s.role (ucUnit u c).inst != 3 &&
    decide (s.pstate (ucUnit u c).inst < 2)
  else s.running (ucUnit u c)

/-- The sequencer of a copy. -/
def State.seqOf (s : State) (u c : Nat) : UcodeSeq := SMap.get {} (s.store u).seqs c

/-- Writes the sequencer of a copy. -/
def State.setSeq (s : State) (u c : Nat) (q : UcodeSeq) : State :=
  s.setStore u { s.store u with seqs := SMap.set {} (s.store u).seqs c q }

/-- A sequencer is at rest: µPC = 0 and waiting on that microword (R275). -/
def UcodeSeq.atRest (q : UcodeSeq) : Bool := q.upc == 0 && q.waiting

/-- STATE of a window. -/
def State.ucState (s : State) (u : Nat) : Nat := s.fld (bUcode u) F.UC_STAT_STATE

/-- The image that a copy holds. -/
def State.imageOf (s : State) (u c : Nat) : UcodeImage :=
  if s.ucState u = 3 ∧ (s.store u).switched.contains c then (s.store u).next else (s.store u).image

/-! ## The end of a load (R284, R285) -/

/-- A load ends with a RESULT other than 0x1; every copy keeps its words. -/
def State.ucFails (s : State) (u r : Nat) : State :=
  ((s.setFld (bUcode u) F.UC_STAT_STATE 0).setFld (bUcode u) F.UC_STAT_RESULT r).raiseErr (ucodePage u) 9

/-- Copies still to switch. -/
def State.ucWaiting (s : State) (u : Nat) : List Nat :=
  (s.ucCopies u).filter (fun c => !(s.store u).switched.contains c)

/-- PENDING follows the copies; at 0 the versions, the digest, RESULT and STATE follow, with the Crumb. -/
def State.ucSettle (s : State) (u : Nat) : State :=
  if s.ucState u ≠ 3 then s
  else
    let n := (s.ucWaiting u).length
    let s1 := s.setFld (bUcode u) F.UC_STAT_PENDING n
    if n ≠ 0 then s1
    else
      let x := s1.store u
      let before := s1.reg (bUcode u + 0x060)
      let s2 := s1.setStore u { x with image := x.next, next := {}, switched := [] }
      let s3 := (s2.setReg (bUcode u + 0x060) x.version).setReg (bUcode u + 0x068) x.digest
      let s4 := (s3.setFld (bUcode u) F.UC_STAT_RESULT 1).setFld (bUcode u) F.UC_STAT_STATE 0
      s4.crumb (ucodePage u) 0x0401 1 [BitVec.ofNat 64 u, before, x.version, x.digest]

/-- Writes copies with the new image; each waits at its rest point until the write ends. -/
def State.ucSwitch (s : State) (u : Nat) (cs : List Nat) : State :=
  (s.setStore u { s.store u with switched := (s.store u).switched ++ cs }).ucSettle u

/-- A checked image is applied: the copies whose units do not run are written at once. -/
def State.ucApply (s : State) (u : Nat) (image : UcodeImage) (version digest : Word) : State :=
  let s1 := (s.setStore u { s.store u with next := image, version := version, digest := digest, switched := [] }).setFld
    (bUcode u) F.UC_STAT_STATE 3
  s1.ucSwitch u ((s1.ucCopies u).filter (fun c => !s1.ucRuns u c))

/-! ## The check (R283, R284) -/

/-- A field of an image: `k` bytes at an offset. -/
def imgNat (img : List Byte) (off k : Nat) : Nat := leNat ((img.drop off).take k)

/-- Writes `count` words of `size` bytes from `off` of an image, from index `addr` upward. -/
def putWords (img : List Byte) (off size : Nat) : Nat → Nat → SMap Nat → SMap Nat
  | 0, _, m => m
  | k + 1, addr, m => putWords img (off + size) size k (addr + 1) (SMap.set 0 m addr (imgNat img off size))

/-- Reads `n` records from `off`; none where a record lies outside the store or the records do not end at
`stop`. -/
def putRecords (u : Nat) (img : List Byte) (stop : Nat) : Nat → Nat → UcodeImage → Option UcodeImage
  | 0, off, m => if off = stop then some m else none
  | k + 1, off, m =>
    let head := imgNat img off 8
    let target := head % 4
    let addr := head / 2 ^ 16 % 2 ^ 16
    let count := head / 2 ^ 32
    let size := if target = 0 then 4 else 32
    let room := if target = 0 then ucWords u else ucNanos u
    let next := off + 8 + (count * size + 7) / 8 * 8
    if 1 < target ∨ room < addr + count ∨ stop < next then none
    else
      let m1 := if target = 0 then { m with micro := putWords img (off + 8) size count addr m.micro }
        else { m with nano := putWords img (off + 8) size count addr m.nano }
      putRecords u img stop k next m1

/-- The records of an image, applied over the words of a store. -/
def imageRecords (u : Nat) (img : List Byte) (len : Nat) (old : UcodeImage) : Option UcodeImage :=
  let n := imgNat img 0x10 4
  if len < 264 ∨ len < 8 * n then none else putRecords u img (len - 200) n 0x40 old

/-- The digest of an image: SHA-384 over bytes 0 to LENGTH − 201. -/
def imageDigest (img : List Byte) (len : Nat) : BitVec 384 := Config.sha384 (img.take (len - 200))

/-- The checks of R284 in their order, over `count` received bytes: the RESULT of the first that fails, or the
new words. -/
def imageCheck (u : Nat) (img : List Byte) (count : Nat) (ovf : Bool) (version : Word) (old : UcodeImage) :
    Except Nat UcodeImage :=
  let len := imgNat img 0x14 4
  let kind := imgNat img 0x06 2
  let key := (img.drop (len - 200)).take 97
  if ovf then .error 9
  else if imgNat img 0 4 ≠ 0x4D435556 ∨ 1 < kind ∨ len ≠ count ∨ 262144 < len then .error 2
  else if imgNat img 4 2 ≠ u then .error 3
  else if kind = 1 ∧ imgNat img 8 4 ≠ bits version 0 32 then .error 4
  else if kind = 1 ∧ imgNat img 12 4 ≤ bits version 32 32 then .error 5
  else if Config.sha384 key ≠ Config.keyHash then .error 6
  else if ¬ Config.ecdsaP384Valid key (imageDigest img len) ((img.drop (len - 96)).take 96) then .error 7
  else
    match imageRecords u img len old with
    | some m => .ok m
    | none => .error 8

/-- UCODE_VER after an image. -/
def imageVersion (img : List Byte) : Word :=
  BitVec.ofNat 64 (imgNat img 8 4 + (if imgNat img 6 2 = 1 then imgNat img 12 4 else 0) * 2 ^ 32)

/-- UC_DIGEST after an image: digest bits [383:320]. -/
def leadingDigest (d : BitVec 384) : Word := BitVec.ofNat 64 (d.toNat / 2 ^ 320)

/-- IMAGE_CHECK_COMPLETE (R284): the checks of a COMMIT end. -/
def execImageCheckComplete (u : Fin 8) (s : State) : Host.Outcome State Fault Refusal :=
  let b := bUcode u.val
  let img := s.staging
  event "IMAGE_CHECK_COMPLETE" (s.ucState u.val == 2 && s.mode != 10) s
    (match imageCheck u.val img (s.fld b F.UC_COUNT_BYTES) (s.flag b F.UC_STAT_OVF) (s.reg (b + 0x060))
        (s.store u.val).image with
     | .error r => s.ucFails u.val r
     | .ok m => s.ucApply u.val m (imageVersion img)
         (leadingDigest (imageDigest img (imgNat img 0x14 4))))

/-- The copies that switch with a copy: both of a checked position switch together. -/
def State.ucTogether (s : State) (u c : Nat) : List Nat :=
  if u = 0 ∧ ¬ s.split then [2 * (c / 2), 2 * (c / 2) + 1] else [c]

/-- A copy may switch: its sequencer is at rest and its core is between groups with no check event open, or its
unit does not run. -/
def State.ucCanSwitch (s : State) (u c : Nat) : Bool :=
  !s.ucRuns u c || (s.seqOf u c).stopped ||
  ((s.seqOf u c).atRest &&
   (if u ≤ 1 then
      (s.pos (ucUnit u c).inst).event0.isNone && (s.pos (ucUnit u c).inst).event1.isNone &&
      (s.coresAt (ucUnit u c).inst).all (fun n => (s.core n).group == 0)
    else true))

/-- COPY_SWITCH (R285): a copy that has reached its rest point is written with the new image. -/
def execCopySwitch (u : Fin 8) (copy : Fin 80) (s : State) : Host.Outcome State Fault Refusal :=
  let cs := s.ucTogether u.val copy.val
  event "COPY_SWITCH"
    (s.ucState u.val == 3 && (s.ucWaiting u.val).contains copy.val && cs.all (fun c => s.ucCanSwitch u.val c) &&
     s.mode != 10) s
    (s.ucSwitch u.val (cs.filter (fun c => (s.ucWaiting u.val).contains c)))

/-! ## Register writes (Table 12.8) -/

/-- The commands of UC_CTL and the data writes that Table 12.8 refuses. -/
def ucRefused (s : State) (u off : Nat) (v : Word) : List Fld :=
  let st := s.ucState u
  let open_ := s.flag (bUcode u) F.RUN && (s.mode == 2 || s.mode == 3) && !s.glazed &&
    (List.range 8).all (fun k => s.ucState k == 0)
  if off = 0x040 then
    (if bit v 0 ∧ ¬ open_ then [F.UC_CTL_OPEN] else []) ++
    (if bit v 1 ∧ st ≠ 1 then [F.UC_CTL_COMMIT] else []) ++
    (if bit v 2 ∧ st ≠ 1 then [F.UC_CTL_ABORT] else [])
  else if off = 0x048 ∧ ¬ (st = 1 ∧ s.fld (bUcode u) F.UC_COUNT_BYTES < 262144) then [F.UC_DATA_DATA]
  else []

/-- A UC_DATA write refused at the limit sets OVF. -/
def ucOverflow (s : State) (u off : Nat) : State :=
  if off = 0x048 ∧ s.ucState u = 1 ∧ 262144 ≤ s.fld (bUcode u) F.UC_COUNT_BYTES then
    s.setFlag (bUcode u) F.UC_STAT_OVF true
  else s

/-- A load is aborted with RESULT 0xA. -/
def State.ucAbort (s : State) (u : Nat) : State :=
  (s.setFld (bUcode u) F.UC_STAT_RESULT 0xA).setFld (bUcode u) F.UC_STAT_STATE 0

/-- The effects of the accepted commands of UC_CTL and of UC_DATA. -/
def ucWrote (u off : Nat) (v : Word) (s : State) : State :=
  let b := bUcode u
  if off = 0x040 then
    let s1 := if bit v 0 then
        { (((s.setFld b F.UC_COUNT_BYTES 0).setFlag b F.UC_STAT_OVF false).setFld b F.UC_STAT_RESULT 0).setFld b
          F.UC_STAT_STATE 1 with staging := [] }
      else s
    let s2 := if bit v 1 then s1.setFld b F.UC_STAT_STATE 2 else s1
    if bit v 2 ∧ s2.ucState u = 1 then s2.ucAbort u else s2
  else if off = 0x048 then
    { s with staging := s.staging ++ leBytes 8 v.toNat }.setFld b F.UC_COUNT_BYTES (s.fld b F.UC_COUNT_BYTES + 8)
  else s

/-- Clearing RUN while receiving aborts the load (R281). -/
def ucStop (u : Nat) (s : State) : State := if s.ucState u = 1 then s.ucAbort u else s

end Sys2Proof.Machine
end

