-- ==== Sys2Proof/Machine/Sparing.lean ====
section
/-!
DEFINITION. Checked cores, instruction retry, core sparing and debug halts (*Checked Cores, Instruction Retry and
Core Sparing*, R9 to R13, R246 to R269, R528).
-/

namespace Sys2Proof.Machine

/-! ## Roles and the capability words (R11, R12, R24, R528) -/

/-- Whether a pipeline of a position is in the spare pool. -/
def State.inPool (s : State) (p pipe : Nat) : Bool := if pipe = 0 then (s.pos p).pool0 else (s.pos p).pool1

/-- Puts a pipeline of a position into the pool or takes it out. -/
def State.setPool (s : State) (p pipe : Nat) (v : Bool) : State :=
  let x := s.pos p
  s.setPos p (if pipe = 0 then { x with pool0 := v } else { x with pool1 := v })

/-- The logical core that a pipeline of a position hosts. -/
def State.coreOn (s : State) (p pipe : Nat) : Option Nat :=
  (List.range 64).find? (fun n => s.coreValid n && s.posOf n == p && s.pipeOf n == pipe)

/-- A mask of positions. -/
def positionMask (f : Nat → Bool) : Nat :=
  (List.range 40).foldl (fun m p => if f p then m + 2 ^ p else m) 0

/-- PIPE_FAILED of a pipeline. -/
def State.pipeFailed (s : State) (p pipe : Nat) : Bool := (s.fld (bPos p) F.CORE_STAT_PIPE_FAILED).testBit pipe

/-- Marks a pipeline of a position out of use. -/
def State.failPipe (s : State) (p pipe : Nat) : State :=
  s.setFld (bPos p) F.CORE_STAT_PIPE_FAILED (s.fld (bPos p) F.CORE_STAT_PIPE_FAILED ||| 2 ^ pipe)

/-- The capability words of the core positions follow the roles (R12, R24, Table 1.6). -/
def State.capWords (s : State) : State :=
  let active := positionMask (fun p => !(s.coresAt p).isEmpty)
  let spare := positionMask (fun p => (s.pos p).pool0 || (s.pos p).pool1)
  let failed := positionMask (fun p =>
    if s.split then (s.pos p).failed || s.fld (bPos p) F.CORE_STAT_PIPE_FAILED != 0 else (s.pos p).failed)
  let spares := ((List.range 40).map (fun p =>
    if s.split then b2n (s.pos p).pool0 + b2n (s.pos p).pool1 else b2n (s.pos p).pool0)).sum
  let unchecked := (List.range 40).any (fun p => s.flag (bPos p) F.CORE_STAT_UNCHECKED)
  let s1 := ((s.setFld bIdent F.CAP_POSN_ACTIVE_MASK active).setFld bIdent F.CAP_POSN_SPARE_MASK spare).setFld bIdent
    F.CAP_POSN_FAILED_MASK failed
  (((s1.setFld bIdent F.CAP_CORES_LCORES ((List.range 64).filter (fun n => s.coreValid n)).length).setFld bIdent
    F.CAP_CORES_SPARES spares).setFlag bIdent F.CAP_CORES_SPLIT s.split).setFlag bIdent F.CAP_CORES_UNCHECKED unchecked

/-- ROLE of a position in split mode (Table 11.9). -/
def State.splitRole (s : State) (p : Nat) : Nat :=
  let moving := s.sparings.find? (fun x => x.spare.isSome && x.position == p)
  let loading := s.sparings.find? (fun x => (x.spare.map (·.1)) == some p)
  let runs := (s.coresAt p).any (fun n => !s.sparings.any (fun x => x.core == n))
  if runs then 1
  else if moving.isSome then 4
  else if loading.isSome then 5
  else if ¬ (s.coresAt p).isEmpty then 1
  else if (s.pos p).pool0 ∨ (s.pos p).pool1 then 2
  else 3

/-- Writes ROLE: the value given in checked mode, that of Table 11.9 in split mode. The copies of a position that
has failed are no longer counted in a PENDING (R285). -/
def State.setRole (s : State) (p r : Nat) : State :=
  ((s.setFld (bPos p) F.CORE_STAT_ROLE (if s.split then s.splitRole p else r)).ucSettle 0).ucSettle 1

/-! ## Check events (R251 to R256) -/

/-- The event of a pipeline; a checked core's is that of pipeline 0. -/
def State.checkEvent (s : State) (p pipe : Nat) : Option CheckEvent :=
  if pipe = 0 then (s.pos p).event0 else (s.pos p).event1

/-- Writes the event of a pipeline; RETRYING is 1 while an event is open. -/
def State.setCheckEvent (s : State) (p pipe : Nat) (e : Option CheckEvent) : State :=
  let x := if pipe = 0 then { s.pos p with event0 := e } else { s.pos p with event1 := e }
  (s.setPos p x).setFlag (bPos p) F.CORE_STAT_RETRYING (x.event0.isSome || x.event1.isSome)

/-- CHK_LAST with an event's present figures. -/
def State.noteEvent (s : State) (p outcome : Nat) (e : CheckEvent) : State :=
  let b := bPos p
  let s1 := ((s.setFld b F.CHK_LAST_SOURCE e.source).setFld b F.CHK_LAST_SELFPIPE
    (b2n e.selfLead + 2 * b2n e.selfTrail)).setFld b F.CHK_LAST_RETRIES e.retries
  ((s1.setFld b F.CHK_LAST_OUTCOME outcome).setFlag b F.CHK_LAST_INJECTED e.injected).setFld b F.CORE_STAT_RETRIES
    e.retries

/-- CHK_LAST of a position. -/
def State.chkLast (s : State) (p : Nat) : Word := s.reg (bPos p + 0x058)

/-- A logical core returns to its Wafer (R250, R252): uncommitted work and stores are discarded. -/
def LCore.rolledBack (c : LCore) : LCore :=
  let a := c.wafer.restored c.arch
  { c with arch := a, wafer := a, fresh := [], group := 0, stepPending := c.stepPending && c.group == 0,
           replay := c.replay.filter (fun r => r.kind != 6) }

/-- Commit is blocked and the core rolls back; an open transaction aborts with code 0x0A (R192). -/
def State.rollBack (s : State) (n : Nat) : State :=
  let s1 := s.txAbort n 0x0A
  s1.setCore n (s1.core n).rolledBack

/-- A position as a Crumb names it, with the pipeline in bit 8. -/
def posWord (p pipe : Nat) : Word := BitVec.ofNat 64 (p + 256 * pipe)

/-- The zone of a logical core, where its CORE_ZONE entry is valid. -/
def State.coreZone (s : State) (n : Nat) : Option Nat :=
  if bit (s.reg (ztCoreZone + 8 * n)) 8 then some (s.zoneOf n) else none

/-- An event ends after a retry (R254, R255). -/
def State.endEvent (s : State) (p pipe n : Nat) (e : CheckEvent) : State :=
  let benign := e.source == 1 && e.retries == 1 && !e.selfLead && !e.selfTrail
  let s1 := (s.setCheckEvent p pipe none).noteEvent p 1 e
  let words := [BitVec.ofNat 64 n, s1.chkLast p, s1.reg (bPos p + 0x060)]
  if benign then
    let s2 := s1.count (bPos p) F.CHK_CNT_BENIGN
    if s.flag (bPos p) F.POS_CTL_BENIGN_CRUMB then s2.crumb (posPage p) 0x0701 2 words (s.coreZone n) e.injected else s2
  else s1.crumb (posPage p) (0x0700 + e.source) 3 words (s.coreZone n) e.injected

/-! ## The outcome when no spare is left (R13, R264) -/

/-- Closes the event that led to an outcome. -/
def State.closeEvent (s : State) (p pipe outcome : Nat) : State :=
  match s.checkEvent p pipe with
  | some e => (s.setCheckEvent p pipe none).noteEvent p outcome e
  | none => s

/-- An event was injected. -/
def State.eventInjected (s : State) (p pipe : Nat) : Bool :=
  match s.checkEvent p pipe with
  | some e => e.injected
  | none => false

/-- A logical core is stopped (R13): it stays stopped until the next cold reset. -/
def State.stopCore (s : State) (p pipe n : Nat) : State :=
  let pc := (s.core n).wafer.pc
  let inj := s.eventInjected p pipe
  let s0 := s.setReg (bEse + F.DBG_STAT_HALTED.off) (putBit (s.reg (bEse + F.DBG_STAT_HALTED.off)) n false)
  let s1 := (s0.setCore n { s.core n with stopped := true, halted := false, haltDue := false }).closeEvent p pipe 3
  let s2 := s1.setFlag (bIdent + 8 * n) F.LCORE_MAP_VALID false
  let s3 := if s.split then s2.failPipe p pipe else s2.setPos p { s2.pos p with failed := true }
  let s4 := ((s3.setRole p 3).capWords).raiseErr (posPage p) 11
  let s5 := if s.split then s4 else s4.movePosition p 4
  let s6 := s5.crumb (posPage p) 0x0901 4 [BitVec.ofNat 64 n, posWord p pipe, pc, s5.chkLast p] (s.coreZone n) inj
  (s6.coreEvent n 2).refreshMode

/-- The core runs on with one pipeline (Table 11.6). -/
def State.goUnchecked (s : State) (p n survivor : Nat) : State :=
  let inj := s.eventInjected p 0
  let s1 := (((s.closeEvent p 0 4).failPipe p (1 - survivor)).setFlag (bPos p) F.CORE_STAT_UNCHECKED true).capWords
  let s2 := s1.raiseErr (posPage p) 14
  let s3 := s2.crumb (posPage p) 0x0902 4
    [BitVec.ofNat 64 n, BitVec.ofNat 64 p, BitVec.ofNat 64 survivor, s2.chkLast p] (s.coreZone n) inj
  (s3.coreEvent n 4).refreshMode

/-- Another position works with both pipelines, or in split mode another pipeline works (R13, R264). -/
def State.otherWorks (s : State) (p pipe : Nat) : Bool :=
  (List.range 40).any (fun q => (List.range 2).any (fun k =>
    (s.coreOn q k).isSome && !s.pipeFailed q k &&
    (if s.split then !(q == p && k == pipe)
     else q != p && s.fld (bPos q) F.CORE_STAT_PIPE_FAILED == 0)))

/-- What happens when sparing is decided and no spare is found (Table 11.6, Table 1.5). -/
def State.noSpare (s : State) (p pipe n : Nat) (checker : Bool) : State :=
  let place := [BitVec.ofNat 64 p, BitVec.ofNat 64 n]
  if s.otherWorks p pipe then s.stopCore p pipe n
  else if s.split then (s.closeEvent p pipe 5).checkStop 6 place
  else
    let lead := (s.checkEvent p 0).any (fun e => e.selfLead)
    let trail := (s.checkEvent p 0).any (fun e => e.selfTrail)
    if s.flag bEse F.BOOT_OPT_ALLOW_UNCHECKED ∧ ¬ checker ∧ lead ≠ trail then
      s.goUnchecked p n (if lead then 1 else 0)
    else (s.closeEvent p 0 5).checkStop 4 place

/-! ## Sparing (R257 to R263) -/

/-- The spare pipelines or positions of a tile. -/
def State.poolOf (s : State) (t : Nat) : List (Nat × Nat) :=
  (List.range 10).flatMap (fun i =>
    let p := 10 * t + i
    if s.split then (List.range 2).filterMap (fun k => if s.inPool p k then some (p, k) else none)
    else if (s.pos p).pool0 then [(p, 0)] else [])

/-- The spare that a tile gives: the lowest position; in split mode first one whose other pipeline is not free. -/
def State.tileSpare (s : State) (t : Nat) : Option (Nat × Nat) :=
  let l := s.poolOf t
  if s.split then
    match l.find? (fun x => !s.inPool x.1 (1 - x.2)) with
    | some x => some x
    | none => l.head?
  else l.head?

/-- The choice of a spare (R11, R12): the failed core's own tile, else the tile with the most spares. -/
def State.chooseSpare (s : State) (p : Nat) : Option (Nat × Nat) :=
  match s.tileSpare (p / 10) with
  | some x => some x
  | none =>
    match (List.range 4).foldl (fun (b : Option (Nat × Nat)) t =>
        let k := (s.poolOf t).length
        match b with
        | some (_, m) => if m < k then some (t, k) else b
        | none => if k = 0 then none else some (t, k)) none with
    | some (t, _) => s.tileSpare t
    | none => none

/-- Step 1 and the announcement of step 2 of Table 11.5 for the first sparing that waits; where no spare is left,
the outcome of Table 11.6. `fuel` bounds how many sparings can be served at once. -/
def State.serveSparing : Nat → State → State
  | 0, s => s
  | k + 1, s =>
    match s.sparings with
    | [] => s
    | x :: rest =>
      if x.spare.isSome then s
      else
        match s.chooseSpare x.position with
        | none =>
          State.serveSparing k ({ s with sparings := rest }.noSpare x.position x.pipe x.core x.checker)
        | some (q, j) =>
          let s1 := { s with sparings := { x with spare := some (q, j) } :: rest }
          let s2 := if s.split then s1.setPool q j false else (s1.setPool q 0 false).setPool q 1 false
          let s3 := s2.setRole x.position 4
          let put := fun (u : State) => u.setRole q 5
          let s4 := State.makeRoom (q / 10) put 4 s3
          let s5 := (put s4).announce (q / 10) (divFigures (s4.divider (q / 10))).1 12 true
          s5.recoveryBegins (.sparing x.position)

/-- Sparing is decided for a pipeline of a position (R257): its core stops issue and the event waits its turn. -/
def State.decideSparing (s : State) (p pipe n : Nat) (checker : Bool) : State :=
  let x : Sparing := { position := p, pipe := pipe, core := n, since := s.timebase, checker := checker, spare := none,
                       woken := false, drained := false, moved := false }
  State.serveSparing 64 { s.rollBack n with sparings := s.sparings ++ [x] }

/-- The sparing in progress. -/
def State.sparing (s : State) : Option Sparing :=
  match s.sparings with
  | x :: _ => if x.spare.isSome then some x else none
  | [] => none

/-- Replaces the sparing in progress. -/
def State.setSparing (s : State) (x : Sparing) : State := { s with sparings := x :: s.sparings.tail }

/-- A logical core is being spared. -/
def State.beingSpared (s : State) (n : Nat) : Bool := s.sparings.any (fun x => x.core == n)

/-- One line of a failed position's L2 moves to the spare's L2 in its state (R233, R260). -/
def State.moveLine (s : State) (p q line : Nat) : State :=
  let t := p / 10
  let u := q / 10
  match SMap.find? (s.tile t).lines line with
  | none => s
  | some x =>
    let rest := x.places.filter (fun y => y.1 != p % 10)
    let r :=
      if t = u then (s.putLine t line { x with places := rest }).placeIn u (q % 10) 0 line
      else
        let keep := !rest.isEmpty && decide (x.st.rank ≤ 2)
        let s1 := if keep then s.putLine t line { x with places := rest } else s.dropLine t line
        match SMap.find? (s1.tile u).lines line with
        | some _ => s1.placeIn u (q % 10) 0 line
        | none => (s1.putLine u line { x with st := if keep then .s else x.st, places := [] }).placeIn u (q % 10) 0 line
    r.1.deliver r.2

/-- The line move (R260). A spare whose L2 is off holds no lines: they go on to the next level instead. -/
def State.moveLines (s : State) (p q : Nat) : State :=
  let ls := s.linesIn (p / 10) (p % 10) 0xFFFF
  if s.cacheOn (q / 10) (q % 10) then ls.foldl (fun st l => st.moveLine p q l) s
  else s.emptyWays (p / 10) (p % 10) 0xFFFF

/-- Step 5 of Table 11.5: the Wafer and what goes with it are loaded, the map and the capability words follow, the
failed position is powered down. -/
def State.transfer (s : State) (x : Sparing) (q j : Nat) : State :=
  let n := x.core
  let s1 := s.setCore n { (s.core n).rolledBack with tlb := [] }
  let s2 := ((s1.setFld (bIdent + 8 * n) F.LCORE_MAP_POSITION q).setFld (bIdent + 8 * n) F.LCORE_MAP_PIPE j)
  let s3 := s2.setSparing { x with moved := true }
  if s.split then ((((s3.failPipe x.position x.pipe).setRole x.position 3).setRole q 1).closeEvent x.position x.pipe 2).capWords
  else
    let s4 := ((s3.setPos x.position { s3.pos x.position with failed := true }).setRole q 1).setRole x.position 3
    let s5 := match s.checkEvent x.position 0 with
      | some e => (if e.selfLead then s4.failPipe x.position 0 else s4)
      | none => s4
    let s6 := match s.checkEvent x.position 0 with
      | some e => (if e.selfTrail then s5.failPipe x.position 1 else s5)
      | none => s5
    let s7 := (s6.closeEvent x.position 0 2).setFlag (bPos x.position) F.CACHE_STAT_L2_ON false
    let s8 := (s7.setFlag (bPos x.position) F.CACHE_STAT_L1I_ON false).setFlag (bPos x.position) F.CACHE_STAT_L1D_ON false
    (s8.movePosition x.position 4).capWords

/-- The transfer follows once every earlier step has ended; in split mode there is no line move (R265). -/
def State.stepSparing (s : State) (x : Sparing) : State :=
  match x.spare with
  | some (q, j) => if s.split ∧ x.woken ∧ x.drained then (s.setSparing x).transfer x q j else s.setSparing x
  | none => s

/-- The wake of step 2: a spare leaves Nap; its Doze bit is clear. -/
def State.wakeSpare (s : State) (q j : Nat) : State :=
  let s1 := s.setFld (bTilePwr (q / 10)) (pstateFld (q % 10)) 0
  if s.split then s1.setFlag (bTilePwr (q / 10)) (pipeDozeFld (q % 10) j) false else s1

/-- SPARE_WAKE_COMPLETE (R258, step 2). -/
def execSpareWakeComplete (s : State) : Host.Outcome State Fault Refusal :=
  match s.sparing with
  | some x =>
    match x.spare with
    | some (q, j) =>
      event "SPARE_WAKE_COMPLETE" (!x.woken && s.mode != 10) s ((s.wakeSpare q j).stepSparing { x with woken := true })
    | none => event "SPARE_WAKE_COMPLETE" false s s
  | none => event "SPARE_WAKE_COMPLETE" false s s

/-- No store of a logical core waits in a tile's ordering queue. -/
def State.noneOrdered (s : State) (n : Nat) : Bool :=
  (List.range 4).all (fun t => !(s.tile t).ordering.any (fun x => x.1 == n))

/-- STORE_BUFFER_DRAIN_COMPLETE (R259, step 3): every committed store has been performed or dropped, and a load that
was issued has its response. -/
def execStoreBufferDrainComplete (s : State) : Host.Outcome State Fault Refusal :=
  match s.sparing with
  | some x =>
    let c := s.core x.core
    event "STORE_BUFFER_DRAIN_COMPLETE"
      (!x.drained && c.stores.isEmpty && s.noneOrdered x.core && c.devLoad.isNone && s.mode != 10) s
      (s.stepSparing { x with drained := true })
  | none => event "STORE_BUFFER_DRAIN_COMPLETE" false s s

/-- LINE_MOVE_COMPLETE (R260, step 4): every valid line has been copied; the transfer of step 5 follows. -/
def execLineMoveComplete (s : State) : Host.Outcome State Fault Refusal :=
  match s.sparing with
  | some x =>
    match x.spare with
    | some (q, j) =>
      event "LINE_MOVE_COMPLETE" (!s.split && x.woken && x.drained && !x.moved && s.mode != 10) s
        ((s.moveLines x.position q).transfer x q j)
    | none => event "LINE_MOVE_COMPLETE" false s s
  | none => event "LINE_MOVE_COMPLETE" false s s

/-- SPARE_INFO of a position. -/
def State.spareInfo (s : State) (p partner pipe duration : Nat) : State :=
  let b := bPos p
  let s1 := ((s.setFld b F.SPARE_INFO_PARTNER partner).setFlag b F.SPARE_INFO_VALID true).setFlag b
    F.SPARE_INFO_CROSS_TILE (p / 10 != partner / 10)
  (s1.setFld b F.SPARE_INFO_PIPE pipe).setFld b F.SPARE_INFO_DURATION duration

/-- A debug halt that waited for the spare takes effect at its first boundary (R475). -/
def State.park (s : State) (n : Nat) : State :=
  let p := s.posOf n
  let s1 := s.txAbort n 0x0D
  let c := s1.core n
  let s2 := s1.setCore n { c with wafer := c.arch, stores := c.stores ++ c.fresh, fresh := [], group := 0,
                                  halted := true, haltDue := false, stepGrant := false }
  let s3 := s2.setReg (bEse + F.DBG_STAT_HALTED.off) (putBit (s2.reg (bEse + F.DBG_STAT_HALTED.off)) n true)
  let s4 := if s.split then s3 else (s3.setFlag (bPos p) F.CORE_STAT_LOCKSTEP_LOST true).raiseErr (posPage p) 13
  ((s4.crumbOpen (posPage p) 0x0F00 [BitVec.ofNat 64 n] (s.coreZone n)).setFlag bEse F.SVC_ALERT_HALT true).refreshMode

/-- SPARE_RESTART (R262, step 6): the core runs on the spare; SPARE_INFO, BLK_ERR.SPARED, the Crumb and the
core-event source follow in this order, and the next sparing is served. -/
def execSpareRestart (s : State) : Host.Outcome State Fault Refusal :=
  match s.sparing with
  | some x =>
    match x.spare with
    | some (q, j) =>
      let p := x.position
      let d := (s.timebase - x.since).toNat
      let dur := if d < 2 ^ 16 then d else 2 ^ 16 - 1
      let s1 := { s with sparings := s.sparings.tail }
      let s2 := if s.split then (s1.setRole p 3).setRole q 1 else s1
      let s3 := ((s2.spareInfo p q (if s.split then j else 0) dur).spareInfo q p (if s.split then x.pipe else 0) dur).raiseErr
        (posPage p) 10
      let s4 := s3.crumb (posPage p) 0x0801 3 [BitVec.ofNat 64 x.core, posWord p x.pipe, posWord q j, s3.chkLast p,
        BitVec.ofNat 64 dur] (s.coreZone x.core) (s3.flag (bPos p) F.CHK_LAST_INJECTED)
      let s5 := (s4.coreEvent x.core 1).recoveryEnds (.sparing p)
      let s6 := if (s5.core x.core).haltDue then s5.park x.core else s5
      event "SPARE_RESTART" (x.moved && s.mode != 10) s (State.serveSparing 64 s6)
    | none => event "SPARE_RESTART" false s s
  | none => event "SPARE_RESTART" false s s

/-! ## Check firings (R251, R254, R256) -/

/-- What one firing counts: checker faults, delay registers, and once per event its self-checks. -/
def State.countFiring (s : State) (p code : Nat) (firstSelf : Bool) : State :=
  let s1 := if code = 2 then s.count (bPos p) F.CHK_CNT_CHECKER
    else if code = 3 ∨ code = 8 then s.count (bPos p) F.CHK_CNT_DELAY_PE else s
  if firstSelf then s1.count (bPos p) F.CHK_CNT_SELF else s1

/-- A check fires (R254, R256, R264): it opens an event, or is a failed retry of the open one. -/
def State.checkFires (s : State) (p pipe n code : Nat) (selfPipe : Option Nat) (injected : Bool) : State :=
  let s0 := match s.checkEvent p pipe with
    | some e => if 256 ≤ e.clean then s.endEvent p pipe n e else s
    | none => s
  let lead := selfPipe == some 0
  let trail := selfPipe == some 1
  let pc := (s0.rollBack n).core n |>.arch.pc
  match s0.checkEvent p pipe with
  | none =>
    let e : CheckEvent := { source := code, selfLead := lead, selfTrail := trail, retries := 1, clean := 0,
                            frozen := true, injected := injected, lost := false }
    let s1 := ((s0.rollBack n).countFiring p code (lead || trail)).count (bPos p) F.CHK_CNT_RETRY
    let s2 := ((s1.setCheckEvent p pipe (some e)).noteEvent p 6 e).setFld (bPos p) F.CHK_LAST_TIME s.timebase.toNat
    s2.setFld (bPos p) F.CHK_LAST_PC_PC pc.toNat
  | some e =>
    let e1 := { e with selfLead := e.selfLead || lead, selfTrail := e.selfTrail || trail }
    let s1 := (s0.rollBack n).countFiring p code ((lead || trail) && !e.selfLead && !e.selfTrail)
    if s0.flag (bPos p) F.CORE_STAT_UNCHECKED ∧ e.retries = 2 then
      let s2 := (s1.setCheckEvent p pipe none).noteEvent p 5 e1
      s2.checkStop 5 [BitVec.ofNat 64 p, BitVec.ofNat 64 n]
    else if code = 2 ∨ e.retries = 2 then
      let s2 := (s1.setCheckEvent p pipe (some { e1 with frozen := true })).noteEvent p 6 e1
      (if code = 2 then s2.raiseErr (posPage p) 12 else s2).decideSparing p pipe n (code == 2)
    else
      let e2 := { e1 with retries := 2, clean := 0, frozen := true }
      (s1.setCheckEvent p pipe (some e2)).noteEvent p 6 e2

/-- A logical core issues instructions: it is started and not held, stopped, in sparing or in a retry. -/
def State.coreIssues (s : State) (n : Nat) : Bool :=
  let c := s.core n
  let pipe := if s.split then s.pipeOf n else 0
  s.coreValid n && c.started && !c.held && !c.stopped && !s.beingSpared n &&
  !(s.checkEvent (s.posOf n) pipe).any (fun e => e.frozen) &&
  decide (3 ≤ s.mode) && decide (s.mode ≤ 9)

/-- Whether a check of a code can fire at a core, with the pipeline of a self-check (Table 11.3, R265, R266). -/
def State.canFire (s : State) (p n code : Nat) (selfPipe : Option Nat) : Bool :=
  let own := code == 4 || code == 5 || code == 6
  s.coreIssues n && decide (1 ≤ code) && decide (code ≤ 8) && own == selfPipe.isSome &&
  (if s.split then (own && selfPipe == some (s.pipeOf n)) || code == 7
   else if s.flag (bPos p) F.CORE_STAT_LOCKSTEP_LOST then (own && selfPipe == some 0) || code == 7
   else if s.flag (bPos p) F.CORE_STAT_UNCHECKED then
     (own && selfPipe.any (fun k => !s.pipeFailed p k)) || code == 7
   else true)

/-- CHECK_FIRING (R251): a check of a code fires at a logical core; `selfPipe` is the pipeline of a self-check. -/
def execCheckFiring (n : Fin 64) (code : BitVec 4) (selfPipe : Option (Fin 2)) (s : State) :
    Host.Outcome State Fault Refusal :=
  let p := s.posOf n.val
  event "CHECK_FIRING" (s.canFire p n.val code.toNat (selfPipe.map (·.val))) s
    (s.checkFires p (if s.split then s.pipeOf n.val else 0) n.val code.toNat (selfPipe.map (·.val)) false)

/-- TRAILING_RECORD_TIMEOUT (R251): a trailing record more than 8 core cycles late, code 0x8. -/
def execTrailingRecordTimeout (n : Fin 64) (s : State) : Host.Outcome State Fault Refusal :=
  let p := s.posOf n.val
  event "TRAILING_RECORD_TIMEOUT" (s.canFire p n.val 8 none) s (s.checkFires p 0 n.val 8 none false)

/-- CHK_INJECT_ARM (R269): the armed injection fires at the next commit of a core of the position. -/
def execChkInjectArm (n : Fin 64) (s : State) : Host.Outcome State Fault Refusal :=
  let p := s.posOf n.val
  let b := bPos p
  let code := s.fld b F.CHK_INJECT_SOURCE
  let pipes := s.fld b F.CHK_INJECT_PIPE
  let wanted := if s.split then s.pipeOf n.val else if pipes.testBit 0 then 0 else 1
  let selfPipe := if 4 ≤ code ∧ pipes.testBit wanted then some wanted else none
  let pipe := if s.split then s.pipeOf n.val else 0
  let s1 := if s.flag b F.CHK_INJECT_PERSIST then s else s.setFlag b F.CHK_INJECT_ARM false
  let s2 := s1.checkFires p pipe n.val code selfPipe true
  let both := !s.split && decide (4 ≤ code) && pipes == 3
  let s3 := if both then
      match s2.checkEvent p 0 with
      | some e => (s2.setCheckEvent p 0 (some { e with selfTrail := true })).noteEvent p 6 { e with selfTrail := true }
      | none => s2
    else s2
  event "CHK_INJECT_ARM" (s.flag b F.CHK_INJECT_ARM && s.canFire p n.val code selfPipe) s s3

/-- RETRY_RESTART (R252): the Wafer is restored and the core restarts, or the Wafer is lost and the core stops. -/
def execRetryRestart (n : Fin 64) (lost : Bool) (s : State) : Host.Outcome State Fault Refusal :=
  let p := s.posOf n.val
  let pipe := if s.split then s.pipeOf n.val else 0
  match s.checkEvent p pipe with
  | some e =>
    event "RETRY_RESTART" (e.frozen && s.coreValid n.val && !s.beingSpared n.val && s.mode != 10) s
      (if lost then s.stopCore p pipe n.val
       else
         let s1 := (s.setCore n.val (s.core n.val).rolledBack).setCheckEvent p pipe
           (some { e with frozen := false, clean := 0 })
         if (s.core n.val).haltDue then s1.park n.val else s1)
  | none => event "RETRY_RESTART" false s s

/-- CHECK_EVENT_END (R254): 256 groups have committed after the restart. -/
def execCheckEventEnd (n : Fin 64) (s : State) : Host.Outcome State Fault Refusal :=
  let p := s.posOf n.val
  let pipe := if s.split then s.pipeOf n.val else 0
  match s.checkEvent p pipe with
  | some e => event "CHECK_EVENT_END" (decide (256 ≤ e.clean) && s.coreValid n.val) s (s.endEvent p pipe n.val e)
  | none => event "CHECK_EVENT_END" false s s

/-- A group commits: the Wafer is taken, its stores enter the store buffer (R247), and an open event counts it. -/
def State.commitGroup (s : State) (n : Nat) : State :=
  let c := s.core n
  if c.group = 0 then s
  else
    let p := s.posOf n
    let pipe := if s.split then s.pipeOf n else 0
    let s1 := s.setCore n { c with wafer := c.arch, stores := c.stores ++ c.fresh, fresh := [], replay := [], group := 0 }
    match s.checkEvent p pipe with
    | some e => if e.clean < 256 then s1.setCheckEvent p pipe (some { e with clean := e.clean + 1 }) else s1
    | none => s1

/-! ## Failed ways (R208) -/

/-- WAY_FAIL (R208): the ESE takes out a way of a cache; an L2 left with fewer than two usable ways spares its
position, an L3 is disabled. -/
def execWayFail (t : Fin 4) (c : Fin 11) (way : Fin 16) (s : State) : Host.Outcome State Fault Refusal :=
  let p := 10 * t.val + c.val
  let page := if c.val < 10 then posPage p else l3Page t.val
  let bad := s.waysFailed t.val c.val
  let s1 := if c.val < 10 then s.setFld (bPos p) F.CACHE_STAT_WAY_FAIL (bad ||| 2 ^ way.val)
    else s.setFld (bL3 t.val) F.L3_STAT_WAY_FAIL (bad ||| 2 ^ way.val)
  let on := s.cacheOn t.val c.val
  let enough := s1.waysLeft t.val c.val
  let s2 := if ¬ on then s1
    else if c.val = 10 ∧ ¬ enough then s1.addJob t.val { owner := 2, cache := 10, ways := 0xFFFF, abort := false }
    else s1.addJob t.val { owner := 3, cache := c.val, ways := 2 ^ way.val, abort := false }
  let s3 := (s2.raiseErr page 9).crumbOpen page 0x0500 [BitVec.ofNat 64 t.val, BitVec.ofNat 64 c.val, BitVec.ofNat 64 way.val]
  event "WAY_FAIL" (!bad.testBit way.val && s.uncoreUp && s.mode != 9) s
    (if c.val < 10 ∧ ¬ enough then
       (s.coresAt p).foldl (fun st n =>
         if st.beingSpared n then st else st.decideSparing p (if s.split then s.pipeOf n else 0) n false) s3
     else s3)

/-! ## Register writes -/

/-- SPARE_NOW is refused unless ROLE = 1, the mode is 4, 5 or 6 and a spare exists (Table 11.8). -/
def posRefused (s : State) (p off : Nat) (v : Word) : List Fld :=
  if off = 0x040 ∧ bit v 0 ∧ ¬ (s.role p = 1 ∧ s.inService ∧ (s.chooseSpare p).isSome) then [F.POS_CTL_SPARE_NOW] else []

/-- SPARE_NOW spares every logical core that the position hosts, the leading one first (R257, R265). -/
def posWrote (p off : Nat) (v : Word) (s : State) : State :=
  if off = 0x040 ∧ bit v 0 then
    (List.range 2).foldl (fun st k =>
      match s.coreOn p k with
      | some n => if st.beingSpared n then st else st.decideSparing p k n false
      | none => st) s
  else s

/-! ## Debug (R266, R475) -/

/-- A debug halt: at once, or at the first boundary on the spare or after a retry. -/
def State.debugHalt (s : State) (n : Nat) : State :=
  let c := s.core n
  if ¬ s.coreValid n ∨ c.halted then s
  else if s.coreIssues n then s.park n
  else s.setCore n { c with haltDue := true }

/-- A halted core resumes: the trailing pipeline is reloaded from the leading Wafer and checking resumes. -/
def State.debugResume (s : State) (n : Nat) : State :=
  let c := s.core n
  let p := s.posOf n
  if ¬ c.halted then s
  else
    let s1 := (s.setCore n { c with halted := false, stepGrant := false }).setReg (bEse + F.DBG_STAT_HALTED.off)
      (putBit (s.reg (bEse + F.DBG_STAT_HALTED.off)) n false)
    let s2 := if s.flag (bPos p) F.CORE_STAT_LOCKSTEP_LOST then
        (s1.setFlag (bPos p) F.CORE_STAT_LOCKSTEP_LOST false).crumbOpen (posPage p) 0x0F00 [BitVec.ofNat 64 n]
          (s.coreZone n)
      else s1
    s2.refreshMode

end Sys2Proof.Machine
end

