-- ==== Sys2Proof/Machine/Dma.lean ====
section
/-!
DEFINITION. Accesses that blocks of the I/O die make: coherent reads and writes of memory by physical address,
the walk of translation tables, I/O translation and DMA on a zone's behalf (R157, R158, R167, R527).
-/

namespace Sys2Proof.Machine

/-! ## Coherent access by physical address -/

/-- 128 bytes the manual leaves open, drawn from the free values. -/
def State.freeLine (s : State) : List Byte :=
  (List.range 16).flatMap (fun i => leBytes 8 (Config.freeWord (s.freeCtr + i)).toNat)

/-- The coherent value of a line, its poison, and whether it had to be left open: a line homed on another module,
or owned by one, is not held by this module's state. -/
def State.lineValue (s : State) (line : Nat) : (List Byte × Bool) × Bool :=
  match s.holderTile line with
  | some t =>
    match (s.tile t).line? line with
    | some x => ((x.data, x.poison), false)
    | none => ((s.memLine line, s.memPoisoned (lineAddr line)), false)
  | none =>
    if lineHome line ≠ s.moduleId then ((s.freeLine, bit (Config.freeWord (s.freeCtr + 16)) 0), true)
    else
      match s.view line with
      | .o (.member _) => ((s.freeLine, bit (Config.freeWord (s.freeCtr + 16)) 0), true)
      | _ => ((s.memLine line, s.memPoisoned (lineAddr line)), false)

/-- What a coherent access answers: the state, the bytes read and their poison. -/
structure IoData where
  s : State
  data : List Byte
  poison : Bool

/-- A coherent read of bytes that lie in one line. -/
def State.readLinePart (s : State) (pa k : Nat) : IoData :=
  let v := s.lineValue (pa / 128)
  let s1 := if v.2 then { s with freeCtr := s.freeCtr + 17 } else s
  { s := s1, data := (v.1.1.drop (pa % 128)).take k, poison := v.1.2 }

/-- A coherent read of consecutive physical addresses; `fuel` bounds the lines it touches. -/
def State.readPa : Nat → State → Nat → Nat → IoData
  | 0, s, _, _ => { s := s, data := [], poison := false }
  | f + 1, s, pa, k =>
    if k = 0 then { s := s, data := [], poison := false }
    else
      let n := if k < 128 - pa % 128 then k else 128 - pa % 128
      let r := s.readLinePart pa n
      let q := State.readPa f r.s (pa + n) (k - n)
      { s := q.s, data := r.data ++ q.data, poison := r.poison || q.poison }

/-- A write of bytes of one line: every cached copy goes, transactions that hold the line abort, and the home
performs the write (Table 10.6). A write to another module's memory leaves as WR_LINE or WR_PART. -/
def State.writeLinePart (s : State) (agent pa : Nat) (bytes : List Byte) (poison dztv : Bool) (dzt : Nat) : State :=
  let line := pa / 128
  if lineHome line ≠ s.moduleId then
    let whole := bytes.length == 128
    let m : Msg := { cls := 0, code := if whole then 5 else 6, dest := lineHome line, src := s.moduleId, agent := agent,
                     txn := s.txn, line := line, ext := dzt, dztv := dztv, poison := poison,
                     data := patchList (List.replicate 128 0) (pa % 128) bytes,
                     mask := if whole then 0 else (2 ^ bytes.length - 1) * 2 ^ (pa % 128) }
    { s with txn := (s.txn + 1) % 64 }.enqueue m
  else
    let v := s.lineValue line
    let s1 := if v.2 then { s with freeCtr := s.freeCtr + 17 } else s
    let sharers := match s1.dirEntry line with
      | some e => (List.range 32).filter (fun k => e.sharers.testBit k || (decide (2 ≤ e.st) && e.who == k))
      | none => []
    let own : Msg := { cls := 0, code := 6, dest := s.moduleId, src := s.moduleId, agent := 9, txn := 0, line := line }
    let s2 := (List.range 4).foldl (fun (st : State) t => (st.txConflict t line true none 0x02).dropLine t line) s1
    let s3 := (s2.dirNone line).deliver (sharers.map (fun k => own.forward 3 (s.memberModule k) none 0))
    s3.putMemLine line (patchList v.1.1 (pa % 128) bytes) (poison || (v.1.2 && bytes.length != 128))

/-- A write of consecutive physical addresses. -/
def State.writePa : Nat → State → Nat → Nat → List Byte → Bool → Bool → Nat → State
  | 0, s, _, _, _, _, _, _ => s
  | f + 1, s, agent, pa, bytes, poison, dztv, dzt =>
    if bytes.isEmpty then s
    else
      let n := if bytes.length < 128 - pa % 128 then bytes.length else 128 - pa % 128
      State.writePa f (s.writeLinePart agent pa (bytes.take n) poison dztv dzt) agent (pa + n) (bytes.drop n) poison
        dztv dzt

/-! ## Table entries (R157, R158) -/

def teType (e : Word) : Nat := bits e 0 2
def teAttr (e : Word) : Nat := bits e 2 2
def teR (e : Word) : Bool := bit e 4
def teW (e : Word) : Bool := bit e 5
def teNx (e : Word) : Bool := bit e 6
def teU (e : Word) : Bool := bit e 7
def teG (e : Word) : Bool := bit e 8
def teA (e : Word) : Bool := bit e 9
def teD (e : Word) : Bool := bit e 10
def teAddr (e : Word) : Nat := bits e 12 48 * 4096

/-- The bytes that a leaf of a level maps. -/
def levelSize (level : Nat) : Nat := 2 ^ (12 + 9 * level)

/-- Why an entry of a level ends a walk, as DETAIL of Table 7.8; none where the walk goes on or ends at a leaf. -/
def entryFault (stage1 : Bool) (level : Nat) (write : Bool) (e : Word) : Option Nat :=
  if teType e = 0 then some 1
  else if teType e = 3 ∨ bits e 60 4 ≠ 0 ∨ bit e 11 then some 2
  else if teType e = 2 then
    if level = 0 ∨ bits e 2 10 ≠ 0 ∨ (stage1 ∧ bits e 48 12 ≠ 0) then some 2 else none
  else if 3 ≤ level ∨ teAttr e = 3 ∨ (teW e ∧ ¬ teR e) ∨ (¬ stage1 ∧ (teU e ∨ teG e)) ∨
      teAddr e % levelSize level ≠ 0 then some 2
  else if stage1 ∧ bits e 48 12 ≠ 0 then some 5
  else if ¬ teA e then some 3
  else if write ∧ ¬ teD e then some 4
  else none

/-! ## I/O translation (R167) -/

/-- Why a DMA access is refused: a translation fault with its DETAIL, an address outside the DMA regions, a
permission, no target, a poisoned table line. -/
inductive IoErr where
  | translation (detail : Nat)
  | region
  | permission
  | target
  | table
  deriving DecidableEq, Repr

/-- A DMA address: the state after it, and the physical address or the refusal. -/
structure IoAddr where
  s : State
  res : Except IoErr Nat

/-- Whether some DMA region of a zone covers an address, whatever it permits. -/
def State.dmaCovered (s : State) (z pa : Nat) : Bool :=
  (List.range 16).any (fun r =>
    let w0 := s.reg (ztReg + 0x100 * z + 0x10 * r)
    let base := bits (s.reg (ztReg + 0x100 * z + 0x10 * r + 8)) 0 60
    bit w0 0 && bit w0 5 && decide (bits w0 6 2 = 0) && decide (base ≤ pa) && decide (pa < base + 2 ^ bits w0 8 6))

/-- The region and target checks of a DMA physical address. -/
def State.dmaCheck (s : State) (z pa : Nat) (write : Bool) : Except IoErr Nat :=
  if ¬ s.inRegions z pa (if write then .write else .read) true then
    .error (if s.dmaCovered z pa then .permission else .region)
  else if pa / 2 ^ 44 = s.moduleId then
    if pa % 2 ^ 44 < s.usable then .ok pa else .error .target
  else if pa % 2 ^ 44 < 2 ^ 43 ∧ (s.portFor (pa / 2 ^ 44)).isSome then .ok pa
  else .error .target

/-- The walk of a zone's I/O tables from level `level` down. -/
def State.ioWalk : Nat → State → Nat → Nat → Nat → Bool → IoAddr
  | 0, s, _, _, _, _ => { s := s, res := .error (.translation 2) }
  | level + 1, s, z, table, iova, write =>
    let ea := table + 8 * (iova / levelSize level % 512)
    match s.dmaCheck z ea false with
    | .error _ => { s := s, res := .error (.translation 7) }
    | .ok _ =>
      let r := s.readPa 2 ea 8
      if r.poison then { s := r.s, res := .error .table }
      else
        let e : Word := BitVec.ofNat 64 (leNat r.data)
        match entryFault false level write e with
        | some d => { s := r.s, res := .error (.translation d) }
        | none =>
          if teType e = 2 then State.ioWalk level r.s z (teAddr e) iova write
          else
            let n : IoTlbEntry := { zone := z, iova := iova / levelSize level * levelSize level, size := levelSize level,
                                    leaf := e }
            let keep := if r.s.ioTlb.length < 8192 then r.s.ioTlb else r.s.ioTlb.drop 1
            { s := { r.s with ioTlb := keep ++ [n] }, res := .ok (teAddr e + iova % levelSize level) }

/-- The I/O TLB's translation of an address. -/
def State.ioTlbHit (s : State) (z iova : Nat) : Option IoTlbEntry :=
  s.ioTlb.find? (fun e => e.zone == z && decide (e.iova ≤ iova) && decide (iova < e.iova + e.size))

/-- The permission of a leaf, then the region and target checks. -/
def State.ioLeaf (s : State) (z : Nat) (leaf : Word) (pa : Nat) (write : Bool) : Except IoErr Nat :=
  if (if write then teW leaf else teR leaf) then s.dmaCheck z pa write else .error .permission

/-- Translates and checks one DMA address (R167). -/
def State.ioTranslate (s : State) (z iova : Nat) (write : Bool) : IoAddr :=
  let w1 := s.zd1 z
  if 2 ^ 48 ≤ iova then { s := s, res := .error (.translation 0) }
  else if ¬ bit w1 0 then
    if 2 ^ 44 ≤ iova then { s := s, res := .error (.translation 6) }
    else { s := s, res := s.dmaCheck z (s.moduleId * 2 ^ 44 + iova) write }
  else
    match s.ioTlbHit z iova with
    | some e =>
      if write ∧ ¬ teD e.leaf then { s := s, res := .error (.translation 4) }
      else { s := s, res := s.ioLeaf z e.leaf (teAddr e.leaf + iova % e.size) write }
    | none =>
      let r := State.ioWalk 4 s z (bits w1 12 48 * 4096) iova write
      match r.res with
      | .error e => { s := r.s, res := .error e }
      | .ok pa =>
        match r.s.ioTlbHit z iova with
        | some e => { s := r.s, res := r.s.ioLeaf z e.leaf pa write }
        | none => { s := r.s, res := .ok pa }

/-! ## DMA (R167, R181) -/

/-- What a DMA access answers: the state, the bytes read and their poison, or the refusal and its address. -/
structure Dma where
  s : State
  data : List Byte := []
  poison : Bool := false
  err : Option (IoErr × Nat) := none

/-- The bytes of an access that lie in the first of its 4 KiB pages. -/
def pagePart (a k : Nat) : Nat := if k < 4096 - a % 4096 then k else 4096 - a % 4096

/-- A DMA read on a zone's behalf; `fuel` bounds the 4 KiB pages it touches. -/
def State.dmaRead : Nat → State → Nat → Nat → Nat → Dma
  | 0, s, _, _, _ => { s := s }
  | f + 1, s, z, iova, k =>
    if k = 0 then { s := s }
    else
      let n := pagePart iova k
      let r := s.ioTranslate z iova false
      match r.res with
      | .error e => { s := r.s, err := some (e, iova) }
      | .ok pa =>
        let d := r.s.readPa 34 pa n
        let q := State.dmaRead f d.s z (iova + n) (k - n)
        { s := q.s, data := d.data ++ q.data, poison := d.poison || q.poison, err := q.err }

/-- A DMA write on a zone's behalf. Each page is checked as it is reached. -/
def State.dmaWrite : Nat → State → Nat → Nat → Nat → List Byte → Dma
  | 0, s, _, _, _, _ => { s := s }
  | f + 1, s, agent, z, iova, bytes =>
    if bytes.isEmpty then { s := s }
    else
      let n := pagePart iova bytes.length
      let r := s.ioTranslate z iova true
      match r.res with
      | .error e => { s := r.s, err := some (e, iova) }
      | .ok pa =>
        let s1 := State.writePa 34 r.s agent pa (bytes.take n) false true (s.dzt z)
        State.dmaWrite f s1 agent z (iova + n) (bytes.drop n)

/-- A DMA read whose pages number at most what its length can touch. -/
def State.ioRead (s : State) (z iova k : Nat) : Dma := State.dmaRead (k / 4096 + 2) s z iova k

/-- A DMA write by an agent of the I/O die. -/
def State.ioWrite (s : State) (agent z iova : Nat) (bytes : List Byte) : Dma :=
  State.dmaWrite (bytes.length / 4096 + 2) s agent z iova bytes

end Sys2Proof.Machine
end

