-- ==== Sys2Proof/Machine/Aes.lean ====
section
/-!
DEFINITION. AES (FIPS 197) and the modes of Table 16.1 with the choices of R361. The manual names the standards
and does not restate them.
-/

namespace Sys2Proof.Machine

/-! ## AES -/

/-- Multiplication by x in GF(2^8). -/
def xtime (b : Byte) : Byte := (b <<< 1) ^^^ (if b.toNat.testBit 7 then 0x1B else 0)

/-- Multiplication in GF(2^8), over the low `k` bits of the second factor. -/
def gfMul : Nat → Byte → Byte → Byte
  | 0, _, _ => 0
  | k + 1, a, b => (if b.toNat.testBit 0 then a else 0) ^^^ gfMul k (xtime a) (b >>> 1)

/-- `a` to a power in GF(2^8). -/
def gfPow (a : Byte) : Nat → Byte
  | 0 => 1
  | k + 1 => gfMul 8 a (gfPow a k)

/-- Rotation of a byte to the left. -/
def rotl8 (b : Byte) (k : Nat) : Byte := (b <<< k) ||| (b >>> (8 - k))

/-- SubBytes of one byte: the inverse and the affine map. -/
def aesSbox (b : Byte) : Byte :=
  let x := gfPow b 254
  x ^^^ rotl8 x 1 ^^^ rotl8 x 2 ^^^ rotl8 x 3 ^^^ rotl8 x 4 ^^^ 0x63

/-- InvSubBytes of one byte: the inverse affine map and the inverse. -/
def aesInvSbox (b : Byte) : Byte := gfPow (rotl8 b 1 ^^^ rotl8 b 3 ^^^ rotl8 b 6 ^^^ 0x05) 254

/-- Byte i of a list. -/
def byteAt (l : List Byte) (i : Nat) : Byte := l.getD i 0

/-- The bitwise sum of two byte strings, of the length of the shorter. -/
def xorBytes (a b : List Byte) : List Byte := List.zipWith (fun x y => x ^^^ y) a b

/-- The round constants. -/
def aesRcon (i : Nat) : Byte := gfPow 2 (i - 1)

/-- KeyExpansion: `n` more words after those of a list held in reverse, of a key of `nk` words. -/
def aesExpand (nk : Nat) : Nat → List (List Byte) → List (List Byte)
  | 0, ws => ws
  | n + 1, ws =>
    let i := ws.length
    let prev := ws.headD []
    let back := ws.getD (nk - 1) []
    let t :=
      if i % nk = 0 then
        let r := (prev.drop 1 ++ prev.take 1).map aesSbox
        xorBytes r [aesRcon (i / nk), 0, 0, 0]
      else if 6 < nk ∧ i % nk = 4 then prev.map aesSbox
      else prev
    aesExpand nk n (xorBytes back t :: ws)

/-- A byte string cut into pieces of `k` bytes, at most `fuel` of them. -/
def chop (k : Nat) : Nat → List Byte → List (List Byte)
  | 0, _ => []
  | f + 1, l => if l.isEmpty then [] else l.take k :: chop k f (l.drop k)

/-- The round keys of a key of 16, 24 or 32 bytes. -/
def aesKeys (key : List Byte) : List (List Byte) :=
  let nk := key.length / 4
  let ws := (aesExpand nk (4 * (nk + 7) - nk) (chop 4 nk key).reverse).reverse
  chop 16 (nk + 7) ws.flatten

/-- ShiftRows, over the column-major state; `sign` 1 forward, 3 inverse. -/
def aesShift (sign : Nat) (st : List Byte) : List Byte :=
  (List.range 16).map (fun i => byteAt st (i % 4 + 4 * ((i / 4 + sign * (i % 4)) % 4)))

/-- MixColumns with the first row of its matrix. -/
def aesMix (row : List Byte) (st : List Byte) : List Byte :=
  (List.range 16).map (fun i =>
    (List.range 4).foldl (fun x j => x ^^^ gfMul 8 (byteAt st (4 * (i / 4) + j)) (byteAt row ((j + 4 - i % 4) % 4))) 0)

/-- The rounds of the cipher after the first key, with the last one apart. -/
def aesRounds : List (List Byte) → List Byte → List Byte
  | [], st => st
  | [k], st => xorBytes (aesShift 1 (st.map aesSbox)) k
  | k :: rest, st => aesRounds rest (xorBytes (aesMix [2, 3, 1, 1] (aesShift 1 (st.map aesSbox))) k)

/-- The rounds of the inverse cipher, the keys given from the last. -/
def aesInvRounds : List (List Byte) → List Byte → List Byte
  | [], st => st
  | [k], st => xorBytes ((aesShift 3 st).map aesInvSbox) k
  | k :: rest, st => aesInvRounds rest (aesMix [14, 11, 13, 9] (xorBytes ((aesShift 3 st).map aesInvSbox) k))

/-- One block enciphered. -/
def aesEnc (key block : List Byte) : List Byte :=
  match aesKeys key with
  | [] => block
  | k :: rest => aesRounds rest (xorBytes block k)

/-- One block deciphered. -/
def aesDec (key block : List Byte) : List Byte :=
  match (aesKeys key).reverse with
  | [] => block
  | k :: rest => aesInvRounds rest (xorBytes block k)

/-! ## CTR -/

/-- A number of 16 bytes, big-endian. -/
def be16 (n : Nat) : List Byte := (leBytes 16 n).reverse

/-- The blocks of a byte string. -/
def blocksOf (l : List Byte) : List (List Byte) := chop 16 (l.length / 16 + 1) l

/-- CTR over blocks, from a counter block that is a number modulo 2^128. -/
def ctrBlocks (key : List Byte) : Nat → List (List Byte) → List Byte
  | _, [] => []
  | c, b :: rest => xorBytes b (aesEnc key (be16 (c % 2 ^ 128))) ++ ctrBlocks key (c + 1) rest

/-- CTR of a byte string. -/
def aesCtr (key iv data : List Byte) : List Byte := ctrBlocks key (beNat iv) (blocksOf data)

/-- The counter block after the last block formed. -/
def ctrNext (iv : List Byte) (len : Nat) : List Byte := be16 ((beNat iv + (len + 15) / 16) % 2 ^ 128)

/-! ## CBC -/

/-- CBC encryption of whole blocks. -/
def cbcEnc (key : List Byte) : List Byte → List (List Byte) → List Byte
  | _, [] => []
  | iv, b :: rest =>
    let c := aesEnc key (xorBytes b iv)
    c ++ cbcEnc key c rest

/-- CBC decryption of whole blocks. -/
def cbcDec (key : List Byte) : List Byte → List (List Byte) → List Byte
  | _, [] => []
  | iv, b :: rest => xorBytes (aesDec key b) iv ++ cbcDec key b rest

/-! ## XTS (IEEE 1619) -/

/-- The next tweak of a data unit: multiplication by x, the tweak as a little-endian number. -/
def xtsDouble (t : List Byte) : List Byte :=
  let n := 2 * leNat t
  leBytes 16 ((n % 2 ^ 128) ^^^ (if 2 ^ 128 ≤ n then 0x87 else 0))

/-- One block of XTS. -/
def xtsBlock (enc : Bool) (key t b : List Byte) : List Byte :=
  xorBytes (if enc then aesEnc key (xorBytes b t) else aesDec key (xorBytes b t)) t

/-- A data unit from tweak `t`; a last piece shorter than a block uses ciphertext stealing. -/
def xtsBlocks (enc : Bool) (key : List Byte) : List Byte → List (List Byte) → List Byte
  | _, [] => []
  | t, [b] => xtsBlock enc key t b
  | t, [b, c] =>
    let t2 := xtsDouble t
    if c.length = 16 then xtsBlock enc key t b ++ xtsBlock enc key t2 c
    else
      let x := xtsBlock enc key (if enc then t else t2) b
      xtsBlock enc key (if enc then t2 else t) (c ++ x.drop c.length) ++ x.take c.length
  | t, b :: rest => xtsBlock enc key t b ++ xtsBlocks enc key (xtsDouble t) rest

/-- A data unit whose number is `unit`. -/
def xtsUnit (enc : Bool) (key tweakKey : List Byte) (unit : Nat) (data : List Byte) : List Byte :=
  xtsBlocks enc key (aesEnc tweakKey (leBytes 16 (unit % 2 ^ 128))) (blocksOf data)

/-- The data units of a byte string, each of 2^du bytes but the last. -/
def xtsUnits (enc : Bool) (key tweakKey : List Byte) : Nat → List (List Byte) → List Byte
  | _, [] => []
  | u, d :: rest => xtsUnit enc key tweakKey u d ++ xtsUnits enc key tweakKey (u + 1) rest

/-- XTS of a byte string from a TWEAK. -/
def aesXts (enc : Bool) (key tweakKey iv : List Byte) (du : Nat) (data : List Byte) : List Byte :=
  xtsUnits enc key tweakKey (leNat iv) (chop (2 ^ du) (data.length / 2 ^ du + 1) data)

/-- The TWEAK after the last data unit. -/
def xtsNext (iv : List Byte) (du len : Nat) : List Byte :=
  leBytes 16 ((leNat iv + (len + 2 ^ du - 1) / 2 ^ du) % 2 ^ 128)

/-! ## GCM (NIST SP 800-38D), with IVs of 96 bits -/

/-- Multiplication in GF(2^128) as GCM has it, over the bits of `x` from the first. -/
def ghashMul (x : Nat) : Nat → Nat → Nat → Nat
  | 0, _, z => z
  | k + 1, v, z =>
    let z1 := if x.testBit k then z ^^^ v else z
    ghashMul x k (if v % 2 = 1 then (v / 2) ^^^ (0xE1 * 2 ^ 120) else v / 2) z1

/-- GHASH over blocks. -/
def ghash (h : Nat) : Nat → List (List Byte) → Nat
  | y, [] => y
  | y, b :: rest => ghash h (ghashMul (y ^^^ beNat (b ++ List.replicate (16 - b.length) 0)) 128 h 0) rest

/-- The full tag of 16 bytes of a ciphertext and its AAD. -/
def gcmTag (key iv aad ct : List Byte) : List Byte :=
  let h := beNat (aesEnc key (List.replicate 16 0))
  let lens := leBytes 8 (8 * ct.length) ++ leBytes 8 (8 * aad.length)
  let s := ghash h 0 (blocksOf aad ++ blocksOf ct ++ [lens.reverse])
  xorBytes (be16 s) (aesEnc key (iv.take 12 ++ [0, 0, 0, 1]))

/-- The counter part of GCM: blocks from counter 2, the counter modulo 2^32. -/
def gcmBlocks (key iv : List Byte) : Nat → List (List Byte) → List Byte
  | _, [] => []
  | c, b :: rest => xorBytes b (aesEnc key (iv.take 12 ++ (leBytes 4 c).reverse)) ++ gcmBlocks key iv (c + 1) rest

/-- GCM encryption or decryption of the data, without the tag. -/
def gcmData (key iv data : List Byte) : List Byte := gcmBlocks key iv 2 (blocksOf data)

/-! ## CMAC (NIST SP 800-38B) -/

/-- A subkey from the one before. -/
def cmacDouble (n : Nat) : Nat := (2 * n % 2 ^ 128) ^^^ (if 2 ^ 127 ≤ n then 0x87 else 0)

/-- The full tag of 16 bytes. -/
def cmacTag (key data : List Byte) : List Byte :=
  let k1 := cmacDouble (beNat (aesEnc key (List.replicate 16 0)))
  let n := (data.length - 1) / 16
  let last := data.drop (16 * n)
  let m := if last.length = 16 then xorBytes last (be16 k1)
    else xorBytes (last ++ [0x80] ++ List.replicate (15 - last.length) 0) (be16 (cmacDouble k1))
  let x := (blocksOf (data.take (16 * n))).foldl (fun y b => aesEnc key (xorBytes y b)) (List.replicate 16 0)
  aesEnc key (xorBytes x m)

/-! ## Sealed segments (R372) -/

/-- The IV of segment i. -/
def segmentIv (iv : List Byte) (i : Nat) : List Byte :=
  iv.take 8 ++ (leBytes 4 ((beNat ((iv.drop 8).take 4) + i) % 2 ^ 32)).reverse

/-- The IV with its counter field after the last segment formed, as 16 bytes. -/
def sealedNext (iv : List Byte) (i : Nat) : List Byte := segmentIv iv i ++ [0, 0, 0, 0]

end Sys2Proof.Machine
end

