-- ==== Sys2Proof/Machine/Keys.lean ====
section
/-!
DEFINITION. Key slots and their load registers (*Cipher Engine and Key Slots*, R363 to R369, R383, R384).
-/

namespace Sys2Proof.Machine

def cipherPage : Page := ⟨.cipher, 0⟩

/-! ## Slots -/

/-- A key slot. -/
def State.slot (s : State) (k : Nat) : KeySlot := SMap.get {} s.keys k

/-- Writes a key slot. -/
def State.setSlot (s : State) (k : Nat) (x : KeySlot) : State := { s with keys := SMap.set {} s.keys k x }

/-- Key words of a LEN (Table 16.2). -/
def keyWords (len : Nat) : Nat := if len = 0 then 2 else if len = 1 then 3 else if len = 4 then 8 else 4

/-- A LEN of an XTS key. -/
def isXts (len : Nat) : Bool := len == 3 || len == 4

/-- The key bytes of a slot (R366). -/
def State.keyBytes (s : State) (k : Nat) : List Byte := (s.slot k).words.flatMap (fun w => leBytes 8 w.toNat)

/-- A slot holds a key. -/
def KeySlot.loaded (x : KeySlot) : Bool := !x.words.isEmpty

/-- The slots of the key that a slot belongs to: both halves of an XTS pair. -/
def State.keyPair (s : State) (k : Nat) : List Nat :=
  if (s.slot k).loaded ∧ (s.slot k).upper then [k - 1, k]
  else if (s.slot k).loaded ∧ isXts (s.slot k).len then [k, k + 1]
  else [k]

/-- Zeroizes a slot and raises its GEN. -/
def State.eraseSlot (s : State) (k : Nat) : State :=
  s.setSlot k { gen := ((s.slot k).gen + 1) % 2 ^ 16, uses := (s.slot k).uses }

/-- Installs a key in a slot; its GEN rises by 1. -/
def State.installKey (s : State) (k len use : Nat) (upper : Bool) (words : List Word) : State :=
  s.setSlot k { words := words, len := len, use := use, upper := upper, gen := ((s.slot k).gen + 1) % 2 ^ 16,
                uses := (s.slot k).uses }

/-- KEY_INFO as it reads: the slot that KEY_QUERY names. -/
def State.keyInfo (s : State) : Word :=
  let x := s.slot (s.fld bCipher F.KEY_QUERY_SLOT)
  let u := if x.uses < 2 ^ 16 then x.uses else 2 ^ 16 - 1
  BitVec.ofNat 64 (if x.loaded then 1 + 2 * x.len + 16 * x.use + 64 * b2n x.upper else 0) |||
    BitVec.ofNat 64 (2 ^ 16 * u + 2 ^ 32 * x.gen)

/-- Counts a request that uses the slots of a key, or the end of its use (R368). -/
def State.useSlots (s : State) (ks : List Nat) (add : Bool) : State :=
  ks.foldl (fun st k =>
    let x := st.slot k
    st.setSlot k { x with uses := if add then x.uses + 1 else x.uses - 1 }) s

/-! ## Key loads

The registers of a load lie 8 bytes apart from window offset `kb`: those of a doorbell page for a zone's load
buffer, those of the global page for load buffer 256. -/

/-- KEY_SEL, KEY_DATA, KEY_COMMIT and KEY_STAT of load buffer `l`. -/
def keyBase (l : Nat) : Nat := if l < 256 then bDoor l + 0x200 else bCipher + 0x068

/-- A load buffer. -/
def State.keyLoad (s : State) (l : Nat) : KeyLoad := SMap.get {} s.keyLoads l

/-- Writes a load buffer. -/
def State.setKeyLoad (s : State) (l : Nat) (x : KeyLoad) : State := { s with keyLoads := SMap.set {} s.keyLoads l x }

/-- KEY_STAT of a load buffer, a field of it, and a write of that field. -/
def State.keyStat (s : State) (l lo width : Nat) : Nat := bits (s.reg (keyBase l + 0x18)) lo width
def State.setKeyStat (s : State) (l lo width n : Nat) : State :=
  s.setReg (keyBase l + 0x18) (putBits (s.reg (keyBase l + 0x18)) lo width n)

/-- SLOT, LEN and USE of KEY_SEL. -/
def State.selSlot (s : State) (l : Nat) : Nat := bits (s.reg (keyBase l)) 0 12
def State.selLen (s : State) (l : Nat) : Nat := bits (s.reg (keyBase l)) 12 3
def State.selUse (s : State) (l : Nat) : Nat := bits (s.reg (keyBase l)) 16 2

/-- Ends a load: STATE and RESULT; the buffer is zeroized. -/
def State.endLoad (s : State) (l state result : Nat) : State :=
  ((s.setKeyLoad l { s.keyLoad l with words := [] }).setKeyStat l 0 3 state).setKeyStat l 4 4 result

/-- A KEY_SEL write names a slot that the zone does not own (R365). -/
def keyNotOwned (s : State) (z : Nat) (v : Word) : Bool :=
  let k := bits v 0 12
  s.keyOwner k != some z || (isXts (bits v 12 3) && s.keyOwner (k + 1) != some z)

/-- The fields of KEY_SEL and KEY_COMMIT, and KEY_DATA, of a doorbell page or of the global page. -/
def selFields (l : Nat) : List Fld :=
  if l < 256 then [F.KEY_SEL_SLOT, F.KEY_SEL_LEN, F.KEY_SEL_USE] else [F.KEY_SEL_M_SLOT, F.KEY_SEL_M_LEN, F.KEY_SEL_M_USE]
def commitFields (l : Nat) : List Fld :=
  if l < 256 then [F.KEY_COMMIT_COMMIT, F.KEY_COMMIT_ERASE, F.KEY_COMMIT_ABORT]
  else [F.KEY_COMMIT_M_COMMIT, F.KEY_COMMIT_M_ERASE, F.KEY_COMMIT_M_ABORT]
def dataField (l : Nat) : Fld := if l < 256 then F.KEY_DATA_WORD else F.KEY_DATA_M_WORD

/-- The fields of the key registers that are refused with reason 0x05; `off` counts from KEY_SEL. -/
def keyRefused (s : State) (l off : Nat) (v : Word) : List Fld :=
  let usable := s.present cipherPage && (l == 256 || s.glazed)
  let k := bits v 0 12
  if off = 0 then
    if ¬ usable ∨ (isXts (bits v 12 3) ∧ (k % 2 = 1 ∨ (l = 256 ∧ s.keyOwner k ≠ s.keyOwner (k + 1)))) then selFields l
    else []
  else if off = 8 then
    if ¬ usable ∨ s.keyStat l 0 3 ≠ 1 ∨ keyWords (s.selLen l) ≤ s.keyStat l 8 4 then [dataField l] else []
  else if off = 0x10 then
    if ¬ usable ∨ 1 < popCount (v &&& 7) ∨ ((bit v 0 ∨ bit v 1) ∧ ¬ (s.keyLoad l).selected) ∨
        (bit v 0 ∧ s.keyStat l 0 3 ≠ 1) then commitFields l
    else []
  else []

/-- A KEY_DATA write beyond the word count ends the load (R366). -/
def keyOverflow (s : State) (l off : Nat) : State :=
  if off = 8 ∧ s.keyStat l 0 3 = 1 ∧ keyWords (s.selLen l) ≤ s.keyStat l 8 4 then s.endLoad l 3 4 else s

/-- COMMIT (R367). -/
def State.keyCommit (s : State) (l : Nat) : State :=
  let k := s.selSlot l
  let len := s.selLen l
  let ws := (s.keyLoad l).words
  let half := keyWords len / 2
  let slots := if isXts len then [k, k + 1] else [k]
  if ws.length < keyWords len then s.endLoad l 3 3
  else if isXts len ∧ ws.take half = ws.drop half then s.endLoad l 3 5
  else if slots.any (fun j => (s.slot j).uses != 0) then s.endLoad l 3 6
  else
    let s1 := if isXts len then
        (s.installKey k len (s.selUse l) false (ws.take half)).installKey (k + 1) len (s.selUse l) true (ws.drop half)
      else s.installKey k len (s.selUse l) false ws
    (s1.endLoad l 2 1).setKeyStat l 32 16 (s1.slot k).gen

/-- ERASE (R367). -/
def State.keyErase (s : State) (l : Nat) : State :=
  let k := s.selSlot l
  let slots := s.keyPair k
  if slots.any (fun j => (s.slot j).uses != 0) then s.endLoad l 3 6
  else
    let s1 := slots.foldl State.eraseSlot s
    (s1.endLoad l 2 2).setKeyStat l 32 16 (s1.slot k).gen

/-- The effects of the accepted writes of the key registers; KEY_SEL stands in its register already. -/
def keyWrote (l off : Nat) (v : Word) (s : State) : State :=
  if off = 0 then
    (((s.setKeyLoad l { words := [], selected := true }).setKeyStat l 8 4 0).setKeyStat l 0 3 1).setKeyStat l 16 12
      (bits v 0 12)
  else if off = 8 then
    (s.setKeyLoad l { s.keyLoad l with words := (s.keyLoad l).words ++ [v] }).setKeyStat l 8 4 (s.keyStat l 8 4 + 1)
  else if off = 0x10 then
    if bit v 0 then s.keyCommit l
    else if bit v 1 then s.keyErase l
    else if bit v 2 ∧ s.keyStat l 0 3 = 1 then s.endLoad l 0 7
    else s
  else s

/-! ## Jobs and keys (R368, R377) -/

/-- The zone of a job owns a slot, and both slots where its key is an XTS key (R377, step 2); a firmware ring skips
the check. -/
def State.ownsKey (s : State) (zone : Option Nat) (k : Nat) : Bool :=
  match zone with
  | none => true
  | some z => s.keyOwner k == some z && (!isXts (s.slot k).len || s.keyOwner (k + 1) == some z)

/-- A slot can serve a cipher mode and direction (R377, step 3). -/
def State.keyUsable (s : State) (k cmode : Nat) (decrypt : Bool) : Bool :=
  let x := s.slot k
  x.loaded && !x.upper && (isXts x.len == (cmode == 5)) &&
  (!isXts x.len || ((s.slot (k + 1)).loaded && (s.slot (k + 1)).upper)) &&
  (x.use == 0 || x.use == (if decrypt then 2 else 1))

/-- The slots that a request which names a slot uses. -/
def State.slotsOf (s : State) (k : Nat) : List Nat := if isXts (s.slot k).len then [k, k + 1] else [k]

/-! ## Parameter blocks (R370) -/

/-- The fields of a parameter block (Table 16.3). -/
structure CParam where
  iv : List Byte
  aad : Nat
  aadLen : Nat
  taglen : Nat
  seglog : Nat
  dulog : Nat
  tag : Nat
  spare : Nat

/-- A parameter block's fields. -/
def readParam (b : List Byte) : CParam :=
  let n := fun (off k : Nat) => leNat ((b.drop off).take k)
  { iv := b.take 16, aad := n 0x10 8, aadLen := n 0x18 4, taglen := n 0x1C 1 % 32, seglog := n 0x1D 1 % 32,
    dulog := n 0x1E 1 % 32, tag := n 0x20 8, spare := n 0x28 8 }

/-- A parameter block that Table 16.3 does not allow for a mode; `inlined` for a transform descriptor. -/
def CParam.malformed (p : CParam) (cmode : Nat) (isSealed inlined : Bool) : Bool :=
  let gcmJob := cmode == 1 && !inlined
  let tagged := (gcmJob && !isSealed) || cmode == 2 || cmode == 6
  p.spare != 0 ||
  ((cmode == 1 || cmode == 2) && (p.iv.drop 12).any (fun b => b != 0)) || (cmode == 6 && p.iv.any (fun b => b != 0)) ||
  (!gcmJob && (p.aad != 0 || p.aadLen != 0)) ||
  (if cmode = 1 ∨ cmode = 2 then p.taglen < 12 || 16 < p.taglen
   else if cmode = 6 then p.taglen < 8 || 16 < p.taglen else p.taglen != 0) ||
  (if cmode = 1 ∧ isSealed then p.seglog < 9 || 16 < p.seglog else p.seglog != 0) ||
  (if cmode = 5 then p.dulog < 9 || 16 < p.dulog else p.dulog != 0) ||
  (!tagged && p.tag != 0)

end Sys2Proof.Machine
end

