-- ==== Sys2Proof/Machine/Channel.lean ====
section
/-!
DEFINITION. Stations, rings and channel scripts (*Channel Subsystem: Stations, Paths and Channel Scripts*,
R287 to R313): what the engines read and write in memory, the commands they send, and how a request ends.
The rows that drive it are in Stations.lean and Exchange.lean.
-/

namespace Sys2Proof.Machine

def compPage : Page := ⟨.comp, 0⟩

/-- A station. -/
def State.station (s : State) (n : Nat) : Station := SMap.get {} s.css.stations n

/-- Writes a station. -/
def State.setStation (s : State) (n : Nat) (x : Station) : State :=
  { s with css := { s.css with stations := SMap.set {} s.css.stations n x } }

/-- Changes the request of a station. -/
def State.modReq (s : State) (n : Nat) (f : Request → Request) : State :=
  s.setStation n { s.station n with req := (s.station n).req.map f }

/-- A channel ring. -/
def State.ring (s : State) (g : Nat) : Ring := SMap.get {} s.css.rings g

/-- Writes a channel ring. -/
def State.setRing (s : State) (g : Nat) (x : Ring) : State :=
  { s with css := { s.css with rings := SMap.set {} s.css.rings g x } }

/-- Stations out of IDLE, and CSS_STAT as it reads. -/
def State.outOfIdle (s : State) : Nat := (s.css.stations.filter (fun (x : Nat × Station) => x.2.state != 0)).length
def State.cssStat (s : State) : Word := putBits (s.reg (bCss + 0x048)) 0 13 s.outOfIdle

/-- Exchanges whose current path is a port (CP_XOPEN). -/
def State.xopen (s : State) (p : Nat) : Nat :=
  (s.css.stations.filter (fun (x : Nat × Station) =>
    decide (2 ≤ x.2.state) && x.2.req.any (fun r => r.port == some p && !r.closing))).length

/-- An engine serves requests: MODE is simplex, resynchronizing or duplex, and the memory commit unit may deliver its
outputs (R348). -/
def State.enginesServe (s : State) : Bool :=
  let m := s.fld bCss F.CSS_PAIR_STAT_MODE
  s.running cssPage && decide (1 ≤ m) && decide (m ≤ 3) && (m == 3 || !s.flag bCss F.CSS_PAIR_STAT_PASSING) &&
  (SMap.get {} s.pair.receivers 16).lease && !s.flag bCss F.CSS_STAT_ESE_DRAIN && s.mode != 10

/-! ## Memory accesses of engines and rings (R167, R290) -/

/-- A read on behalf of a zone, or at a local physical address. -/
def State.zoneRead (s : State) (zone : Option Nat) (a k : Nat) : Dma :=
  match zone with
  | some z => s.ioRead z a k
  | none =>
    if a + k ≤ s.usable then
      let r := State.readPa (k / 128 + 2) s (s.moduleId * 2 ^ 44 + a) k
      { s := r.s, data := r.data, poison := r.poison }
    else { s := s, err := some (.target, a) }

/-- A write on behalf of a zone, or at a local physical address. -/
def State.zoneWrite (s : State) (agent : Nat) (zone : Option Nat) (a : Nat) (bytes : List Byte) : Dma :=
  match zone with
  | some z => s.ioWrite agent z a bytes
  | none =>
    if a + bytes.length ≤ s.usable then
      { s := State.writePa (bytes.length / 128 + 2) s agent (s.moduleId * 2 ^ 44 + a) bytes false false 0 }
    else { s := s, err := some (.target, a) }

/-- The physical address of a byte, as R397 compares it. -/
def State.zonePa (s : State) (zone : Option Nat) (a : Nat) : IoAddr :=
  match zone with
  | some z => s.ioTranslate z a true
  | none => { s := s, res := if a < s.usable then .ok (s.moduleId * 2 ^ 44 + a) else .error .target }

/-- STATUS and ERRINFO of a refused access; `kind` is the access of Table 13.12. -/
def ioStatus (kind : Nat) : IoErr → Nat × Nat
  | .translation _ => (0x05, 16 * kind)
  | .region => (0x05, 1 + 16 * kind)
  | .permission => (0x05, 2 + 16 * kind)
  | .target => (0x05, 3 + 16 * kind)
  | .table => (0x0F, 1)

/-! ## Rings (R287 to R294) -/

/-- Where a ring lies: its zone, the address of its ring area, its number in it, the log2 of its entries. -/
structure RingPlace where
  zone : Option Nat
  base : Nat
  index : Nat
  e : Nat

/-- CSS_ZRT of a zone. -/
def State.zrt (s : State) (z : Nat) : Word := s.reg (bCss + 0x800 + 8 * z)
def zrtFirst (w : Word) : Nat := bits w 0 10
def zrtCount (w : Word) : Nat := bits w 10 5
def zrtE (w : Word) : Nat := bits w 16 4
def zrtBase (w : Word) : Nat := bits w 24 36 * 4096

/-- The zone whose range holds a global ring. -/
def State.ringZone (s : State) (g : Nat) : Option Nat :=
  (List.range 256).find? (fun z => decide (zrtFirst (s.zrt z) ≤ g) && decide (g < zrtFirst (s.zrt z) + zrtCount (s.zrt z)))

/-- Where a ring lies; 1,024 is the firmware ring. -/
def State.ringPlace (s : State) (g : Nat) : Option RingPlace :=
  if g = 1024 then
    if s.flag bCss F.CSS_FWR_EN then
      some { zone := none, base := s.fld bCss F.CSS_FWR_BASE * 4096, index := 0, e := s.fld bCss F.CSS_FWR_ENT_LOG2 }
    else none
  else
    match s.ringZone g with
    | some z => some { zone := some z, base := zrtBase (s.zrt z), index := g - zrtFirst (s.zrt z), e := zrtE (s.zrt z) }
    | none => none

def RingPlace.control (r : RingPlace) : Nat := r.base + 256 * r.index
def RingPlace.submission (r : RingPlace) (k : Nat) : Nat :=
  r.base + 4096 + r.index * 2 ^ (r.e + 7) + (k % 2 ^ r.e) * 64
def RingPlace.completion (r : RingPlace) (k : Nat) : Nat :=
  r.base + 4096 + r.index * 2 ^ (r.e + 7) + 2 ^ (r.e + 6) + (k % 2 ^ r.e) * 64

/-- A ring enters error (R294); `value` is the doorbell's for cause 0x1. -/
def State.ringError (s : State) (g : Nat) (p : RingPlace) (cause value : Nat) : State :=
  let x := s.ring g
  let s1 := s.setRing g { x with error := true, cause := cause }
  let s2 := (s1.zoneWrite 4 p.zone (p.control + 0x10) (leBytes 8 (1 + 2 ^ 8 * cause + 2 ^ 32 * x.resetSeen))).s
  (s2.raiseErr cssPage 8).crumb cssPage 0x0A03 4
    ([BitVec.ofNat 64 cause, BitVec.ofNat 64 g] ++ (if cause = 1 then [BitVec.ofNat 64 value] else [])) p.zone

/-- A status block (Table 13.8), at completion index `k` of a ring. -/
def Completion.block (c : Completion) (g e k : Nat) (tb : Word) : List Byte :=
  let phase := 1 - k / 2 ^ e % 2
  let w0 := c.op + 2 ^ 7 * phase + 2 ^ 8 * c.status + 2 ^ 16 * c.station + 2 ^ 32 * c.path + 2 ^ 40 * (minNat c.redrives 255) +
    2 ^ 48 * c.dstat + 2 ^ 56 * c.errinfo
  let w3 := c.residual % 2 ^ 24 + 2 ^ 24 * b2n c.overrun + 2 ^ 25 * b2n c.suppressed +
    2 ^ 32 * (minNat c.lineBytes (2 ^ 32 - 1))
  leBytes 8 w0 ++ leBytes 8 c.tag.toNat ++ leBytes 8 c.lastSe ++ leBytes 8 w3 ++
  leBytes 8 (c.xid + 2 ^ 32 * (g % 1024)) ++ leBytes 8 c.info.toNat ++ leBytes 8 tb.toNat ++ leBytes 8 c.state

/-- The streams of a request give up their units and the key slots they use (R368). -/
def State.freeRequest (s : State) (r : Request) : State :=
  (r.xforms.filter (fun t => [1, 2, 5, 6].contains t.kind)).foldl (fun st t => st.useSlots (st.slotsOf t.slot) false) s

/-- A station reaches IDLE, at the moment its completion is committed. -/
def State.goIdle (s : State) (n : Nat) : State :=
  let x := s.station n
  let s1 := match x.req with
    | some r => s.freeRequest r
    | none => s
  s1.setStation n { x with state := 0, req := none, halts := [] }

/-- Raises a ring's interrupt source; one that fails Table 18.2 puts the ring in error (R311, R294, R410). -/
def State.ringIrq (s : State) (g : Nat) (p : RingPlace) (intr : Bool) : State :=
  let x := s.ring g
  if intr ∧ x.irqEn then
    match s.ringIrqFault p.zone x.irq with
    | none => s.sourceEvent x.irq
    | some why => (s.ringIrqBad x.irq why).ringError g p 3 0
  else s

/-- Writes one completion, or holds it while the ring is in error (R294, R311). -/
def State.complete1 (s : State) (g : Nat) (c : Completion) : State :=
  let x := s.ring g
  match s.ringPlace g with
  | none => s.setRing g { x with held := x.held ++ [c] }
  | some p =>
    if x.error then s.setRing g { x with held := x.held ++ [c] }
    else
      let w := s.zoneWrite 4 p.zone (p.completion x.prod) (c.block g p.e x.prod s.timebase)
      let prod := (x.prod + 1) % 2 ^ 32
      let v := w.s.zoneWrite 4 p.zone (p.control + 0x08) (leBytes 8 prod)
      if w.err.isSome then (w.s.setRing g { x with held := x.held ++ [c] }).ringError g p 2 0
      else
        let s1 := v.s.setRing g { x with prod := prod, reserved := x.reserved - 1 }
        let s2 := match c.idles with
          | some n => s1.goIdle n
          | none => s1
        if v.err.isSome then s2.ringError g p 2 0 else s2.ringIrq g p c.intr

/-- The completion of a HALT whose station has reached IDLE. -/
def haltDone (n : Nat) (h : Halt) : Completion := { op := 2, status := 1, station := n, tag := h.tag, intr := h.intr }

/-- Writes a completion, and after it those of the HALTs that waited for its station. -/
def State.complete (s : State) (g : Nat) (c : Completion) : State :=
  let halts := match c.idles with
    | some n => (s.station n).halts
    | none => []
  let s1 := s.complete1 g c
  if (s1.ring g).held.length = (s.ring g).held.length then
    halts.foldl (fun st h => st.complete1 h.ring (haltDone c.station h)) s1
  else s1

/-- CMP_CONS of a ring read again. -/
def State.readCmpCons (s : State) (g : Nat) (p : RingPlace) : State :=
  let r := s.zoneRead p.zone (p.control + 0x80) 8
  if r.err.isSome ∨ r.poison then r.s.ringError g p 2 0
  else r.s.setRing g { r.s.ring g with cmpCons := leNat (r.data.take 4) }

/-- A completion slot can be reserved (R293). -/
def Ring.hasSlot (x : Ring) (e : Nat) : Bool := decide ((x.prod + x.reserved + 2 ^ 32 - x.cmpCons) % 2 ^ 32 < 2 ^ e)

/-- Reserves a completion slot, after reading CMP_CONS again where the ring appears full; false where it is. -/
def State.reserveSlotOf (s : State) (g : Nat) (p : RingPlace) : State × Bool :=
  let s1 := if (s.ring g).hasSlot p.e then s else s.readCmpCons g p
  let x := s1.ring g
  if ¬ x.error ∧ x.hasSlot p.e then (s1.setRing g { x with reserved := x.reserved + 1 }, true)
  else (s1, false)

/-- Takes the next entry of a ring: SUB_CONS moves past it. -/
def State.takeEntry (s : State) (g : Nat) (p : RingPlace) : State :=
  let x := s.ring g
  let cons := (x.cons + 1) % 2 ^ 32
  let w := (s.setRing g { x with cons := cons, stalled := false }).zoneWrite 4 p.zone p.control (leBytes 8 cons)
  if w.err.isSome then w.s.ringError g p 2 0 else w.s

/-- Ring reset (R294): the doorbell's value is the new SUB_CONS, and the held completions are written. -/
def State.ringReset (s : State) (g : Nat) (p : RingPlace) (v : Nat) : State :=
  let x := s.ring g
  let s1 := s.setRing g { x with cons := v, target := v, resetSeen := x.resetGen, error := false, cause := 0,
                                 stalled := false, held := [] }
  let w1 := s1.zoneWrite 4 p.zone p.control (leBytes 8 v)
  let w2 := w1.s.zoneWrite 4 p.zone (p.control + 0x10) (leBytes 8 (2 ^ 32 * x.resetGen))
  if w1.err.isSome ∨ w2.err.isSome then (w2.s.setRing g { w2.s.ring g with held := x.held }).ringError g p 2 0
  else x.held.foldl (fun st c => st.complete g c) w2.s

/-- The engines act on a doorbell value (R289, R292, R294). -/
def State.ringDoorbell (s : State) (g v : Nat) : State :=
  match s.ringPlace g with
  | none => s
  | some p =>
    let r := s.zoneRead p.zone (p.control + 0x80) 32
    if r.err.isSome ∨ r.poison then (if (s.ring g).error then r.s else r.s.ringError g p 2 v)
    else
      let n := fun (off k : Nat) => leNat ((r.data.drop off).take k)
      let x := { r.s.ring g with cmpCons := n 0 4, irq := n 8 2 % 2 ^ 13, irqEn := (n 8 2).testBit 15, resetGen := n 16 4 }
      let s1 := r.s.setRing g x
      if x.error then (if x.resetGen = x.resetSeen then s1 else s1.ringReset g p v)
      else if (v + 2 ^ 32 - x.cons) % 2 ^ 32 ≤ 2 ^ p.e then s1.setRing g { x with target := v, stalled := false }
      else s1.ringError g p 1 v

/-! ## The end of a request (R304, R310, R311, R371, R396) -/

/-- Drops cipher units that have not been taken, and those that pipelines hold, whose release buffers are zeroized. -/
def State.dropUnitsOf (s : State) (gone : CUnit → Bool) : State :=
  let hit := fun (x : Nat × CPipe) => x.2.unit.any gone
  let full := (s.cPipes.filter (fun x => hit x && !x.2.plain.isEmpty)).length
  let s1 := if full = 0 then s else s.count bCipher F.CIPH_CNT_ZEROIZE full
  { s1 with cUnits := s1.cUnits.filter (fun u => !gone u)
            cPipes := s1.cPipes.map (fun x =>
              if hit x then (x.1, ({ zeroizing := !x.2.plain.isEmpty } : CPipe)) else x) }

/-- Drops the cipher units of a station. -/
def State.dropUnits (s : State) (n : Nat) : State := s.dropUnitsOf (fun u => u.inline && u.owner == n)

/-- Writes NEXT_IV of a transform (R371); a fault is reported nowhere. -/
def State.writeNextIv (s : State) (zone : Option Nat) (t : Transform) : State :=
  match t.next with
  | some iv => (s.zoneWrite 5 zone (t.cparam + 0x30) iv).s
  | none => s

/-- Saves a stream, or empties its block, as Table 17.6 gives; a fault is answered. -/
def State.saveStream (s : State) (zone : Option Nat) (t : Transform) : Dma :=
  match t.stream with
  | some z =>
    if t.zstate = 0 then { s := s }
    else if zCont t.zparm then s.zoneWrite 6 zone t.zstate z.block
    else s.zoneWrite 6 zone t.zstate (leBytes 4 0)
  | none => { s := s }

/-- Saves the streams of a request, up to the first fault. -/
def State.saveStreams (s : State) (zone : Option Nat) : List Transform → Dma
  | [] => { s := s }
  | t :: rest =>
    let w := s.saveStream zone t
    if w.err.isSome then w else State.saveStreams w.s zone rest

/-- The transform of the script entry in progress. -/
def Request.xform (r : Request) : Option Transform :=
  if r.word.testBit 11 then r.xforms[r.word / 2 ^ 40 % 2 ^ 8]? else none

def Request.count (r : Request) : Nat := r.word / 2 ^ 16 % 2 ^ 24
def Request.command (r : Request) : Nat := r.word % 2 ^ 8 / 2 ^ 5
def Request.outbound (r : Request) : Bool := r.command == 1 || r.command == 3

/-- Whether the current command's bytes keep their number through its transform. -/
def Request.keepsLength (r : Request) : Bool :=
  match r.xform with
  | none => true
  | some t => (t.kind == 1 || t.kind == 2) && t.cmode != 1

/-- The memory-side bytes that `k` link bytes of the current outbound command stand for; open where the transform
changes lengths and the link data is not whole. -/
def Request.movedBy (r : Request) (k : Nat) (free : Word) : Nat :=
  if k = 0 then 0
  else if r.keepsLength then minNat k r.count
  else if r.total ≤ k then r.count
  else
    match r.xform with
    | some t =>
      if t.kind = 1 then
        let piece := 2 ^ t.seglog + t.taglen
        minNat r.count (k / piece * 2 ^ t.seglog + minNat (k % piece) (2 ^ t.seglog))
      else free.toNat % (r.count + 1)
    | none => 0

/-- Link bytes of the current command, each counted once. -/
def Request.commandBytes (r : Request) : Nat := if r.outbound then r.sent else r.rxoff

/-- The request between two commands: the bytes of the one before are counted, and nothing of the next has moved. -/
def Request.between (r : Request) : Request :=
  { r with lineBytes := r.lineBytes + r.commandBytes, sent := 0, acked := 0, rxoff := 0, done := 0 }

/-- RESIDUAL: bytes of the last entry not transferred. -/
def Request.residual (r : Request) : Nat := if r.se = 0 then 0 else r.count - r.done

/-- The completion of a START. -/
def Request.completion (r : Request) (n status errinfo : Nat) (info : Word) : Completion :=
  { op := 1, status := status, station := n, errinfo := errinfo, path := if r.commands = 0 then 0 else r.lastPort, redrives := r.redrives,
    dstat := r.dstat, tag := r.tag, lastSe := r.se, residual := r.residual, overrun := r.overrun,
    suppressed := r.suppressed, lineBytes := r.lineBytes + r.commandBytes, xid := r.xid, info := info, intr := r.intr,
    idles := some n }

/-- Ends the request of a station: what it leaves in memory, then its completion. -/
def State.endRequest (s : State) (n status errinfo : Nat) (info : Word) : State :=
  match (s.station n).req with
  | none => s
  | some r =>
    let s0 := s.dropUnits n
    let s1 := r.xforms.foldl (fun st t => st.writeNextIv r.zone t) s0
    let w := if status = 1 then s1.saveStreams r.zone r.xforms else { s := s1 }
    let done : Nat × Nat × Word := match w.err with
      | some (e, a) => ((ioStatus 4 e).1, (ioStatus 4 e).2, BitVec.ofNat 64 a)
      | none => (status, errinfo, info)
    let out := if r.outbound ∧ r.status.isNone ∧ r.se ≠ 0 then r.movedBy r.acked s.freeVal else r.done
    let s2 := if r.outbound ∧ ¬ r.keepsLength then w.s.drawn else w.s
    let r1 := { r with closing := true, done := out, xforms := r.xforms.map (fun t => { t with unit := none, parked := false }) }
    (s2.setStation n { s2.station n with req := some r1 }).complete r.ring (r1.completion n done.1 done.2.1 done.2.2)

/-! ## Frames of an exchange (R332 to R336) -/

/-- Sends a frame of a station's exchange on its path. -/
def State.sendX (s : State) (n : Nat) (f : Frame) : State :=
  match (s.station n).req with
  | some r =>
    match r.port with
    | some p =>
      let e := s.path p n
      s.transmit p { f with partner := pePartner e, station := peUnit e, xid := r.xid,
                            flags := f.flags ||| (if r.redrives = 0 then 0 else 2) }
    | none => s
  | none => s

/-- Aborts the exchange at the partner: the station enters HALTING, and the request will end as given. -/
def State.abortExchange (s : State) (n status errinfo : Nat) (info : Word) : State :=
  let s1 := (s.dropUnits n).modReq n (fun r => { r with ending := some (status, errinfo, info), resume := none,
                                                        due := false,
                                                        xforms := r.xforms.map (fun t => { t with unit := none }) })
  (s1.setStation n { s1.station n with state := 3 }).sendX n { typ := 0x24 }

/-- A request fails: at once before any command, else through HALTING (Table 13.9). -/
def State.failRequest (s : State) (n status errinfo : Nat) (info : Word) : State :=
  if (s.station n).state = 1 then s.endRequest n status errinfo info
  else if (s.station n).state = 2 then s.abortExchange n status errinfo info
  else s

/-- The MAXPAY of the exchange's path. -/
def State.xMaxpay (s : State) (p n : Nat) : Nat :=
  match SMap.find? (s.cport p).logins (pePartner (s.path p n)) with
  | some l => maxpayBytes (minNat (s.linkMaxpay p) l.maxpay)
  | none => maxpayBytes (s.linkMaxpay p)

/-- Transform output of a port that is held unacknowledged (R306, R333). -/
def State.heldOn (s : State) (p : Nat) : Nat :=
  (s.css.stations.map (fun (x : Nat × Station) =>
    match x.2.req with
    | some r => if r.port = some p ∧ r.outbound ∧ r.xform.isSome then r.sent - r.acked else 0
    | none => 0)).sum

/-- Sends the outbound data that is at hand, as DATA frames; `fuel` bounds their number. -/
def State.pumpData (n : Nat) : Nat → State → State
  | 0, s => s
  | k + 1, s =>
    match (s.station n).req with
    | none => s
    | some r =>
      match r.port with
      | none => s
      | some p =>
        let size := minNat (s.xMaxpay p n) (r.total - r.sent)
        let room := r.xform.isNone ||
          (decide (r.sent + size - r.acked ≤ 131072) && decide (s.heldOn p + size ≤ 294912))
        if (s.station n).state ≠ 2 ∨ r.resume.isSome ∨ ¬ r.outbound ∨ size = 0 ∨ r.link.length < r.sent + size ∨ ¬ room then s
        else
          let f : Frame := { typ := 0x21, flags := b2n (r.sent + size == r.total), xoff := r.sent, cidx := r.cidx,
                             payload := (r.link.drop r.sent).take size }
          State.pumpData n k ((s.modReq n (fun q => { q with sent := q.sent + size })).sendX n f)

/-- Sends what can be sent of a station's data. -/
def State.pump1 (s : State) (n : Nat) : State :=
  match (s.station n).req with
  | some r => State.pumpData n (r.total + 1) s
  | none => s

/-- Sends CMD of the entry in progress (R332). -/
def State.sendCmd (s : State) (n : Nat) : State :=
  match (s.station n).req with
  | some r =>
    let xform := if r.outbound then decide (r.total ≠ r.count) && r.xform.isSome else !r.keepsLength
    let v := r.word % 2 ^ 8 + 2 ^ 8 * r.count + 2 ^ 32 * b2n xform + 2 ^ 33 * b2n (r.word.testBit 12) +
      2 ^ 34 * b2n (r.word.testBit 9)
    s.sendX n { typ := 0x20, cidx := r.cidx, payload := leBytes 8 v }
  | none => s

/-! ## Paths (R307, R308) -/

/-- A path of a station is usable. -/
def State.pathUsable (s : State) (p n : Nat) : Bool :=
  let e := s.path p n
  peValid e && peEn e && s.cpUp p && !(s.cport p).lossDue && s.loggedIn p (pePartner e)

/-- select of R307. -/
def State.selectPath (s : State) (n : Nat) (lost : List Nat) : Option Nat :=
  ((List.range 16).filter (fun p => s.pathUsable p n && !lost.contains p)).foldl (fun b p =>
    match b with
    | none => some p
    | some q =>
      let kp := (pePref (s.path p n), s.xopen p)
      let kq := (pePref (s.path q n), s.xopen q)
      if kp.1 < kq.1 ∨ (kp.1 = kq.1 ∧ kp.2 < kq.2) then some p else b) none

/-- RESUME of a station's exchange (Table 14.5). -/
def State.sendResume (s : State) (n : Nat) : State :=
  match (s.station n).req with
  | some r => s.sendX n { typ := 0x26, cidx := r.cidx,
                          payload := leBytes 8 s.moduleId ++ leBytes 8 (if r.outbound then 0 else r.rxoff) }
  | none => s

/-- Re-drives an exchange on another path, where there is one (R308, R336). -/
def State.redrive (s : State) (n : Nat) : State :=
  match (s.station n).req with
  | some r =>
    match s.selectPath n r.lost with
    | some q =>
      let s1 := (s.modReq n (fun r => { r with port := some q, lastPort := q, redrives := r.redrives + 1,
                                               resume := some 0 })).count bCss F.CSS_CNT_REDRIVES
      s1.sendResume n
    | none => s.modReq n (fun r => { r with port := none, resume := none })
  | none => s

/-- The path of an open exchange is lost for its request. -/
def State.pathLost (s : State) (n p : Nat) : State :=
  let s1 := s.modReq n (fun r => { r with lost := p :: r.lost, port := none, resume := none })
  if (s1.station n).state = 2 then s1.redrive n else s1

/-! ## Script entries (R297 to R300) -/

/-- What reading a script entry answers: the state, and the entry (address and its two words) or how the request
ends (STATUS, ERRINFO, failing address) with the address and word of the entry it ends on, where one has been read. -/
structure SeRead where
  s : State
  res : Except (Nat × Nat × Nat × Option (Nat × Nat)) (Nat × Nat × Nat)

/-- Reads the 16 bytes of an entry. -/
def State.readSe (s : State) (zone : Option Nat) (a : Nat) : SeRead :=
  let r := s.zoneRead zone a 16
  match r.err with
  | some (e, x) => { s := r.s, res := .error ((ioStatus 0 e).1, (ioStatus 0 e).2, x, none) }
  | none =>
    if r.poison then { s := r.s, res := .error (0x0F, 1, a, none) }
    else { s := r.s, res := .ok (a, leNat (r.data.take 8), leNat (r.data.drop 8)) }

/-- The ERRINFO of an entry other than JUMP that breaks a rule of R299; 0 where it breaks none. -/
def seCheck (xforms : List Transform) (w a : Nat) : Nat :=
  let cmd := w % 2 ^ 8 / 2 ^ 5
  let count := w / 2 ^ 16 % 2 ^ 24
  let xsel := w / 2 ^ 40 % 2 ^ 8
  let outbound := cmd == 1 || cmd == 3
  if cmd = 0 ∨ 6 ≤ cmd then 1
  else if w / 2 ^ 14 % 4 ≠ 0 ∨ w / 2 ^ 48 ≠ 0 ∨ a / 2 ^ 48 ≠ 0 ∨ (cmd = 4 ∧ w % 32 ≠ 0) ∨ (¬ w.testBit 11 ∧ xsel ≠ 0) then 2
  else if count = 0 ∧ cmd ≠ 3 then 3
  else if w.testBit 13 ∧ (cmd ≠ 2 ∨ w.testBit 10 ∨ w.testBit 11) then 4
  else if w.testBit 11 then
    match xforms[xsel]? with
    | none => 5
    | some t => if (t.kind % 2 == 1) == outbound then 0 else 6
  else 0

/-- An entry is a JUMP. -/
def seJump (w : Nat) : Bool := w % 2 ^ 8 / 2 ^ 5 == 5

/-- Fetches and checks the entry at an address, through at most one JUMP. -/
def State.fetchSe (s : State) (r : Request) (a : Nat) (first : Bool) : SeRead :=
  let check := fun (q : SeRead) =>
    match q.res with
    | .ok (x, w, d) =>
      if seCheck r.xforms w d = 0 then q else { s := q.s, res := .error (0x04, seCheck r.xforms w d, 0, some (x, w)) }
    | .error _ => q
  let q := s.readSe r.zone a
  match q.res with
  | .error _ => q
  | .ok (x, w, d) =>
    if ¬ seJump w then check q
    else if w / 2 ^ 48 ≠ 0 ∨ w / 2 ^ 14 % 4 ≠ 0 ∨ d / 2 ^ 48 ≠ 0 ∨ w % 32 ≠ 0 then { s := q.s, res := .error (0x04, 2, 0, some (x, w)) }
    else if first ∨ w / 2 ^ 8 ≠ 0 then { s := q.s, res := .error (0x04, 7, 0, some (x, w)) }
    else if d % 16 ≠ 0 then { s := q.s, res := .error (0x04, 8, 0, some (x, w)) }
    else
      let t := q.s.readSe r.zone d
      match t.res with
      | .error (st, ei, e, _) => { s := t.s, res := .error (st, ei, e, some (x, w)) }
      | .ok (y, v, _) => if seJump v then { s := t.s, res := .error (0x04, 7, 0, some (y, v)) } else check t

/-- What reading an indirect list answers. -/
structure Places where
  s : State
  res : Except (Nat × Nat × Nat) (List (Nat × Nat))

/-- The elements of an indirect list that `count` bytes take; `fuel` bounds their number. -/
def State.readList (zone : Option Nat) : Nat → State → Nat → Nat → Places
  | 0, s, _, _ => { s := s, res := .ok [] }
  | k + 1, s, a, count =>
    if count = 0 then { s := s, res := .ok [] }
    else
      let r := s.zoneRead zone a 16
      match r.err with
      | some (e, x) => { s := r.s, res := .error ((ioStatus 1 e).1, (ioStatus 1 e).2, x) }
      | none =>
        let len := leNat ((r.data.drop 8).take 3)
        if r.poison then { s := r.s, res := .error (0x0F, 1, a) }
        else if len = 0 ∨ leNat (r.data.drop 11) ≠ 0 then { s := r.s, res := .error (0x04, 9, 0) }
        else
          let n := minNat len count
          let q := State.readList zone k r.s (a + 16) (count - n)
          { s := q.s, res := q.res.map (fun l => (leNat (r.data.take 8), n) :: l) }

/-- The memory of an entry's data. -/
def State.dataPlaces (s : State) (zone : Option Nat) (w a : Nat) : Places :=
  let count := w / 2 ^ 16 % 2 ^ 24
  if ¬ w.testBit 10 then { s := s, res := .ok [(a, count)] }
  else if a % 16 ≠ 0 then { s := s, res := .error (0x04, 9, 0) }
  else State.readList zone (count + 1) s a count

/-- A run of bytes cut at the boundaries of 128-byte lines; `fuel` bounds the pieces. -/
def linePieces : Nat → Nat → Nat → List (Nat × Nat)
  | 0, _, _ => []
  | k + 1, a, n =>
    if n = 0 then []
    else
      let m := minNat n (128 - a % 128)
      (a, m) :: linePieces k (a + m) (n - m)

/-- The pieces of several runs. -/
def allPieces (l : List (Nat × Nat)) : List (Nat × Nat) := l.flatMap (fun x => linePieces (x.2 / 128 + 2) x.1 x.2)

/-- What reading or writing data answers: the bytes read, or STATUS, ERRINFO and the failing address. -/
structure DataRead where
  s : State
  res : Except (Nat × Nat × Nat) (List Byte)

/-- Reads data piece by piece; a poisoned line or a refused access ends it. -/
def State.readData (zone : Option Nat) : List (Nat × Nat) → State → DataRead
  | [], s => { s := s, res := .ok [] }
  | (a, n) :: rest, s =>
    let r := s.zoneRead zone a n
    match r.err with
    | some (e, x) => { s := r.s, res := .error ((ioStatus 2 e).1, (ioStatus 2 e).2, x) }
    | none =>
      if r.poison then { s := r.s, res := .error (0x0F, 1, a) }
      else
        let q := State.readData zone rest r.s
        { s := q.s, res := q.res.map (fun l => r.data ++ l) }

/-- The part of several runs from an offset on. -/
def placesFrom : Nat → List (Nat × Nat) → List (Nat × Nat)
  | _, [] => []
  | off, (a, n) :: rest => if n ≤ off then placesFrom (off - n) rest else (a + off, n - off) :: rest

/-- Writes data into runs of memory. -/
def State.writeData (zone : Option Nat) : List (Nat × Nat) → List Byte → State → DataRead
  | [], _, s => { s := s, res := .ok [] }
  | (a, n) :: rest, l, s =>
    if l.isEmpty then { s := s, res := .ok [] }
    else
      let r := s.zoneWrite 4 zone a (l.take n)
      match r.err with
      | some (e, x) => { s := r.s, res := .error ((ioStatus 3 e).1, (ioStatus 3 e).2, x) }
      | none => State.writeData zone rest (l.drop n) r.s

/-! ## Inline transforms (R303, R304, R372, R379, R403) -/

/-- Changes the transform of the entry in progress. -/
def Request.modXform (r : Request) (f : Transform → Transform) : Request :=
  if r.word.testBit 11 then
    let k := r.word / 2 ^ 40 % 2 ^ 8
    { r with xforms := r.xforms.zipIdx.map (fun x => if x.2 = k then f x.1 else x.1) }
  else r

def Transform.ciphers (t : Transform) : Bool := [1, 2, 5, 6].contains t.kind
def Transform.compresses (t : Transform) : Bool := decide (3 ≤ t.kind) && decide (t.kind ≤ 6)

/-- The bytes of plaintext, or of sealed data, that one unit of a transform covers. -/
def Transform.chunk (t : Transform) (enc : Bool) : Nat :=
  if t.cmode = 1 then 2 ^ t.seglog + (if enc then 0 else t.taglen) else 65536

/-- The link bytes of a message of `k` plaintext bytes. -/
def Transform.sealedLength (t : Transform) (k : Nat) : Nat :=
  if t.cmode = 1 then k + t.taglen * (if k = 0 then 1 else (k + 2 ^ t.seglog - 1) / 2 ^ t.seglog) else k

/-- The IV, counter block or tweak of unit `i` of a command, and NEXT_IV once it has been formed. `base` counts the
segments, blocks or data units before the command. -/
def Transform.unitIv (t : Transform) (base i : Nat) : List Byte :=
  if t.cmode = 1 then segmentIv t.iv (base + i)
  else if t.cmode = 3 then ctrNext t.iv (16 * (base + 4096 * i))
  else xtsNext t.iv t.dulog (2 ^ t.dulog * (base + 2 ^ (16 - t.dulog) * i))

/-- How many segments, blocks or data units a unit of `k` input bytes forms. -/
def Transform.formed (t : Transform) (k : Nat) : Nat :=
  if t.cmode = 1 then 1 else if t.cmode = 3 then (k + 15) / 16 else (k + 2 ^ t.dulog - 1) / 2 ^ t.dulog

/-- NEXT_IV after a unit that started from `iv`. -/
def Transform.ivAfter (t : Transform) (iv : List Byte) (k : Nat) : List Byte :=
  if t.cmode = 1 then sealedNext iv 1
  else if t.cmode = 3 then ctrNext iv k
  else xtsNext iv t.dulog k

/-- Queues cipher units of a station's command: `pieces` continue its results; the last of them ends the message. -/
def State.queueUnits (s : State) (n : Nat) (pieces : List (List Byte)) (final : Bool) : State :=
  match (s.station n).req with
  | none => s
  | some r =>
    match r.xform with
    | none => s
    | some t =>
      let start := r.results.length
      let us := pieces.zipIdx.map (fun x =>
        ({ inline := true, owner := n, job := r.word / 2 ^ 40 % 2 ^ 8, index := start + x.2, input := x.1,
           iv := t.unitIv t.segs x.2, last := final && x.2 + 1 == pieces.length } : CUnit))
      let formed := (pieces.map (fun l => t.formed l.length)).sum
      let s1 := { s with cUnits := s.cUnits ++ us }
      s1.modReq n (fun q => { q.modXform (fun x => { x with segs := x.segs + formed }) with
        results := q.results ++ pieces.map (fun _ => none) })

/-- Cuts a message of plaintext into the pieces of a transform. -/
def Transform.cut (t : Transform) (l : List Byte) : List (List Byte) :=
  if t.cmode = 1 ∧ l.isEmpty then [[]] else chop (t.chunk true) (l.length / t.chunk true + 1) l

/-- The stream of a transform, opened at its first use: restored from ZSTATE, or new (R394, R395, R403). The second
part is the end of the request where that fails. -/
def State.openStream (s : State) (n : Nat) : State × Option (Nat × Nat × Word) :=
  match (s.station n).req with
  | none => (s, none)
  | some r =>
    match r.xform with
    | none => (s, none)
    | some t =>
      let compress := t.kind % 2 == 1
      let fresh := ZState.new compress t.zparm 0
      let put := fun (st : State) (z : ZState) =>
        st.modReq n (fun q => q.modXform (fun x => { x with stream := some z, opened := true }))
      if t.opened then
        (if zCont t.zparm ∧ t.stream.isSome then (s, none) else (put s fresh, none))
      else if t.zstate = 0 then (put s fresh, none)
      else
        let h := s.zoneRead r.zone t.zstate 64
        match h.err with
        | some (e, a) => (h.s, some ((ioStatus 4 e).1, (ioStatus 4 e).2, BitVec.ofNat 64 a))
        | none =>
          if h.poison then (h.s, some (0x0F, 1, BitVec.ofNat 64 t.zstate))
          else if leNat (h.data.take 4) = 0 then (put h.s fresh, none)
          else
            let b := h.s.zoneRead r.zone t.zstate 40960
            match b.err with
            | some (e, a) => (b.s, some ((ioStatus 4 e).1, (ioStatus 4 e).2, BitVec.ofNat 64 a))
            | none =>
              match zRestore compress t.zparm b.data with
              | some z => (put b.s { z with zparm := t.zparm, tables := 0 }, none)
              | none => (b.s, some (0x0D, 3, 0))

/-- A unit of a kind that is in service and free (R404): compressors 0 to 7, decompressors 8 to 15. -/
def zPage (u : Nat) : Page := if u < 8 then ⟨.compressor, u⟩ else ⟨.decompressor, u - 8⟩

/-- The unit holds work: a descriptor job or an inline stream. -/
def State.zUnitBusy (s : State) (u : Nat) : Bool :=
  s.zJobs.any (fun j => j.unit == some u) ||
  s.css.stations.any (fun (x : Nat × Station) => x.2.req.any (fun r => r.xforms.any (fun t => t.unit == some u && !t.parked)))

/-- A unit in service. -/
def State.zUnitOk (s : State) (u : Nat) : Bool := s.running (zPage u) && s.flag (zPage u).base F.RUN && !s.flag (zPage u).base F.FAULT

/-- The lowest free unit of a direction. -/
def State.zFreeUnit (s : State) (compress : Bool) : Option Nat :=
  ((List.range 8).map (fun i => if compress then i else i + 8)).find? (fun u =>
    s.present (zPage u) && s.zUnitOk u && !s.zUnitBusy u)

/-- Gives the entry's transform a unit, where it needs one and holds none; false where none is free. -/
def State.takeUnit (s : State) (n : Nat) : State × Bool :=
  match (s.station n).req with
  | none => (s, true)
  | some r =>
    match r.xform with
    | none => (s, true)
    | some t =>
      if ¬ t.compresses ∨ (t.unit.isSome ∧ ¬ t.parked) then (s, true)
      else if t.parked ∨ (s.flag bComp F.QUIESCE ∧ ¬ t.opened) then (s, false)
      else
        match s.zFreeUnit (t.kind % 2 == 1) with
        | some u => (s.modReq n (fun q => q.modXform (fun x => { x with unit := some u })), true)
        | none => (s, false)

/-- The whole outbound message of an entry's data: compressed where its transform does so. -/
def State.outMessage (s : State) (n : Nat) (data : List Byte) : State × List Byte :=
  match (s.station n).req with
  | none => (s, data)
  | some r =>
    match r.xform with
    | none => (s, data)
    | some t =>
      if t.compresses then
        let z := t.stream.getD (ZState.new true t.zparm 0)
        let cont := zCont t.zparm
        let d := zCompress z [] data cont cont
        let s1 := s.modReq n (fun q => q.modXform (fun x => { x with stream := some d.z }))
        let u := t.unit.getD 0
        (s1.count (zPage u).base F.ZU_CNT_BYTES data.length, d.out)
      else (s, data)

/-- Starts the command of an entry: its data is read or made ready, CMD is sent, and outbound data follows. The
station becomes ACTIVE. A fault ends the request. -/
def State.startCommand (s : State) (n se w a : Nat) : State :=
  match (s.station n).req with
  | none => s
  | some r0 =>
    let s1 := s.modReq n (fun r => { r with
      se := se, word := w, addr := a, due := false, link := [], total := 0, sent := 0, acked := 0, rxoff := 0,
      rxbuf := [], done := 0, results := [], given := 0, ended := false, tooLong := false, status := none, retries := 0,
      cidx := if r0.se = 0 then 0 else r0.cidx + 1 })
    let pl := s1.dataPlaces r0.zone w a
    match pl.res with
    | .error (st, ei, x) => pl.s.failRequest n st ei (BitVec.ofNat 64 x)
    | .ok places =>
      let s2 := pl.s.modReq n (fun r => { r with places := places })
      let outbound := w % 2 ^ 8 / 2 ^ 5 == 1 || w % 2 ^ 8 / 2 ^ 5 == 3
      let rd : DataRead := if outbound then State.readData r0.zone (allPieces places) s2 else { s := s2, res := .ok [] }
      match rd.res with
      | .error (st, ei, x) => rd.s.failRequest n st ei (BitVec.ofNat 64 x)
      | .ok data =>
        let comp := ((rd.s.station n).req.bind (fun r => r.xform)).any (fun t => t.compresses)
        let op := if comp then rd.s.openStream n else (rd.s, none)
        match op.2 with
        | some (st, ei, x) => op.1.failRequest n st ei x
        | none =>
          let m := if outbound then op.1.outMessage n data else (op.1, [])
          let s3 := m.1
          let xf := (s3.station n).req.bind (fun r => r.xform)
          let s4 := if ¬ outbound then s3
            else
              match xf with
              | some t =>
                if t.ciphers then
                  (s3.queueUnits n (t.cut m.2) true).modReq n (fun r => { r with total := t.sealedLength m.2.length })
                else s3.modReq n (fun r => { r with link := m.2, total := m.2.length })
              | none => s3.modReq n (fun r => { r with link := m.2, total := m.2.length })
          let fresh := (s.station n).state == 1
          let xid := if s4.css.lastXid + 1 = 2 ^ 32 then 1 else s4.css.lastXid + 1
          let s5 := if fresh then
              ({ s4 with css := { s4.css with lastXid := xid } }).modReq n (fun r => { r with xid := xid })
            else s4
          let s6 := (s5.setStation n { s5.station n with state := 2 }).modReq n (fun r => { r with commands := r.commands + 1 })
          (s6.sendCmd n).pump1 n

/-- Fetches the next entry of a script and starts its command. -/
def State.startEntry (s : State) (n a : Nat) (first : Bool) : State :=
  match (s.station n).req with
  | none => s
  | some r =>
    let q := s.fetchSe r a first
    match q.res with
    | .error (st, ei, x, seen) =>
      (q.s.modReq n (fun r =>
        match seen with
        | some (a, w) => { r.between with se := a, word := w }
        | none => r)).failRequest n st ei (BitVec.ofNat 64 x)
    | .ok (se, w, d) =>
      let s1 := q.s.modReq n (fun r => { r.between with word := w })
      let u := s1.takeUnit n
      if u.2 then u.1.startCommand n se w d
      else q.s.modReq n (fun r => { r with due := true })

/-! ## Inbound data -/

/-- Passes memory-side bytes of an inbound command on (R302): COUNT bytes at most are stored or counted. -/
def State.storeInbound (s : State) (n : Nat) (l : List Byte) : State :=
  match (s.station n).req with
  | none => s
  | some r =>
    let room := r.count - r.done
    let keep := l.take room
    let s1 := if room < l.length then s.modReq n (fun q => { q with tooLong := true }) else s
    if r.word.testBit 13 then s1.modReq n (fun q => { q with done := q.done + keep.length })
    else
      let w := State.writeData r.zone (placesFrom r.done r.places) keep s1
      match w.res with
      | .error (st, ei, x) => w.s.failRequest n st ei (BitVec.ofNat 64 x)
      | .ok _ => w.s.modReq n (fun q => { q with done := q.done + keep.length })

/-- A compression outcome that ends the request of a station (R403). -/
def State.streamFails (s : State) (n errinfo : Nat) (counted : Bool) : State :=
  (if counted then s.count bComp F.COMP_CNT_FORMAT_ERR else s).failRequest n 0x0D errinfo 0

/-- Decompresses bytes of an inbound command, and passes on what they give. -/
def State.inflateInbound (s : State) (n : Nat) (l : List Byte) : State :=
  match (s.station n).req with
  | none => s
  | some r =>
    match r.xform with
    | none => s
    | some t =>
      match t.stream with
      | none => s
      | some z =>
        if z.phase = 6 then (if l.isEmpty then s else s.streamFails n 2 false)
        else
          let d := zDecompress z l (r.count - r.done + 1)
          let u := t.unit.getD 8
          let s1 := (s.modReq n (fun q => q.modXform (fun x => { x with stream := some d.z }))).count (zPage u).base
            F.ZU_CNT_BYTES d.out.length
          if d.stop = .format ∨ d.stop = .mismatch then s1.streamFails n 2 true
          else
            let s2 := s1.storeInbound n d.out
            if d.stop = .ended ∧ (d.used < l.length) then s2.streamFails n 2 false else s2

/-- Passes on plaintext of an inbound command, or the link data of one without a cipher. -/
def State.passInbound (s : State) (n : Nat) (l : List Byte) : State :=
  match ((s.station n).req.bind (fun r => r.xform)) with
  | some t => if t.compresses then s.inflateInbound n l else s.storeInbound n l
  | none => s.storeInbound n l

/-- Takes the link data at hand: straight on, into cipher units, or nowhere yet while the stream has no unit. -/
def State.feedInbound (s : State) (n : Nat) : State :=
  match (s.station n).req with
  | none => s
  | some r =>
    match r.xform with
    | none => (s.modReq n (fun q => { q with rxbuf := [] })).storeInbound n r.rxbuf
    | some t =>
      if t.ciphers then
        let k := t.chunk false
        let whole := r.rxbuf.length / k
        -- the last piece of a message is cut only once its data has ended
        let m := if r.ended then r.rxbuf.length else if whole = 0 then 0
          else (if r.rxbuf.length % k = 0 then (whole - 1) * k else whole * k)
        let pieces := if r.ended ∧ r.rxbuf.isEmpty ∧ r.results.isEmpty ∧ t.cmode = 1 then [[]]
          else chop k (m / k + 1) (r.rxbuf.take m)
        if pieces.isEmpty then s
        else (s.modReq n (fun q => { q with rxbuf := q.rxbuf.drop m })).queueUnits n pieces r.ended
      else if t.parked ∨ t.unit.isNone then s
      else (s.modReq n (fun q => { q with rxbuf := [] })).inflateInbound n r.rxbuf

/-- Passes on, in order, the results of cipher units; `fuel` bounds their number. -/
def State.giveResults (n : Nat) : Nat → State → State
  | 0, s => s
  | k + 1, s =>
    match (s.station n).req with
    | none => s
    | some r =>
      match r.results[r.given]? with
      | some (some l) =>
        let s1 := s.modReq n (fun q => { q with given := q.given + 1 })
        let s2 := if r.outbound then s1.modReq n (fun q => { q with link := q.link ++ l }) else s1.passInbound n l
        State.giveResults n k s2
      | _ => s

/-! ## The end of a command (R302, R332, R334) -/

/-- A command has ended with END alone: its lengths are settled, and the script goes on or ends. -/
def State.commandEnded (s : State) (n : Nat) : State :=
  match (s.station n).req with
  | none => s
  | some r =>
    let short := decide (r.done < r.count)
    let slen := r.word.testBit 12
    if (short ∨ r.tooLong) ∧ ¬ slen then (s.sendX n { typ := 0x23 }).endRequest n 0x03 0 0
    else
      let s1 := s.modReq n (fun q => { q with suppressed := q.suppressed || short || q.tooLong,
                                              overrun := q.overrun || q.tooLong })
      if ¬ r.word.testBit 9 then (s1.sendX n { typ := 0x23 }).endRequest n 0x01 0 0
      else
        let peek := s1.fetchSe r (r.se + 16) false
        match peek.res with
        | .ok (_, w, _) => if w.testBit 8 then s1.modReq n (fun q => { q with due := true }) else s1.startEntry n (r.se + 16) false
        | .error _ => s1.startEntry n (r.se + 16) false

/-- A device status that has arrived is acted on once the command's data is settled (R332). -/
def State.settleStatus (s : State) (n : Nat) : State :=
  match (s.station n).req with
  | none => s
  | some r =>
    match r.status with
    | none => s
    | some (d, xoff) =>
      let waiting := decide (r.given < r.results.length) || !r.rxbuf.isEmpty
      if (s.station n).state ≠ 2 ∨ waiting then s
      else
        let t := r.xform
        let unended := t.any (fun x => x.compresses && x.kind % 2 == 0 && !zCont x.zparm &&
          x.stream.any (fun z => z.phase != 6))
        let moved := if r.outbound then r.movedBy xoff s.freeVal else r.done
        let s0 := if r.outbound ∧ ¬ r.keepsLength then s.drawn else s
        let s1 := s0.modReq n (fun q => { q with done := moved, status := none })
        if d ≠ 1 then (s1.sendX n { typ := 0x23 }).endRequest n 0x02 0 0
        else if unended then s1.streamFails n 2 false
        else s1.commandEnded n

end Sys2Proof.Machine
end

