-- ==== Sys2Proof/Machine/Stations.lean ====
section
/-!
DEFINITION. The rows of stations and rings (*Channel Subsystem: Stations, Paths and Channel Scripts*): doorbells, the
taking and acceptance of entries (R291 to R296), and the engines' own events (R293, R301, R308, R310).
-/

namespace Sys2Proof.Machine

/-! ## Entries (Table 13.3) -/

/-- A submission entry. -/
structure Entry where
  op : Nat
  intr : Bool
  station : Nat
  xcount : Nat
  tmo : Nat
  tag : Word
  script : Nat
  arg : Nat
  malformed : Bool

/-- The entry that 64 bytes spell, with whether it breaks Table 13.3 (R291, step 1 of R295). -/
def readEntry (b : List Byte) : Entry :=
  let w := fun (i : Nat) => leNat ((b.drop (8 * i)).take 8)
  let op := w 0 % 16
  let xcount := w 0 / 2 ^ 32 % 256
  let bad := op == 0 || decide (6 ≤ op) || w 0 / 2 ^ 4 % 16 != 0 || w 0 / 2 ^ 9 % 128 != 0 || w 0 / 2 ^ 40 % 256 != 0 ||
    (b.drop 32).any (fun x => x != 0) ||
    (if op = 1 then w 2 % 16 != 0 || w 3 % 32 != 0 || (xcount == 0 && w 3 != 0)
     else xcount != 0 || w 0 / 2 ^ 48 != 0 || w 2 != 0 || (if op = 5 then decide (256 ≤ w 3) else w 3 != 0))
  { op := op, intr := (w 0).testBit 8, station := w 0 / 2 ^ 16 % 65536, xcount := xcount, tmo := w 0 / 2 ^ 48,
    tag := BitVec.ofNat 64 (w 1), script := w 2, arg := w 3, malformed := bad }

/-- Ends a request at its acceptance. -/
def State.endEntry (s : State) (g : Nat) (e : Entry) (status errinfo : Nat) (info : Word := 0) (state : Nat := 0) :
    State :=
  s.complete g { op := e.op, status := status, station := e.station, errinfo := errinfo, tag := e.tag, info := info,
                 state := state, intr := e.intr }

/-! ## Transform tables (R295 steps 5 and 6, R303, R379, R383, R403, R406) -/

/-- What the reading of a transform table answers: the state, and the transforms or STATUS, ERRINFO and address. -/
structure XformRead where
  s : State
  res : Except (Nat × Nat × Nat) (List Transform)

/-- The cipher engine, or the compression engine, can serve transforms. -/
def State.cipherThere (s : State) : Bool := s.present cipherPage && !s.flag bCipher F.FAULT
def State.compThere (s : State) : Bool := s.present compPage && !s.flag bComp F.FAULT

/-- The parameters of a transform that uses the cipher. -/
def State.readCparam (s : State) (zone : Option Nat) (t : Transform) : XformRead :=
  let r := s.zoneRead zone t.cparam 64
  match r.err with
  | some (e, a) => { s := r.s, res := .error ((ioStatus 4 e).1, (ioStatus 4 e).2, a) }
  | none =>
    if r.poison then { s := r.s, res := .error (0x0F, 1, t.cparam) }
    else
      let p := readParam r.data
      if p.malformed t.cmode (t.cmode == 1) true ∨ ¬ r.s.keyUsable t.slot t.cmode (t.kind % 2 == 0) then
        { s := r.s, res := .error (0x10, 0, 0) }
      else if ¬ r.s.ownsKey zone t.slot then { s := r.s, res := .error (0x06, 2, 0) }
      else { s := r.s, res := .ok [{ t with iv := p.iv, taglen := p.taglen, seglog := p.seglog, dulog := p.dulog }] }

/-- Checks one transform descriptor of 32 bytes, and reads its cipher parameters. -/
def State.checkXform (s : State) (zone : Option Nat) (d : List Byte) : XformRead :=
  let w := fun (i : Nat) => leNat ((d.drop (8 * i)).take 8)
  let t : Transform := { kind := w 0 % 16, slot := w 0 / 2 ^ 16 % 4096, cmode := w 0 / 2 ^ 28 % 16,
                         zparm := w 0 / 2 ^ 32 % 256, cparam := w 1, zstate := w 2 }
  let c := t.ciphers
  let z := t.compresses
  if (¬ c ∧ ¬ z) ∨ w 0 / 2 ^ 4 % 2 ^ 12 ≠ 0 ∨ w 0 / 2 ^ 40 ≠ 0 ∨ w 3 ≠ 0 ∨ (¬ c ∧ t.cparam ≠ 0) then
    { s := s, res := .error (0x10, 0, 0) }
  else if (c ∧ ¬ s.cipherThere) ∨ (z ∧ ¬ s.compThere) then { s := s, res := .error (0x0E, 0, 0) }
  else if (c ∧ (t.cparam % 16 ≠ 0 ∨ ¬ [1, 3, 5].contains t.cmode)) ∨
      (z ∧ (zparmBad (t.kind % 2 == 1) t.zparm ∨ zSync t.zparm ∨ t.zstate % 128 ≠ 0 ∨
            (zCont t.zparm ∧ t.zstate = 0))) then
    { s := s, res := .error (0x10, 0, 0) }
  else if c then s.readCparam zone t
  else { s := s, res := .ok [t] }

/-- Checks the descriptors of a transform table in their order; the first that fails ends the request. -/
def State.checkXforms (zone : Option Nat) : Nat → State → List Byte → XformRead
  | 0, s, _ => { s := s, res := .ok [] }
  | k + 1, s, d =>
    let r := s.checkXform zone (d.take 32)
    match r.res with
    | .error e => { s := r.s, res := .error e }
    | .ok l =>
      let q := State.checkXforms zone k r.s (d.drop 32)
      { s := q.s, res := q.res.map (fun m => l ++ m) }

/-- Reads a transform table of `k` descriptors, then checks them (step 5). -/
def State.readXforms (zone : Option Nat) (k : Nat) (s : State) (a : Nat) : XformRead :=
  if k = 0 then { s := s, res := .ok [] }
  else
    let r := s.zoneRead zone a (32 * k)
    match r.err with
    | some (e, x) => { s := r.s, res := .error ((ioStatus 4 e).1, (ioStatus 4 e).2, x) }
    | none => if r.poison then { s := r.s, res := .error (0x0F, 1, a) } else State.checkXforms zone k r.s r.data

/-! ## State blocks in use (R397) -/

/-- The physical addresses of the stream state blocks of the requests that run. -/
def State.zpasRunning (s : State) : List Nat :=
  s.css.stations.flatMap (fun (x : Nat × Station) =>
    match x.2.req with
    | some r => if r.waits then [] else r.zpas
    | none => []) ++
  s.zJobs.filterMap (fun j => if 1 ≤ j.phase then j.zpa else none)

/-- The physical addresses of the state blocks that transforms name. -/
def State.zpasOf (s : State) (zone : Option Nat) (ts : List Transform) : State × List Nat :=
  ts.foldl (fun x t =>
    if t.compresses ∧ t.zstate ≠ 0 then
      let r := x.1.zonePa zone t.zstate
      match r.res with
      | .ok pa => (r.s, x.2 ++ [pa])
      | .error _ => (r.s, x.2)
    else x) (s, [])

/-! ## Acceptance (R295, Table 13.4) -/

/-- A START is accepted: the station becomes PENDING. -/
def State.acceptStart (s : State) (g : Nat) (zone : Option Nat) (e : Entry) (ts : List Transform) : State :=
  let z := s.zpasOf zone ts
  let s1 := (ts.filter (fun t => t.ciphers)).foldl (fun st t => st.useSlots (st.slotsOf t.slot) true) z.1
  let tmo := if e.tmo = 0 then s.fld bCss F.CSS_CTL_DEF_TMO else e.tmo
  let r : Request := { ring := g, zone := zone, intr := e.intr, tag := e.tag, tmo := tmo, script := e.script,
                       xforms := ts, zpas := z.2, waits := z.2.any (fun a => s1.zpasRunning.contains a) }
  (s1.setStation e.station { s1.station e.station with state := 1, req := some r }).count bCss F.CSS_CNT_STARTS

/-- START, from step 4 on. -/
def State.doStart (s : State) (g : Nat) (zone : Option Nat) (e : Entry) : State :=
  if (s.station e.station).state ≠ 0 then s.endEntry g e 0x07 0
  else
    let x := State.readXforms zone e.xcount s e.arg
    match x.res with
    | .error (st, ei, a) => x.s.endEntry g e st ei (BitVec.ofNat 64 a)
    | .ok ts => x.s.acceptStart g zone e ts

/-- The completion of the request of a station has been handed to its ring and is not yet written. -/
def Station.closing (x : Station) : Bool := x.req.any (fun r => r.closing)

/-- HALT (Table 13.4). A station whose request has ended already is found as IDLE (R296). -/
def State.doHalt (s : State) (g : Nat) (e : Entry) : State :=
  let x := s.station e.station
  if x.state = 0 ∨ x.closing then s.endEntry g e 0x11 1
  else
    let s1 := s.setStation e.station { x with halts := x.halts ++ [{ ring := g, tag := e.tag, intr := e.intr }] }
    if x.state = 3 then s1 else s1.failRequest e.station 0x0A 0 0

/-- CANCEL (Table 13.4). -/
def State.doCancel (s : State) (g : Nat) (e : Entry) : State :=
  let x := s.station e.station
  if x.state = 1 ∧ ¬ x.closing then (s.endRequest e.station 0x0B 0 0).endEntry g e 0x01 0
  else s.endEntry g e 0x11 (if x.state = 0 then 1 else 2)

/-- PATHS of a QUERY (Table 13.8). -/
def State.pathsWord (s : State) (n : Nat) : Word :=
  (s.portsOf n).zipIdx.foldl (fun w x =>
    let p := x.1
    let opened := decide (2 ≤ (s.station n).state) && (s.station n).req.any (fun r => r.port == some p)
    let v := p + 16 + 32 * b2n (peEn (s.path p n)) + 64 * b2n (s.pathUsable p n) + 128 * b2n opened
    w ||| BitVec.ofNat 64 (v * 256 ^ x.2)) 0

/-- Exchanges without a path take one that has become usable (R308). -/
def State.repath (s : State) : State :=
  (s.css.stations.filter (fun (x : Nat × Station) =>
    x.2.state == 2 && x.2.req.any (fun r => r.port.isNone && !r.closing))).foldl
    (fun st (x : Nat × Station) => st.redrive x.1) s

/-- Writes an entry of a path table. -/
def State.setPath (s : State) (p st : Nat) (e : Word) : State :=
  { s with css := { s.css with paths := SMap.set 0 s.css.paths (65536 * p + st) e } }

/-- MODIFY: the EN bit of each path is set from PATHEN, paths counted in ascending port order. -/
def State.doModify (s : State) (g : Nat) (e : Entry) : State :=
  let s1 := (s.portsOf e.station).zipIdx.foldl (fun st x =>
    st.setPath x.1 e.station (putBit (st.path x.1 e.station) 48 (e.arg.testBit x.2))) s
  (s1.endEntry g e 0x01 0).repath

/-- The checks of R295 up to step 3, then the request. -/
def State.acceptEntry (s : State) (g : Nat) (zone : Option Nat) (e : Entry) : State :=
  if e.malformed then s.endEntry g e 0x10 0
  else if zone.isSome ∧ s.stationOwner e.station ≠ zone then s.endEntry g e 0x06 1
  else if e.op = 5 ∧ 2 ^ (s.portsOf e.station).length ≤ e.arg then s.endEntry g e 0x10 0
  else if e.op = 1 then s.doStart g zone e
  else if e.op = 2 then s.doHalt g e
  else if e.op = 3 then s.doCancel g e
  else if e.op = 4 then
    s.endEntry g e 0x01 0 (s.pathsWord e.station) (s.station e.station).state
  else s.doModify g e

/-- A ring has an entry that the engines may take. -/
def State.ringReady (s : State) (g : Nat) : Bool :=
  let x := s.ring g
  s.enginesServe && (s.ringPlace g).isSome && !x.error && !x.stalled && x.cons != x.target &&
  !s.flag bCss F.QUIESCE && (g != 1024 || decide (3 ≤ s.mode))

/-- What the entry at SUB_CONS of a ring reads as; none where it cannot be read. -/
def State.headEntry (s : State) (g : Nat) : State × Option (RingPlace × Entry) :=
  match s.ringPlace g with
  | none => (s, none)
  | some p =>
    let r := s.zoneRead p.zone (p.submission (s.ring g).cons) 64
    if r.err.isSome ∨ r.poison then (r.s, none) else (r.s, some (p, readEntry r.data))

/-- Takes the entry at the head of a ring, or stops the ring until a slot or a station frees (R293). -/
def State.takeHead (s : State) (g : Nat) (p : RingPlace) (e : Entry) : State :=
  let stall := fun (st : State) => st.setRing g { st.ring g with stalled := true }
  if e.op = 1 ∧ 4096 ≤ s.outOfIdle then stall s
  else
    let r := s.reserveSlotOf g p
    if r.2 then (r.1.takeEntry g p).acceptEntry g p.zone e
    else if (r.1.ring g).error then r.1
    else stall r.1

/-- The row of an OP at the head of a ring: an entry that cannot be read, or whose OP is reserved, is START's. -/
def takeOp (m : String) (ops : Nat → Bool) (unread : Bool) (g : Nat) (s : State) : Host.Outcome State Fault Refusal :=
  let h := s.headEntry g
  match h.2 with
  | some (p, e) => event m (s.ringReady g && ops e.op) s (h.1.takeHead g p e)
  | none =>
    event m (s.ringReady g && unread) s
      (match s.ringPlace g with
       | some p => h.1.ringError g p 2 0
       | none => s)

/-- START (R295): the entry at the head of a ring, where its OP is START or reserved. -/
def execStart (ring : Fin 1025) (s : State) : Host.Outcome State Fault Refusal :=
  takeOp "START" (fun op => decide (op ≤ 1) || decide (6 ≤ op)) true ring.val s

/-- HALT (R295). -/
def execHalt (ring : Fin 1025) (s : State) : Host.Outcome State Fault Refusal :=
  takeOp "HALT" (fun op => op == 2) false ring.val s

/-- CANCEL (R295). -/
def execCancel (ring : Fin 1025) (s : State) : Host.Outcome State Fault Refusal :=
  takeOp "CANCEL" (fun op => op == 3) false ring.val s

/-- QUERY (R295). -/
def execQuery (ring : Fin 1025) (s : State) : Host.Outcome State Fault Refusal :=
  takeOp "QUERY" (fun op => op == 4) false ring.val s

/-- MODIFY (R295). -/
def execModify (ring : Fin 1025) (s : State) : Host.Outcome State Fault Refusal :=
  takeOp "MODIFY" (fun op => op == 5) false ring.val s

/-! ## Unsolicited status (R309) -/

/-- Delivers the unsolicited status that a station holds, where its ring has a slot. -/
def State.deliverUnsol (s : State) (n : Nat) : State :=
  let x := s.station n
  match x.unsol with
  | none => s
  | some (d, port) =>
    let g := peAring (s.path port n)
    match s.ringPlace g with
    | none => s
    | some p =>
      if (s.ring g).error then s
      else
        let r := s.reserveSlotOf g p
        if r.2 then
          (r.1.setStation n { r.1.station n with unsol := none }).complete g
            { op := 0, status := 0x12, station := n, path := port, dstat := d, intr := true }
        else r.1

/-- The stations that hold unsolicited status for a ring. -/
def State.unsolFor (s : State) (g : Nat) : List Nat :=
  s.css.stations.filterMap (fun (x : Nat × Station) =>
    match x.2.unsol with
    | some (_, port) => if peAring (s.path port x.1) = g then some x.1 else none
    | none => none)

/-! ## Doorbells (R292, R314, R352) -/

/-- The ESE completes the entries of a ring itself (R314); `fuel` bounds them. -/
def State.drainRing (g : Nat) : Nat → State → State
  | 0, s => s
  | k + 1, s =>
    let x := s.ring g
    if x.error ∨ x.cons = x.target then s
    else
      let h := s.headEntry g
      match h.2 with
      | none =>
        (match s.ringPlace g with
         | some p => h.1.ringError g p 2 0
         | none => s)
      | some (p, e) =>
        let r := h.1.reserveSlotOf g p
        if r.2 then State.drainRing g k ((r.1.takeEntry g p).endEntry g e 0x09 0)
        else r.1.setRing g { r.1.ring g with stalled := !(r.1.ring g).error }

/-- A doorbell that the doorbell page or the global page has accepted. -/
def State.cssDoorbell (s : State) (g v : Nat) : State :=
  if s.flag bCss F.CSS_STAT_ESE_DRAIN then State.drainRing g 4097 (s.ringDoorbell g v)
  else if s.enginesServe then (s.unsolFor g).foldl State.deliverUnsol (s.ringDoorbell g v)
  else { s with css := { s.css with doorbells := s.css.doorbells ++ [(g, v)] } }

/-- RING_SLOT_RETRY (R293): 10 µs later, the entry of a stopped ring, or unsolicited status that waits, is tried
again. -/
def execRingSlotRetry (ring : Fin 1025) (s : State) : Host.Outcome State Fault Refusal :=
  let g := ring.val
  let s1 := (s.unsolFor g).foldl State.deliverUnsol s
  let s2 := s1.setRing g { s1.ring g with stalled := false }
  let drain := s.flag bCss F.CSS_STAT_ESE_DRAIN
  event "RING_SLOT_RETRY" (((s.ring g).stalled || !(s.unsolFor g).isEmpty) && (s.enginesServe || drain)) s
    (if drain then State.drainRing g 4097 s2 else s2)

/-! ## The engines' own events -/

/-- A station's request, unless it has ended already. -/
def State.openReq (s : State) (n : Nat) : Option Request :=
  match (s.station n).req with
  | some r => if r.closing then none else some r
  | none => none

/-- STATION_COMMAND_SENT (R310): a path is selected, the first entry fetched and checked, and its command sent. -/
def execStationCommandSent (station : BitVec 16) (s : State) : Host.Outcome State Fault Refusal :=
  let n := station.toNat
  match s.openReq n, s.selectPath n [] with
  | some r, some p =>
    event "STATION_COMMAND_SENT" (s.enginesServe && (s.station n).state == 1 && !r.waits) s
      ((s.modReq n (fun q => { q with port := some p, lastPort := p })).startEntry n r.script true)
  | _, _ => event "STATION_COMMAND_SENT" false s s

/-- BARRIER_SE_FETCH (R301): the earlier entries have ended, and the next one is read now. -/
def execBarrierSeFetch (station : BitVec 16) (s : State) : Host.Outcome State Fault Refusal :=
  let n := station.toNat
  match s.openReq n with
  | some r =>
    event "BARRIER_SE_FETCH" (s.enginesServe && (s.station n).state == 2 && r.due) s
      ((s.modReq n (fun q => { q with due := false })).startEntry n (r.se + 16) false)
  | none => event "BARRIER_SE_FETCH" false s s

/-- An exchange ends with NO_PATH; once it has sent a command it is abandoned (R335). -/
def State.noPath (s : State) (n : Nat) : State :=
  match s.openReq n with
  | some r =>
    let l := if s.css.abandoned.length < 64 then s.css.abandoned else s.css.abandoned.drop 1
    let s1 := if 0 < r.commands then { s with css := { s.css with abandoned := l ++ [(r.xid, n)] } } else s
    s1.endRequest n 0x08 0 0
  | none => s

/-- PATHWAIT_EXPIRY (R308). -/
def execPathwaitExpiry (station : BitVec 16) (s : State) : Host.Outcome State Fault Refusal :=
  let n := station.toNat
  match s.openReq n with
  | some r =>
    let st := (s.station n).state
    event "PATHWAIT_EXPIRY"
      (s.enginesServe && (st == 1 || (st == 2 && r.port.isNone)) && (s.selectPath n r.lost).isNone) s
      (s.noPath n)
  | none => event "PATHWAIT_EXPIRY" false s s

/-- TIME_LIMIT_EXPIRY (R310). -/
def execTimeLimitExpiry (station : BitVec 16) (s : State) : Host.Outcome State Fault Refusal :=
  let n := station.toNat
  match s.openReq n with
  | some r =>
    event "TIME_LIMIT_EXPIRY" (s.enginesServe && r.tmo != 0 && decide ((s.station n).state ≤ 2)) s
      (s.failRequest n 0x0C 0 0)
  | none => event "TIME_LIMIT_EXPIRY" false s s

/-- The request of a station in HALTING ends. -/
def State.haltingEnds (s : State) (n : Nat) : State :=
  match s.openReq n with
  | some r =>
    match r.ending with
    | some (st, ei, a) => s.endRequest n st ei a
    | none => s
  | none => s

/-- HALTING_TIMEOUT (R310). -/
def execHaltingTimeout (station : BitVec 16) (s : State) : Host.Outcome State Fault Refusal :=
  let n := station.toNat
  event "HALTING_TIMEOUT" (s.enginesServe && (s.station n).state == 3 && (s.openReq n).isSome) s (s.haltingEnds n)

/-! ## Register writes (R288, R305, R337) -/

/-- A PT_DATA write that gives a station a ninth path, or two stations of a port one PARTNER and UNIT, is refused. -/
def ptRefused (s : State) (p off : Nat) (v : Word) : List Fld :=
  let st := s.fld (bCport p) F.PT_SEL_STATION
  if off = 0x408 ∧ peValid v ∧
      ((¬ peValid (s.path p st) ∧ 8 ≤ (s.portsOf st).length) ∨
       (s.pathsOn p).any (fun x => x.1 != st && pePartner x.2 == pePartner v && peUnit x.2 == peUnit v)) then
    [F.PT_DATA_PARTNER, F.PT_DATA_VALID, F.PT_DATA_PREF, F.PT_DATA_UNIT, F.PT_DATA_ARING, F.PT_DATA_ARING_EN]
  else []

/-- The entry that PT_DATA stores: EN equals VALID. -/
def peStored (v : Word) : Word := putBit (BitVec.ofNat 64 (bits v 0 43)) 48 (peValid v)

/-- PT_DATA stores an entry with EN equal to VALID, and PT_SEL moves on. -/
def ptWrote (p off : Nat) (v : Word) (s : State) : State :=
  if off = 0x408 then
    let st := s.fld (bCport p) F.PT_SEL_STATION
    let s2 := (s.setPath p st (peStored v)).setFld (bCport p) F.PT_SEL_STATION (st + 1)
    if s2.cpUp p && !(s2.cport p).lossDue then s2.startLogins p else s2
  else s

/-- A CSS_ZRT write whose range overlaps another zone's, or runs beyond ring 1,023, is refused (R288). -/
def zrtRefused (s : State) (z : Nat) (v : Word) : Bool :=
  let a := zrtFirst v
  let b := zrtFirst v + zrtCount v
  Nat.blt 1024 b ||
  (List.range 256).any (fun y => y != z && zrtCount (s.zrt y) != 0 && zrtCount v != 0 &&
    decide (zrtFirst (s.zrt y) < b) && decide (a < zrtFirst (s.zrt y) + zrtCount (s.zrt y)))

end Sys2Proof.Machine
end

