-- ==== Sys2Proof/Machine/Exchange.lean ====
section
/-!
DEFINITION. Logins, the loss of a link, and the frames of an exchange (*Channel Port Link Protocol*, R328 to R337).
-/

namespace Sys2Proof.Machine

/-! ## Delivered frames -/

/-- The sequenced frame that a port delivers next, where it is of a TYPE. -/
def State.inFrame (s : State) (p typ : Nat) : Option Frame :=
  match (s.cport p).inbox with
  | f :: _ => if f.typ = typ ∧ ¬ (s.cport p).lossDue then some f else none
  | [] => none

/-- The frame has been acted on. -/
def State.inTaken (s : State) (p : Nat) : State :=
  s.setCport p { s.cport p with inbox := (s.cport p).inbox.drop 1 }

/-- The row of a delivered frame of a TYPE: `act` follows its removal. -/
def onFrame (m : String) (typ : Nat) (engines : Bool) (p : Nat) (s : State) (act : Frame → State → State) :
    Host.Outcome State Fault Refusal :=
  match s.inFrame p typ with
  | some f => event m (s.mode != 10 && (!engines || s.enginesServe)) s (act f (s.inTaken p))
  | none => event m false s s

/-- The station whose open exchange a frame on a port belongs to (R336). -/
def State.stationOfX (s : State) (p : Nat) (f : Frame) : Option Nat :=
  (s.css.stations.filterMap (fun (x : Nat × Station) =>
    match x.2.req with
    | some r => if r.xid = f.xid ∧ r.xid ≠ 0 ∧ r.port = some p ∧ ¬ r.closing then some x.1 else none
    | none => none)).head?

/-! ## Loss of the link (R328) -/

/-- Every exchange on a port loses its path. -/
def State.dropPaths (s : State) (p : Nat) : State :=
  { s with css := { s.css with stations := s.css.stations.map (fun (x : Nat × Station) =>
      match x.2.req with
      | some r =>
        if r.port = some p ∧ ¬ r.closing then
          (x.1, { x.2 with req := some { r with lost := p :: r.lost, port := none, resume := none } })
        else x
      | none => x) } }

/-- CHANNEL_LINK_LOSS (R328): frames are discarded, paths are lost, and the port retrains. -/
def execChannelLinkLoss (p : Fin 16) (s : State) : Host.Outcome State Fault Refusal :=
  let x := s.cport p.val
  let b := bCport p.val
  let starts := if s.cpUp p.val then 0 else x.starts + 1
  let s1 := s.setCport p.val { x.restarted with starts := starts }
  let s2 := ((s1.count b F.CP_CNT_LINK_DOWN).raiseErr (cportPage p.val) 8).setFld b F.CP_STAT_PEER_KIND 0
  let next := if ¬ s.flag b F.RUN ∨ x.down then 0 else if 16 ≤ starts then 6 else 5
  let s3 := ((s2.cpGo p.val next).setFld b F.CP_STAT_LANES 0).dropPaths p.val
  event "CHANNEL_LINK_LOSS" (x.lossDue && s.mode != 10) s (if s.enginesServe then s3.repath else s3)

/-! ## Logins (R330, R331) -/

/-- ABORT goes out for the abandoned exchanges of a partner address (R335). -/
def State.abortAbandoned (s : State) (p a : Nat) : State :=
  let hit := fun (x : Nat × Nat) => peValid (s.path p x.2) && pePartner (s.path p x.2) == a
  let s1 := (s.css.abandoned.filter hit).foldl (fun st x =>
    st.transmit p { typ := 0x24, partner := a, station := peUnit (s.path p x.2), xid := x.1 }) s
  { s1 with css := { s1.css with abandoned := s1.css.abandoned.filter (fun x => !hit x) } }

/-- LOGIN_ACK (R330). -/
def execLoginAck (p : Fin 16) (s : State) : Host.Outcome State Fault Refusal :=
  onFrame "LOGIN_ACK" 0x11 false p.val s (fun f t =>
    match SMap.find? (t.cport p.val).logins f.partner with
    | some l =>
      if l.state ≠ 1 ∧ l.state ≠ 4 then t
      else
        let r := f.num 0 1
        if r = 0 then
          let l1 : Login := { state := 2, tries := 0, result := 0, unit := BitVec.ofNat 64 (f.num 8 8),
                              maxpay := minNat (t.linkMaxpay p.val) (f.num 1 1 % 4) }
          let t1 := t.setLogin p.val f.partner l1
          if t.enginesServe then (t1.abortAbandoned p.val f.partner).repath else t1
        else
          (t.setLogin p.val f.partner { l with state := 3, tries := 0, result := r }).raiseErr (cportPage p.val) 10
    | none => t)

/-- LOGIN_TIMEOUT (R330, R331): a LOGIN is unanswered, or the address is due to be tried again. -/
def execLoginTimeout (p : Fin 16) (partner : BitVec 12) (s : State) : Host.Outcome State Fault Refusal :=
  let a := partner.toNat
  match SMap.find? (s.cport p.val).logins a with
  | some l =>
    event "LOGIN_TIMEOUT"
      (s.cpUp p.val && !(s.cport p.val).lossDue && s.mode != 10 &&
       (l.state == 1 || l.state == 4 || (l.state == 3 && l.result == 2))) s
      (if l.state = 1 ∧ l.tries < 4 then s.sendLogin p.val a 1 (l.tries + 1)
       else if l.state = 1 then (s.setLogin p.val a { l with state := 4 }).raiseErr (cportPage p.val) 10
       else if l.state = 4 then s.sendLogin p.val a 4 l.tries
       else s.sendLogin p.val a 1 1)
  | none => event "LOGIN_TIMEOUT" false s s

/-- The exchanges open with a partner address. -/
def State.openWith (s : State) (p a : Nat) : List Nat :=
  s.css.stations.filterMap (fun (x : Nat × Station) =>
    if 2 ≤ x.2.state ∧ pePartner (s.path p x.1) = a ∧ x.2.req.any (fun r => r.port == some p && !r.closing) then some x.1
    else none)

/-- LOGOUT (R331). -/
def execLogout (p : Fin 16) (s : State) : Host.Outcome State Fault Refusal :=
  onFrame "LOGOUT" 0x12 true p.val s (fun f t =>
    match SMap.find? (t.cport p.val).logins f.partner with
    | some l =>
      if l.state ≠ 2 then t
      else
        let t1 := t.setLogin p.val f.partner { l with state := 1, tries := 0 }
        (t.openWith p.val f.partner).foldl (fun st n =>
          if (st.station n).state = 3 then st.haltingEnds n else st.noPath n) t1
    | none => t)

/-! ## Exchange protocol errors (R332, R336) -/

/-- XPROTO counts, and BLK_ERR.PROTO is set. -/
def State.protoCount (s : State) (p : Nat) : State :=
  (s.count (bCport p) F.CP_CNT_PROTO_XPROTO).raiseErr (cportPage p) 9

/-- An exchange protocol error: the path is lost for the request. -/
def State.protoError (s : State) (p n last : Nat) : State :=
  match s.openReq n with
  | some r =>
    let w := fun (k : Nat) => BitVec.ofNat 64 k
    ((s.protoCount p).crumb (cportPage p) 0x0A02 4 [w p, w (pePartner (s.path p n)), w n, w r.xid, w r.cidx, w last]
      (s.stationOwner n)).pathLost n p
  | none => s

/-! ## Inbound data (R332) -/

/-- New link bytes of the current command. -/
def State.takeData (s : State) (p n : Nat) (r : Request) (f : Frame) (bufErr : Bool) : State :=
  if r.outbound ∨ r.cidx < f.cidx ∨ r.rxoff < f.xoff then s.protoCount p
  else if f.cidx < r.cidx ∨ f.xoff + f.payload.length ≤ r.rxoff then s
  else if r.ended then s.protoCount p
  else if bufErr then
    let at_ : Nat := match placesFrom r.done r.places with
      | (a, _) :: _ => a
      | [] => 0
    s.failRequest n 0x0F 2 (BitVec.ofNat 64 at_)
  else
    let new := f.payload.drop (r.rxoff - f.xoff)
    (s.modReq n (fun q => { q with rxoff := q.rxoff + new.length, rxbuf := q.rxbuf ++ new,
                                   ended := f.flags.testBit 0 })).feedInbound n

/-- CHANNEL_DATA (R332); `bufErr` tells of an uncorrectable error of the channel buffer in the data (R312). -/
def execChannelData (p : Fin 16) (bufErr : Bool) (s : State) : Host.Outcome State Fault Refusal :=
  onFrame "CHANNEL_DATA" 0x21 true p.val s (fun f t =>
    match t.stationOfX p.val f with
    | some n =>
      match t.openReq n with
      | some r =>
        if (t.station n).state ≠ 2 ∨ r.resume.isSome then t
        else (t.modReq n (fun q => { q with heard := true })).takeData p.val n r f bufErr
      | none => t
    | none => t)

/-! ## Device status and acknowledgements (R332, R333) -/

/-- The device status of the current command. -/
def State.takeStatus (s : State) (p n : Nat) (r : Request) (d xoff : Nat) : State :=
  let got := minNat xoff r.sent
  let s1 := s.modReq n (fun q => { q with dstat := d, acked := if q.acked < got then got else q.acked })
  if d = 0x20 ∧ r.retries < 4 then
    ((s1.modReq n (fun q => { q with retries := q.retries + 1, ended := false, sent := 0, acked := 0 })).sendCmd n).pump1 n
  else
    let s2 := if d % 2 = 0 ∧ d ≠ 0x20 then s1.count (bCport p) F.CP_CNT_PROTO_XPROTO else s1
    let s3 := s2.modReq n (fun q => { q with ended := true, status := some (d, xoff) })
    let s4 := if r.outbound then s3 else s3.feedInbound n
    s4.settleStatus n

/-- DSTAT (R332). -/
def execDstat (p : Fin 16) (s : State) : Host.Outcome State Fault Refusal :=
  onFrame "DSTAT" 0x22 true p.val s (fun f t =>
    match t.stationOfX p.val f with
    | some n =>
      match t.openReq n with
      | some r =>
        if (t.station n).state ≠ 2 ∨ r.resume.isSome ∨ f.cidx ≠ r.cidx ∨ r.status.isSome ∨ r.due then t
        else (t.modReq n (fun q => { q with heard := true })).takeStatus p.val n r (f.num 0 1) f.xoff
      | none => t
    | none => t)

/-- Outbound data goes on where held output has been freed on a port. -/
def State.pumpPort (s : State) (p : Nat) : State :=
  (s.css.stations.filter (fun (x : Nat × Station) => x.2.state == 2 && x.2.req.any (fun r => r.port == some p))).foldl
    (fun st (x : Nat × Station) => st.pump1 x.1) s

/-- XACK (R333): held output below XOFF is freed. -/
def execXack (p : Fin 16) (s : State) : Host.Outcome State Fault Refusal :=
  onFrame "XACK" 0x2A true p.val s (fun f t =>
    match t.stationOfX p.val f with
    | some n =>
      match t.openReq n with
      | some r =>
        let got := minNat f.xoff r.sent
        if (t.station n).state ≠ 2 ∨ r.resume.isSome then t
        else
          let t1 := t.modReq n (fun q => { q with
            heard := true, acked := if f.cidx = q.cidx ∧ q.outbound ∧ q.acked < got then got else q.acked })
          t1.pumpPort p.val
      | none => t
    | none => t)

/-- ABORT_ACK (R334): a station in HALTING reaches IDLE. -/
def execAbortAck (p : Fin 16) (s : State) : Host.Outcome State Fault Refusal :=
  onFrame "ABORT_ACK" 0x25 true p.val s (fun f t =>
    match t.stationOfX p.val f with
    | some n => if (t.station n).state = 3 then t.haltingEnds n else t
    | none => t)

/-! ## Re-drive (R336, Table 14.4) -/

/-- The CMD of the current command is sent again, with its data from XOFF 0. -/
def State.sendAgain (s : State) (n : Nat) : State :=
  ((s.modReq n (fun q => { q with sent := 0, acked := 0 })).sendCmd n).pump1 n

/-- RESUME_ACK (Table 14.4). -/
def execResumeAck (p : Fin 16) (s : State) : Host.Outcome State Fault Refusal :=
  onFrame "RESUME_ACK" 0x27 true p.val s (fun f t =>
    match t.stationOfX p.val f with
    | some n =>
      match t.openReq n with
      | some r =>
        if (t.station n).state ≠ 2 ∨ r.resume.isNone then t
        else
          let rstate := f.num 0 1
          let cend := (f.num 1 1).testBit 0
          let off := minNat (f.num 8 4) r.sent
          let t1 := t.modReq n (fun q => { q with resume := none, heard := q.heard || rstate == 0 })
          if rstate = 0 ∧ f.cidx = r.cidx ∧ ¬ cend then
            if r.outbound then (t1.modReq n (fun q => { q with sent := off, acked := off })).pump1 n else t1
          else if rstate = 0 ∧ f.cidx = r.cidx then t1
          else if (rstate = 0 ∧ f.cidx + 1 = r.cidx ∧ cend) ∨ (rstate = 1 ∧ ¬ r.heard) then t1.sendAgain n
          else t1.protoError p.val n (rstate + 2 ^ 16 * f.cidx)
      | none => t
    | none => t)

/-- RESUME_TIMEOUT (R336). -/
def execResumeTimeout (station : BitVec 16) (s : State) : Host.Outcome State Fault Refusal :=
  let n := station.toNat
  match s.openReq n with
  | some r =>
    match r.resume, r.port with
    | some k, some p =>
      event "RESUME_TIMEOUT" (s.enginesServe && (s.station n).state == 2) s
        (if k < 3 then (s.modReq n (fun q => { q with resume := some (k + 1) })).sendResume n else s.pathLost n p)
    | _, _ => event "RESUME_TIMEOUT" false s s
  | none => event "RESUME_TIMEOUT" false s s

/-! ## Unsolicited status and refusals (R309, R337) -/

/-- Refuses a frame. -/
def State.reject (s : State) (p : Nat) (f : Frame) (reason : Nat) : State :=
  (s.count (bCport p) F.CP_CNT_PROTO_REJ_TX).transmit p
    { typ := 0x29, partner := f.partner, station := f.station, xid := f.xid, payload := leBytes 8 reason }

/-- UNSOL (R337). -/
def execUnsol (p : Fin 16) (s : State) : Host.Outcome State Fault Refusal :=
  onFrame "UNSOL" 0x28 true p.val s (fun f t =>
    match (t.pathsOn p.val).find? (fun x => pePartner x.2 == f.partner && peUnit x.2 == f.station) with
    | none => t.reject p.val f 3
    | some (n, e) =>
      let d := f.num 0 1
      let z := t.stationOwner n
      if (t.station n).unsol.isSome then t.reject p.val f 2
      else if peAringEn e ∧ z.isSome ∧ t.ringZone (peAring e) = z then
        (t.setStation n { t.station n with unsol := some (d, p.val) }).deliverUnsol n
      else
        let w := fun (k : Nat) => BitVec.ofNat 64 k
        ((t.count bCss F.CSS_CNT_UNSOL_LOST).raiseErr cssPage 9).crumb cssPage 0x0A04 4
          [w p.val, w f.partner, w n, w d, w (peAring e)] z)

/-- REJECT (Table 14.6). -/
def execReject (p : Fin 16) (s : State) : Host.Outcome State Fault Refusal :=
  onFrame "REJECT" 0x29 true p.val s (fun f t =>
    let t1 := t.count (bCport p.val) F.CP_CNT_PROTO_REJ_RX
    let reason := f.num 0 1
    if reason = 1 then
      match t1.stationOfX p.val f with
      | some n => if (t1.station n).state = 2 then t1.protoError p.val n 1 else t1
      | none => t1
    else if reason = 4 then
      match SMap.find? (t1.cport p.val).logins f.partner with
      | some l => if l.state = 2 then t1.sendLogin p.val f.partner 1 1 else t1
      | none => t1
    else t1)

end Sys2Proof.Machine
end

