-- ==== Sys2Proof/Machine/MemoryUnit.lean ====
section
/-!
DEFINITION. Memory groups and channels: reads and writes of stripes, patrol scrub, the loss of a channel and the
rebuild of a group (*Main Memory Channels*, R482 to R495).
-/

namespace Sys2Proof.Machine

def groupPage (g : Nat) : Page := ⟨.group, g⟩
def chanPage (c : Nat) : Page := ⟨.chan, c⟩

/-- STATE of a group. -/
def State.groupState (s : State) (g : Nat) : Nat := s.fld (bGroup g) F.GRP_STAT_STATE

/-- STATE of a channel: 2 data, 3 parity, 4 lost. -/
def State.chanState (s : State) (c : Nat) : Nat := s.fld (bChan c) F.CH_STAT_STATE

/-- MEM_STAT follows the groups. -/
def State.memStat (s : State) : State :=
  let mask := fun (st : Nat) => (List.range 4).foldl (fun m g => if s.groupState g = st then m + 2 ^ g else m) 0
  ((s.setFld bMem F.MEM_STAT_OFFLINE (mask 5)).setFld bMem F.MEM_STAT_UNPROT (mask 4)).setFld bMem
    F.MEM_STAT_REBUILDING (mask 3)

/-- A group changes state; BLK_ERR.UNPROT is set when it leaves 2 (R495). -/
def State.setGroup (s : State) (g st : Nat) : State :=
  let s1 := (s.setFld (bGroup g) F.GRP_STAT_STATE st).memStat
  if s.groupState g = 2 ∧ st ≠ 2 then s1.raiseErr (groupPage g) 8 else s1

/-! ## Layout (R484, R491, R492) -/

/-- The stripes of a group. -/
def State.stripes (s : State) (g : Nat) : Nat := s.fld (bChan (5 * g)) F.CH_STAT_GIB * 2 ^ 24

/-- The channel of data position q of a group, as the layout of a stripe has it; none where the piece is implied
by parity: its channel is lost and the stripe has not been rebuilt. -/
def State.pieceChannel (s : State) (g q stripe : Nat) : Option Nat :=
  let on := (List.range 5).find? (fun i => s.chanState (5 * g + i) == 2 && s.fld (bChan (5 * g + i)) F.CH_STAT_POS == q)
  match on with
  | some i => some (5 * g + i)
  | none =>
    if s.groupState g = 3 ∧ stripe < s.fld (bGroup g) F.GRP_REBUILD_PTR then some (s.fld (bGroup g) F.GRP_STAT_PARITY_CH)
    else none

/-- Whether a stripe of a group has a parity piece. -/
def State.hasParity (s : State) (g stripe : Nat) : Bool :=
  s.groupState g == 2 || (s.groupState g == 3 && decide (s.fld (bGroup g) F.GRP_REBUILD_PTR ≤ stripe))

/-- The local address of an address within a group (the inverse of R484). -/
def State.localOf (s : State) (g l : Nat) : Nat :=
  if s.flag bMem F.MEM_MAP_ILV then
    let n := s.populated.length
    ((l / 4096) * n + (s.populated.findIdx (fun x => x == g))) * 4096 + l % 4096
  else s.fld (bGroup g) F.GRP_STAT_BASE * 2 ^ 30 + l

/-- A line number within the module's memory as a line of the domain. -/
def State.localLine (s : State) (a : Nat) : Nat := s.moduleId * 2 ^ 37 + a / 128

/-! ## Reads (R486) -/

/-- How a read of one line of a stripe is resolved. `bad` and `fixed` are masks of the stripe's pieces: bits 0 to 3
the data positions, bit 4 parity. -/
def State.lineResolved (s : State) (g stripe h bad : Nat) : Bool × List Nat :=
  let mine := [2 * h, 2 * h + 1]
  let gone := fun (q : Nat) => (s.pieceChannel g q stripe).isNone
  let lostHere := mine.filter gone
  let badHere := mine.filter (fun q => !gone q && bad.testBit q)
  let all := (List.range 4).filter (fun q => gone q || bad.testBit q)
  if lostHere.isEmpty ∧ badHere.isEmpty then (true, [])
  else if lostHere.isEmpty then
    (s.hasParity g stripe && all.length == 1 && !bad.testBit 4 && s.groupState g == 2, badHere)
  else (all.length == 1 && !bad.testBit 4, [])

/-- A line that memory cannot serve is served poisoned: counted, recorded and reported by the channel of its first
uncorrectable piece, its own pieces first. -/
def State.servedPoisoned (s : State) (g stripe h bad line : Nat) : State :=
  let q := ([2 * h, 2 * h + 1, 0, 1, 2, 3, 4].find? (fun q => bad.testBit q)).getD (2 * h)
  let c := if q = 4 then s.fld (bGroup g) F.GRP_STAT_PARITY_CH else (s.pieceChannel g q stripe).getD (5 * g)
  let s1 := (s.setPoison line true).count (bChan c) F.CH_CNT_POISONED
  let s2 := ((s1.setFld (bChan c) F.CH_ERRADDR_ADDR line).setFlag (bChan c) F.CH_ERRADDR_UE true).raiseErr (chanPage c) 9
  s2.crumbOpen (chanPage c) 0x0600 [BitVec.ofNat 64 (128 * line)]

/-- One line of a stripe is read under R486. -/
def State.readStripeLine (s : State) (g stripe h bad line : Nat) : State :=
  if SMap.get false s.poison (line % 2 ^ 37) then s
  else
    let r := s.lineResolved g stripe h bad
    if r.1 then r.2.foldl (fun st q => st.count (bChan ((s.pieceChannel g q stripe).getD 0)) F.CH_CNT_UE_FIXED) s
    else s.servedPoisoned g stripe h bad line

/-- Corrected pieces are counted on their channels. -/
def State.countCorrected (s : State) (g stripe fixed : Nat) (pieces : List Nat) : State :=
  pieces.foldl (fun st q =>
    if fixed.testBit q then
      match (if q = 4 then some (st.fld (bGroup g) F.GRP_STAT_PARITY_CH) else st.pieceChannel g q stripe) with
      | some c => if c < 20 then st.count (bChan c) F.CH_CNT_CE else st
      | none => st
    else st) s

/-- The group serves requests: protected, rebuilding or unprotected. -/
def State.groupServes (s : State) (g : Nat) : Bool := decide (2 ≤ s.groupState g) && decide (s.groupState g ≤ 4)

/-- The pieces that a read of line h of a stripe looks at: its own two, and all when one of them is missing. -/
def State.piecesRead (s : State) (g stripe h bad : Nat) : List Nat :=
  let mine := [2 * h, 2 * h + 1]
  if mine.any (fun q => (s.pieceChannel g q stripe).isNone || bad.testBit q) then [0, 1, 2, 3, 4] else mine

/-- MEMORY_READ (R486): a line is read; `fixed` are the pieces that their code corrected, `bad` those it could not. -/
def execMemoryRead (line : BitVec 36) (fixed : BitVec 5) (bad : BitVec 5) (s : State) :
    Host.Outcome State Fault Refusal :=
  let a := 128 * line.toNat
  let g := s.groupOf a
  let l := s.groupAddr a
  let stripe := l / 256
  let h := l / 128 % 2
  event "MEMORY_READ"
    (s.uncoreUp && decide (a < s.usable) && (s.groupServes g || s.groupState g == 5) && fixed &&& bad == 0) s
    (if s.groupState g = 5 then s
     else (s.countCorrected g stripe fixed.toNat (s.piecesRead g stripe h bad.toNat)).readStripeLine g stripe h bad.toNat
       (s.localLine a))

/-- MEMORY_WRITE (R485): a line is written, with its stripe's partner where that waits. -/
def execMemoryWrite (line : BitVec 36) (data : BitVec 1024) (poison : Bool) (s : State) :
    Host.Outcome State Fault Refusal :=
  let a := 128 * line.toNat
  let n := s.localLine a
  let s1 := s.putMemLine n (leBytes 128 data.toNat) poison
  let rest := s1.home.partnerWait.filter (fun l => l / 2 != n / 2)
  event "MEMORY_WRITE" (s.uncoreUp && decide (a < s.usable)) s
    { s1 with home := { s1.home with partnerWait := rest } }

/-- STRIPE_PARTNER_WAIT_EXPIRY (R485): no partner came within 64 uncore cycles; the line is written alone. -/
def execStripePartnerWaitExpiry (line : BitVec 36) (s : State) : Host.Outcome State Fault Refusal :=
  let n := s.localLine (128 * line.toNat)
  event "STRIPE_PARTNER_WAIT_EXPIRY" (s.uncoreUp && s.home.partnerWait.contains n) s
    { s with home := { s.home with partnerWait := s.home.partnerWait.filter (fun l => l != n) } }

/-! ## Scrub (R488) -/

/-- SCRUB_STRIPE (R488): the next stripe of a group is read whole, corrected and its parity put right. -/
def execScrubStripe (g : Fin 4) (fixed : BitVec 5) (bad : BitVec 5) (parityWrong : Bool) (s : State) :
    Host.Outcome State Fault Refusal :=
  let stripe := SMap.get 0 s.scrub g.val
  let line := fun (h : Nat) => s.localLine (s.localOf g.val (256 * stripe + 128 * h))
  let s1 := s.countCorrected g.val stripe fixed.toNat [0, 1, 2, 3, 4]
  let s2 := (s1.readStripeLine g.val stripe 0 bad.toNat (line 0)).readStripeLine g.val stripe 1 bad.toNat (line 1)
  let s3 := if bad.toNat % 16 = 0 ∧ (parityWrong ∨ bad.toNat.testBit 4) ∧ s.groupState g.val = 2 then
      s2.count (bGroup g.val) F.GRP_CNT_PAR_FIX
    else s2
  let last := decide (s.stripes g.val ≤ stripe + 1)
  let s4 := { s3 with scrub := SMap.set 0 s3.scrub g.val (if last then 0 else stripe + 1) }
  event "SCRUB_STRIPE"
    (s.uncoreUp && (s.groupState g.val == 2 || s.groupState g.val == 4) && decide (stripe < s.stripes g.val) &&
     fixed &&& bad == 0) s
    (if last then s4.count (bGroup g.val) F.GRP_CNT_PASSES else s4)

/-! ## The loss of a channel (R490 to R493) -/

/-- Some group other than g has four or more working channels. -/
def State.otherGroupServes (s : State) (g : Nat) : Bool := (List.range 4).any (fun k => k != g && s.groupServes k)

/-- A group falls to three working channels (R493). -/
def State.groupDown (s : State) (g : Nat) : State :=
  let s0 := if s.groupState g = 3 then s.recoveryEnds (.rebuild g) else s
  if ¬ s.otherGroupServes g then s0.checkStop 7 [s0.reg (bMem + F.MEM_STAT_OFFLINE.off)]
  else (((s0.setGroup g 5).raiseErr (groupPage g) 9).crumb (groupPage g) 0x0900 4 [BitVec.ofNat 64 g]).refreshMode

/-- A channel is lost (R490): what its group does then depends on the group's state. -/
def State.loseChannel (s : State) (c cause : Nat) : State :=
  let g := c / 5
  let parity := s.chanState c == 3
  let s1 := ((s.setFld (bChan c) F.CH_STAT_STATE 4).setFld (bChan c) F.CH_STAT_CAUSE cause).raiseErr (chanPage c) 8
  let s2 := s1.crumb (chanPage c) 0x0900 3 [BitVec.ofNat 64 c]
  if s.groupState g = 2 then
    let s3 := s2.setFld (bGroup g) F.GRP_STAT_LOST_CH c
    if parity then (s3.setFld (bGroup g) F.GRP_STAT_PARITY_CH 31).setGroup g 4
    else ((s3.setFld (bGroup g) F.GRP_REBUILD_PTR 0).setGroup g 3).recoveryBegins (.rebuild g)
  else if s.groupServes g then s2.groupDown g
  else s2

/-- A channel works: it holds data or parity. -/
def State.chanWorks (s : State) (c : Nat) : Bool := s.chanState c == 2 || s.chanState c == 3

/-- CHANNEL_LOSS (R490): training (1), persistent command or address parity (2) or a fatal DIMM error (5). -/
def execChannelLoss (c : Fin 20) (cause : BitVec 4) (s : State) : Host.Outcome State Fault Refusal :=
  event "CHANNEL_LOSS"
    (s.uncoreUp && s.chanWorks c.val && (cause.toNat == 1 || cause.toNat == 2 || cause.toNat == 5)) s
    (s.loseChannel c.val cause.toNat)

/-- FAIL of a channel page is refused unless its group is protected (R490). -/
def chanRefused (s : State) (c off : Nat) (v : Word) : List Fld :=
  if off = 0x058 ∧ bit v 0 ∧ s.groupState (c / 5) ≠ 2 then [F.CH_CMD_FAIL] else []

/-- FAIL declares the channel lost. -/
def chanWrote (c off : Nat) (v : Word) (s : State) : State :=
  if off = 0x058 ∧ bit v 0 ∧ s.chanWorks c then s.loseChannel c 4 else s

/-- REBUILD_STRIPE (R491): the rebuilt piece of the next stripe is written over its parity piece. -/
def execRebuildStripe (g : Fin 4) (s : State) : Host.Outcome State Fault Refusal :=
  let ptr := s.fld (bGroup g.val) F.GRP_REBUILD_PTR
  event "REBUILD_STRIPE" (s.uncoreUp && s.groupState g.val == 3 && decide (ptr < s.stripes g.val)) s
    (s.setFld (bGroup g.val) F.GRP_REBUILD_PTR (ptr + 1))

/-- REBUILD_COMPLETE (R491): the former parity channel takes the lost channel's data position. -/
def execRebuildComplete (g : Fin 4) (s : State) : Host.Outcome State Fault Refusal :=
  let b := bGroup g.val
  let parity := s.fld b F.GRP_STAT_PARITY_CH
  let lost := s.fld b F.GRP_STAT_LOST_CH
  let s1 := (s.setFld (bChan parity) F.CH_STAT_STATE 2).setFld (bChan parity) F.CH_STAT_POS
    (s.fld (bChan lost) F.CH_STAT_POS)
  let s2 := ((s1.setFld b F.GRP_STAT_PARITY_CH 31).setGroup g.val 4).raiseErr (groupPage g.val) 10
  event "REBUILD_COMPLETE"
    (s.uncoreUp && s.groupState g.val == 3 && s.fld b F.GRP_REBUILD_PTR == s.stripes g.val) s
    (s2.recoveryEnds (.rebuild g.val))

/-- MEMORY_COUNTER_POLL (R489): the ESE reads a channel's counters and DIMM temperature; `manyCorrected` and
`manyRebuilt` tell that the counts of the last 24 hours pass their thresholds. -/
def execMemoryCounterPoll (c : Fin 20) (temp : BitVec 8) (manyCorrected : Bool) (manyRebuilt : Bool) (s : State) :
    Host.Outcome State Fault Refusal :=
  let s1 := s.setFld (bChan c.val) F.CH_STAT_TEMP temp.toNat
  let s2 := if manyCorrected then s1.crumb (chanPage c.val) 0x0500 2 [BitVec.ofNat 64 c.val] else s1
  let s3 := if 95 < temp.toNat then s2.crumbOpen (chanPage c.val) 0x0C00 [BitVec.ofNat 64 temp.toNat] else s2
  event "MEMORY_COUNTER_POLL" (s.uncoreUp && s.chanWorks c.val) s
    (if manyRebuilt then s3.loseChannel c.val 3 else s3)

end Sys2Proof.Machine
end

