-- ==== Sys2Proof/Machine/DRings.lean ====
section
/-!
DEFINITION. The descriptor rings of the cipher and the compression engine (R375, R378, R400; Table 16.4): doorbells,
errors, and the completion of a descriptor. `comp` selects the engine.
-/

namespace Sys2Proof.Machine

/-- The global page of the engine. -/
def dPage (comp : Bool) : Page := if comp then compPage else cipherPage
def dBase (comp : Bool) : Nat := if comp then bComp else bCipher

/-- The agent of Table 10.3 that the engine accesses memory as. -/
def dAgent (comp : Bool) : Nat := if comp then 6 else 5

/-- A descriptor ring. -/
def State.dRing (s : State) (comp : Bool) (r : Nat) : DRing := SMap.get {} (if comp then s.zRings else s.cRings) r

/-- Writes a descriptor ring. -/
def State.setDRing (s : State) (comp : Bool) (r : Nat) (x : DRing) : State :=
  if comp then { s with zRings := SMap.set {} s.zRings r x } else { s with cRings := SMap.set {} s.cRings r x }

/-- Where a descriptor ring lies. -/
structure DPlace where
  zone : Option Nat
  base : Nat
  index : Nat
  e : Nat

/-- Where a ring lies; 2,048 is the firmware ring. -/
def State.dPlace (s : State) (comp : Bool) (r : Nat) : Option DPlace :=
  if r = 2048 then
    let w := s.reg (dBase comp + 0x058)
    if bit w 0 then some { zone := none, base := bits w 12 32 * 4096, index := 0, e := bits w 4 4 } else none
  else
    let w := s.reg (dBase comp + 0x800 + 8 * (r / 8))
    if bit w 0 then some { zone := some (r / 8), base := bits w 24 36 * 4096, index := r % 8, e := bits w 4 4 } else none

def DPlace.control (p : DPlace) : Nat := p.base + 64 * p.index
def DPlace.desc (p : DPlace) (k : Nat) : Nat := p.base + 4096 + p.index * 2 ^ (p.e + 6) + (k % 2 ^ p.e) * 64

/-- A ring enters error; `value` is the doorbell's for cause 0x1. -/
def State.dError (s : State) (comp : Bool) (r : Nat) (p : DPlace) (cause value : Nat) : State :=
  let x := s.dRing comp r
  let s1 := s.setDRing comp r { x with error := true, cause := cause }
  let s2 := (s1.zoneWrite (dAgent comp) p.zone (p.control + 8) (leBytes 8 (1 + 2 ^ 8 * cause + 2 ^ 32 * x.resetSeen))).s
  (s2.raiseErr (dPage comp) 8).crumb (dPage comp) 0x0A03 4
    ([BitVec.ofNat 64 cause, BitVec.ofNat 64 p.index] ++ (if cause = 1 then [BitVec.ofNat 64 value] else [])) p.zone

/-- Marks the jobs of a ring that its reset leaves behind. -/
def State.orphanJobs (s : State) (comp : Bool) (r : Nat) : State :=
  if comp then { s with zJobs := s.zJobs.map (fun j => if j.ring = r then { j with orphan := true } else j) }
  else { s with cJobs := s.cJobs.map (fun j => if j.ring = r then { j with orphan := true } else j) }

/-- Ring reset: the doorbell's value is the new CONS. -/
def State.dReset (s : State) (comp : Bool) (r : Nat) (p : DPlace) (v : Nat) : State :=
  let x := s.dRing comp r
  let s1 := (s.setDRing comp r { x with cons := v, taken := v, target := v, resetSeen := x.resetGen, error := false,
                                        cause := 0 }).orphanJobs comp r
  let w1 := s1.zoneWrite (dAgent comp) p.zone p.control (leBytes 8 v)
  let w2 := w1.s.zoneWrite (dAgent comp) p.zone (p.control + 8) (leBytes 8 (2 ^ 32 * x.resetGen))
  if w1.err.isSome ∨ w2.err.isSome then w2.s.dError comp r p 2 0 else w2.s

/-- The engine acts on a doorbell value (R292, R375). -/
def State.dDoorbell (s : State) (comp : Bool) (r v : Nat) : State :=
  match s.dPlace comp r with
  | none => s
  | some p =>
    let q := s.zoneRead p.zone (p.control + 0x20) 16
    if q.err.isSome ∨ q.poison then (if (s.dRing comp r).error then q.s else q.s.dError comp r p 2 v)
    else
      let n := fun (off k : Nat) => leNat ((q.data.drop off).take k)
      let x := { q.s.dRing comp r with irq := n 0 2 % 2 ^ 13, irqEn := (n 0 2).testBit 15, resetGen := n 8 4 }
      let s1 := q.s.setDRing comp r x
      if x.error then (if x.resetGen = x.resetSeen then s1 else s1.dReset comp r p v)
      else if (v + 2 ^ 32 - x.cons) % 2 ^ 32 ≤ 2 ^ p.e then s1.setDRing comp r { x with target := v }
      else s1.dError comp r p 1 v

/-- A ring has a descriptor that the engine may take. -/
def State.dReady (s : State) (comp : Bool) (r : Nat) : Bool :=
  let x := s.dRing comp r
  s.running (dPage comp) && !s.flag (dBase comp) F.FAULT && !s.flag (dBase comp) F.QUIESCE && (s.dPlace comp r).isSome &&
  !x.error && x.taken != x.target && s.mode != 10

/-- Writes words 0x38 and 0x30 of a descriptor and moves CONS past it; false where an access fails. The descriptor of
a ring that was reset past it moves nothing. -/
def State.dComplete (s : State) (comp : Bool) (r index : Nat) (w30 w38 : Nat) (intr orphan : Bool) : State × Bool :=
  match s.dPlace comp r with
  | none => (s, true)
  | some p =>
    let a := s.zoneWrite (dAgent comp) p.zone (p.desc index + 0x38) (leBytes 8 w38)
    let b := a.s.zoneWrite (dAgent comp) p.zone (p.desc index + 0x30) (leBytes 8 w30)
    if a.err.isSome ∨ b.err.isSome then (b.s.dError comp r p 2 0, false)
    else
      let x := b.s.dRing comp r
      let c := (x.cons + 1) % 2 ^ 32
      let v : Dma := if orphan then { s := b.s } else
        (b.s.setDRing comp r { x with cons := c }).zoneWrite (dAgent comp) p.zone p.control (leBytes 8 c)
      if v.err.isSome then (v.s.dError comp r p 2 0, true)
      else if intr ∧ x.irqEn then
        match v.s.ringIrqFault p.zone x.irq with
        | none => (v.s.sourceEvent x.irq, true)
        | some why => ((v.s.ringIrqBad x.irq why).dError comp r p 3 0, true)
      else (v.s, true)

/-- STATUS and RESULT of a refused access on a descriptor job's behalf (Tables 16.6 and 17.7). -/
def dFault (e : IoErr) (a : Nat) : Nat × Nat :=
  match e with
  | .table => (8, a)
  | _ => (6, a)

end Sys2Proof.Machine
end

