-- ==== Sys2Proof/Machine/Cipher.lean ====
section
/-!
DEFINITION. The cipher engine's work (*Cipher Engine and Key Slots*, R361, R362, R371 to R385): descriptors, units of
work on the pipelines, tags and release buffers, and the faults of the engine. A unit whose output needs no tag ends
where it is taken; one that a tag guards stays in its pipeline until TAG_COMPARE.
-/

namespace Sys2Proof.Machine

def cpipePage (n : Nat) : Page := ⟨.cpipe, n⟩

/-- A pipeline. -/
def State.pipe (s : State) (n : Nat) : CPipe := SMap.get {} s.cPipes n

/-- Writes a pipeline. -/
def State.setPipe (s : State) (n : Nat) (x : CPipe) : State := { s with cPipes := SMap.set {} s.cPipes n x }

/-- A pipeline in service. -/
def State.pipeOk (s : State) (n : Nat) : Bool :=
  s.present (cpipePage n) && s.running (cpipePage n) && !s.flag (bCpipe n) F.FAULT

/-! ## Registers as they read (R384, R385) -/

/-- CIPH_STAT. -/
def State.cipherStat (s : State) : Word :=
  (List.range 16).foldl (fun w n =>
    let w1 := putBit w n (s.pipeOk n)
    putBit w1 (16 + n) ((s.pipe n).unit.isSome)) (BitVec.ofNat 64 (2 ^ 32 * s.loadedSlots))

/-- PIPE_STAT. -/
def State.pipeStat (s : State) (n : Nat) : Word :=
  let x := s.pipe n
  let st := if s.flag (bCpipe n) F.FAULT then 3
    else match x.unit with
      | some u => if u.inline then 1 else 2
      | none => 0
  BitVec.ofNat 64 (st + 16 * b2n (!x.plain.isEmpty))

/-! ## Descriptors (Table 16.5) -/

def CJob.word (j : CJob) (i : Nat) : Nat := j.words.getD i 0
def CJob.cmode (j : CJob) : Nat := j.word 0 % 16
def CJob.decrypts (j : CJob) : Bool := (j.word 0).testBit 4
def CJob.isSealed (j : CJob) : Bool := (j.word 0).testBit 5
def CJob.twopass (j : CJob) : Bool := (j.word 0).testBit 6
def CJob.intr (j : CJob) : Bool := (j.word 0).testBit 8
def CJob.slot (j : CJob) : Nat := j.word 0 / 2 ^ 16 % 4096
def CJob.src (j : CJob) : Nat := j.word 1
def CJob.dst (j : CJob) : Nat := j.word 2
def CJob.len (j : CJob) : Nat := j.word 3 % 2 ^ 32

/-- A job of a sequential kind (R380). -/
def CJob.sequential (j : CJob) : Bool :=
  (j.cmode == 1 && !j.isSealed) || j.cmode == 2 || j.cmode == 6 || (j.cmode == 4 && !j.decrypts)

/-- The source bytes of one unit. -/
def CJob.piece (j : CJob) : Nat :=
  if j.sequential then j.len
  else if j.isSealed then 2 ^ j.seglog + (if j.decrypts then j.taglen else 0)
  else 65536

/-- The units that a job is cut into. -/
def CJob.unitCount (j : CJob) : Nat :=
  let k := (j.len + j.piece - 1) / j.piece
  if j.sequential then 1 else if j.isSealed ∧ k = 0 then 1 else k

/-- The bytes that a job writes to DST when it ends well. -/
def CJob.outBytes (j : CJob) : Nat :=
  if j.cmode = 2 ∨ j.cmode = 6 then 0
  else if j.isSealed then (if j.decrypts then j.len - j.taglen * j.unitCount else j.len + j.taglen * j.unitCount)
  else j.len

/-- A length that Table 16.1 allows. -/
def CJob.lengthOk (j : CJob) : Bool :=
  if j.cmode = 1 then j.isSealed || !j.decrypts || j.twopass || decide (j.len ≤ 65536)
  else if j.cmode = 4 then j.len % 16 == 0 && decide (16 ≤ j.len)
  else if j.cmode = 5 then j.len % 2 ^ j.dulog == 0 || decide (16 ≤ j.len % 2 ^ j.dulog)
  else true

/-- The rules of Table 16.5 that the words of a descriptor break. -/
def CJob.wordsBad (j : CJob) : Bool :=
  let w0 := j.word 0
  j.cmode == 0 || decide (7 ≤ j.cmode) || w0 / 2 ^ 9 % 2 ^ 7 != 0 || w0 / 2 ^ 28 != 0 || j.word 3 / 2 ^ 32 != 0 ||
  (j.isSealed && j.cmode != 1) || (j.twopass && !(j.cmode == 1 && j.decrypts && !j.isSealed)) ||
  j.word 4 % 16 != 0 || ((j.cmode == 2 || j.cmode == 6) && j.dst != 0)

/-- Source and destination overlap in part. -/
def CJob.overlaps (j : CJob) : Bool :=
  j.dst != j.src && decide (j.src < j.dst + j.outBytes) && decide (j.dst < j.src + j.len)

/-- RESULT of a job that has ended `n` of its units: segments, or 16-byte blocks. -/
def CJob.completed (j : CJob) (n : Nat) : Nat :=
  if j.isSealed then n
  else
    let bytes := if n * j.piece < j.len then n * j.piece else j.len
    (bytes + 15) / 16

/-! ## Jobs in progress -/

/-- Changes the job of a unit. -/
def State.modCJob (s : State) (r index : Nat) (f : CJob → CJob) : State :=
  { s with cJobs := s.cJobs.map (fun j => if j.ring = r ∧ j.index = index then f j else j) }

/-- The job of a unit. -/
def State.cJob (s : State) (r index : Nat) : Option CJob := s.cJobs.find? (fun j => j.ring == r && j.index == index)

/-- A job ends; its units are dropped. -/
def State.endCJob (s : State) (j : CJob) (status result : Nat) : State :=
  (s.dropUnitsOf (fun u => !u.inline && u.owner == j.ring && u.job == j.index)).modCJob j.ring j.index (fun x => { x with
    status := status, result := result })

/-- A job ends through an access that was refused, or a poisoned line, before unit `n` ended. -/
def State.faultCJob (s : State) (j : CJob) (e : IoErr) (a : Nat) : State :=
  let f := dFault e a
  s.endCJob j f.1 (if f.1 = 6 then a else j.completed j.ended)

/-- The unit of a job that follows `n` ended ones. -/
def CJob.unitAt (j : CJob) (n : Nat) : CUnit :=
  { inline := false, owner := j.ring, job := j.index, index := n, last := n + 1 == j.unitCount }

/-- A unit of a job has ended: the next is queued, or the job is done. -/
def State.unitEnded (s : State) (j : CJob) (written : Nat) : State :=
  let n := j.ended + 1
  let s1 := s.modCJob j.ring j.index (fun x => { x with ended := n, written := x.written + written })
  if n < j.unitCount then { s1 with cUnits := s1.cUnits ++ [j.unitAt n] }
  else s1.modCJob j.ring j.index (fun x => { x with status := 1, result := j.completed n })

/-- NEXT_IV of a job. -/
def State.setNext (s : State) (j : CJob) (iv : List Byte) : State :=
  s.modCJob j.ring j.index (fun x => { x with next := some iv })

/-! ## Taking a descriptor (R377) -/

/-- What the checks of a descriptor answer: the state, and the job or STATUS and RESULT. -/
structure CJobRead where
  s : State
  res : Except (Nat × Nat) CJob

/-- Steps 1 to 3 of R377. -/
def State.checkCJob (s : State) (j : CJob) : CJobRead :=
  if j.wordsBad then { s := s, res := .error (3, 0) }
  else
    let r := s.zoneRead j.zone (j.word 4) 64
    match r.err with
    | some (e, a) => { s := r.s, res := .error (if (dFault e a).1 = 6 then (6, a) else (8, 0)) }
    | none =>
      let p := readParam r.data
      let k := { j with iv := p.iv, aad := p.aad, aadLen := p.aadLen, taglen := p.taglen, seglog := p.seglog,
                        dulog := p.dulog, tag := p.tag }
      if r.poison then { s := r.s, res := .error (8, 0) }
      else if p.malformed j.cmode j.isSealed false ∨ ¬ k.lengthOk ∨ k.overlaps then { s := r.s, res := .error (3, 0) }
      else if ¬ r.s.ownsKey j.zone j.slot then { s := r.s, res := .error (4, 0) }
      else if ¬ r.s.keyUsable j.slot j.cmode j.decrypts then { s := r.s, res := .error (5, 0) }
      else { s := r.s, res := .ok k }

/-- CIPHER_DESCRIPTOR_TAKEN (R376 to R378): the next descriptor of a ring is checked and its job starts. One with
DEPEND waits until every earlier one has completed. -/
def execCipherDescriptorTaken (ring : Fin 2049) (s : State) : Host.Outcome State Fault Refusal :=
  let r := ring.val
  match s.dPlace false r with
  | none => event "CIPHER_DESCRIPTOR_TAKEN" false s s
  | some p =>
    let x := s.dRing false r
    let d := s.zoneRead p.zone (p.desc x.taken) 64
    let j : CJob := { ring := r, index := x.taken, zone := p.zone,
                      words := (List.range 6).map (fun i => leNat ((d.data.drop (8 * i)).take 8)) }
    let bad := d.err.isSome || d.poison
    let earlier := s.cJobs.any (fun k => k.ring == r)
    let s1 := ((d.s.setDRing false r { x with taken := (x.taken + 1) % 2 ^ 32 })).useSlots (d.s.slotsOf j.slot) true
    let c := s1.checkCJob j
    event "CIPHER_DESCRIPTOR_TAKEN"
      (s.dReady false r && !s.cJobs.any (fun k => k.ring == r && k.orphan) &&
       (bad || !((j.word 0).testBit 7 && earlier))) s
      (if bad then d.s.dError false r p 2 0
       else
         match c.res with
         | .error (st, res) => { c.s with cJobs := c.s.cJobs ++ [{ j with status := st, result := res }] }
         | .ok k =>
           let k1 := { k with units := k.unitCount }
           if k.unitCount = 0 then { c.s with cJobs := c.s.cJobs ++ [{ k1 with status := 1 }] }
           else { c.s with cJobs := c.s.cJobs ++ [k1], cUnits := c.s.cUnits ++ [k.unitAt 0] })

/-! ## Units (R380) -/

/-- Two units belong to one stream. -/
def CUnit.sameStream (u v : CUnit) : Bool := u.inline == v.inline && u.owner == v.owner && u.job == v.job

/-- A unit of a sequential job. -/
def State.seqUnit (s : State) (u : CUnit) : Bool :=
  !u.inline && (s.cJob u.owner u.job).any (fun j => j.sequential)

/-- The units that a free pipeline may take: the first of each stream that no pipeline serves. -/
def State.readyUnits (s : State) : List CUnit :=
  let serving := fun (u : CUnit) => s.cPipes.any (fun (x : Nat × CPipe) => x.2.unit.any (fun v => v.sameStream u))
  let seqs := (s.cPipes.filter (fun (x : Nat × CPipe) => x.2.unit.any (fun v => s.seqUnit v))).length
  let firsts := s.cUnits.filter (fun u => (s.cUnits.find? (fun v => v.sameStream u)) == some u)
  firsts.filter (fun u => !serving u && !(u.inline && s.flag bCipher F.QUIESCE) &&
    !(s.seqUnit u && decide (s.fld bCipher F.CIPH_CTL_SEQ_MAX ≤ seqs)))

/-- The unit that a free pipeline takes. -/
def State.nextUnit (s : State) : Option CUnit :=
  let l := s.readyUnits
  let inl := (s.cPipes.filter (fun (x : Nat × CPipe) => x.2.unit.any (fun v => v.inline))).length
  match l.find? (fun u => u.inline) with
  | some u => if inl < s.fld bCipher F.CIPH_CTL_INLINE_MIN then some u else l.head?
  | none => l.head?

/-- Removes a unit from those that wait. -/
def State.takeCUnit (s : State) (u : CUnit) : State := { s with cUnits := s.cUnits.erase u }

/-- Blocks that a pipeline has processed. -/
def State.countBlocks (s : State) (n len : Nat) : State := s.count (bCpipe n) F.PIPE_CNT_BLOCKS ((len + 15) / 16)

/-! ## Inline units (R303, R372, R373, R379) -/

/-- The XTS result of inline data: a last data unit below 16 bytes has no stated result, and its bytes are open. -/
def State.inlineXts (s : State) (enc : Bool) (slot : Nat) (t : Transform) (iv data : List Byte) : List Byte :=
  let tail := data.length % 2 ^ t.dulog
  let free := (List.range 2).flatMap (fun i => leBytes 8 (Config.freeWord (s.freeCtr + i)).toNat)
  if 0 < tail ∧ tail < 16 then
    let whole := data.take (data.length - tail)
    aesXts enc (s.keyBytes slot) (s.keyBytes (slot + 1)) iv t.dulog whole ++ free.take tail
  else aesXts enc (s.keyBytes slot) (s.keyBytes (slot + 1)) iv t.dulog data

/-- The output of an inline unit has been given back: what follows it in order goes on. -/
def State.inlineDone (s : State) (u : CUnit) (out : List Byte) : State :=
  let s1 := s.modReq u.owner (fun r => { r with results := r.results.set u.index (some out) })
  let k := match (s1.station u.owner).req with
    | some r => r.results.length
    | none => 0
  ((State.giveResults u.owner (k + 1) s1).pump1 u.owner).settleStatus u.owner

/-- Runs an inline unit of a transform on a pipeline. -/
def State.runInline (s : State) (n : Nat) (u : CUnit) (t : Transform) : State :=
  let enc := t.kind % 2 == 1
  let key := s.keyBytes t.slot
  let note := fun (x : Transform) => { x with next := some (x.ivAfter u.iv u.input.length) }
  let s1 := (s.modReq u.owner (fun r => { r with xforms := r.xforms.zipIdx.map (fun x =>
    if x.2 = u.job then note x.1 else x.1) })).countBlocks n u.input.length
  let aad : List Byte := [if u.last then 1 else 0]
  if t.cmode = 1 then
    if enc then
      let ct := gcmData key u.iv u.input
      s1.inlineDone u (ct ++ (gcmTag key u.iv aad ct).take t.taglen)
    else
      let k := u.input.length
      let ct := u.input.take (k - t.taglen)
      let good := decide (t.taglen ≤ k) && !(k == t.taglen && u.index != 0) &&
        (gcmTag key u.iv aad ct).take t.taglen == u.input.drop (k - t.taglen)
      s1.setPipe n { unit := some u, plain := gcmData key u.iv ct, tagOk := good }
  else if t.cmode = 3 then s1.inlineDone u (aesCtr key u.iv u.input)
  else ({ s1 with freeCtr := s1.freeCtr + 2 }).inlineDone u (s1.inlineXts enc t.slot t u.iv u.input)

/-! ## Units of descriptor jobs -/

/-- Writes a unit's output; the unit ends, or the job does. -/
def State.putUnit (s : State) (j : CJob) (off : Nat) (out : List Byte) : State :=
  let w := s.zoneWrite 5 j.zone (j.dst + off) out
  match w.err with
  | some (e, a) => w.s.faultCJob j e a
  | none => w.s.unitEnded j out.length

/-- A tag is written and its job ends, or is held for its comparison with the one in memory. -/
def State.tagOut (s : State) (n : Nat) (j : CJob) (u : CUnit) (tag plain : List Byte) (data : List Byte) : State :=
  if ¬ j.decrypts then
    let w := s.zoneWrite 5 j.zone j.tag tag
    match w.err with
    | some (e, a) => w.s.faultCJob j e a
    | none => w.s.putUnit j 0 data
  else
    let r := s.zoneRead j.zone j.tag j.taglen
    match r.err with
    | some (e, a) => r.s.faultCJob j e a
    | none =>
      if r.poison then r.s.faultCJob j .table 0
      else r.s.setPipe n { unit := some u, plain := plain, tagOk := tag == r.data,
                           verify := if j.twopass then some tag else none }

/-- Runs a unit of a descriptor job, given its source bytes. -/
def State.runUnit (s : State) (n : Nat) (j : CJob) (u : CUnit) (data : List Byte) : State :=
  let key := s.keyBytes j.slot
  let s1 := s.countBlocks n data.length
  let i := u.index
  if j.cmode = 1 ∧ j.isSealed then
    let iv := segmentIv j.iv i
    let aad : List Byte := [if u.last then 1 else 0]
    let s2 := s1.setNext j (sealedNext j.iv (i + 1))
    if ¬ j.decrypts then
      let ct := gcmData key iv data
      s2.putUnit j (i * (2 ^ j.seglog + j.taglen)) (ct ++ (gcmTag key iv aad ct).take j.taglen)
    else
      let k := data.length
      let ct := data.take (k - j.taglen)
      let good := decide (j.taglen ≤ k) && !(k == j.taglen && i != 0) &&
        (gcmTag key iv aad ct).take j.taglen == data.drop (k - j.taglen)
      s2.setPipe n { unit := some u, plain := gcmData key iv ct, tagOk := good }
  else if j.cmode = 1 then
    let r := s1.zoneRead j.zone j.aad j.aadLen
    match r.err with
    | some (e, a) => r.s.faultCJob j e a
    | none =>
      let out := gcmData key j.iv data
      let tag := (gcmTag key j.iv r.data (if j.decrypts then data else out)).take j.taglen
      if r.poison then r.s.faultCJob j .table 0
      else r.s.tagOut n j u tag (if j.twopass then [] else out) out
  else if j.cmode = 2 then s1.tagOut n j u ((gcmTag key j.iv data []).take j.taglen) [] []
  else if j.cmode = 6 then s1.tagOut n j u ((cmacTag key data).take j.taglen) [] []
  else if j.cmode = 3 then
    (s1.setNext j (ctrNext j.iv (65536 * i + data.length))).putUnit j (65536 * i) (aesCtr key (ctrNext j.iv (65536 * i)) data)
  else if j.cmode = 4 then
    let iv := j.next.getD j.iv
    let out := if j.decrypts then cbcDec key iv (blocksOf data) else cbcEnc key iv (blocksOf data)
    let last := if j.decrypts then data.drop (data.length - 16) else out.drop (out.length - 16)
    (s1.setNext j last).putUnit j (65536 * i) out
  else
    let iv := xtsNext j.iv j.dulog (65536 * i)
    (s1.setNext j (xtsNext j.iv j.dulog (65536 * i + data.length))).putUnit j (65536 * i)
      (aesXts (!j.decrypts) key (s.keyBytes (j.slot + 1)) iv j.dulog data)

/-- Reads the source of a unit and runs it. -/
def State.runDescriptor (s : State) (n : Nat) (j : CJob) (u : CUnit) : State :=
  let off := u.index * j.piece
  let r := s.zoneRead j.zone (j.src + off) (minNat j.piece (j.len - off))
  match r.err with
  | some (e, a) => r.s.faultCJob j e a
  | none => if r.poison then r.s.faultCJob j .table 0 else r.s.runUnit n j u r.data

/-- CIPHER_WORK_UNIT (R380): a free pipeline takes a unit. -/
def execCipherWorkUnit (pipe : Fin 16) (s : State) : Host.Outcome State Fault Refusal :=
  let n := pipe.val
  let free := s.pipeOk n && s.running cipherPage && !s.flag bCipher F.FAULT && s.flag (bCpipe n) F.RUN &&
    (s.pipe n).unit.isNone && !(s.pipe n).zeroizing && s.mode != 10
  match s.nextUnit with
  | none => event "CIPHER_WORK_UNIT" false s s
  | some u =>
    let s1 := s.takeCUnit u
    event "CIPHER_WORK_UNIT" free s
      (if u.inline then
         match (s.station u.owner).req.bind (fun r => r.xforms[u.job]?) with
         | some t => s1.runInline n u t
         | none => s1
       else
         match s.cJob u.owner u.job with
         | some j => s1.runDescriptor n j u
         | none => s1)

/-! ## Tags and release (R373, R374) -/

/-- A pipeline gives up its unit; where it held plaintext that is not released, its buffer is zeroized. -/
def State.clearPipe (s : State) (n : Nat) (wipe : Bool) : State :=
  let s1 := s.setPipe n { zeroizing := wipe }
  if wipe then s1.count bCipher F.CIPH_CNT_ZEROIZE else s1

/-- TAG_COMPARE (R373): the plaintext goes to its destination, or the buffer is zeroized. -/
def execTagCompare (pipe : Fin 16) (s : State) : Host.Outcome State Fault Refusal :=
  let n := pipe.val
  let x := s.pipe n
  let failed := (s.clearPipe n true).count bCipher F.CIPH_CNT_TAGFAIL
  match x.unit with
  | none => event "TAG_COMPARE" false s s
  | some u =>
    event "TAG_COMPARE" (x.verify.isNone && s.pipeOk n && s.mode != 10) s
      (if u.inline then
         (if x.tagOk then (s.clearPipe n false).inlineDone u x.plain else failed.failRequest u.owner 0x0D 1 0)
       else
         match s.cJob u.owner u.job with
         | some j =>
           if ¬ x.tagOk then failed.endCJob j 2 (if j.isSealed then u.index else j.completed 0)
           else (s.clearPipe n false).putUnit j (if j.isSealed then u.index * 2 ^ j.seglog else 0) x.plain
         | none => s.clearPipe n true)

/-- RELEASE_BUFFER_ZEROIZED (R373). -/
def execReleaseBufferZeroized (pipe : Fin 16) (s : State) : Host.Outcome State Fault Refusal :=
  event "RELEASE_BUFFER_ZEROIZED" (s.pipe pipe.val).zeroizing s
    (s.setPipe pipe.val { s.pipe pipe.val with zeroizing := false })

/-- The decrypt pass of a two-pass job: the source is read again, the plaintext is written, and the tag is computed a
second time. -/
def State.secondPass (s : State) (j : CJob) (first : List Byte) : State :=
  let key := s.keyBytes j.slot
  let a := s.zoneRead j.zone j.aad j.aadLen
  let r := a.s.zoneRead j.zone j.src j.len
  match a.err, r.err with
  | some (e, x), _ => a.s.faultCJob j e x
  | none, some (e, x) => r.s.faultCJob j e x
  | none, none =>
    if a.poison ∨ r.poison then r.s.faultCJob j .table 0
    else
      let w := r.s.zoneWrite 5 j.zone j.dst (gcmData key j.iv r.data)
      match w.err with
      | some (e, x) => w.s.faultCJob j e x
      | none =>
        let tag := (gcmTag key j.iv a.data r.data).take j.taglen
        if tag = first then w.s.unitEnded j j.len
        else
          let z := w.s.zoneWrite 5 j.zone j.dst (List.replicate j.len 0)
          (z.s.endCJob j 7 (j.completed 0)).modCJob j.ring j.index (fun k => { k with written := j.len })

/-- TWOPASS_VERIFY_COMPLETE (R374). -/
def execTwopassVerifyComplete (pipe : Fin 16) (s : State) : Host.Outcome State Fault Refusal :=
  let n := pipe.val
  let x := s.pipe n
  match x.unit, x.verify with
  | some u, some first =>
    let s1 := s.clearPipe n false
    event "TWOPASS_VERIFY_COMPLETE" (s.pipeOk n && s.mode != 10) s
      (match s.cJob u.owner u.job with
       | some j => if x.tagOk then s1.secondPass j first else (s1.count bCipher F.CIPH_CNT_TAGFAIL).endCJob j 2 (j.completed 0)
       | none => s1)
  | _, _ => event "TWOPASS_VERIFY_COMPLETE" false s s

/-! ## Completion (R371, R378) -/

/-- Removes a job; its use of its slots ends. -/
def State.removeCJob (s : State) (j : CJob) : State :=
  ({ s with cJobs := s.cJobs.filter (fun k => !(k.ring == j.ring && k.index == j.index)) }).useSlots (s.slotsOf j.slot) false

/-- CIPHER_JOB_COMPLETE (R371, R378): the oldest descriptor of a ring completes. -/
def execCipherJobComplete (ring : Fin 2049) (s : State) : Host.Outcome State Fault Refusal :=
  let r := ring.val
  match s.cJobs.find? (fun j => j.ring == r) with
  | none => event "CIPHER_JOB_COMPLETE" false s s
  | some j =>
    let s1 := match j.next with
      | some iv => (s.zoneWrite 5 j.zone (j.word 4 + 0x30) iv).s
      | none => s
    let w := s1.dComplete false r j.index (1 + 2 ^ 8 * j.status + 2 ^ 32 * j.written) j.result j.intr j.orphan
    event "CIPHER_JOB_COMPLETE" (j.status != 0 && !(s.dRing false r).error && s.mode != 10) s
      (if w.2 then w.1.removeCJob j else w.1)

/-! ## Faults (R363, R379, R382) -/

/-- Ends the work of STARTs and jobs that `uses` tells are hit. -/
def State.endCipherWork (s : State) (usesX : Transform → Bool) (usesJ : CJob → Bool) : State :=
  let s1 := (s.cJobs.filter (fun j => j.status == 0 && usesJ j)).foldl (fun st j => st.endCJob j 9 (j.completed j.ended)) s
  (s1.css.stations.filter (fun (x : Nat × Station) =>
    x.2.req.any (fun r => !r.closing && r.xforms.any (fun t => t.ciphers && usesX t)))).foldl
      (fun st (x : Nat × Station) => st.failRequest x.1 0x0E 0 0) s1

/-- The cipher engine as a whole fails. -/
def State.cipherFails (s : State) : State :=
  if s.flag bCipher F.FAULT then s
  else
    let s1 := (s.setFlag bCipher F.FAULT true).setFlag bCipher F.RUNNING false
    ((s1.endCipherWork (fun _ => true) (fun _ => true)).zeroizeKeys 4).crumbOpen cipherPage 0x0900 []

/-- PIPELINE_CHECK_FIRE (R382): a pipeline fails, and its unit will run again. -/
def execPipelineCheckFire (pipe : Fin 16) (s : State) : Host.Outcome State Fault Refusal :=
  let n := pipe.val
  let x := s.pipe n
  let s1 := (((s.setFlag (bCpipe n) F.FAULT true).setFlag (bCpipe n) F.RUNNING false).count (bCpipe n)
    F.PIPE_CNT_SELFCHK).raiseErr (cpipePage n) 8
  let s2 := ((s1.raiseErr cipherPage 9).count bCipher F.CIPH_CNT_PIPEFAIL).crumbOpen (cpipePage n) 0x0900 []
  let s3 := s2.clearPipe n (!x.plain.isEmpty)
  let s4 := match x.unit with
    | some u => { s3 with cUnits := u :: s3.cUnits }
    | none => s3
  event "PIPELINE_CHECK_FIRE" (s.pipeOk n && s.mode != 10) s
    (if (List.range 16).any (fun k => s4.present (cpipePage k) && !s4.flag (bCpipe k) F.FAULT) then s4 else s4.cipherFails)

/-- KEY_SLOT_UNCORRECTABLE (R382): the slot is zeroized, and the work that uses it ends. -/
def execKeySlotUncorrectable (slot : BitVec 12) (s : State) : Host.Outcome State Fault Refusal :=
  let k := slot.toNat
  let s1 := ((s.setSlot k { s.slot k with words := [] }).raiseErr cipherPage 10).crumbOpen cipherPage 0x0B00
    [BitVec.ofNat 64 k] (s.keyOwner k)
  event "KEY_SLOT_UNCORRECTABLE" ((s.slot k).loaded && s.mode != 10) s
    (s1.endCipherWork (fun t => (s.slotsOf t.slot).contains k) (fun j => (s.slotsOf j.slot).contains k))

/-- CIPH_ZEROIZE.ALL: every slot is zeroized, and the work that uses one ends. -/
def State.zeroizeAll (s : State) : State := (s.endCipherWork (fun _ => true) (fun _ => true)).zeroizeKeys 5

/-- A doorbell of a cipher ring. -/
def State.cipherDoorbell (s : State) (r v : Nat) : State := if s.present cipherPage then s.dDoorbell false r v else s

end Sys2Proof.Machine
end

