-- ==== Sys2Proof/Machine/Compress.lean ====
section
/-!
DEFINITION. The compression engine's work (*Compression Engine*, R386 to R406): descriptors, jobs on units, stream
state blocks, parked streams, and the failure of units. What a stream's bytes are is in Deflate.lean.
-/

namespace Sys2Proof.Machine

/-! ## Registers as they read (R407, R408) -/

/-- The number of parked streams of a port. -/
def State.parkedOn (s : State) (p : Nat) : Nat :=
  (s.css.stations.map (fun (x : Nat × Station) =>
    match x.2.req with
    | some r => if r.lastPort = p then (r.xforms.filter (fun t => t.parked)).length else 0
    | none => 0)).sum

/-- COMP_STAT. -/
def State.compStat (s : State) : Word :=
  let parked := ((List.range 16).map s.parkedOn).sum
  (List.range 16).foldl (fun w u =>
    putBit (putBit w u (s.present (zPage u) && s.zUnitOk u)) (16 + u) (s.zUnitBusy u))
    (BitVec.ofNat 64 (2 ^ 32 * parked))

/-- ZU_STAT of a unit. -/
def State.zuStat (s : State) (u : Nat) : Word :=
  if s.flag (zPage u).base F.FAULT then 3
  else
    match s.zJobs.find? (fun j => j.unit == some u) with
    | some j => if j.phase = 1 ∨ j.phase = 2 then 4 else 2
    | none => if s.zUnitBusy u then 1 else 0

/-! ## Descriptors (Table 17.6) -/

def ZJob.word (j : ZJob) (i : Nat) : Nat := j.words.getD i 0
def ZJob.op (j : ZJob) : Nat := j.word 0 % 4
def ZJob.compress (j : ZJob) : Bool := j.op == 1
def ZJob.tables (j : ZJob) : Nat := j.word 0 / 4 % 4
def ZJob.zparm (j : ZJob) : Nat := j.word 0 / 2 ^ 8 % 2 ^ 8
def ZJob.src (j : ZJob) : Nat := j.word 1
def ZJob.dst (j : ZJob) : Nat := j.word 2
def ZJob.len (j : ZJob) : Nat := j.word 3 % 2 ^ 32
def ZJob.cap (j : ZJob) : Nat := j.word 3 / 2 ^ 32
def ZJob.zstate (j : ZJob) : Nat := j.word 4

/-- A supplied table breaks R390. -/
def tableBad (t : List Byte) : Bool :=
  let l := t.map (fun b => b.toNat)
  [286, 287, 318, 319].any (fun i => l.getD i 0 != 0) || l.any (fun n => decide (15 < n)) || l.getD 256 0 == 0 ||
  decide (2 ^ 15 < kraft (l.take 286)) || decide (2 ^ 15 < kraft ((l.drop 288).take 30))

/-- The words of a descriptor break a rule of step 1 of R402. -/
def ZJob.wordsBad (j : ZJob) : Bool :=
  let w := j.word 0
  !(j.op == 1 || j.op == 2) || j.tables == 3 || ((!j.compress || zEffort j.zparm == 0) && j.tables != 0) ||
  w / 2 ^ 6 % 4 != 0 || w / 2 ^ 16 != 0 || zparmBad j.compress j.zparm ||
  (zSync j.zparm && !(j.compress && zCont j.zparm)) || (zCont j.zparm && j.zstate == 0) || j.zstate % 128 != 0 ||
  j.len == 0 || j.cap == 0 || (decide (j.src < j.dst + j.cap) && decide (j.dst < j.src + j.len)) ||
  (if j.tables = 2 then j.word 5 % 64 != 0 else j.word 5 != 0)

/-! ## Jobs in progress -/

/-- Changes a job. -/
def State.modZJob (s : State) (r index : Nat) (f : ZJob → ZJob) : State :=
  { s with zJobs := s.zJobs.map (fun j => if j.ring = r ∧ j.index = index then f j else j) }

/-- Word 0x38 of a descriptor: IN_USED and CHECK. -/
def zResult (used check : Nat) : Word := BitVec.ofNat 64 (used % 2 ^ 32 + 2 ^ 32 * (check % 2 ^ 32))

/-- The job of a ring's descriptor is done. -/
def State.endZJob (s : State) (j : ZJob) (status outLen flags : Nat) (result : Word) : State :=
  s.modZJob j.ring j.index (fun x => { x with phase := 3, status := status, outLen := outLen, flags := flags,
                                              result := result })

/-- A job ends with a status whose word 0x38 the manual does not give. -/
def State.endZOpen (s : State) (j : ZJob) (status outLen flags : Nat) : State :=
  (s.endZJob j status outLen flags s.freeVal).drawn

/-- A job ends through a refused access. -/
def State.faultZJob (s : State) (j : ZJob) (e : IoErr) (a outLen : Nat) : State :=
  let f := dFault e a
  if f.1 = 6 then s.endZJob j 6 outLen 0 (BitVec.ofNat 64 a) else s.endZOpen j 8 outLen 0

/-- How a job ends once its output is written, and what it saves (R396, R401). -/
def State.finishZJob (s : State) (j : ZJob) (z : ZState) (status outLen flags used : Nat) : State :=
  let cont := zCont j.zparm
  let save : Option (List Byte) :=
    if j.zstate = 0 then none
    else if cont ∧ (status = 1 ∨ (status = 2 ∧ ¬ j.compress)) then some z.block
    else if ¬ cont ∧ status = 1 then some (leBytes 4 0)
    else none
  s.modZJob j.ring j.index (fun x => { x with
    phase := if save.isSome then 2 else 3, save := save, stream := some z, status := status, outLen := outLen,
    flags := flags, result := zResult used z.check })

/-- Compresses the source of a job (R389, R393, R401). -/
def State.runCompress (s : State) (j : ZJob) (u : Nat) (z : ZState) (data : List Byte) : State :=
  let d := zCompress { z with zparm := j.zparm, tables := j.tables } j.table data (zCont j.zparm) (zSync j.zparm)
  let s1 := s.count (zPage u).base F.ZU_CNT_BYTES data.length
  let w := s1.zoneWrite 6 j.zone j.dst (d.out.take j.cap)
  let flags := b2n d.stored + 2 * b2n d.fallback + 4 * b2n (!zCont j.zparm)
  match w.err with
  | some (e, a) => w.s.faultZJob j e a (a - j.dst)
  | none =>
    if j.cap < d.out.length then w.s.endZOpen j 2 j.cap 0
    else w.s.finishZJob j d.z 1 d.out.length flags data.length

/-- Decompresses the source of a job (R393, R398, R401). -/
def State.runDecompress (s : State) (j : ZJob) (u : Nat) (z : ZState) (data : List Byte) : State :=
  let d := zDecompress { z with zparm := j.zparm } data j.cap
  let s1 := s.count (zPage u).base F.ZU_CNT_BYTES d.out.length
  let w := s1.zoneWrite 6 j.zone j.dst d.out
  let n := d.out.length
  match w.err with
  | some (e, a) => w.s.faultZJob j e a (a - j.dst)
  | none =>
    match d.stop with
    | .ended => w.s.finishZJob j d.z 1 n 4 d.used
    | .need => w.s.finishZJob j d.z (if zCont j.zparm then 1 else 0x0A) n 0 d.used
    | .full => w.s.finishZJob j d.z 2 n 0 d.used
    | .format => (w.s.count bComp F.COMP_CNT_FORMAT_ERR).finishZJob j d.z 4 n 0 d.used
    | .mismatch => (w.s.count bComp F.COMP_CNT_FORMAT_ERR).finishZJob j d.z 5 n 0 d.used

/-- Runs a job with the stream it starts from. -/
def State.runZJob (s : State) (j : ZJob) (u : Nat) (z : ZState) : State :=
  let r := s.zoneRead j.zone j.src j.len
  match r.err with
  | some (e, a) => r.s.faultZJob j e a 0
  | none =>
    if r.poison then r.s.endZOpen j 8 0 0
    else if j.compress then r.s.runCompress j u z r.data
    else r.s.runDecompress j u z r.data

/-- A unit starts a job: at once where it names no state block, else with a restore. -/
def State.startZJob (s : State) (j : ZJob) (u : Nat) : State :=
  if j.zstate = 0 then
    (s.modZJob j.ring j.index (fun x => { x with unit := some u })).runZJob j u (ZState.new j.compress j.zparm j.tables)
  else s.modZJob j.ring j.index (fun x => { x with unit := some u, phase := 1 })

/-! ## Taking a descriptor (R402) -/

/-- The translation of one address that a descriptor names. -/
def State.zoneAddr (s : State) (zone : Option Nat) (a : Nat) (write : Bool) : IoAddr :=
  match zone with
  | some z => s.ioTranslate z a write
  | none => { s := s, res := if a < s.usable then .ok (s.moduleId * 2 ^ 44 + a) else .error .target }

/-- What the checks of a descriptor answer: the state, and the job or STATUS and the failing address. -/
structure ZJobRead where
  s : State
  res : Except (Nat × Nat) ZJob

/-- Step 2 of R402, past the table: ZSTATE, SRC, DST. -/
def State.checkZPlaces (s : State) (j : ZJob) : ZJobRead :=
  let z := if j.zstate = 0 then { s := s, res := .ok 0 } else s.zoneAddr j.zone j.zstate true
  match z.res with
  | .error e => { s := z.s, res := .error ((dFault e j.zstate).1, j.zstate) }
  | .ok pa =>
    let a := z.s.zoneAddr j.zone j.src false
    match a.res with
    | .error e => { s := a.s, res := .error ((dFault e j.src).1, j.src) }
    | .ok _ =>
      let d := a.s.zoneAddr j.zone j.dst true
      match d.res with
      | .error e => { s := d.s, res := .error ((dFault e j.dst).1, j.dst) }
      | .ok _ => { s := d.s, res := .ok { j with zpa := if j.zstate = 0 then none else some pa } }

/-- Steps 1 and 2 of R402. -/
def State.checkZJob (s : State) (j : ZJob) : ZJobRead :=
  if j.wordsBad then { s := s, res := .error (3, 0) }
  else if j.tables = 2 then
    let t := s.zoneRead j.zone (j.word 5) 320
    match t.err with
    | some (e, a) => { s := t.s, res := .error ((dFault e a).1, a) }
    | none =>
      if t.poison then { s := t.s, res := .error (8, 0) }
      else if tableBad t.data then { s := t.s, res := .error (3, 0) }
      else t.s.checkZPlaces { j with table := t.data }
  else s.checkZPlaces j

/-- A request whose next entry waits for a unit of a kind. -/
def Request.wantsUnit (r : Request) (compress : Bool) : Bool :=
  r.due && r.xform.any (fun t => t.compresses && t.unit.isNone && (t.kind % 2 == 1) == compress)

/-- Inline work comes before other work: it waits, and fewer units than CINLINE_MIN or DINLINE_MIN serve it (R404). -/
def State.inlineFirst (s : State) (compress : Bool) : Bool :=
  let serving := (s.css.stations.map (fun (x : Nat × Station) =>
    match x.2.req with
    | some r => (r.xforms.filter (fun t => t.unit.isSome && !t.parked && (t.kind % 2 == 1) == compress)).length
    | none => 0)).sum
  let least := if compress then s.fld bComp F.COMP_CTL_CINLINE_MIN else s.fld bComp F.COMP_CTL_DINLINE_MIN
  decide (serving < least) && s.css.stations.any (fun (x : Nat × Station) => x.2.req.any (fun r => r.wantsUnit compress))

/-- The unit that a job of a ring may take. -/
def State.unitForJob (s : State) (compress : Bool) : Option Nat :=
  if s.inlineFirst compress then none else s.zFreeUnit compress

/-- A descriptor that has been read is checked, and its job starts, waits for its state block, or ends. -/
def State.takeZJob (s : State) (j : ZJob) (u : Option Nat) : State :=
  let c := s.checkZJob j
  let add := fun (st : State) (x : ZJob) => { st with zJobs := st.zJobs ++ [x] }
  match c.res with
  | .error (st, a) =>
    if st = 6 then add c.s { j with phase := 3, status := 6, result := BitVec.ofNat 64 a }
    else (add c.s { j with phase := 3, status := st, result := c.s.freeVal }).drawn
  | .ok k =>
    let inUse := k.zpa.any (fun a => c.s.zpasRunning.contains a ||
      c.s.zJobs.any (fun q => q.ring == k.ring && q.phase == 0 && q.zpa == some a))
    match u with
    | some n => if inUse then add c.s k else (add c.s k).startZJob k n
    | none => add c.s k

/-- COMP_DESCRIPTOR_TAKEN (R400 to R402, R404): a free unit takes the next descriptor of a ring. Where a unit of the
ring's job has failed, the job starts again on the free unit instead (R405). -/
def execCompDescriptorTaken (ring : Fin 2049) (s : State) : Host.Outcome State Fault Refusal :=
  let r := ring.val
  match s.zJobs.find? (fun j => j.ring == r && j.phase == 4) with
  | some j =>
    (match s.unitForJob j.compress with
     | some u => event "COMP_DESCRIPTOR_TAKEN" (s.running compPage && s.mode != 10) s (s.startZJob j u)
     | none => event "COMP_DESCRIPTOR_TAKEN" false s s)
  | none =>
    match s.dPlace true r with
    | none => event "COMP_DESCRIPTOR_TAKEN" false s s
    | some p =>
      let x := s.dRing true r
      let d := s.zoneRead p.zone (p.desc x.taken) 64
      let j : ZJob := { ring := r, index := x.taken, zone := p.zone,
                        words := (List.range 6).map (fun i => leNat ((d.data.drop (8 * i)).take 8)) }
      let bad := d.err.isSome || d.poison
      let earlier := s.zJobs.any (fun k => k.ring == r)
      let u := s.unitForJob j.compress
      let s1 := d.s.setDRing true r { x with taken := (x.taken + 1) % 2 ^ 32 }
      event "COMP_DESCRIPTOR_TAKEN"
        (s.dReady true r && !s.zJobs.any (fun k => k.ring == r && k.orphan) &&
         (bad || (u.isSome && !((j.word 0).testBit 4 && earlier)))) s
        (if bad then d.s.dError true r p 2 0 else s1.takeZJob j u)

/-! ## Stream state blocks (R395 to R397) -/

/-- The job that a unit serves. -/
def State.zJobOf (s : State) (u : Nat) : Option ZJob := s.zJobs.find? (fun j => j.unit == some u)

/-- STREAM_STATE_RESTORE_COMPLETE (R395): the block of a job has been read; a new stream where it is empty. -/
def execStreamStateRestoreComplete (unit : Fin 16) (s : State) : Host.Outcome State Fault Refusal :=
  let u := unit.val
  match s.zJobOf u with
  | none => event "STREAM_STATE_RESTORE_COMPLETE" false s s
  | some j =>
    let h := s.zoneRead j.zone j.zstate 64
    let b := h.s.zoneRead j.zone j.zstate 40960
    let go := fun (st : State) (z : ZState) => (st.modZJob j.ring j.index (fun x => { x with phase := 4 })).runZJob j u z
    event "STREAM_STATE_RESTORE_COMPLETE" (j.phase == 1 && s.zUnitOk u && s.mode != 10) s
      (match h.err, b.err with
       | some (e, a), _ => h.s.faultZJob j e a 0
       | none, berr =>
         if h.poison then h.s.endZOpen j 8 0 0
         else if leNat (h.data.take 4) = 0 then go h.s (ZState.new j.compress j.zparm j.tables)
         else
           match berr with
           | some (e, a) => b.s.faultZJob j e a 0
           | none =>
             if b.poison then b.s.endZOpen j 8 0 0
             else
               match zRestore j.compress j.zparm b.data with
               | some z => go b.s z
               | none => b.s.endZOpen j 7 0 0)

/-- STREAM_SAVE_COMPLETE (R396): the state block of a job is written. -/
def execStreamSaveComplete (unit : Fin 16) (s : State) : Host.Outcome State Fault Refusal :=
  let u := unit.val
  match s.zJobOf u with
  | none => event "STREAM_SAVE_COMPLETE" false s s
  | some j =>
    let w := s.zoneWrite 6 j.zone j.zstate (j.save.getD [])
    event "STREAM_SAVE_COMPLETE" (j.phase == 2 && s.zUnitOk u && s.mode != 10) s
      (match w.err with
       | some (e, a) => w.s.faultZJob j e a j.outLen
       | none => w.s.modZJob j.ring j.index (fun x => { x with phase := 3, save := none }))

/-- ZSTATE_RELEASE (R397): a request that waits for a state block starts once the block is free: the first such job
of ring `n`, or the START of station `n`. -/
def execZstateRelease (inlined : Bool) (n : BitVec 16) (s : State) : Host.Outcome State Fault Refusal :=
  let i := n.toNat
  let inUse := s.zpasRunning
  if inlined then
    match s.openReq i with
    | some r =>
      event "ZSTATE_RELEASE" (r.waits && r.zpas.all (fun a => !inUse.contains a)) s
        (s.modReq i (fun q => { q with waits := false }))
    | none => event "ZSTATE_RELEASE" false s s
  else
    match s.zJobs.find? (fun j => j.ring == i && j.phase == 0 && j.unit.isNone && j.zpa.all (fun a => !inUse.contains a)) with
    | some j =>
      (match s.unitForJob j.compress with
       | some u => event "ZSTATE_RELEASE" (s.running compPage && s.mode != 10) s (s.startZJob j u)
       | none => event "ZSTATE_RELEASE" false s s)
    | none => event "ZSTATE_RELEASE" false s s

/-! ## Completion (R378, R400) -/

/-- COMP_JOB_COMPLETE (R378, R400, R401): the oldest descriptor of a ring completes, and its unit is free. -/
def execCompJobComplete (ring : Fin 2049) (s : State) : Host.Outcome State Fault Refusal :=
  let r := ring.val
  match s.zJobs.find? (fun j => j.ring == r) with
  | none => event "COMP_JOB_COMPLETE" false s s
  | some j =>
    let w30 := 1 + 2 ^ 8 * j.status + 2 ^ 16 * j.flags + 2 ^ 32 * j.outLen
    let w := s.dComplete true r j.index w30 j.result.toNat ((j.word 0).testBit 5) j.orphan
    event "COMP_JOB_COMPLETE" (j.phase == 3 && !(s.dRing true r).error && s.mode != 10) s
      (if w.2 then { w.1 with zJobs := w.1.zJobs.filter (fun k => !(k.ring == r && k.index == j.index)) } else w.1)

/-! ## Parked streams (R404) -/

/-- Changes the transform of a request that a unit serves. -/
def Request.modServed (r : Request) (u : Nat) (f : Transform → Transform) : Request :=
  { r with xforms := r.xforms.map (fun t => if t.unit = some u ∧ ¬ t.parked then f t else t) }

/-- The station whose inline stream a unit serves. -/
def State.zStation (s : State) (u : Nat) : Option (Nat × Request) :=
  s.css.stations.findSome? (fun (x : Nat × Station) =>
    x.2.req.bind (fun r => if r.xforms.any (fun t => t.unit == some u && !t.parked) then some (x.1, r) else none))

/-- Other work waits for a unit of a kind: an entry of a script, a parked stream, a job, or a ring. -/
def State.zWorkWaits (s : State) (compress : Bool) : Bool :=
  s.css.stations.any (fun (x : Nat × Station) => x.2.req.any (fun r =>
    r.wantsUnit compress || r.xforms.any (fun t => t.parked && (t.kind % 2 == 1) == compress))) ||
  s.zJobs.any (fun j => (j.phase == 0 || j.phase == 4) && j.compress == compress) ||
  (List.range 2049).any (fun r => s.dReady true r)

/-- STREAM_PARK (R404): the inline stream of a unit has waited for 4,096 engine cycles; it goes to a park slot. -/
def execStreamPark (unit : Fin 16) (s : State) : Host.Outcome State Fault Refusal :=
  let u := unit.val
  match s.zStation u with
  | some (n, r) =>
    event "STREAM_PARK"
      (s.zUnitOk u && r.rxbuf.isEmpty && decide (s.parkedOn r.lastPort < 4) && s.zWorkWaits (decide (u < 8)) &&
       s.mode != 10) s
      ((s.modReq n (fun q => q.modServed u (fun t => { t with parked := true, unit := none }))).count bComp F.COMP_CNT_PARKS)
  | none => event "STREAM_PARK" false s s

/-- STREAM_RESUME (R404): a free unit takes a parked stream of its kind, and the link data that has arrived. -/
def execStreamResume (unit : Fin 16) (station : BitVec 16) (s : State) : Host.Outcome State Fault Refusal :=
  let u := unit.val
  let n := station.toNat
  match s.openReq n with
  | some r =>
    let mine := fun (t : Transform) => t.parked && (t.kind % 2 == 1) == decide (u < 8)
    let k := r.xforms.findIdx mine
    let s1 := s.modReq n (fun q => { q with xforms := q.xforms.zipIdx.map (fun x =>
      if x.2 = k then { x.1 with parked := false, unit := some u } else x.1) })
    event "STREAM_RESUME"
      (s.present (zPage u) && s.zUnitOk u && !s.zUnitBusy u && r.xforms.any mine && s.enginesServe) s
      (((s1.feedInbound n).pump1 n).settleStatus n)
  | none => event "STREAM_RESUME" false s s

/-! ## Failure (R405) -/

/-- The engine as a whole fails: running jobs end with ENGINE_FAULT, inline streams with UNIT_ABSENT. -/
def State.compFails (s : State) : State :=
  if s.flag bComp F.FAULT then s
  else
    let s1 := (s.setFlag bComp F.FAULT true).setFlag bComp F.RUNNING false
    let s2 := (s1.zJobs.filter (fun j => j.phase != 3)).foldl (fun st j => st.endZOpen j 9 0 0) s1
    ((s2.css.stations.filter (fun (x : Nat × Station) =>
      x.2.req.any (fun r => !r.closing && r.xforms.any (fun t => t.compresses)))).foldl
        (fun st (x : Nat × Station) => st.failRequest x.1 0x0E 0 0) s2).crumbOpen compPage 0x0900 []

/-- UNIT_SELFCHECK (R405): a unit fails; its descriptor job will run again, its inline stream ends. -/
def execUnitSelfcheck (unit : Fin 16) (s : State) : Host.Outcome State Fault Refusal :=
  let u := unit.val
  let b := (zPage u).base
  let s1 := (((s.setFlag b F.FAULT true).setFlag b F.RUNNING false).count b F.ZU_CNT_SELFCHK).raiseErr (zPage u) 8
  let s2 := ((s1.raiseErr compPage 9).count bComp F.COMP_CNT_UNITFAIL).crumbOpen (zPage u) 0x0900 []
  let s3 := match s.zJobOf u with
    | some j =>
      if j.phase = 3 then s2
      else s2.modZJob j.ring j.index (fun x => { x with phase := 4, unit := none, stream := none, save := none,
                                                        status := 0, outLen := 0, flags := 0 })
    | none => s2
  let s4 := match s.zStation u with
    | some (n, _) => s3.failRequest n 0x0E 0 0
    | none => s3
  let kind := (List.range 8).map (fun i => if u < 8 then i else i + 8)
  event "UNIT_SELFCHECK" (s.present (zPage u) && s.zUnitOk u && s.mode != 10) s
    (if kind.any (fun k => s4.present (zPage k) && !s4.flag (zPage k).base F.FAULT) then s4 else s4.compFails)

/-- A doorbell of a compression ring. -/
def State.compDoorbell (s : State) (r v : Nat) : State := if s.present compPage then s.dDoorbell true r v else s

end Sys2Proof.Machine
end

