-- ==== Sys2Proof/Machine/Pair.lean ====
section
/-!
DEFINITION. The channel engine pair (*Channel Engine Pair and Lossless Switch-over*, R340 to R360, R529, R314). The
requests of Stations.lean and Exchange.lean run as one agreed execution; this layer holds the engines' roles, the
copies and leases of the receivers, retries, diagnosis, passes of the Biscuit, and the gap.
-/

namespace Sys2Proof.Machine

def engPage (e : Nat) : Page := ⟨.eng, e⟩

/-! ## Registers and receivers -/

def State.engRole (s : State) (e : Nat) : Nat := s.fld (bEng e) F.ENG_STAT_ROLE
def State.setEngRole (s : State) (e r : Nat) : State := s.setFld (bEng e) F.ENG_STAT_ROLE r
def State.pairMode (s : State) : Nat := s.fld bCss F.CSS_PAIR_STAT_MODE
def State.holder (s : State) : Nat := s.fld bCss F.CSS_PAIR_STAT_HOLDER
def State.passing (s : State) : Bool := s.flag bCss F.CSS_PAIR_STAT_PASSING
def State.epoch (s : State) : Nat := s.fld bCss F.CSS_PAIR_STAT_EPOCH

/-- A paired variant. -/
def State.paired (s : State) : Bool := s.present (engPage 1)

/-- An engine that executes cycles: holder or compared non-holder. -/
def State.executes (s : State) (e : Nat) : Bool := s.engRole e == 1 || s.engRole e == 2

def State.receiver (s : State) (r : Nat) : Receiver := SMap.get {} s.pair.receivers r
def State.setReceiver (s : State) (r : Nat) (x : Receiver) : State :=
  { s with pair := { s.pair with receivers := SMap.set {} s.pair.receivers r x } }

/-- The receivers there are: port transmitters, the memory commit unit (16), the interrupt poster (17). -/
def State.receiverList (s : State) : List Nat :=
  (List.range 18).filter (fun r => decide (16 ≤ r) || s.present (cportPage r))

/-- CLEAN is 1 while R356 counts toward a return. -/
def State.pairClean (s : State) : Bool :=
  s.pairMode == 3 && s.flag bCss F.CSS_HOME_AUTO_RETURN && s.holder != s.fld bCss F.CSS_HOME_ENGINE &&
  s.pair.pass.isNone && s.pair.event.all (fun e => decide (e.cycle < s.pair.cycle))
/-- RESYNC_DONE: the lines copied, one per engine cycle in a sweep (R353) and two in the gap (R354); 16 engine cycles
are 10 ns. -/
def State.linesCopied (s : State) : Nat :=
  let n := s.fld bCss F.CSS_PAIR_STAT_RESYNC_DONE
  let d := (s.timebase - s.pair.copyFrom).toNat
  if s.pairMode = 2 then minNat 4096 (n + 16 * d) else if s.pairMode = 4 then minNat 4096 (n + 32 * d) else n

/-- CSS_PAIR_STAT as it reads. -/
def State.pairStat (s : State) : Word :=
  putBits (putBit (s.reg (bCss + 0x108)) 5 s.pairClean) 32 13 s.linesCopied

/-- CSS_PAIR_LAST. -/
def State.pairLast (s : State) (cause engine receiver outcome : Nat) : State :=
  s.setReg (bCss + 0x120)
    (BitVec.ofNat 64 (cause + 16 * engine + 2 ^ 8 * receiver + 2 ^ 13 * outcome + 2 ^ 32 * (s.timebase.toNat % 2 ^ 32)))

/-! ## Delivery (R343, R348, R351) -/

/-- One copy is delivered: NEXT moves past it. -/
def Receiver.take (x : Receiver) (c : Copy) : Receiver :=
  { x with delivered := c.data, next := (c.oseq + 1) % 2 ^ 32, held := x.held.filter (fun d => d.oseq != c.oseq) }

/-- Delivers in OSEQ order what may be delivered: in duplex equal pairs, else lone copies of the holder. `fuel`
bounds them. -/
def Receiver.settle (duplex : Bool) : Nat → Receiver → Receiver
  | 0, x => x
  | k + 1, x =>
    match x.held.filter (fun c => c.oseq == x.next) with
    | c :: rest =>
      let pair := rest.any (fun d => d.engine != c.engine && d.data == c.data)
      let lone := ((c :: rest).find? (fun d => d.engine == x.holder))
      if ¬ x.lease then x
      else if pair then Receiver.settle duplex k (x.take c)
      else
        match lone with
        | some d => if duplex ∨ x.revoked then x else Receiver.settle duplex k (x.take d)
        | none => x
    | [] => x

/-- Settles a receiver under the present mode. -/
def State.settleReceiver (s : State) (r : Nat) : State :=
  let x := s.receiver r
  s.setReceiver r (Receiver.settle (s.pairMode == 3) (x.held.length + 1) x)

/-- Removes held copies. -/
def State.dropCopies (s : State) (gone : Copy → Bool) : State :=
  { s with pair := { s.pair with receivers := s.pair.receivers.map (fun (x : Nat × Receiver) =>
      (x.1, { x.2 with held := x.2.held.filter (fun c => !gone c) })) } }

/-! ## Service starts and ends (R314, R352) -/

/-- What waited for an engine is presented in order (R340, R354). -/
def State.resumeService (s : State) : State :=
  if s.enginesServe then
    let waiting := s.css.doorbells
    let s1 := { s with css := { s.css with doorbells := [] } }
    (waiting.foldl (fun st (x : Nat × Nat) => st.cssDoorbell x.1 x.2) s1).repath
  else s

/-- ESE_DRAIN (R314): the ESE completes every request with NO_ENGINE, and the entries that wait. -/
def State.startDrain (s : State) : State :=
  let s1 := s.setFlag bCss F.CSS_STAT_ESE_DRAIN true
  let open_ := s1.css.stations.map (fun (x : Nat × Station) => x.1)
  let s2 := open_.foldl (fun st n => if (st.openReq n).isSome then st.endRequest n 0x09 0 0 else st) s1
  let waiting := s2.css.doorbells
  let s3 := { s2 with css := { s2.css with doorbells := [] } }
  let s4 := waiting.foldl (fun st (x : Nat × Nat) => st.cssDoorbell x.1 x.2) s3
  (s4.css.rings.map (fun (x : Nat × Ring) => x.1)).foldl (fun st g => State.drainRing g 4097 st) s4

/-- Starts the drain where every present engine reports FAULT. -/
def State.drainIfLost (s : State) : State :=
  if s.flag (bEng 0) F.FAULT ∧ (¬ s.paired ∨ s.flag (bEng 1) F.FAULT) ∧ ¬ s.flag bCss F.CSS_STAT_ESE_DRAIN then s.startDrain
  else s

/-- Moves the pair to a mode; a paired module that has come to run on one engine is degraded until duplex (R23). -/
def State.pairGo (s : State) (m : Nat) (lost : Bool) : State :=
  let s0 := s.setFld bCss F.CSS_PAIR_STAT_RESYNC_DONE s.linesCopied
  let s1 := (if m = 2 ∨ m = 4 then { s0 with pair := { s0.pair with copyFrom := s0.timebase } } else s0).setFld bCss
    F.CSS_PAIR_STAT_MODE m
  { s1 with ese := { s1.ese with oneEngine := if m = 3 then false else s1.ese.oneEngine || (lost && s.paired) } }.refreshMode

/-- An engine runs in a role: the controller sets its BLK_CTL. -/
def State.engineOn (s : State) (e role : Nat) : State :=
  ((s.setFlag (bEng e) F.RUN true).setFlag (bEng e) F.RUNNING true).setEngRole e role

/-- An engine stands still in a role. -/
def State.engineOff (s : State) (e role : Nat) : State :=
  ((s.setFlag (bEng e) F.RUN false).setFlag (bEng e) F.RUNNING false).setEngRole e role

/-! ## Grants (R349, R350) -/

/-- A GRANT takes effect at a receiver. -/
def Receiver.granted (x : Receiver) (e ep : Nat) (tb : Word) : Receiver :=
  { x with holder := e, epoch := ep, lease := true, renewed := tb, revoked := false, grant := none }

/-- GRANT reaches a receiver. -/
def State.grantAt (s : State) (e ep r : Nat) : State :=
  let x := s.receiver r
  if x.revoked ∨ ¬ x.lease then (s.setReceiver r (x.granted e ep s.timebase)).settleReceiver r
  else s.setReceiver r { x with grant := some (e, ep) }

/-- PASSING is 1 until the last GRANT has been applied. -/
def State.settlePassing (s : State) : State :=
  s.setFlag bCss F.CSS_PAIR_STAT_PASSING (s.pair.pass.isSome || s.receiverList.any (fun r => (s.receiver r).grant.isSome))

/-- GRANT of the next epoch to an engine; a pass is counted and reported. -/
def State.grantTo (s : State) (e : Nat) (counted : Bool) : State :=
  let old := s.holder
  let ep := (s.epoch + 1) % 2 ^ 16
  let s1 := { s with pair := { s.pair with pass := none } }
  let s2 := (s1.setFld bCss F.CSS_PAIR_STAT_EPOCH ep).setFld bCss F.CSS_PAIR_STAT_HOLDER e
  let s3 := if s2.engRole (1 - e) = 1 then s2.setEngRole (1 - e) 2 else s2
  let s4 := (s3.receiverList.foldl (fun st r => st.grantAt e ep r) (s3.engineOn e 1)).settlePassing
  let s5 := if counted then
      (s4.count bCss F.CSS_PAIR_CNT_PASSES).crumb cssPage 0x0802 3
        [BitVec.ofNat 64 old, BitVec.ofNat 64 e, BitVec.ofNat 64 ep, s4.reg (bCss + 0x120)]
    else s4
  s5.resumeService

/-- A pass to an engine begins; REVOKE is due. -/
def State.beginPass (s : State) (e : Nat) : State :=
  { s with pair := { s.pair with pass := some (e, s.receiverList) } }

/-! ## Failure of an engine (R346, R351, R354, R358, Table 15.2) -/

/-- The Crumb of an engine that stops. -/
def State.engineCrumb (s : State) (x cause recv : Nat) (inj : Bool) : State :=
  s.crumb (engPage x) (0x0900 + cause) (Config.crumbSev (0x0900 + cause) 0x0401).val
    [BitVec.ofNat 64 x, BitVec.ofNat 64 cause, BitVec.ofNat 64 recv, BitVec.ofNat 64 s.pair.cycle] none inj

/-- An engine has failed: FAULT, FAILED, ENGFAIL and the Crumb; its copies go. -/
def State.markFailed (s : State) (x cause recv : Nat) (inj : Bool) : State :=
  let s1 := ((s.engineOff x 5).setFlag (bEng x) F.FAULT true).setFlag (bEng x) F.BUSY false
  let s2 := (s1.raiseErr (engPage x) 9).raiseErr cssPage 10
  (s2.engineCrumb x cause recv inj).dropCopies (fun c => c.engine == x)

/-- The E12's single engine stops and its recovery begins (R358). -/
def State.beginRecovery (s : State) (x cause recv : Nat) (inj : Bool) : State :=
  let s1 := (((s.engineOff x 6).setFlag (bEng x) F.BUSY true).pairLast cause x recv 6).engineCrumb x cause recv inj
  let s2 := (s1.receiverList.foldl (fun st r => st.setReceiver r { st.receiver r with lease := false, revoked := true }) s1)
  (s2.pairGo 5 false).recoveryBegins .engineRecovery

/-- One engine of a pair fails. -/
def State.failPaired (s : State) (x cause recv : Nat) (inj : Bool) : State :=
  let y := 1 - x
  let mode := s.pairMode
  let s1 := s.markFailed x cause recv inj
  if mode = 3 then
    let s2 := (s1.pairLast cause x recv 2).pairGo 1 true
    if s.holder = x then (if s.pair.pass.any (fun q => q.1 == y) then s2 else s2.beginPass y)
    else if s.pair.pass.any (fun q => q.1 == x) then
      -- the GRANT of this epoch named the failed engine; the next one goes back to the old holder (R356)
      { s2.setFld bCss F.CSS_PAIR_STAT_EPOCH ((s2.epoch + 1) % 2 ^ 16) with
        pair := { s2.pair with pass := s2.pair.pass.map (fun q => (y, q.2)) } }
    else s2
  else if mode = 2 ∧ s.engRole x = 3 then (s1.pairLast cause x recv 2).pairGo 1 true
  else if mode = 2 then
    (((s1.pairLast cause x recv 4).pairGo 4 true).beginPass y).recoveryBegins .engineGap
  else
    let s2 := if mode = 4 then s1.recoveryEnds .engineGap else s1
    let s3 := s2.pairLast cause x recv (if s2.flag (bEng y) F.FAULT then 3 else 2)
    ({ s3 with pair := { s3.pair with pass := none } }.settlePassing.pairGo 6 true).drainIfLost

/-- An engine fails. -/
def State.failEngine (s : State) (x cause recv : Nat) (inj : Bool) : State :=
  let s1 := { s with pair := { s.pair with event := none } }
  if s.paired then s1.failPaired x cause recv inj else s1.beginRecovery x cause recv inj

/-- Both engines fail. -/
def State.failBoth (s : State) (cause recv : Nat) (inj : Bool) : State :=
  if s.paired then
    let s0 := { s with pair := { s.pair with event := none, pass := none } }
    let live := (List.range 2).filter (fun e => s.engRole e != 5)
    let s1 := live.foldl (fun st e => st.markFailed e cause recv inj) s0
    let s2 := if s.pairMode = 4 then s1.recoveryEnds .engineGap else s1
    ((s2.pairLast cause 0 recv 3).settlePassing.pairGo 6 true).drainIfLost
  else s.failEngine 0 cause recv inj

/-- Silence of an engine (R343, Table 15.2). -/
def State.silent (s : State) (x recv : Nat) (inj : Bool) : State :=
  (s.count bCss F.CSS_PAIR_CNT_SILENCE).failEngine x 4 recv inj

/-! ## Events and their diagnosis (R344, R345) -/

/-- A self-check of an engine is counted. -/
def State.noteSelf (s : State) (x unit : Nat) : State :=
  let s1 := ((s.count bCss F.CSS_PAIR_CNT_SELFCHK).count (bEng x) F.ENG_CNT_SELFCHK).setFld (bEng x) F.ENG_CHKINFO_UNIT unit
  s1.raiseErr (engPage x) 8

/-- An event of the present cycle: a new one, a further report of the same attempt, or the second on a retried
cycle. -/
def State.pairEvent (s : State) (cause engine recv : Nat) (selfA selfB inj : Bool) : State :=
  let fresh : State := { s with pair := { s.pair with event := some { cause := cause, receiver := recv, cycle := s.pair.cycle,
                                                                      selfA := selfA, selfB := selfB, injected := inj } } }
  match s.pair.event with
  | some e =>
    if e.cycle = s.pair.cycle then
      { s with pair := { s.pair with event := some { e with
          selfA := e.selfA || selfA, selfB := e.selfB || selfB, injected := e.injected || inj, second := e.retried,
          receiver := if e.receiver = 31 then recv else e.receiver } } }
    else fresh.pairLast cause engine recv 0
  | none => fresh.pairLast cause engine recv 0

/-- Self-checks of engines in the present cycle. -/
def State.selfChecks (s : State) (selfA selfB : Bool) (unit : Nat) (inj : Bool) : State :=
  let s1 := if selfA then s.noteSelf 0 unit else s
  let s2 := if selfB then s1.noteSelf 1 unit else s1
  let loading := if s.engRole 0 = 3 then 0 else 1
  if (selfA ∧ s.engRole 0 = 3) ∨ (selfB ∧ s.engRole 1 = 3) then s2.failEngine loading 3 31 inj
  else if selfA ∨ selfB then s2.pairEvent 3 (if selfA then 0 else 1) 31 selfA selfB inj
  else s2

/-- A mirror mismatch: in duplex an event, while an engine loads the failure of that engine (R529). -/
def State.mirrorBad (s : State) (inj : Bool) : State :=
  let s1 := s.count bCss F.CSS_PAIR_CNT_MISMATCH
  if s.pairMode = 2 then s1.failEngine (1 - s.holder) 2 18 inj else s1.pairEvent 2 0 18 false false inj

/-- The second event on a retried cycle decides which engine failed (Table 15.2). -/
def State.diagnose (s : State) (e : PairEvent) : State :=
  let other := 1 - s.holder
  if e.selfA ∧ e.selfB ∧ s.pairMode = 3 then s.failBoth 5 e.receiver e.injected
  else if e.selfA ∨ e.selfB then s.failEngine (if e.selfA then 0 else 1) 5 e.receiver e.injected
  else if s.pairMode = 3 then
    (s.failEngine other 5 e.receiver e.injected).crumb (engPage other) 0x0900 (Config.crumbSev 0x0900 0x0401).val
      [BitVec.ofNat 64 other, 5, BitVec.ofNat 64 e.receiver, BitVec.ofNat 64 s.pair.cycle] none e.injected
  else s.failEngine s.holder 5 e.receiver e.injected

/-- An attempt at a cycle may run: no retry or diagnosis is due. -/
def State.cycleMayRun (s : State) : Bool :=
  s.pair.event.all (fun e => decide (e.cycle < s.pair.cycle) || (e.retried && !e.second)) && s.mode != 10

/-- A cycle has committed; the event of a retried cycle ends. -/
def State.cycleDone (s : State) : State :=
  let n := s.pair.cycle
  let s1 := match s.pair.event with
    | some e => if e.cycle = n then s.setFld bCss F.CSS_PAIR_LAST_OUTCOME 1 else s
    | none => s
  { s1 with pair := { s1.pair with cycle := n + 1, event := s1.pair.event.filter (fun e => decide (n < e.cycle + 256)) } }

/-- ENGINE_CYCLE (R341, R344, R345): the engines execute a cycle. The operands tell which self-checks fire, in which
unit, and whether the mirror compare fails. -/
def execEngineCycle (selfA selfB : Bool) (unit : BitVec 4) (mirror : Bool) (s : State) : Host.Outcome State Fault Refusal :=
  let m := s.pairMode
  let may := fun (x : Nat) (f : Bool) => !f || s.executes x || (s.engRole x == 3 && m == 2)
  let s1 := s.selfChecks selfA selfB unit.toNat false
  event "ENGINE_CYCLE"
    (s.cycleMayRun && decide (1 ≤ m) && decide (m ≤ 3) && may 0 selfA && may 1 selfB &&
     decide ((selfA || selfB) = (unit != 0)) && decide (unit.toNat ≤ 5) && (!mirror || m == 2 || m == 3)) s
    (if mirror ∧ s1.pairMode = m then s1.mirrorBad false else if selfA ∨ selfB ∨ mirror then s1 else s1.cycleDone)

/-- OUTPUT_COPY_ARRIVAL (Table 15.1): an engine's copy of an output reaches a receiver. -/
def execOutputCopyArrival (engine : Fin 2) (receiver : Fin 18) (oseq : BitVec 32) (data : Word) (s : State) :
    Host.Outcome State Fault Refusal :=
  let e := engine.val
  let r := receiver.val
  let x := s.receiver r
  let q := oseq.toNat
  let c : Copy := { engine := e, oseq := q, data := data, cycle := s.pair.cycle }
  let mate := x.held.find? (fun d => d.oseq == q && d.engine != e)
  let differs := mate.any (fun d => d.data != data)
  let full := s.pairMode == 3 && x.held.any (fun d => decide (d.cycle + 16 ≤ s.pair.cycle))
  event "OUTPUT_COPY_ARRIVAL"
    (s.executes e && s.receiverList.contains r && decide (1 ≤ s.pairMode) && decide (s.pairMode ≤ 3) && s.mode != 10) s
    (if seqBefore q x.next then s
     else if differs ∧ s.pairMode = 3 then
       ((s.setReceiver r { x with held := x.held.filter (fun d => d.oseq != q) }).count bCss
         F.CSS_PAIR_CNT_MISMATCH).pairEvent 1 0 r false false false
     else if full then s.silent e r false
     else
       (s.setReceiver r { x with held := x.held.filter (fun d => !(d.oseq == q && d.engine == e)) ++ [c] }).settleReceiver r)

/-- RECEIVER_WINDOW_EXPIRY (Table 15.1): a lone copy has been held for 2 engine cycles in duplex. The holder's is
delivered and the other engine is silent; the non-holder's stays held and the holder is silent. A retry notice that is
due for its cycle comes first (R344). -/
def execReceiverWindowExpiry (receiver : Fin 18) (s : State) : Host.Outcome State Fault Refusal :=
  let r := receiver.val
  let x := s.receiver r
  match x.held.find? (fun c => c.oseq == x.next) with
  | some c =>
    event "RECEIVER_WINDOW_EXPIRY"
      (s.pairMode == 3 && x.lease && s.mode != 10 &&
       s.pair.event.all (fun e => decide (e.cycle < c.cycle) || e.retried)) s
      (if c.engine = x.holder then
         let s1 := if x.revoked then s else s.setReceiver r (x.take c)
         s1.silent (1 - c.engine) r false
       else s.silent (1 - c.engine) r false)
  | none => event "RECEIVER_WINDOW_EXPIRY" false s s

/-- RETRY_NOTICE (R345): the cycle is run again, or the second event on it is diagnosed. -/
def execRetryNotice (s : State) : Host.Outcome State Fault Refusal :=
  match s.pair.event with
  | some e =>
    let s1 := s.dropCopies (fun c => c.cycle == e.cycle)
    event "RETRY_NOTICE" ((!e.retried || e.second) && s.mode != 10) s
      (if e.second then s1.diagnose e
       else
         ({ s1 with pair := { s1.pair with event := some { e with retried := true } } }).count bCss F.CSS_PAIR_CNT_RETRIES)
  | none => event "RETRY_NOTICE" false s s

/-- ENGINE_SILENCE (R345, Table 15.2): an engine is silent to a receiver, to the mirror link (18), or, running alone,
to the pair controller (31). -/
def execEngineSilence (engine : Fin 2) (receiver : Fin 32) (s : State) : Host.Outcome State Fault Refusal :=
  let e := engine.val
  let r := receiver.val
  event "ENGINE_SILENCE"
    (s.executes e && s.mode != 10 &&
     ((decide (r < 18) && s.pairMode == 3) || (r == 18 && s.holder == e && decide (2 ≤ s.pairMode) && decide (s.pairMode ≤ 3)) ||
      (r == 31 && s.pairMode == 1))) s
    (s.silent e r false)

/-! ## The Biscuit (R348 to R350, R356) -/

/-- REVOKE (R349). -/
def execRevoke (s : State) : Host.Outcome State Fault Refusal :=
  event "REVOKE" (s.pair.pass.isSome && !s.passing && s.mode != 10) s (s.setFlag bCss F.CSS_PAIR_STAT_PASSING true)

/-- REVOKE_ACK (R349): a receiver accepts no more lone copies of the epoch. -/
def execRevokeAck (receiver : Fin 18) (s : State) : Host.Outcome State Fault Refusal :=
  let r := receiver.val
  match s.pair.pass with
  | some (e, due) =>
    let s1 := s.setReceiver r { s.receiver r with revoked := true }
    event "REVOKE_ACK" (s.passing && due.contains r && s.mode != 10) s
      { s1 with pair := { s1.pair with pass := some (e, due.filter (fun q => q != r)) } }
  | none => event "REVOKE_ACK" false s s

/-- GRANT (R349): every receiver has acknowledged. -/
def execGrant (s : State) : Host.Outcome State Fault Refusal :=
  match s.pair.pass with
  | some (e, due) => event "GRANT" (s.passing && due.isEmpty && s.pairMode != 4 && s.mode != 10) s (s.grantTo e true)
  | none => event "GRANT" false s s

/-- REVOKE_ACK_TIMEOUT (R350): GRANT goes out all the same. -/
def execRevokeAckTimeout (s : State) : Host.Outcome State Fault Refusal :=
  match s.pair.pass with
  | some (e, due) =>
    let s1 := (s.raiseErr cssPage 11).pairLast 6 (s.holder) 31 5
    let s2 := s1.crumbOpen cssPage 0x0B06 []
    event "REVOKE_ACK_TIMEOUT" (s.passing && !due.isEmpty && s.mode != 10) s
      (if s.pairMode = 4 then { s2 with pair := { s2.pair with pass := some (e, []) } } else s2.grantTo e true)
  | none => event "REVOKE_ACK_TIMEOUT" false s s

/-- LEASE_RENEWAL (R348): every lease that has not expired is renewed. -/
def execLeaseRenewal (s : State) : Host.Outcome State Fault Refusal :=
  event "LEASE_RENEWAL"
    (decide (1 ≤ s.pairMode) && decide (s.pairMode ≤ 3) && s.engRole s.holder == 1 && s.pair.pass.isNone && s.mode != 10) s
    (s.receiverList.foldl (fun st r =>
      if (st.receiver r).lease ∧ (st.receiver r).grant.isNone then st.setReceiver r { st.receiver r with renewed := st.timebase }
      else st) s)

/-- LEASE_EXPIRY (R348, R350): 1 µs after its last renewal a lease expires; a GRANT kept pending takes effect. -/
def execLeaseExpiry (receiver : Fin 18) (s : State) : Host.Outcome State Fault Refusal :=
  let r := receiver.val
  let x := s.receiver r
  event "LEASE_EXPIRY" (x.lease && decide (100 ≤ (s.timebase - x.renewed).toNat)) s
    (match x.grant with
     | some (e, ep) =>
       (((s.setReceiver r (x.granted e ep s.timebase)).settleReceiver r).settlePassing).resumeService
     | none => s.setReceiver r { x with lease := false })

/-- AUTO_RETURN (R356): after 1 ms of clean duplex, a pass to the home engine begins. -/
def execAutoReturn (s : State) : Host.Outcome State Fault Refusal :=
  event "AUTO_RETURN" (s.pairClean && s.mode != 10) s (s.beginPass (s.fld bCss F.CSS_HOME_ENGINE))

/-! ## Resynchronization, the gap and recovery (R352 to R355, R358) -/

/-- Resynchronization of an engine starts. -/
def State.startResync (s : State) (y : Nat) : State :=
  ((s.engineOff y 3).setFld bCss F.CSS_PAIR_STAT_RESYNC_DONE 0).pairGo 2 false

/-- RESYNC_SWEEP_COMPLETE (R353): the loading engine joins in duplex. -/
def execResyncSweepComplete (s : State) : Host.Outcome State Fault Refusal :=
  let s1 := s.setFld bCss F.CSS_PAIR_STAT_RESYNC_DONE 4096
  event "RESYNC_SWEEP_COMPLETE" (s.pairMode == 2 && s.mode != 10) s ((s1.engineOn (1 - s.holder) 2).pairGo 3 false)

/-- GAP_COPY_COMPLETE (R354): the loading engine takes the Biscuit, or the failed store proves unreadable. -/
def execGapCopyComplete (unreadable : Bool) (s : State) : Host.Outcome State Fault Refusal :=
  let y := 1 - s.holder
  let s1 := s.setFld bCss F.CSS_PAIR_STAT_RESYNC_DONE 4096
  event "GAP_COPY_COMPLETE" (s.pairMode == 4 && s.mode != 10) s
    (if unreadable then s.failPaired y 7 31 false
     else ((s1.pairGo 1 true).grantTo y true).recoveryEnds .engineGap)

/-- The engine that no pass has made holder starts from its reset state in simplex (R352, R355). -/
def State.startAlone (s : State) (e : Nat) : State :=
  let s1 := { s with pair := { s.pair with event := none, pass := none, receivers := [] } }
  let s2 := (s1.setFlag bCss F.CSS_STAT_ESE_DRAIN false).setFld bCss F.CSS_PAIR_STAT_MODE 1
  (s2.grantTo e false).refreshMode

/-- REPAIR_COMPLETE (R355). -/
def execRepairComplete (passed : Bool) (s : State) : Host.Outcome State Fault Refusal :=
  match s.pair.repairing with
  | some x =>
    let s0 := { s.setFlag (bEng x) F.BUSY false with pair := { s.pair with repairing := none } }
    let s1 := (s0.setFlag (bEng x) F.FAULT false).setEngRole x 0
    event "REPAIR_COMPLETE" (s.mode != 10) s
      (if ¬ passed then s0.setEngRole x 5
       else if s.pairMode = 6 then s1.startAlone x
       else if s.pairMode = 1 then s1.startResync x
       else s1)
  | none => event "REPAIR_COMPLETE" false s s

/-- E12_ENGINE_RECOVERY (R358): the refresh and test of the single engine end. `unreadable` tells that its state store
holds an uncorrectable line. -/
def execE12EngineRecovery (passed unreadable : Bool) (s : State) : Host.Outcome State Fault Refusal :=
  let s1 := s.setFlag (bEng 0) F.BUSY false
  event "E12_ENGINE_RECOVERY" (s.pairMode == 5 && s.mode != 10) s
    (if passed ∧ ¬ unreadable then
       (((s1.setSeq 2 0 {}).setFld bCss F.CSS_PAIR_STAT_MODE 1).grantTo 0 false).recoveryEnds .engineRecovery
     else
       let cause := if unreadable then 7 else s.fld bCss F.CSS_PAIR_LAST_CAUSE
       ((((s1.markFailed 0 cause 31 false).pairLast cause 0 31 3).pairGo 6 true).recoveryEnds .engineRecovery).drainIfLost)

/-- CSS_PAIR_INJECT (R359, R529): an armed injection acts. `receiver` is where a KIND 1 mismatch arises, `unit` the
unit that a KIND 2 self-check names. -/
def execCssPairInject (receiver : Fin 18) (unit : BitVec 4) (s : State) : Host.Outcome State Fault Refusal :=
  let k := s.fld bCss F.CSS_PAIR_INJECT_KIND
  let e := s.fld bCss F.CSS_PAIR_INJECT_ENGINE
  let m := s.pairMode
  let runs := s.executes e || (s.engRole e == 3 && m == 2)
  let can := if k = 1 then m == 3 && s.receiverList.contains receiver.val
    else if k = 2 then runs && decide (1 ≤ unit.toNat) && decide (unit.toNat ≤ 5)
    else if k = 3 then runs
    else k == 4 && (m == 2 || m == 3)
  let s1 := if s.flag bCss F.CSS_PAIR_INJECT_PERSIST then s else s.setFlag bCss F.CSS_PAIR_INJECT_ARM false
  event "CSS_PAIR_INJECT"
    (s.flag bCss F.CSS_PAIR_INJECT_ARM && can && s.cycleMayRun && decide (1 ≤ m) && decide (m ≤ 3)) s
    (if k = 1 then (s1.count bCss F.CSS_PAIR_CNT_MISMATCH).pairEvent 1 e receiver.val false false true
     else if k = 2 then s1.selfChecks (e == 0) (e == 1) unit.toNat true
     else if k = 3 then s1.silent e (if m = 1 then 31 else 18) true
     else s1.mirrorBad true)

/-! ## Register writes (R352, R355, R357 to R359) -/

/-- RUN set in the global page: the home engine starts, or the other in its place. -/
def cssStart (s : State) : State :=
  let home := if s.paired then s.fld bCss F.CSS_HOME_ENGINE else 0
  let bad := fun (e : Nat) => !s.present (engPage e) || s.flag (bEng e) F.FAULT
  let e := if bad home then 1 - home else home
  if s.pairMode ≠ 0 then s
  else if bad e then (s.pairGo 6 true).drainIfLost
  else
    let s1 := if e = home then s else s.crumbOpen cssPage 0x0900 [BitVec.ofNat 64 home]
    let s2 := (s1.setFld bCss F.CSS_PAIR_STAT_EPOCH 0).startAlone e
    if s2.paired ∧ ¬ bad (1 - e) then s2.startResync (1 - e) else s2

/-- RUN cleared: the engines stop, and the pair is off. -/
def cssStop (s : State) : State :=
  let stop := fun (st : State) (e : Nat) => if st.engRole e = 5 ∨ st.engRole e = 6 then st else st.engineOff e 0
  let s1 := ((stop (stop s 0) 1).setFld bCss F.CSS_PAIR_STAT_RESYNC_DONE s.linesCopied).setFld bCss F.CSS_PAIR_STAT_MODE 0
  ({ s1 with pair := { s1.pair with event := none, pass := none, receivers := [] } }).setFlag bCss F.CSS_PAIR_STAT_PASSING
    false

/-- The commands of CSS_PAIR_CMD that are refused. -/
def pairRefused (s : State) (off : Nat) (v : Word) : List Fld :=
  if off = 0x110 then
    let y := 1 - s.holder
    (if bit v 0 ∧ s.pairMode ≠ 3 then [F.CSS_PAIR_CMD_SPLIT] else []) ++
    (if bit v 1 ∧ ¬ (s.present (engPage (bits v 8 1)) ∧ s.engRole (bits v 8 1) = 5) then [F.CSS_PAIR_CMD_REPAIR] else []) ++
    (if bit v 2 ∧ ¬ (s.pairMode = 1 ∧ s.paired ∧ (s.engRole y = 0 ∨ s.engRole y = 4) ∧ (s.store 2).switched.isEmpty) then
       [F.CSS_PAIR_CMD_RESYNC] else [])
  else []

/-- SPLIT (R355): the non-holder stops for test; a return that was to make it holder ends as its failure would (R356). -/
def State.pairSplit (s : State) : State :=
  let y := 1 - s.holder
  let s1 := match s.pair.pass with
    | some (e, due) =>
      if e = y then
        { s.setFld bCss F.CSS_PAIR_STAT_EPOCH ((s.epoch + 1) % 2 ^ 16) with pair := { s.pair with pass := some (s.holder, due) } }
      else s
    | none => s
  (((s1.engineOff y 4).dropCopies (fun c => c.engine == y)).settlePassing).pairGo 1 true

/-- REPAIR (R355): a soft reset and self-test of a failed engine begin. -/
def State.pairRepair (s : State) (x : Nat) : State :=
  let s1 := ((s.setEngRole x 6).setFlag (bEng x) F.BUSY true).setReg (bEng x + F.ENG_CNT_SELFCHK.off) 0
  { s1 with pair := { s1.pair with repairing := some x } }

/-- CSS_PAIR_CMD. -/
def pairWrote (off : Nat) (v : Word) (s : State) : State :=
  if off = 0x110 then
    let s1 := if bit v 0 then s.pairSplit else s
    let s2 := if bit v 1 then s1.pairRepair (bits v 8 1) else s1
    if bit v 2 then s2.startResync (1 - s2.holder) else s2
  else s

end Sys2Proof.Machine
end

