-- ==== Sys2Proof/Machine/Microcode.lean ====
section
/-!
DEFINITION. The microcode sequencers (*Microcode Sequencers, Nano-Store and Patches*, R271 to R280).
-/

namespace Sys2Proof.Machine

/-! ## Words (Tables 12.2 to 12.4) -/

/-- A micro-stack sequencer. -/
def ucStack (u : Nat) : Bool := decide (u ≤ 1)

/-- What a microword does to its sequencer: the next µPC and micro-stack, and the nano-word it issues. -/
structure MicroStep where
  upc : Nat
  stack : List Nat
  nano : Option Nat := none
  deriving DecidableEq, Repr

/-- A microword that no reserved rule of R276 makes illegal before it acts. -/
def mwLegal (u w : Nat) : Bool :=
  w / 2 ^ 22 % 4 == 0 &&
  (if w.testBit 31 then
     let bop := w / 2 ^ 28 % 8
     bop != 7 && (ucStack u || !(bop == 3 || bop == 4))
   else w / 2 ^ 28 % 8 == 0 && w % 4096 != 0 && decide (w % 4096 < ucNanos u))

/-- TARGET, or TARGET + DV for DISP, lies in the store; RET and END name no target. -/
def mwTargetOk (u w dv : Nat) : Bool :=
  let bop := w / 2 ^ 28 % 8
  if ¬ w.testBit 31 ∨ bop = 4 ∨ bop = 6 then true
  else if bop = 5 then decide (w % 65536 + dv < ucWords u)
  else decide (w % 65536 < ucWords u)

/-- The effect of a microword, once its wait has ended; none where it is a microcode fault (R272, R275, R276). -/
def microStep (u w upc dv : Nat) (stack : List Nat) (line : Bool) : Option MicroStep :=
  let next := (upc + 1) % ucWords u
  let target := w % 65536
  if ¬ mwLegal u w ∨ ¬ mwTargetOk u w dv then none
  else if ¬ w.testBit 31 then some { upc := next, stack := stack, nano := some (w % 4096) }
  else
    match w / 2 ^ 28 % 8 with
    | 0 => some { upc := target, stack := stack }
    | 1 => some { upc := if line then target else next, stack := stack }
    | 2 => some { upc := if line then next else target, stack := stack }
    | 3 => if stack.length < 8 then some { upc := target, stack := next :: stack } else none
    | 4 => match stack with
           | top :: rest => some { upc := top, stack := rest }
           | [] => none
    | 5 => some { upc := target + dv, stack := stack }
    | _ => some { upc := 0, stack := stack }

/-- CONTROL of a nano-word with the microword's ARG in its place (R273). -/
def nanoControl (nano arg : Nat) : Nat :=
  let k := nano / 2 ^ 240 % 16
  let c := nano % 2 ^ 240
  if k = 0 then c else c - (c / 2 ^ (4 * k) % 16) * 2 ^ (4 * k) + arg * 2 ^ (4 * k)

/-! ## Condition lines (R277) -/

/-- A condition line: 0, 62 and 63 are the same in every store; the others are the image's own. -/
def State.condLine (s : State) (u c line : Nat) (cond : Bool) : Bool :=
  if line = 0 then true
  else if line = 62 then decide (2 ≤ u) && s.flag (ucUnit u c).base F.QUIESCE
  else if line = 63 then (s.seqOf u c).timedOut
  else cond

/-! ## Microcode faults (R279, R280) -/

/-- The record of a microcode fault, before its outcome. -/
def State.ucFault (s : State) (u c : Nat) : State :=
  let q := s.seqOf u c
  let s1 := (s.setSeq u c { q with stopped := true }).raiseErr (ucodePage u) 8
  let s2 := (s1.setFld (bUcode u) F.UC_STAT_FAULT_UPC q.upc).setFld (bUcode u) F.UC_STAT_FAULT_COPY c
  s2.crumbOpen (ucodePage u) 0x0900 [BitVec.ofNat 64 u, BitVec.ofNat 64 c, BitVec.ofNat 64 q.upc]

/-- The outcome of a microcode fault (Table 12.5); `word` tells that an uncorrectable error caused it. -/
def State.ucOutcome (s : State) (u c : Nat) (word : Bool) : State :=
  if u = 2 then (if word then s.selfChecks (c == 0) (c == 1) 1 false else s.failBoth 3 31 false)
  else if u = 4 then s.groupDown c
  else if u = 5 then s.cipherFails
  else if u = 6 then s.compFails
  else s.checkStop 8 [BitVec.ofNat 64 u, BitVec.ofNat 64 c, BitVec.ofNat 64 (s.seqOf u c).upc]

/-- An uncorrectable error in a copy (R279): a self-check of code 0x6, sparing, or a microcode fault. -/
def State.ucUncorrectable (s : State) (u c : Nat) : State :=
  let p := (ucUnit u c).inst
  if u = 0 then
    match (s.coresAt p).find? (fun n => !s.split || s.pipeOf n == c % 2) with
    | some n => s.checkFires p (if s.split then c % 2 else 0) n 6 (some (c % 2)) false
    | none => s
  else if u = 1 then (s.coresAt p).foldl (fun st n => st.decideSparing p (if st.split then st.pipeOf n else 0) n false) s
  else (s.ucFault u c).ucOutcome u c true

/-! ## The rows -/

/-- A sequencer takes cycles: the images are loaded, its copy is present, runs and has not been stopped. -/
def State.ucSteps (s : State) (u c : Nat) : Bool :=
  (s.ucCopies u).contains c && s.ucRuns u c && !(s.seqOf u c).stopped && decide (3 ≤ s.mode) && decide (s.mode ≤ 9)

/-- The microword at µPC acts. -/
def State.microAct (s : State) (u c w dv : Nat) (line : Bool) : State :=
  let q := s.seqOf u c
  let stack := if q.upc = 0 then [] else q.stack
  match microStep u w q.upc dv stack line with
  | none => (s.ucFault u c).ucOutcome u c false
  | some r =>
    let control := match r.nano with
      | some k => nanoControl (SMap.get 0 (s.imageOf u c).nano k) (w / 2 ^ 12 % 16)
      | none => q.control
    s.setSeq u c { q with upc := r.upc, stack := r.stack, waiting := false, control := control }

/-- MICROWORD (R274, R277, R279): a sequencer executes the microword at µPC, or starts to wait on it. `cond` is its
condition line where that is the image's own, `dv` the dispatch value, `err` an error of the word read: 1 corrected,
2 uncorrectable. -/
def execMicroword (u : Fin 8) (copy : Fin 80) (cond : Bool) (dv : BitVec 8) (err : Fin 3) (s : State) :
    Host.Outcome State Fault Refusal :=
  let v := u.val
  let c := copy.val
  let q := s.seqOf v c
  let w := SMap.get 0 (s.imageOf v c).micro q.upc
  let line := s.condLine v c (w / 2 ^ 16 % 64) cond
  let holds := w.testBit 27 && !line
  let tmo := SMap.get 0 (s.imageOf v c).nano 0 / 2 ^ (16 * (w / 2 ^ 24 % 8)) % 2 ^ 16
  let s1 := if err.val = 1 then s.count (bUcode v) F.UC_ERRCNT_CE else s
  let ended := if w.testBit 27 then s1.setSeq v c { q with timedOut := !line } else s1
  event "MICROWORD"
    (s.ucSteps v c && !(q.waiting && w.testBit 27) && !(v == 0 && err.val == 1)) s
    (if err.val = 2 then s.ucUncorrectable v c
     else if mwLegal v w && holds && tmo != 0 then s1.setSeq v c { q with waiting := true }
     else ended.microAct v c w dv.toNat line)

/-- MICROWORD_WAIT_END (R277): a wait ends because its line is true, or, where `cond` leaves the line false, because
its timeout has passed. -/
def execMicrowordWaitEnd (u : Fin 8) (copy : Fin 80) (cond : Bool) (dv : BitVec 8) (s : State) :
    Host.Outcome State Fault Refusal :=
  let v := u.val
  let c := copy.val
  let q := s.seqOf v c
  let w := SMap.get 0 (s.imageOf v c).micro q.upc
  let line := s.condLine v c (w / 2 ^ 16 % 64) cond
  event "MICROWORD_WAIT_END" (s.ucSteps v c && q.waiting && w.testBit 27) s
    ((s.setSeq v c { q with timedOut := !line }).microAct v c w dv.toNat line)

end Sys2Proof.Machine
end

