-- ==== Sys2Proof/Machine/Pcie.lean ====
section
/-!
DEFINITION. The PCI Express root ports: links, the configuration space of the root port functions, device loads,
inbound requests (*PCI Express Root Ports*, R496 to R502). The layout of a function's configuration space is that
of the PCI Express Base Specification, which the manual names and does not restate.
-/

namespace Sys2Proof.Machine

def rportPage (n : Nat) : Page := ⟨.rport, n⟩

/-! ## Configuration space of the root port functions (R497) -/

/-- How a byte of a Type 1 function is written: 0 read-only, 1 written, 2 cleared by ones. -/
def configKind (off : Nat) : Nat :=
  if off = 0x04 ∨ off = 0x05 ∨ off = 0x0C ∨ (0x18 ≤ off ∧ off ≤ 0x1A) ∨ (0x20 ≤ off ∧ off ≤ 0x2F) ∨
     (0x3C ≤ off ∧ off ≤ 0x3F ∧ off ≠ 0x3D) ∨ off = 0x48 ∨ off = 0x49 ∨ off = 0x50 ∨ off = 0x51 ∨
     off = 0x5C ∨ off = 0x5D ∨ off = 0x68 ∨ off = 0x69 ∨ (0x70 ≤ off ∧ off ≤ 0x71) ∨
     (0x108 ≤ off ∧ off ≤ 0x10F) ∨ (0x114 ≤ off ∧ off ≤ 0x117) ∨ (0x12C ≤ off ∧ off ≤ 0x12F) then 1
  else if off = 0x07 ∨ off = 0x4A ∨ (0x104 ≤ off ∧ off ≤ 0x107) ∨ (0x110 ≤ off ∧ off ≤ 0x113) ∨
     (0x130 ≤ off ∧ off ≤ 0x133) then 2
  else 0

/-- What a byte of a function's configuration space reads as before anything is written. -/
def configReset (key : Nat) : Byte :=
  let off := key % 4096
  if configKind off ≠ 0 then 0
  else if off = 0x0A then 4
  else if off = 0x0B then 6
  else if off = 0x0E then 1
  else if off = 0x34 then 0x40
  else if off = 0x40 then 0x10
  else if off = 0x100 then 1
  else Config.configByte key

/-- A byte of the configuration space of the function of a link. -/
def State.configByte (s : State) (port k off : Nat) : Byte :=
  let key := (4 * port + k) * 4096 + off
  match SMap.find? s.pcie key with
  | some b => b
  | none => configReset key

/-- Puts a byte of a function's configuration space. -/
def State.putConfig (s : State) (port k off : Nat) (b : Byte) : State :=
  { s with pcie := SMap.put s.pcie ((4 * port + k) * 4096 + off) b }

/-- A little-endian number of a function's configuration space. -/
def State.configNat (s : State) (port k off n : Nat) : Nat :=
  leNat ((List.range n).map (fun i => s.configByte port k (off + i)))

/-- Sets bits of a byte of a function's configuration space (an AER or root status bit). -/
def State.configSet (s : State) (port k off bits : Nat) : State :=
  s.putConfig port k off (s.configByte port k off ||| BitVec.ofNat 8 bits)

/-- RP_LINK[k].STATE. -/
def State.linkState (s : State) (port k : Nat) : Nat := s.fld (bRport port + 8 * k) F.RP_LINK_STATE

/-- Whether BIFUR forms link k (Table 22.5). -/
def State.linkFormed (s : State) (port k : Nat) : Bool := decide (k ≤ s.fld (bRport port) F.RP_CFG_BIFUR)

/-- Whether the bridge memory windows of a function claim a bus address (R497). -/
def State.bridgeClaims (s : State) (port k x : Nat) : Bool :=
  let low := fun (off : Nat) => s.configNat port k off 2 / 16
  let base := low 0x20 * 2 ^ 20
  let limit := low 0x22 * 2 ^ 20 + 2 ^ 20
  let pbase := low 0x24 * 2 ^ 20 + s.configNat port k 0x28 4 * 2 ^ 32
  let plimit := low 0x26 * 2 ^ 20 + 2 ^ 20 + s.configNat port k 0x2C 4 * 2 ^ 32
  s.linkFormed port k && (s.configByte port k 0x04).getLsbD 1 &&
  ((decide (base ≤ x) && decide (x < limit)) || (decide (pbase ≤ x) && decide (x < plimit)))

/-- The link that a local address of a root port's window goes on: port and link (R497). -/
def State.windowLink (s : State) (a : Nat) : Option (Nat × Nat) :=
  match pciePort a with
  | some n =>
    if ¬ s.present (rportPage n) then none
    else ((List.range 4).find? (fun k => s.bridgeClaims n k (a - (0x80000000000 + n * 0x20000000000)))).map
      (fun k => (n, k))
  | none => none

/-- The link whose bus range holds a bus number. -/
def State.busLink (s : State) (port bus : Nat) : Option Nat :=
  (List.range 4).find? (fun k => s.linkFormed port k && decide ((s.configByte port k 0x19).toNat ≤ bus) &&
    decide (bus ≤ (s.configByte port k 0x1A).toNat) && decide (0 < (s.configByte port k 0x19).toNat))

/-- What a configuration read answers: a root port function's bytes, all ones where nothing is, or the reply of a
downstream device. -/
def State.configRead (s : State) (a size : Nat) (reply : Word) : Word :=
  let port := (a - 0xC0000000000) / 2 ^ 28
  let off := (a - 0xC0000000000) % 2 ^ 28
  let bus := off / 2 ^ 20
  let ones := BitVec.ofNat 64 (2 ^ (8 * size) - 1)
  if bus = 0 then
    let dev := off / 2 ^ 15 % 32
    if off / 2 ^ 12 % 8 = 0 ∧ dev < 4 ∧ s.linkFormed port dev then BitVec.ofNat 64 (s.configNat port dev (off % 4096) size)
    else ones
  else
    match s.busLink port bus with
    | some k => if s.linkState port k = 3 then reply &&& ones else ones
    | none => ones

/-- The smallest requirement of the records of a root port's links (R500). -/
def State.portLtr (s : State) (port : Nat) : Nat :=
  ((List.range 4).foldl (fun (b : Option (Nat × Nat)) k =>
    let v := s.fld (bRport port + 8 * k) F.RP_LINK_LTR
    if (s.configByte port k 0x69).getLsbD 2 then
      match toleranceNs v, b with
      | some n, some (m, _) => if n < m then some (n, v) else b
      | some n, none => some (n, v)
      | none, _ => b
    else b) none).elim 0 (·.2)

/-- LT_LTR follows the links' records; a change of LT_MODULE acts on every core (R428, R430). -/
def State.noteLtr (s : State) (port : Nat) : State :=
  let f := if port = 0 then F.LT_LTR_PORT0 else F.LT_LTR_PORT1
  (s.setFld bPwr f (s.portLtr port)).reselectAll

/-- One byte of a configuration write to a root port function. -/
def State.configWriteByte (s : State) (port k off : Nat) (b : Byte) : State :=
  if configKind off = 1 then s.putConfig port k off b
  else if configKind off = 2 then s.putConfig port k off (s.configByte port k off &&& ~~~b)
  else s

/-- A configuration write: to a root port function, or onward (R497). -/
def State.configWrite (s : State) (a : Nat) (bytes : List Byte) : State :=
  let port := (a - 0xC0000000000) / 2 ^ 28
  let off := (a - 0xC0000000000) % 2 ^ 28
  let dev := off / 2 ^ 15 % 32
  if off / 2 ^ 20 = 0 ∧ off / 2 ^ 12 % 8 = 0 ∧ dev < 4 ∧ s.linkFormed port dev then
    (bytes.zipIdx.foldl (fun st x => st.configWriteByte port dev (off % 4096 + x.2) x.1) s).noteLtr port
  else s

/-! ## Errors and links -/

/-- An uncorrectable error of a link is logged in AER, by its bit of Uncorrectable Error Status (R498, R502). -/
def State.aerLog (s : State) (port k errBit : Nat) : State :=
  (s.configSet port k (0x104 + errBit / 8) (2 ^ (errBit % 8))).raiseErr (rportPage port) 11

/-- A device load of a core ends as a timeout: all ones, and the error is logged (R498). -/
def State.deviceTimeout (s : State) (n : Nat) : State :=
  let c := s.core n
  match c.devLoad with
  | none => s
  | some (a, size, kind) =>
    let s1 := s.setCore n { c with devLoad := none, replay := c.replay ++ [⟨a, size, kind, some (2 ^ (8 * size) - 1)⟩] }
    match s.windowLink a with
    | some (port, k) => ((s1.count (bRport port) F.RP_CNT_CTO).raiseErr (rportPage port) 10).aerLog port k 14
    | none => s1

/-- DEVICE_LOAD (R498): a device load, an uncached fetch or a CAS of a core completes: 0 with data, 1 Unsupported
Request, 2 Completer Abort, 3 a poisoned completion. -/
def execDeviceLoad (n : Fin 64) (outcome : Fin 4) (data : BitVec 64) (s : State) : Host.Outcome State Fault Refusal :=
  let c := s.core n.val
  match c.devLoad with
  | none => event "DEVICE_LOAD" false s s
  | some (a, size, kind) =>
    let done := fun (v : Option Nat) =>
      s.setCore n.val { c with devLoad := none, replay := c.replay ++ [⟨a, size, kind, v⟩] }
    let mask := 2 ^ (8 * size) - 1
    match s.windowLink a with
    | none => event "DEVICE_LOAD" false s s
    | some (port, k) =>
      event "DEVICE_LOAD" (s.uncoreUp && s.linkState port k == 3) s
        (if outcome.val = 0 then done (some (data.toNat % 2 ^ (8 * size)))
         else if outcome.val = 3 then done none
         else (done (some mask)).aerLog port k (if outcome.val = 1 then 20 else 15))

/-- DEVICE_COMPLETION_TIMEOUT (R498): no completion within RP_CFG.CTO. -/
def execDeviceCompletionTimeout (n : Fin 64) (s : State) : Host.Outcome State Fault Refusal :=
  event "DEVICE_COMPLETION_TIMEOUT"
    (s.uncoreUp && (s.core n.val).devLoad.any (fun x => (ecamPort x.1).isNone)) s (s.deviceTimeout n.val)

/-- A posted write of a core reaches a root port (R177, R497). -/
def State.windowStore (s : State) (a : Nat) (bytes : List Byte) : State :=
  if (ecamPort a).isSome then s.configWrite a bytes else s

/-- CONFIG_ACCESS (R497): the configuration read that a core waits for completes, with the reply of the downstream
device where one answers; or, where none waits, the core's oldest buffered store, a configuration write, is made. -/
def execConfigAccess (n : Fin 64) (reply : BitVec 64) (s : State) : Host.Outcome State Fault Refusal :=
  let c := s.core n.val
  match c.devLoad with
  | some (a, size, kind) =>
    event "CONFIG_ACCESS" (s.uncoreUp && (ecamPort a).isSome) s
      (s.setCore n.val { c with devLoad := none,
                                replay := c.replay ++ [⟨a, size, kind, some (s.configRead a size reply).toNat⟩] })
  | none =>
    match c.stores with
    | st :: rest =>
      event "CONFIG_ACCESS" (s.uncoreUp && (ecamPort st.addr).isSome && st.kind == .window) s
        ((s.setCore n.val { c with stores := rest }).windowStore st.addr st.data)
    | [] => event "CONFIG_ACCESS" false s s

/-- The links that BIFUR forms train while the port runs (R501). -/
def rportStart (port : Nat) (s : State) : State :=
  (List.range 4).foldl (fun st k =>
    st.setFld (bRport port + 8 * k) F.RP_LINK_STATE (if s.linkFormed port k then 2 else 0)) s

/-- The links of a stopped port are down. -/
def rportStop (port : Nat) (s : State) : State :=
  (List.range 4).foldl (fun st k =>
    st.setFld (bRport port + 8 * k) F.RP_LINK_STATE (if s.linkFormed port k then 1 else 0)) s

/-- PCIE_LINK_UP (R501): a link finishes training at a width and rate within RP_CFG. -/
def execPcieLinkUp (port : Fin 2) (k : Fin 4) (width : BitVec 3) (rate : BitVec 3) (flit : Bool) (s : State) :
    Host.Outcome State Fault Refusal :=
  let b := bRport port.val + 8 * k.val
  let most := match s.fld (bRport port.val) F.RP_CFG_BIFUR, k.val with
    | 0, _ => 4
    | 1, _ => 3
    | 2, 0 => 3
    | _, _ => 2
  event "PCIE_LINK_UP"
    (s.uncoreUp && s.running (rportPage port.val) && s.linkState port.val k.val == 2 && decide (width.toNat ≤ most) &&
     decide (rate.toNat ≤ s.fld (bRport port.val) F.RP_CFG_MAX_RATE) && (flit || rate.toNat != 5)) s
    ((((s.setFld b F.RP_LINK_STATE 3).setFld b F.RP_LINK_WIDTH width.toNat).setFld b F.RP_LINK_RATE rate.toNat).setFlag b
      F.RP_LINK_FLIT flit)

/-- A link goes down (R501). -/
def State.linkDown (s : State) (port k : Nat) : State :=
  let waiting := (List.range 64).filter (fun n =>
    (s.core n).devLoad.any (fun x => s.windowLink x.1 == some (port, k)))
  let s1 := waiting.foldl (fun st n => st.deviceTimeout n) s
  let s2 := (((s1.aerLog port k 5).raiseErr (rportPage port) 9).crumbOpen (rportPage port) 0x0A00
    [BitVec.ofNat 64 port, BitVec.ofNat 64 k]).count (bRport port) F.RP_CNT_DOWNS
  let b := bRport port + 8 * k
  let up := s.flag (bRport port) F.RUN
  ((s2.setFld b F.RP_LINK_LTR 0).setFld b F.RP_LINK_STATE (if up then 2 else 1)).noteLtr port

/-- PCIE_LINK_DOWN (R501): by surprise, or by a retrain that fails. -/
def execPcieLinkDown (port : Fin 2) (k : Fin 4) (s : State) : Host.Outcome State Fault Refusal :=
  event "PCIE_LINK_DOWN" (s.uncoreUp && s.linkState port.val k.val == 3) s (s.linkDown port.val k.val)

/-- LTR_MESSAGE (R428, R500): a link's message replaces its record with the smaller of its values that have a
requirement. -/
def execLtrMessage (port : Fin 2) (k : Fin 4) (snoop : BitVec 16) (noSnoop : BitVec 16) (s : State) :
    Host.Outcome State Fault Refusal :=
  let v := match toleranceNs snoop.toNat, toleranceNs noSnoop.toNat with
    | some a, some b => if b < a then noSnoop.toNat else snoop.toNat
    | some _, none => snoop.toNat
    | none, some _ => noSnoop.toNat
    | none, none => 0
  event "LTR_MESSAGE" (s.uncoreUp && s.linkState port.val k.val == 3) s
    ((s.setFld (bRport port.val + 8 * k.val) F.RP_LINK_LTR v).noteLtr port.val)

/-- PCIE_ERROR_MESSAGE (R496): ERR_COR (0), ERR_NONFATAL (1), ERR_FATAL (2) is logged in Root Error Status; an INTx
message (3) is discarded. -/
def execPcieErrorMessage (port : Fin 2) (k : Fin 4) (kind : Fin 4) (s : State) : Host.Outcome State Fault Refusal :=
  let old := (s.configByte port.val k.val 0x130).toNat
  let t :=
    if kind.val = 0 then s.configSet port.val k.val 0x130 (if old.testBit 0 then 2 else 1)
    else if kind.val = 3 then s
    else
      (s.configSet port.val k.val 0x130 ((if old.testBit 2 then 8 else if kind.val = 2 then 0x14 else 4) +
        (if kind.val = 2 then 0x40 else 0x20))).raiseErr (rportPage port.val) 11
  event "PCIE_ERROR_MESSAGE" (s.uncoreUp && s.linkState port.val k.val == 3) s t

/-! ## Inbound requests (R499) -/

/-- A refused inbound request is recorded. -/
def State.inboundRefused (s : State) (port k rid cause zone : Nat) (write : Bool) (addr : Word) : State :=
  let b := bRport port
  let s1 := (((s.setFld b F.RP_FAULT_RID rid).setFld b F.RP_FAULT_LINK k).setFld b F.RP_FAULT_CAUSE cause).setFld b
    F.RP_FAULT_ZONE zone
  (((s1.setFlag b F.RP_FAULT_WRITE write).setReg (b + F.RP_FAULT_ADDR_ADDR.off) addr).count b F.RP_CNT_FAULTS).raiseErr
    (rportPage port) 8

/-- CAUSE of RP_FAULT for a refused DMA access. -/
def IoErr.cause : IoErr → Nat
  | .translation _ => 3
  | .region => 4
  | .permission => 5
  | .target => 6
  | .table => 3

/-- A write in the message range on link `k`; a discarded one is reported as an unsupported request, bit 20 of AER
(R411). -/
def State.msiOn (s : State) (port : Nat) (k : Option Nat) (rid : Nat) (addr : Word) (data : List Byte) : State :=
  let r := s.msiWrite port rid addr data.length (leNat data)
  if r.2 then r.1
  else match k with
    | some i => r.1.aerLog port i 20
    | none => r.1

/-- An inbound request: kind 0 a read of `len` bytes, 1 a posted write of `data`, 2 an AtomicOp. -/
def State.inbound (s : State) (port k rid kind len : Nat) (addr : Word) (data : List Byte) (poisoned : Bool) : State :=
  let write := kind != 0
  if kind = 1 ∧ msiRange addr then s.msiOn port (some k) rid addr data
  else
    match s.requesterZone port rid with
    | none => s.inboundRefused port k rid 1 0 write addr
    | some z =>
      if bits addr 48 16 ≠ 0 then s.inboundRefused port k rid 2 z write addr
      else if kind = 2 then
        let r := s.ioTranslate z addr.toNat true
        match r.res with
        | .error e => r.s.inboundRefused port k rid e.cause z write addr
        | .ok _ => r.s.inboundRefused port k rid 7 z write addr
      else if kind = 0 then
        let r := s.ioRead z addr.toNat len
        match r.err with
        | some (e, _) => r.s.inboundRefused port k rid e.cause z write addr
        | none => r.s
      else
        let r := s.ioTranslate z addr.toNat true
        match r.res with
        | .error e => r.s.inboundRefused port k rid e.cause z write addr
        | .ok _ =>
          if poisoned then r.s.inboundRefused port k rid 8 z write addr
          else (r.s.ioWrite (7 + port) z addr.toNat data).s

/-- INBOUND_REQUEST (R167, R499): a request of a device, within one 4 KiB page as PCI Express requires. -/
def execInboundRequest (port : Fin 2) (k : Fin 4) (rid : BitVec 16) (kind : Fin 3) (addr : BitVec 64) (len : BitVec 13)
    (data : List (BitVec 8)) (poisoned : Bool) (s : State) : Host.Outcome State Fault Refusal :=
  let n := if kind.val = 0 then len.toNat else data.length
  event "INBOUND_REQUEST"
    (s.uncoreUp && s.linkState port.val k.val == 3 && decide (0 < n) && decide (addr.toNat % 4096 + n ≤ 4096)) s
    (s.inbound port.val k.val rid.toNat kind.val n addr data poisoned)

/-- MSI_X_WRITE (R411): a posted write in the message range raises its source, or is discarded and logged. -/
def execMsiXWrite (port : Fin 2) (rid : BitVec 16) (addr : BitVec 64) (data : List (BitVec 8)) (s : State) :
    Host.Outcome State Fault Refusal :=
  event "MSI_X_WRITE" (s.uncoreUp && s.present (rportPage port.val) && msiRange addr) s
    (s.msiOn port.val (s.busLink port.val (rid.toNat / 256)) rid.toNat addr data)

/-- A change of BIFUR, which a stopped port takes, forms other links. -/
def rportWrote (port off : Nat) (s : State) : State :=
  if off = 0x040 ∧ ¬ s.flag (bRport port) F.RUN then rportStop port s else s

end Sys2Proof.Machine
end

