-- ==== Sys2Proof/Machine/StoreBuffer.lean ====
section
/-!
DEFINITION. Stores on their way out of a core (R168): the tile's ordering queue, the lines that accesses of a core
win, and the late store error log (R141 to R143).
-/

namespace Sys2Proof.Machine

/-- The tile of a logical core's position. -/
def State.coreTile (s : State) (n : Nat) : Nat := s.posOf n / 10

/-- The L2 of a logical core's position, within its tile. -/
def State.coreCache (s : State) (n : Nat) : Nat := s.posOf n % 10

/-! ## Late store errors -/

/-- Records a refused store in the lowest-numbered empty entry of LSE_LOG, or sets OVF; the error becomes pending
(R141 to R143). -/
def State.logLate (s : State) (n reason zone pa : Nat) : State :=
  let c := s.core n
  let v := BitVec.ofNat 64 (reason + 2 ^ 4 * (zone % 256) + 2 ^ 12 * (pa / 256 % 2 ^ 52))
  let a := match (List.range 4).find? (fun i => c.arch.sf (srLSE_LOG + i) 0 3 == 0) with
    | some i => c.arch.setS (srLSE_LOG + i) (v ||| (c.arch.getS (srLSE_LOG + i) &&& 8))
    | none => c.arch.setS srLSE_LOG (putBit (c.arch.getS srLSE_LOG) 3 true)
  s.setCore n { c with arch := a, ase := true }

/-- REASON of Table 6.8 for a request that ended without its line. -/
def lateReason (refused : Nat) : Nat := if refused = 1 then 5 else if refused = 2 then 1 else 3

/-! ## Lines that a core wins -/

/-- The caches of a tile in which an access of the position whose L2 is `c` may allocate (R204). -/
def State.canAllocate (s : State) (t c : Nat) : Bool :=
  (s.cacheOn t c && !s.cacheClosing t c) || (s.cacheOn t 10 && !s.cacheClosing t 10)

/-- A line of a tile is held for an escalated attempt of another core (R196). -/
def State.escHeld (s : State) (t line n : Nat) : Bool :=
  (s.holdOn t line).any (fun h => h.esc) &&
  s.cores.any (fun (x : Nat × LCore) => x.1 != n && s.posOf x.1 / 10 == t &&
    (match x.2.tx with
     | some y => y.escal && (y.gather ++ y.won ++ y.lines).any (fun g => g.1 == line)
     | none => false))

/-- The identity of a request of a logical core; `k` tells its loads (0), its stores (1), its uncached stores (2),
its uncached loads and CASes (3) apart. -/
def coreTxn (n k : Nat) : Nat := n + 64 * k

/-- A request of a logical core (Table 10.2), made at a level for a zone. -/
def State.coreRequest (s : State) (n k code line level zone : Nat) (put : Msg → Msg) : State :=
  s.request (some n) (s.coreCache n) (put
    { cls := 0, code := code, dest := lineHome line, src := s.moduleId, agent := s.coreTile n, txn := coreTxn n k,
      line := line, dztv := level != 3, ext := s.dzt zone })

/-- How an attempt to win a line stands: it is won; it waits; it ended without the line (1 refused, 2 no target, 3
timeout); or the line was won and left the tile at once. -/
inductive Won where
  | yes
  | no
  | refused (r : Nat)
  | gone
  deriving DecidableEq, Repr

/-- What an access is for: to read, to write, to write the whole line with zeros; within a transaction; escalated. -/
structure Want where
  own : Bool
  zero : Bool := false
  tx : Bool := false
  esc : Bool := false

/-- The tile holds a line as an access needs it. -/
def State.holdsFor (s : State) (t line : Nat) (own : Bool) : Bool :=
  match SMap.find? (s.tile t).lines line with
  | some x => if own then decide (3 ≤ x.st.rank) else true
  | none => false

/-- The request code that wins a line for an access (R226, R227). -/
def State.requestCode (s : State) (t line : Nat) (w : Want) : Nat :=
  if w.zero then 3
  else if w.own then (match SMap.find? (s.tile t).lines line with
    | some _ => 2
    | none => 1)
  else 0

/-- The standing of a request of a core, and its removal where it ended without the line. -/
def State.requestStands (s : State) (t txn : Nat) : State × Won :=
  match s.findRequest t txn with
  | some q => if q.refused = 0 then (s, .no) else (s.dropRequest t txn, .refused q.refused)
  | none => (s, .gone)

/-- A request that a core made for another line: one that ended is removed; one that is open makes the core wait. -/
def State.otherRequest (s : State) (t txn line : Nat) : State × Bool :=
  match s.findRequest t txn with
  | some q =>
    if q.req.line = line then (s, false)
    else if q.refused = 0 then (s, true)
    else (s.dropRequest t txn, false)
  | none => (s, false)

/-- A line is won for an access of a logical core: held already, or requested from its home. An escalated request is
made even for a line held (R196). -/
def State.acquire (s : State) (n k line level zone : Nat) (w : Want) : State × Won :=
  let t := s.coreTile n
  if s.holdsFor t line w.own ∧ ¬ w.esc then (s, .yes)
  else
    match s.requests.find? (fun q => q.req.agent == t && q.req.line == line && decide (q.req.code < 4)) with
    | some q => if q.req.txn = coreTxn n k then s.requestStands t (coreTxn n k) else (s, .no)
    | none =>
      match s.otherRequest t (coreTxn n k) line with
      | (s0, true) => (s0, .no)
      | (s0, false) =>
        let s1 := s0.coreRequest n k (s.requestCode t line w) line level zone (fun m => { m with tx := w.tx, esc := w.esc })
        match s1.requestStands t (coreTxn n k) with
        | (s2, .gone) => if s2.holdsFor t line w.own then (s2, .yes) else (s2, .gone)
        | r => r

/-- A line the tile holds gets a place in the L2 of a core's position, or in the L3 while that L2 is off. -/
def State.placeFor (s : State) (n line : Nat) : State :=
  let t := s.coreTile n
  let c := s.coreCache n
  match SMap.find? (s.tile t).lines line with
  | some x =>
    if x.inCache c ∨ ¬ s.cacheOn t c ∨ s.cacheClosing t c then s
    else
      let r := s.placeIn t c (s.corePipe (some n)) line
      r.1.deliver r.2
  | none => s

/-! ## Performing a store -/

/-- Bytes are written into a line that the tile owns; a cache that is being disabled writes the line through to the
next level (R204), and a write of the whole line clears its poison (R206). -/
def State.mergeLine (s : State) (t c pa : Nat) (bytes : List Byte) : State :=
  let line := pa / 128
  match SMap.find? (s.tile t).lines line with
  | some x =>
    let s1 := s.putLine t line
      { x with st := .m, data := patchList x.data (pa % 128) bytes, poison := x.poison && bytes.length != 128 }
    if s.cacheClosing t c then
      if s.cacheOn t 10 ∧ ¬ s.cacheClosing t 10 then
        let r := s1.placeIn t 10 0 line
        r.1.deliver r.2
      else s1.cleanLine t line
    else s1
  | none => s

/-- A store goes to the home of its line as WR_LINE or WR_PART (R226). -/
def State.writeAtHome (s : State) (n : Nat) (st : Store) : State × Won :=
  let t := s.coreTile n
  let line := st.addr / 128
  let off := st.addr % 128
  let whole := st.data.length == 128
  let s1 := match s.findRequest t (coreTxn n 2) with
    | some _ => s
    | none => s.coreRequest n 2 (if whole then 5 else 6) line st.level st.zone (fun m =>
        { m with data := patchList (List.replicate 128 0) off st.data,
                 mask := if whole then 0 else (2 ^ st.data.length - 1) * 2 ^ off })
  match s1.findRequest t (coreTxn n 2) with
  | some q =>
    if q.result.isSome then (s1.dropRequest t (coreTxn n 2), .yes)
    else if q.refused = 0 then (s1, .no)
    else (s1.dropRequest t (coreTxn n 2), .refused q.refused)
  | none => (s1, .yes)

/-- A store is written into its line, once won; transactions of the tile that it meets abort (R188). -/
def State.writeInTile (s : State) (n : Nat) (st : Store) : State × Won :=
  let t := s.coreTile n
  let line := st.addr / 128
  if s.escHeld t line n then (s, .no)
  else
    let zero := st.data.length == 128
    match s.acquire n 1 line st.level st.zone { own := true, zero := zero } with
    | (s1, .yes) =>
      let s2 := (s1.placeFor n line).txConflict t line true (some n) 0x02
      (s2.mergeLine t (s2.coreCache n) st.addr st.data, .yes)
    | (s1, .gone) => s1.writeAtHome n st
    | r => r

/-- A line leaves the L2 of a position for the tile's L3 (R210). -/
def State.toL3 (s : State) (t c line : Nat) : State :=
  let r := s.placeIn t 10 0 line
  let q := (r.1.deliver r.2).losePlace t c line
  q.1.deliver q.2

/-- A store of normal memory is performed at the domain point. -/
def State.performStore (s : State) (n : Nat) (st : Store) : State × Won :=
  let t := s.coreTile n
  if st.kind = .bulk then
    if s.cacheOn t 10 ∧ ¬ s.cacheClosing t 10 then
      match s.writeInTile n st with
      | (s1, .yes) => (s1.toL3 t (s.coreCache n) (st.addr / 128), .yes)
      | r => r
    else s.writeAtHome n st
  else if st.kind = .cached ∧
     (s.canAllocate t (s.coreCache n) ∨ s.holdsFor t (st.addr / 128) true) then
    s.writeInTile n st
  else s.writeAtHome n st

/-- The oldest store of a tile's ordering queue is performed, or dropped and logged; true once it has left. -/
def State.drainHead (s : State) (t : Nat) : State × Bool :=
  match (s.tile t).ordering with
  | [] => (s, false)
  | (n, st) :: _ =>
    let pop := fun (u : State) => u.setTile t { u.tile t with ordering := (u.tile t).ordering.drop 1 }
    match s.performStore n st with
    | (s1, .refused r) => (pop (s1.logLate n (lateReason r) st.zone st.addr), true)
    | (s1, .no) => (s1, false)
    | (s1, _) => (pop s1, true)

/-- Drains a tile's ordering queue, oldest store first, until one has to wait; true once it is empty. -/
def State.drainTile : Nat → State → Nat → State × Bool
  | 0, s, t => (s, (s.tile t).ordering.isEmpty)
  | k + 1, s, t =>
    if (s.tile t).ordering.isEmpty then (s, true)
    else
      match s.drainHead t with
      | (s1, true) => State.drainTile k s1 t
      | (s1, false) => (s1, false)

/-- Drains the whole of a tile's ordering queue. -/
def State.drainOrdering (s : State) (t : Nat) : State × Bool := s.drainTile (s.tile t).ordering.length t

/-- A store of normal memory. -/
def StoreKind.normal : StoreKind → Bool
  | .cached | .uncached | .bulk => true
  | _ => false

/-- The core's buffered stores of normal memory enter the ordering queue of its tile, in order (R168). -/
def State.orderStores (s : State) (n : Nat) : State :=
  let c := s.core n
  let t := s.coreTile n
  let go := c.stores.filter (fun x => x.kind.normal)
  (s.setCore n { c with stores := c.stores.filter (fun x => !x.kind.normal) }).setTile t
    { s.tile t with ordering := (s.tile t).ordering ++ go.map (fun x => (n, x)) }

/-- Every store of normal memory of the module is performed as far as it can be. -/
def State.settleStores (s : State) : State :=
  let s1 := (List.range 64).foldl (fun st n => if (st.core n).stores.isEmpty then st else st.orderStores n) s
  (List.range 4).foldl (fun st t => (st.drainOrdering t).1) s1

end Sys2Proof.Machine
end

