-- ==== Sys2Proof/Machine/Boot.lean ====
section
/-!
DEFINITION. Power, resets, Secure Boot, Initialization, OPERATE and Quiesce, and the events on lands and rails
(*Operating Modes, Boot and the Ehrold Service Engine*; *Lands, Rails and Electrical Characteristics*).
-/

namespace Sys2Proof.Machine

/-- Changes the ESE's own state. -/
def State.modEse (s : State) (f : Ese → Ese) : State := { s with ese := f s.ese }

/-- BOOT_STAT.PHASE. -/
def State.phase (s : State) : Nat := s.fld bEse F.BOOT_STAT_PHASE
def State.setPhase (s : State) (n : Nat) : State := s.setFld bEse F.BOOT_STAT_PHASE n

/-! ## What a reset keeps (Table 21.3) -/

/-- The bits of a register that hold GL fields. -/
def glMask (w : Nat) : Word :=
  match pageAt (w / 0x1000) with
  | some p =>
    if p.typ = .zoneTable then BitVec.allOnes 64
    else
      match findReg p.typ.regs (w % 0x1000) with
      | some r => r.fields.foldl (fun m f => if f.acc = .gl then putBits m f.lo f.width (2 ^ f.width - 1) else m) 0
      | none => 0
  | none => 0

/-- The bits that no reset changes, for they are fused: what the part is and holds (R1, R2, R522), BLK_CAP but for that
of the groups and channels, which also follows the DIMMs (R495), the size of each microcode store, MIN_SVN. -/
def fusedMask (w : Nat) : Word :=
  let all : Word := BitVec.allOnes 64
  let off := w % 0x1000
  match pageAt (w / 0x1000) with
  | none => 0
  | some p =>
    match p.typ with
    | .zoneTable | .sourceArray | .group | .chan => 0
    | .ident => if off = 0x008 ∨ off = 0x040 ∨ off = 0x050 ∨ off = 0x078 ∨ off = 0x080 ∨ off = 0x088 then all else 0
    | .ucode => if off = 0x008 ∨ off = 0x070 then all else 0
    | .ese =>
      if off = 0x008 then all
      else if off = F.BOOT_STAT_MIN_SVN.off then
        putBits 0 F.BOOT_STAT_MIN_SVN.lo F.BOOT_STAT_MIN_SVN.width (2 ^ F.BOOT_STAT_MIN_SVN.width - 1)
      else 0
    | _ => if off = 0x008 then all else 0

/-- The bits of a register that a warm reset keeps. -/
def warmMask (w : Nat) : Word :=
  let off := w % 0x1000
  let all : Word := BitVec.allOnes 64
  match pageAt (w / 0x1000) with
  | none => 0
  | some p =>
    match p.typ with
    | .recorder => if off = 0x068 then 0 else all
    | .zctl | .zoneTable | .home | .memory | .group | .chan | .fport | .ident => all
    | .ese => if off = 0x070 ∨ off = 0x040 then all else glMask w ||| fusedMask w
    | .position =>
      if off = 0x048 then BitVec.ofNat 64 (7 + 2 ^ 4 + 2 ^ 5 + 3 * 2 ^ 7)
      else (List.range 16).foldl (fun m i => if off = F.CACHE_STAT_WAY_FAIL.off then putBit m (F.CACHE_STAT_WAY_FAIL.lo + i) true
        else m) (fusedMask w)
    | .l3 =>
      (List.range 16).foldl (fun m i => if off = F.L3_STAT_WAY_FAIL.off then putBit m (F.L3_STAT_WAY_FAIL.lo + i) true else m)
        (fusedMask w)
    | .ucode => if off = 0x060 ∨ off = 0x068 then all else fusedMask w
    | .door => if off < 0x080 then all else 0
    | .css | .eng | .cport | .cipher | .cpipe | .comp | .compressor | .decompressor | .icGlobal | .icIface =>
      if off = 0x020 ∨ off = 0x028 ∨ off = 0x030 ∨ off = 0x038 then all else glMask w ||| fusedMask w
    | _ => glMask w ||| fusedMask w

/-- The registers after a reset that keeps some bits of each. -/
def keepRegs (keep : Nat → Word) (regs : SMap Word) : SMap Word :=
  regs.foldr (fun (x : Nat × Word) m =>
    let k := keep x.1
    SMap.set (resetOf x.1) m x.1 ((x.2 &&& k) ||| (resetOf x.1 &&& ~~~k))) []

/-- Groups and channels that are fused off are absent after every cold reset (R3, R26). -/
def State.fusedMemory (s : State) : State :=
  let cap := s.reg (bIdent + 0x080)
  let s1 := (List.range 20).foldl (fun st c => if bit cap c then st else st.setFlag (bChan c) F.PRESENT false) s
  (List.range 4).foldl (fun st g => if bit cap (20 + g) then st else st.setFlag (bGroup g) F.PRESENT false) s1

/-- L2_WAYS of a position takes its reset value, 0xFF0000FF once split mode is selected (Table 9.3). -/
def State.resetWays (s : State) (p : Nat) : State :=
  s.setReg (bPos p + F.L2_WAYS_WAYS_A.off) (if s.split then 0xFF0000FF else 0xFFFFFFFF)

/-- The bits that a cold reset keeps: the recorder's page but for REC_RD_SEL, RST_STAT (R456), and what is fused. -/
def coldMask (w : Nat) : Word :=
  let all : Word := BitVec.allOnes 64
  if w / 0x1000 = 0x20 then (if w % 0x1000 = 0x068 then 0 else all)
  else if w = bEse + 0x070 then all
  else fusedMask w

/-- RST_STAT notes a reset. -/
def State.noteReset (s : State) (kind cause : Nat) : State :=
  ((s.setFld bEse F.RST_STAT_KIND kind).setFld bEse F.RST_STAT_BY cause).count bEse F.RST_STAT_COUNT

/-- The forecast level of each tile rail returns to its cold-reset figure (R465). -/
def State.railsFall (s : State) : State :=
  (List.range 4).foldl (fun st t => st.fall t (st.forecast t - State.reset.forecast t)) s

/-- The kept area after a cold reset (R457). -/
def State.keptAfterCold (s : State) : State :=
  if s.flag bRec F.REC_STAT_KEPT_READ then s.rearm else s.setFlag bRec F.REC_STAT_KEPT_CLOSED true

/-- Everything but the service domain returns to its reset state. -/
def State.unitsReset (s : State) (keep : Nat → Word) : State :=
  { State.reset with
    powered := s.powered
    regs := keepRegs keep s.regs
    timebase := s.timebase
    recorder := { s.recorder with snapshot := [] }
    tod := s.tod
    power := { sent := s.power.sent }
    ese := { vdd := s.ese.vdd, reference := s.ese.reference, thermtrip := s.ese.thermtrip, jtag := s.ese.jtag,
             resetLow := s.ese.resetLow, testEn := s.ese.testEn }
    flash := s.flash
    flashSize := s.flashSize
    freeCtr := s.freeCtr
    pending := s.pending }

/-- A cold reset takes effect (R464, R525); `boot` tells that Secure Boot follows. -/
def State.coldReset (s : State) (cause : Nat) (boot : Bool) : State :=
  let old := s.modeStat
  let s1 := s.railsFall.zeroizeKeys 0
  let s2 := ({ (s1.unitsReset coldMask).fusedMemory with timebase := 0 }).modEse (fun e =>
    { e with resetting := true, bootNext := boot })
  let s3 := if s.mode = 0 then s2 else s2.crumb esePage 0x0200 1 [old, s2.modeStat]
  s3.keptAfterCold.noteReset 1 cause

/-- A warm reset takes effect (R464, R473). -/
def State.warmReset (s : State) (cause : Nat) : State :=
  let s1 := s.railsFall.zeroizeKeys 0
  let r := s1.unitsReset warmMask
  let keepCore := fun (x : Nat × LCore) =>
    (x.1, ({ stopped := x.2.stopped, homeTile := x.2.homeTile } : LCore))
  let s2 := { r with
    mem := s1.mem, poison := s1.poison, home := s1.home, fports := s1.fports, accepted := s1.accepted, txn := s1.txn
    scrub := s1.scrub
    cores := s1.cores.map keepCore
    positions := s1.positions.map (fun (x : Nat × Pos) => (x.1, { x.2 with event0 := none, event1 := none }))
    ucode := s1.ucode.map (fun (x : Nat × Ucode) => (x.1, { x.2 with seqs := [], next := {}, switched := [] }))
    css := { (r.css) with paths := s1.css.paths }
    ese := { r.ese with resetting := true, bootNext := true, warm := true, rails := s1.ese.rails,
                        pllLocked := s1.ese.pllLocked, shortStart := s1.ese.shortStart,
                        recoveries := s1.ese.recoveries.filter (fun x => match x with
                          | .reroute _ | .setRecall _ | .rebuild _ => true
                          | _ => false) } }
  ((List.range 40).foldl (fun st p => if st.present (posPage p) then st.resetWays p else st) s2).noteReset 2 cause

/-! ## Boot (R466 to R469) -/

/-- Secure Boot begins: on the warm path with the manifest (R473), else with the rails. -/
def State.enterBoot (s : State) : State :=
  let s1 := (s.modEse (fun e => { e with bootNext := false })).putMode 1 0
  (s1.setFld bEse F.BOOT_STAT_FAIL 0).setPhase (if s.ese.warm then 4 else 1)

/-- A boot failure (R469): FAIL, the Crumb, the alert, the rails, Service Standby. -/
def State.bootFails (s : State) (code : Nat) (extra : List Word) : State :=
  let s1 := s.setFld bEse F.BOOT_STAT_FAIL code
  let s2 := s1.crumb esePage (0x0300 + code) 5 (s1.reg (bEse + F.BOOT_STAT_PHASE.off) :: extra)
  let s3 := s2.setFlag bEse F.SVC_ALERT_BOOTFAIL true
  ((s3.putMode 0 0).unitsReset (fun w => if w / 0x1000 = 1 then BitVec.allOnes 64 else coldMask w)).fusedMemory

/-- RESET_SEQUENCE_COMPLETE (R464, R465): the reset Crumb is written, and Secure Boot begins where it follows. A
fault of the reset sequencer holds the module in Service Standby (Table 1.5). A Check-Stop entered meanwhile stays. -/
def execResetSequenceComplete (fault : Bool) (s : State) : Host.Outcome State Fault Refusal :=
  let s1 := (s.modEse (fun e => { e with resetting := false })).crumb esePage
    (0x0100 + s.fld bEse F.RST_STAT_KIND) 1 [s.reg (bEse + F.RST_STAT_KIND.off)]
  event "RESET_SEQUENCE_COMPLETE" s.ese.resetting s
    (if s.mode = 10 then s1
     else if fault then s1.bootFails 0x0D []
     else if s1.ese.bootNext ∧ ¬ s1.ese.resetLow then s1.enterBoot
     else s1)

/-- RAIL_POWER_GOOD (R466, step 1): a rail gives power-good, and the next of the nine is raised. -/
def execRailPowerGood (s : State) : Host.Outcome State Fault Refusal :=
  let s1 := s.modEse (fun e => { e with rails := e.rails + 1 })
  event "RAIL_POWER_GOOD" (s.mode == 1 && s.phase == 1) s (if 9 ≤ s1.ese.rails then s1.setPhase 2 else s1)

/-- RAIL_POWER_GOOD_TIMEOUT (R466). -/
def execRailPowerGoodTimeout (s : State) : Host.Outcome State Fault Refusal :=
  event "RAIL_POWER_GOOD_TIMEOUT" (s.mode == 1 && s.phase == 1) s (s.bootFails 0x0A [])

/-- ROOT_PLL_LOCK (R19): the ESE and the time base switch over, and no step is lost. -/
def execRootPllLock (s : State) : Host.Outcome State Fault Refusal :=
  event "ROOT_PLL_LOCK" (s.mode == 1 && s.phase == 2 && s.ese.reference) s
    ((s.modEse (fun e => { e with pllLocked := true })).setPhase 3)

/-- PLL_LOCK_TIMEOUT (R466). -/
def execPllLockTimeout (s : State) : Host.Outcome State Fault Refusal :=
  event "PLL_LOCK_TIMEOUT" (s.mode == 1 && s.phase == 2) s (s.bootFails 0x0B [])

/-- Present positions. -/
def State.presentPos (s : State) (p : Nat) : Bool := s.present (posPage p)

/-- A position that is present and has passed self-test. -/
def State.healthy (s : State) (p : Nat) : Bool := s.presentPos p && !(s.pos p).failed

/-- SELF_TEST_COMPLETE (R466, step 3): `failed` marks the positions that fail, `ok` tells that the rest of the
minimum service set passes. -/
def execSelfTestComplete (failed : BitVec 40) (ok : Bool) (s : State) : Host.Outcome State Fault Refusal :=
  let s1 := (List.range 40).foldl (fun st p =>
    if st.presentPos p ∧ failed.getLsbD p then st.setPos p { st.pos p with failed := true } else st) s
  event "SELF_TEST_COMPLETE" (s.mode == 1 && s.phase == 3) s
    (if ok ∧ (List.range 40).any (fun p => s1.healthy p) then s1.setPhase 4 else s1.bootFails 0x08 [])

/-! ## The manifest (R467, R468) -/

/-- A byte of the boot flash window; beyond the flash it reads zero. -/
def State.flashByte (s : State) (a : Nat) : Byte := if a < s.flashSize then SMap.get 0 s.flash a else 0

/-- `k` bytes of the boot flash. -/
def State.flashBytes (s : State) (a k : Nat) : List Byte := (List.range k).map (fun i => s.flashByte (a + i))

/-- A section of the manifest: TYPE, STORE, FLASH_OFF, LEN, LOAD, DIGEST, and its reserved bytes being zero. -/
structure Section where
  typ : Nat
  store : Nat
  off : Nat
  len : Nat
  load : Nat
  digest : BitVec 384
  clean : Bool

/-- Section i of a manifest. -/
def readSection (m : List Byte) (i : Nat) : Section :=
  let at_ := 0x40 + 96 * i
  let typ := imgNat m at_ 2
  let dig := (m.drop (at_ + 32)).take 48
  { typ := typ, store := imgNat m (at_ + 2) 2, off := imgNat m (at_ + 8) 8, len := imgNat m (at_ + 16) 8,
    load := imgNat m (at_ + 24) 8, digest := BitVec.ofNat 384 (leNat dig.reverse),
    clean := imgNat m (at_ + 4) 4 == 0 && imgNat m (at_ + 80) 16 == 0 && (typ == 1 || typ == 2) &&
      (if typ = 1 then imgNat m (at_ + 24) 8 == 0 else imgNat m (at_ + 2) 2 == 0) }

def manifestSections (m : List Byte) : List Section := (List.range (imgNat m 6 2)).map (readSection m)

/-- The stores that are present (UC_INFO.COPIES). -/
def State.storePresent (s : State) (u : Nat) : Bool := s.present (ucodePage u) && !(s.ucCopies u).isEmpty

/-- The checks of R468 in their order: the FAIL code of the first that fails, 0 where all pass. -/
def State.manifestFail (s : State) (m : List Byte) : Nat :=
  let len := imgNat m 0x0C 4
  let n := imgNat m 6 2
  let secs := manifestSections m
  let key := (m.drop (len - 200)).take 97
  if imgNat m 0 4 ≠ 0x544F4F42 ∨ imgNat m 4 2 ≠ 1 ∨ n = 0 ∨ 32 < n ∨ 65536 < len ∨ len < 0x40 + 96 * n + 200 ∨
      imgNat m 0x0A 2 ≠ 0 ∨ imgNat m 0x20 32 ≠ 0 ∨ ¬ secs.all (fun x => x.clean) ∨ imgNat m (len - 103) 7 ≠ 0 then 2
  else if Config.sha384 key ≠ Config.bootKeyHash then 3
  else if ¬ Config.ecdsaP384Valid key (imageDigest m len) ((m.drop (len - 96)).take 96) then 4
  else if imgNat m 8 2 < s.fld bEse F.BOOT_STAT_MIN_SVN then 5
  else if (secs.filter (fun x => x.typ == 2)).length ≠ 1 ∨
      ¬ (List.range 8).all (fun u => (secs.filter (fun x => x.typ == 1 && x.store == u)).length == b2n (s.storePresent u)) ∨
      secs.any (fun x => x.typ == 1 && decide (8 ≤ x.store)) ∨ 16 ≤ imgNat m 0x10 8 then 2
  else 0

/-- The manifest in the boot flash. -/
def State.manifest (s : State) : List Byte := s.flashBytes 0 65536

/-- Step 7 of R466: the TOD is set from what board management has written. -/
def State.bootTime (s : State) : State :=
  if s.flag bRec F.TOD_STAT_SET ∨ s.fld bRec F.TOD_SET_SEC_SECONDS = 0 then s
  else if s.flag bRec F.TOD_STAT_PPS_SEEN then { s with tod := { s.tod with setAtPps := true } }
  else s.todSet

/-- MANIFEST_CHECK_COMPLETE (R466, R468, R473): steps 4 to 7 of Secure Boot; `sfdp` tells that the SFDP table was
read. -/
def execManifestCheckComplete (sfdp : Bool) (s : State) : Host.Outcome State Fault Refusal :=
  let m := s.manifest
  let opt := BitVec.ofNat 64 (imgNat m 0x10 8)
  let f := s.manifestFail m
  let s1 := ((s.setReg (bEse + F.BOOT_OPT_SPLIT.off) opt).setFld bEse F.FW_ENTRY_ADDR (imgNat m 0x18 8)).setFld bEse
    F.BOOT_STAT_SVN (imgNat m 8 2)
  event "MANIFEST_CHECK_COMPLETE" (s.mode == 1 && s.phase == 4) s
    (if ¬ sfdp then s.bootFails 1 []
     else if f ≠ 0 then s.bootFails f []
     else if s.ese.warm ∧ s.reg (bEse + F.BOOT_OPT_SPLIT.off) ≠ opt then s.bootFails 0x0C []
     else if s.ese.warm then (s1.bootTime.putMode 3 0).setPhase 7
     else (s1.bootTime.putMode 2 0).setPhase 5)

/-! ## Microcode Load (R286) -/

/-- What loading a section into its store answers: the state, and the boot failure it causes. -/
structure LoadStep where
  s : State
  fail : Option (Nat × Nat)

/-- A unit whose base image fails: FAULT, or a boot failure where the minimum service set needs it. -/
def State.imageFailed (s : State) (u code index : Nat) : LoadStep :=
  if u = 2 then
    { s := (List.range 2).foldl (fun st e => st.setFlag (bEng e) F.FAULT true) s, fail := none }
  else if u = 5 then { s := s.setFlag bCipher F.FAULT true, fail := none }
  else if u = 6 then { s := s.setFlag bComp F.FAULT true, fail := none }
  else { s := s, fail := some (code, index) }

/-- Loads the section of index i: its digest, the checks of R284, the copies. -/
def State.loadSection (s : State) (x : Section) (i : Nat) : LoadStep :=
  let img := s.flashBytes x.off x.len
  if x.typ ≠ 1 then { s := s, fail := none }
  else if Config.sha384 img ≠ x.digest then { s := s, fail := some (6, i) }
  else
    let b := bUcode x.store
    match imageCheck x.store img x.len false 0 {} with
    | .error _ => s.imageFailed x.store 7 i
    | .ok im =>
      if imgNat img 6 2 ≠ 0 then s.imageFailed x.store 7 i
      else
        let s1 := s.setStore x.store { s.store x.store with image := im }
        { s := (s1.setReg (b + 0x060) (imageVersion img)).setReg (b + 0x068) (leadingDigest (imageDigest img x.len)),
          fail := none }

/-- Loads the sections in turn, up to the first failure. -/
def State.loadSections : List (Section × Nat) → State → LoadStep
  | [], s => { s := s, fail := none }
  | (x, i) :: rest, s =>
    let r := s.loadSection x i
    if r.fail.isSome then r else State.loadSections rest r.s

/-- MICROCODE_LOAD_COMPLETE (R286, R468): every base image has been streamed and checked. -/
def execMicrocodeLoadComplete (s : State) : Host.Outcome State Fault Refusal :=
  let r := State.loadSections (manifestSections s.manifest).zipIdx s
  event "MICROCODE_LOAD_COMPLETE" (s.mode == 2 && s.phase == 5) s
    (match r.fail with
     | some (code, i) => r.s.bootFails code [BitVec.ofNat 64 i]
     | none => (r.s.putMode 3 0).setPhase 6)

/-! ## Initialization: memory (R482, R494) -/

/-- Trained channels of a group. -/
def trainedIn (trained : BitVec 20) (g : Nat) : List Nat :=
  (List.range 5).filter (fun i => trained.getLsbD (5 * g + i))

/-- A channel at bring-up: data position q, parity, or lost. -/
def State.putChannel (s : State) (c st pos gib dimms cause : Nat) : State :=
  let b := bChan c
  let s1 := (((s.setFld b F.CH_STAT_STATE st).setFld b F.CH_STAT_POS pos).setFld b F.CH_STAT_GIB gib).setFld b
    F.CH_STAT_DIMMS dimms
  let s2 := ((s1.setFld b F.CH_STAT_CAUSE cause).setFlag b F.RUN true).setFlag b F.RUNNING true
  if cause = 0 then s2 else (s2.raiseErr (chanPage c) 8).crumb (chanPage c) 0x0900 3 [BitVec.ofNat 64 c]

/-- The channels of a group at bring-up: with five trained, four of data and parity; with four, four of data. -/
def State.putChannels (s : State) (trained : BitVec 20) (g gib dimms : Nat) : State :=
  let up := trainedIn trained g
  (List.range 5).foldl (fun st i =>
    let c := 5 * g + i
    if ¬ trained.getLsbD c then st.putChannel c 4 0 gib dimms 1
    else if up.length = 5 then (if i = 4 then st.putChannel c 3 0 gib dimms 0 else st.putChannel c 2 i gib dimms 0)
    else
      -- the parity channel stands at the data position of the channel that failed (R491)
      let lost := ((List.range 5).find? (fun k => !trained.getLsbD (5 * g + k))).getD 4
      st.putChannel c 2 (if i = 4 then lost else i) gib dimms 0) s

/-- A group with no DIMMs that the complex supports behaves under R3 (R482, R495). -/
def State.unpopulate (s : State) (g : Nat) : State :=
  (List.range 5).foldl (fun st i => st.setFlag (bChan (5 * g + i)) F.PRESENT false)
    (s.setFlag (bGroup g) F.PRESENT false)

/-- A group is brought up: protected, unprotected or offline. -/
def State.putGroup (s : State) (trained : BitVec 20) (g gib : Nat) (two : Bool) : State :=
  let b := bGroup g
  let up := (trainedIn trained g).length
  let s1 := ((s.putChannels trained g gib (if two then 2 else 1)).setFlag b F.RUN true).setFlag b F.RUNNING true
  let lost := ((List.range 5).find? (fun k => !trained.getLsbD (5 * g + k))).map (fun k => 5 * g + k)
  let s2 := (s1.setFld b F.GRP_STAT_SPEED (b2n two)).setFld b F.GRP_STAT_LOST_CH (lost.getD 31)
  if up = 5 then s2.setFld b F.GRP_STAT_STATE 2
  else if up = 4 then (s2.setFld b F.GRP_STAT_PARITY_CH 31).setFld b F.GRP_STAT_STATE 4
  else (((s2.setFld b F.GRP_STAT_STATE 5).raiseErr (groupPage g) 9).crumb (groupPage g) 0x0900 4 [BitVec.ofNat 64 g])

/-- MEM_MAP and the bases of the groups (R483, R484); `gib` is the capacity of a channel of each group. -/
def State.mapMemory (s : State) (gib : Nat → Nat) : State :=
  let pop := (List.range 4).filter (fun g => gib g != 0)
  let ilv := (pop.length == 2 || pop.length == 4) && pop.all (fun g => gib g == gib (pop.headD 0))
  let s1 := ((s.setFld bMem F.MEM_MAP_USABLE ((pop.map (fun g => 4 * gib g)).sum)).setFlag bMem F.MEM_MAP_ILV ilv).setFld
    bMem F.MEM_MAP_GROUPS ((pop.map (fun g => 2 ^ g)).sum)
  let s2 := if ilv then s1
    else pop.foldl (fun st g =>
      st.setFld (bGroup g) F.GRP_STAT_BASE (((pop.filter (fun k => decide (k < g))).map (fun k => 4 * gib k)).sum)) s1
  ((s2.setFlag bMem F.RUN true).setFlag bMem F.RUNNING true).memStat

/-! ## Initialization: roles (R9, R10) -/

/-- The active and spare positions of the variant (Table 0.1). -/
def State.variantCounts (s : State) : Nat × Nat :=
  match s.fld bIdent F.ID_PART_VARIANT with
  | 0 => (32, 8)
  | 1 => (28, 4)
  | 2 => (20, 4)
  | _ => (14, 2)

/-- Healthy positions of a tile, in ascending order. -/
def State.healthyIn (s : State) (t : Nat) : List Nat := ((List.range 10).map (fun i => 10 * t + i)).filter (fun p => s.healthy p)

/-- One round of R9, step 5: each tile in ascending order gives its highest-numbered active position. What is left
of the shortfall, the active positions of the tiles (highest first), the positions given. -/
def spareRound : Nat → List (List Nat) → List Nat → Nat × List (List Nat) × List Nat
  | need, [], given => (need, [], given)
  | need, acts :: rest, given =>
    match need, acts with
    | k + 1, p :: more =>
      let r := spareRound k rest (p :: given)
      (r.1, more :: r.2.1, r.2.2)
    | _, _ =>
      let r := spareRound need rest given
      (r.1, acts :: r.2.1, r.2.2)

/-- The rounds, until the shortfall is covered. -/
def spareRounds : Nat → Nat → List (List Nat) → List Nat → List Nat
  | 0, _, _, given => given
  | f + 1, need, acts, given =>
    if need = 0 then given
    else
      let r := spareRound need acts given
      spareRounds f r.1 r.2.1 r.2.2

/-- The spare positions of R9. -/
def State.sparePositions (s : State) : List Nat :=
  let v := s.variantCounts
  let all := (List.range 40).filter (fun p => s.healthy p)
  let n := if v.1 + v.2 ≤ all.length then v.2 else all.length - v.1
  let share := fun (t : Nat) => n / 4 + (if t < n % 4 then 1 else 0)
  let own := fun (t : Nat) => (s.healthyIn t).reverse.take (share t)
  let acts := (List.range 4).map (fun t => (s.healthyIn t).reverse.drop (share t))
  let first := (List.range 4).flatMap own
  spareRounds 40 (n - first.length) acts first

/-- A position takes its role: 1 active, 2 spare, 3 failed, 0 absent; spares stand in Nap (R425), and L2_WAYS takes
the reset value of the core mode (Table 9.3). -/
def State.takeRole (s : State) (spares : List Nat) (p : Nat) : State :=
  let r := if ¬ s.presentPos p then 0 else if (s.pos p).failed then 3 else if spares.contains p then 2 else 1
  let st := if r = 1 then 0 else if r = 2 then 2 else 4
  let s1 := (s.setFld (bPos p) F.CORE_STAT_ROLE r).setFlag (bPos p) F.CORE_STAT_SPLIT (s.split && r != 0)
  let s2 := (if r = 0 then s1 else s1.resetWays p).setFld (bTilePwr (p / 10)) (pstateFld (p % 10)) st
  if r = 2 then s2.setPos p { s2.pos p with pool0 := true, pool1 := true } else s2

/-- Places a logical core. -/
def State.placeCore (s : State) (n p pipe : Nat) : State :=
  let b := bIdent + 8 * n
  let s1 := ((s.setFld b F.LCORE_MAP_POSITION p).setFld b F.LCORE_MAP_PIPE pipe).setFlag b F.LCORE_MAP_VALID true
  s1.setCore n { s1.core n with homeTile := p / 10 }

/-- Roles and logical core numbers are assigned (R9, R10). -/
def State.assignRoles (s : State) : State :=
  let spares := s.sparePositions
  let s1 := (List.range 40).foldl (fun st p => st.takeRole spares p) s
  let act := (List.range 40).filter (fun p => s1.fld (bPos p) F.CORE_STAT_ROLE == 1)
  let s2 := act.zipIdx.foldl (fun st x =>
    if s.split then (st.placeCore (2 * x.2) x.1 0).placeCore (2 * x.2 + 1) x.1 1 else st.placeCore x.2 x.1 0) s1
  (s2.modEse (fun e => { e with shortStart := decide (act.length < s.variantCounts.1) })).capWords

/-- Positions return to the power state of their role after a warm reset. -/
def State.restPositions (s : State) : State :=
  (List.range 40).foldl (fun st p =>
    let r := st.fld (bPos p) F.CORE_STAT_ROLE
    st.setFld (bTilePwr (p / 10)) (pstateFld (p % 10)) (if r = 1 then 0 else if r = 2 then 2 else 4)) s

/-! ## Initialization: firmware and the first core (R470) -/

/-- A logical core starts at M at FW_ENTRY, PSW at its reset value. -/
def State.startCore (s : State) (n : Nat) : State :=
  let c := s.core n
  if ¬ s.coreValid n ∨ c.started then s
  else
    let a : Arch := { pc := BitVec.ofNat 64 (s.fld bEse F.FW_ENTRY_ADDR) }
    s.setCore n { ({} : LCore) with arch := a, wafer := a, started := true, homeTile := c.homeTile }

/-- The firmware section is copied to its LOAD address and logical core 0 starts; a digest mismatch ends the
boot. -/
def State.startFirmware (s : State) : State :=
  match ((manifestSections s.manifest).zipIdx).find? (fun x => x.1.typ == 2) with
  | some (x, i) =>
    let img := s.flashBytes x.off x.len
    if Config.sha384 img ≠ x.digest then (s.setPhase 7).bootFails 6 [BitVec.ofNat 64 i]
    else
      let img := img.take (s.usable - x.load)
      ((State.writePa (img.length / 128 + 2) s 9 (s.moduleId * 2 ^ 44 + x.load) img false false 0).startCore 0).setPhase 8
  | none => s

/-- MEMORY_BRING_UP_COMPLETE (R470, R482, R494): `gib` holds the capacity of a channel of each group in GiB, 16 bits
each and 0 where it is not populated, `two` the groups with two DIMMs a channel, `slow` the groups that no supported
speed fits, `trained` the channels that trained. On the warm path only the firmware is copied and core 0 started. -/
def execMemoryBringUpComplete (gib : BitVec 64) (two : BitVec 4) (slow : BitVec 4) (trained : BitVec 20) (s : State) :
    Host.Outcome State Fault Refusal :=
  let cap := fun (g : Nat) => if slow.getLsbD g ∨ ¬ s.present (groupPage g) then 0 else bits gib (16 * g) 16
  let s0 := (List.range 4).foldl (fun st g => if slow.getLsbD g then st.crumbOpen esePage 0x0300 [BitVec.ofNat 64 g] else st) s
  let s1 := { s0 with mem := [], poison := [] }
  let s2 := (List.range 4).foldl (fun st g =>
    if cap g = 0 then st.unpopulate g else st.putGroup trained g (cap g) (two.getLsbD g)) s1
  let s3 := s2.mapMemory cap
  event "MEMORY_BRING_UP_COMPLETE" (s.mode == 3 && (s.phase == 6 || s.phase == 7)) s
    (if s.phase = 7 then s.restPositions.startFirmware
     else if (List.range 4).any (fun g => cap g != 0 && s3.groupServes g) then (s3.assignRoles.setPhase 7).startFirmware
     else s3.bootFails 9 [])

/-! ## Commands of the ESE page (R463, R470 to R475) -/

/-- CORE_START: every named core that is held starts. -/
def State.coreStart (s : State) (mask : Word) : State :=
  (List.range 64).foldl (fun st n => if bit mask n then st.startCore n else st) s

/-- OPERATE (R472): BASE, the cores still held, and RUN of the active and spare positions (R268). -/
def State.operate (s : State) : State :=
  let s1 := (List.range 40).foldl (fun st p =>
    let r := st.fld (bPos p) F.CORE_STAT_ROLE
    if r = 1 ∨ r = 2 then (st.setFlag (bPos p) F.RUN true).setFlag (bPos p) F.RUNNING true else st) s
  (((s1.coreStart (BitVec.allOnes 64)).setPhase 9).setFld bEse F.MODE_STAT_BASE 4).refreshModeFrom s.modeStat

/-- Empties the caches of a tile, as CLINV with ALL = 1. -/
def State.emptyTile (s : State) (t : Nat) : State :=
  ((s.tile t).lines.map (·.1)).foldl (fun st l => st.rngLine 2 t l) s

/-- A core is held at its boundary: its state stays in its Wafer. -/
def State.holdCore (s : State) (n : Nat) : State :=
  if s.coreValid n then
    let s1 := s.commitGroup n
    s1.setCore n { s1.core n with held := true }
  else s

/-- Step 1 of QUIESCE: the blocks take no further work. -/
def State.quiesceBlocks (s : State) : State :=
  ([bCss, bCipher, bComp].foldl (fun st b => if bit (st.reg (b + 8)) 63 then st.setFlag b F.QUIESCE true else st) s).modEse
    (fun e => { e with quiesceBegan := true })

/-- A QUIESCE goes on: step 1 begins once no recovery runs (R463), steps 2 and 3 once every station is IDLE (R473). -/
def State.quiesceGo (s : State) : State :=
  if s.ese.quiescing ∧ s.mode ≠ 10 ∧ (s.ese.quiesceBegan ∨ s.ese.recoveries.isEmpty) then
    let s0 := if s.ese.quiesceBegan then s else s.quiesceBlocks
    if s0.outOfIdle = 0 then
      let s1 := ((List.range 64).foldl State.holdCore s0).settleStores
      let s2 := (List.range 4).foldl State.emptyTile s1
      (s2.modEse (fun e => { e with quiescing := false, quiesceBegan := false, inQuiesce := true })).refreshMode
    else s0
  else s

/-- QUIESCE (R473). -/
def State.quiesce (s : State) : State := (s.modEse (fun e => { e with quiescing := true })).quiesceGo

/-- QUIESCE_STATION_TIMEOUT (R473): QSC_TMO has passed, and a station still out of IDLE is halted. -/
def execQuiesceStationTimeout (station : BitVec 16) (s : State) : Host.Outcome State Fault Refusal :=
  let n := station.toNat
  event "QUIESCE_STATION_TIMEOUT" (s.ese.quiescing && s.ese.quiesceBegan && (s.openReq n).isSome && s.mode != 10) s
    ((s.failRequest n 0x0A 0 0).quiesceGo)

/-- RESUME (R473): the QUIESCE bits clear and the held cores go on. -/
def State.modeResume (s : State) : State :=
  let s1 := [bCss, bCipher, bComp].foldl (fun st b => (st.setFlag b F.QUIESCE false).setFlag b F.QUIESCED false) s
  let s2 := { s1 with cores := s1.cores.map (fun (x : Nat × LCore) => (x.1, { x.2 with held := false })) }
  (s2.modEse (fun e => { e with inQuiesce := false })).refreshMode

/-- MFG_TEST (R476): zeroization, then Manufacturing Test. -/
def State.mfgTest (s : State) : State := (s.zeroizeKeys 3).putMode 11 0

/-- A command of MODE_CMD that Table 21.2 accepts; `svc`: from the service port, else from M. -/
def State.modeCmdOk (s : State) (cmd : Nat) (svc : Bool) : Bool :=
  let m := s.mode
  let idle := !s.ese.resetting && !s.ese.resetLow
  match cmd with
  | 0 => true
  | 1 => svc && m == 0 && idle
  | 2 => !svc && m == 3 && s.glazed
  | 3 => decide (4 ≤ m) && decide (m ≤ 7)
  | 4 => m == 9 && idle
  | 5 => m == 9 && idle
  | 6 => true
  | 7 => (decide (1 ≤ m) && decide (m ≤ 9)) || m == 11
  | 8 => svc && m == 0 && idle && s.ese.testEn
  | _ => false

/-- The effect of a command that is accepted. -/
def State.modeCmd (s : State) (cmd : Nat) (reboot svc : Bool) : State :=
  let cause := if svc then 1 else 2
  match cmd with
  | 1 => s.enterBoot
  | 2 => s.operate
  | 3 => s.quiesce
  | 4 => s.modeResume
  | 5 => s.warmReset cause
  | 6 => s.coldReset cause (reboot && s.mode != 11)
  | 7 => s.checkStop 0x0B []
  | 8 => s.mfgTest
  | _ => s

/-! ## Power and the pins (R463, R515 to R517) -/

/-- A command that comes before the ESE answers. -/
def eventAny (m : String) (ok : Bool) (t : State) : Host.Outcome State Fault Refusal :=
  if ok then .next t else .refused (.cannotOccur m)

/-- The power-on reset: everything, but for what is fused and what lies outside the module. The recorder's flood default
is that of the part (Table 0.1). -/
def State.powerOn (s : State) : State :=
  let s1 := ({ State.reset with regs := keepRegs fusedMask s.regs, flash := s.flash, flashSize := s.flashSize,
                                freeCtr := s.freeCtr, pending := s.pending }).fusedMemory
  (s1.setFld bRec F.REC_CTL_RECMODE (if s.fld bIdent F.ID_PART_VARIANT = 3 then 1 else 0)).setFlag bRec F.REC_STAT_FILLING true

/-- POWER_ON (R463, R516, R517, R525): VDD_SVC enters its range; with the reference in tolerance the ESE answers.
`resetLow` tells that SYS_RST_N is held low. -/
def execPowerOn (reference : Bool) (resetLow : Bool) (s : State) : Host.Outcome State Fault Refusal :=
  let s1 := s.powerOn.modEse (fun e => { e with reference := reference, resetLow := resetLow, bootNext := resetLow })
  eventAny "POWER_ON" (!s.powered && !s.ese.vdd) { s1 with powered := reference }

/-- REFERENCE_IN_TOLERANCE (R516): the reference comes after VDD_SVC, and the ESE answers. -/
def execReferenceInTolerance (s : State) : Host.Outcome State Fault Refusal :=
  eventAny "REFERENCE_IN_TOLERANCE" (!s.powered && s.ese.vdd)
    ({ s with powered := true }.modEse (fun e => { e with reference := true }))

/-- REFERENCE_TIMEOUT (R20, R516): no reference in 100 ms; the ESE answers on its backup oscillator. -/
def execReferenceTimeout (s : State) : Host.Outcome State Fault Refusal :=
  eventAny "REFERENCE_TIMEOUT" (!s.powered && s.ese.vdd) { s with powered := true }.backupOscillator

/-- VDD_SVC_LOSS (R463): no power. -/
def execVddSvcLoss (s : State) : Host.Outcome State Fault Refusal :=
  eventAny "VDD_SVC_LOSS" s.ese.vdd
    ({ s.powerOn with powered := false }.modEse (fun e => { e with vdd := false }))

/-- SYS_RST_N_ASSERT (R517): a low pulse that resets starts a cold reset, which holds while the pin stays low. -/
def execSysRstNAssert (s : State) : Host.Outcome State Fault Refusal :=
  event "SYS_RST_N_ASSERT" (!s.ese.resetLow) s
    ((s.coldReset 3 (s.mode != 11)).modEse (fun e => { e with resetLow := true }))

/-- SYS_RST_N_DEASSERT (R517): Secure Boot begins, once the reset sequence has ended. -/
def execSysRstNDeassert (s : State) : Host.Outcome State Fault Refusal :=
  let s1 := s.modEse (fun e => { e with resetLow := false })
  event "SYS_RST_N_DEASSERT" s.ese.resetLow s
    (if s1.ese.bootNext ∧ ¬ s1.ese.resetting then s1.enterBoot else s1)

/-- ESE_SELF_CHECK (R463, Table 21.5). -/
def execEseSelfCheck (s : State) : Host.Outcome State Fault Refusal :=
  event "ESE_SELF_CHECK" true s (s.checkStop 0x0A [])

/-- ROOT_PLL_LOCK_LOSS (R20): Check-Stop, and the ESE returns to the reference. -/
def execRootPllLockLoss (s : State) : Host.Outcome State Fault Refusal :=
  event "ROOT_PLL_LOCK_LOSS" (s.ese.pllLocked && s.mode != 0) s
    ((s.modEse (fun e => { e with pllLocked := false })).checkStop 1 [])

/-- REFERENCE_LOSS (R20, R454): the ESE runs on its backup oscillator and the TOD free-runs. -/
def execReferenceLoss (s : State) : Host.Outcome State Fault Refusal :=
  event "REFERENCE_LOSS" s.ese.reference s (s.modEse (fun e => { e with reference := false })).backupOscillator

/-- THERMTRIP (R520): the pin, which does not depend on the ESE, stays asserted until VDD_SVC is removed. -/
def execThermtrip (s : State) : Host.Outcome State Fault Refusal :=
  eventAny "THERMTRIP" s.ese.vdd (s.modEse (fun e => { e with thermtrip := true }))

/-- IEEE_1149_1_INSTRUCTION (R519): the instruction that takes effect; every other opcode selects the bypass register. -/
def execIeee11491Instruction (ir : BitVec 8) (s : State) : Host.Outcome State Fault Refusal :=
  let i := ir.toNat
  let acts := i == 1 || (s.mode == 11 && (decide (i ≤ 6) || (decide (0x40 ≤ i) && decide (i ≤ 0x7F))))
  event "IEEE_1149_1_INSTRUCTION" true s (s.modEse (fun e => { e with jtag := if acts then i else 0xFF }))

/-! ## Rails (R513) -/

/-- The L3 of a tile is lost: dirty lines are poisoned, clean ones are dropped (R205). -/
def State.loseL3 (s : State) (t : Nat) : State :=
  let mine := (s.tile t).lines.filter (fun (x : Nat × TileLine) => x.2.places.any (fun p => p.1 == 10))
  let s1 := mine.foldl (fun st (x : Nat × TileLine) =>
    let s2 := if x.2.st = .m then st.poisonLine t 10 x.1 else st
    let r := s2.losePlace t 10 x.1
    r.1.deliver r.2) s
  s1.setCacheOn t 10 false

/-- Every position of a tile fails: its spares leave the pool, its logical cores are spared or stopped in turn. -/
def State.loseTile (s : State) (t : Nat) : State :=
  let ps := (List.range 10).map (fun i => 10 * t + i)
  let s1 := ps.foldl (fun st p =>
    if st.role p = 2 then (st.setPos p { st.pos p with pool0 := false, pool1 := false, failed := true }).setRole p 3 else st) s
  let s2 := s1.capWords
  let s3 := ps.foldl (fun st p => (List.range 2).foldl (fun u k =>
    match u.coreOn p k with
    | some n => if u.beingSpared n then u else u.decideSparing p k n false
    | none => u) st) s2
  s3.loseL3 t

/-- Every SerDes link is lost. -/
def State.loseLinks (s : State) : State :=
  let s1 := (List.range 12).foldl (fun st f =>
    if st.fportUp f ∨ st.fld (bFport f) F.FP_STAT_STATE = 1 then st.losePort f else st) s
  let s2 := (List.range 16).foldl (fun st p =>
    if st.cpState p = 0 ∨ st.cpState p = 6 then st else st.linkLost p (st.allLanes p)) s1
  (List.range 8).foldl (fun st i => if st.linkState (i / 4) (i % 4) = 3 then st.linkDown (i / 4) (i % 4) else st) s2

/-- RAIL_FAULT (R513): 0 to 3 VDD_T0 to VDD_T3, 4 VDD_UNC, 5 VDD_SRAM, 6 VDD_SER, 7 VDDH_SER, 8 VDDQ_DDR. -/
def execRailFault (rail : Fin 9) (s : State) : Host.Outcome State Fault Refusal :=
  let r := rail.val
  let s1 := s.crumbOpen esePage 0x0900 [BitVec.ofNat 64 r]
  event "RAIL_FAULT" (s.uncoreUp && decide (9 ≤ s.ese.rails)) s
    (if r < 4 then s1.loseTile r
     else if r = 4 ∨ r = 5 then s1.checkStop 2 []
     else if r = 6 ∨ r = 7 then s1.loseLinks
     else
       let t := (List.range 4).foldl (fun st g =>
         if st.groupServes g then ((st.setGroup g 5).raiseErr (groupPage g) 9).crumb (groupPage g) 0x0900 4 [BitVec.ofNat 64 g]
         else st) s1
       t.checkStop 7 [t.reg (bMem + F.MEM_STAT_OFFLINE.off)])

end Sys2Proof.Machine
end

