-- ==== Sys2Proof/Machine/Puldo.lean ====
section
/-!
DEFINITION. The Puldo instruction set (*Puldo Instruction Encoding and Architected State*): what an instruction
word spells, from the maps of Tables 3.4 to 3.11. Every value those tables mark reserved is Illegal
Instruction, which is the answer `none`.
-/

namespace Sys2Proof.Machine

/-- Two-operand and unary register operations (Tables 3.5, 3.8, 3.10). Unary ones use the first operand. -/
inductive AluF where
  | add | sub | and | or | xor | andn | orn | xnor | slt | sltu | min | max | minu | maxu
  | neg | not | clz | ctz | popc | bswap | sextB | sextH | sextW | zextB | zextH | zextW
  deriving DecidableEq, Repr

inductive ShiftF where
  | sll | srl | sra | rol | ror
  deriving DecidableEq, Repr

inductive MulF where
  | mul | mulh | mulhu | mulhsu | mulw
  deriving DecidableEq, Repr

inductive TrapF where
  | addT | subT | negT
  deriving DecidableEq, Repr

inductive DivF where
  | div | divu | divT | divz | divzu | divw | divuw | divwT
  deriving DecidableEq, Repr

inductive CondF where
  | eq | ne | lt | ge | ltu | geu
  deriving DecidableEq, Repr

inductive DecF where
  | addp | subp | mulp | divp | cmpp
  deriving DecidableEq, Repr

inductive FArithF where
  | fadd | fsub | fmul | fdiv | fsqrt
  deriving DecidableEq, Repr

inductive FmaF where
  | fmadd | fmsub | fnmadd | fnmsub
  deriving DecidableEq, Repr

/-- Conversions: between formats, to an integer, from an integer. -/
inductive FcvtF where
  | fmt | toL | toLU | toW | toWU | fromL | fromLU | fromW | fromWU
  deriving DecidableEq, Repr

inductive FbitF where
  | signC | signN | signX | bitsG | bitsF
  deriving DecidableEq, Repr

inductive FenceF where
  | c | l | s
  deriving DecidableEq, Repr

inductive TlbiF where
  | va | asid | s1all | gpa | vmid | all
  deriving DecidableEq, Repr

/-- A decoded instruction. Registers are numbers; offsets and targets are in bytes; `size` is the log2 of the
access size; `w` selects the 32-bit form and `dbl` binary64. -/
inductive POp where
  | alu (f : AluF) (w : Bool) (rd a b : Nat)
  | aluImm (f : AluF) (w : Bool) (rd a : Nat) (imm : Int)
  | shift (f : ShiftF) (w : Bool) (rd a b : Nat)
  | shiftImm (f : ShiftF) (w : Bool) (rd a cnt : Nat)
  | lui (rd : Nat) (imm : Int)
  | auipc (rd : Nat) (imm : Int)
  | mul (f : MulF) (rd a b : Nat)
  | trapArith (f : TrapF) (w : Bool) (rd a b : Nat)
  | div (f : DivF) (rd a b : Nat)
  | load (size : Nat) (sext : Bool) (rd a : Nat) (imm : Int)
  | store (size b a : Nat) (imm : Int)
  | fload (dbl : Bool) (rd a : Nat) (imm : Int)
  | fstore (dbl : Bool) (b a : Nat) (imm : Int)
  | ldA (size rd a : Nat)
  | stR (size a b : Nat)
  | cas (size rd a b : Nat)
  | casQ (rd a b : Nat)
  | ldQA (rd a : Nat)
  | branch (c : CondF) (a b : Nat) (off : Int)
  | b (off : Int)
  | call (off : Int)
  | jr (a : Nat) (imm : Int)
  | callr (a : Nat) (imm : Int)
  | ret
  | loop (a off : Nat)
  | macd (ty acc a b : Nat)
  | accz (acc : Nat)
  | mfa (hi : Bool) (rd acc : Nat)
  | mta (hi : Bool) (acc a : Nat)
  | dec (f : DecF) (rl a b : Nat)
  | farith (f : FArithF) (dbl : Bool) (rd a b : Nat)
  | fma (f : FmaF) (dbl : Bool) (rd a b c : Nat)
  | fcvt (f : FcvtF) (dbl : Bool) (rd a : Nat)
  | fminmax (max dbl : Bool) (rd a b : Nat)
  | fcmp (c : Nat) (dbl : Bool) (rd a b : Nat)
  | ftype (dbl : Bool) (rd a : Nat)
  | fbit (f : FbitF) (dbl : Bool) (rd a b : Nat)
  | fence (f : FenceF)
  | fsync
  | isync
  | zeroL (a : Nat)
  | tlbi (f : TlbiF) (a b : Nat)
  | mfs (rd num : Nat)
  | mts (num a : Nat)
  | rfe
  | svc (code : Nat)
  | hvc (code : Nat)
  | mcall (code : Nat)
  | brk (code : Nat)
  | nop
  | wait
  | tbegin (off : Int)
  | tbeginb (off : Int)
  | tcommit
  | tabort (a : Nat)
  | ttest (rd : Nat)
  deriving DecidableEq, Repr

/-- A bit field of a number. -/
def nfld (n lo width : Nat) : Nat := (n / 2 ^ lo) % 2 ^ width

/-- The register operations of Table 3.5 and 3.8 that are neither shifts nor trapping, by FUNC of OP 0x01. -/
def aluOfFunc (f : Nat) : Option AluF :=
  [some .add, some .sub, some .and, some .or, some .xor, some .andn, some .orn, some .xnor,
   none, none, none, none, none, some .slt, some .sltu, some .min, some .max, some .minu, some .maxu,
   none, none, some .neg, none, some .not, some .clz, some .ctz, some .popc, some .bswap,
   some .sextB, some .sextH, some .sextW, some .zextB, some .zextH, some .zextW].getD f none

/-- The unary entries of Table 3.8. -/
def AluF.unary : AluF → Bool
  | .neg | .not | .clz | .ctz | .popc | .bswap | .sextB | .sextH | .sextW | .zextB | .zextH | .zextW => true
  | _ => false

/-- The shift entries of Table 3.8, FUNC 0x08 to 0x0C. -/
def shiftOfFunc (f : Nat) : Option ShiftF :=
  if f = 0x08 then some .sll else if f = 0x09 then some .srl else if f = 0x0A then some .sra
  else if f = 0x0B then some .rol else if f = 0x0C then some .ror else none

/-- The special registers of Table 3.2. -/
def specialListed (n : Nat) : Bool :=
  [0x001, 0x002, 0x003, 0x010, 0x011, 0x012, 0x400, 0x401, 0x100, 0x101, 0x102, 0x103, 0x104, 0x105, 0x106,
   0x107, 0x108, 0x110, 0x201, 0x202, 0x203, 0x204, 0x206, 0x210, 0x220, 0x221, 0x222, 0x223, 0x600,
   0x301, 0x302, 0x303, 0x304, 0x306, 0x700].contains n

/-- The 16-bit instruction that a parcel spells (Tables 3.4 and 3.5). -/
def decode16 (p : Nat) : Option POp :=
  let g := nfld p 13 3
  if g = 0 then
    let opc := nfld p 8 5
    let rd := nfld p 4 4
    let rs := nfld p 0 4
    if opc = 0x01 then some (.alu .add false rd rs 0)
    else if opc = 0x02 then some (.alu .add false rd rd rs)
    else if opc = 0x03 then some (.alu .sub false rd rd rs)
    else if opc = 0x04 then some (.alu .and false rd rd rs)
    else if opc = 0x05 then some (.alu .or false rd rd rs)
    else if opc = 0x06 then some (.alu .xor false rd rd rs)
    else if opc = 0x07 then some (.shift .sll false rd rd rs)
    else if opc = 0x08 then some (.shift .srl false rd rd rs)
    else if opc = 0x09 then some (.shift .sra false rd rd rs)
    else if opc = 0x0A then some (.mul .mul rd rd rs)
    else if opc = 0x0B then some (.alu .neg false rd rs 0)
    else if opc = 0x0C then some (.alu .not false rd rs 0)
    else if opc = 0x0D then some (.alu .add true rd rd rs)
    else if opc = 0x0E then some (.alu .sub true rd rd rs)
    else if opc = 0x0F then some (.alu .sextB false rd rs 0)
    else if opc = 0x10 then some (.alu .sextH false rd rs 0)
    else if opc = 0x11 then some (.alu .sextW false rd rs 0)
    else if opc = 0x12 then some (.alu .zextB false rd rs 0)
    else if opc = 0x13 then some (.alu .zextH false rd rs 0)
    else if opc = 0x14 then some (.alu .zextW false rd rs 0)
    else if opc = 0x15 then some (.alu .slt false rd rd rs)
    else if opc = 0x16 then some (.alu .sltu false rd rd rs)
    else if opc = 0x17 then if rd = 0 then some (.jr rs 0) else none
    else if opc = 0x18 then if rd = 0 then some (.callr rs 0) else none
    else none
  else if g = 1 then
    let rd := nfld p 8 4
    let imm := signed 8 (nfld p 0 8)
    if rd = 0 then none
    else if nfld p 12 1 = 0 then some (.aluImm .add false rd rd imm)
    else some (.aluImm .add false rd 0 imm)
  else if g = 2 then
    let op := nfld p 11 2
    let rt := nfld p 7 4
    let u := nfld p 0 7
    if op = 0 then some (.load 3 true rt 31 (u * 8))
    else if op = 1 then some (.store 3 rt 31 (u * 8))
    else if op = 2 then some (.load 2 true rt 31 (u * 4))
    else some (.store 2 rt 31 (u * 4))
  else if g = 3 then
    let op := nfld p 11 2
    let base := nfld p 8 3
    let rt := nfld p 4 4
    let u := nfld p 0 4
    if base = 0 then none
    else if op = 0 then some (.load 3 true rt base (u * 8))
    else if op = 1 then some (.store 3 rt base (u * 8))
    else if op = 2 then some (.load 2 true rt base (u * 4))
    else some (.store 2 rt base (u * 4))
  else if g = 4 then
    let rs := nfld p 9 3
    let off := signed 9 (nfld p 0 9) * 2
    if rs = 0 then none
    else if nfld p 12 1 = 0 then some (.branch .eq rs 0 off)
    else some (.branch .ne rs 0 off)
  else if g = 5 then
    let off := signed 12 (nfld p 0 12) * 2
    if nfld p 12 1 = 0 then some (.b off) else some (.call off)
  else if g = 6 then
    let sub := nfld p 8 5
    let arg := nfld p 0 8
    if sub = 1 then if arg = 0 then some .ret else none
    else if sub = 2 then if arg = 0 then some .nop else none
    else if sub = 3 then some (.brk arg)
    else if sub = 4 then some (.svc arg)
    else none
  else none

/-- OP 0x01 and 0x02 (Table 3.8); SUB must be 0, and RS2 must be 0 for a unary entry. -/
def decodeReg (w : Bool) (sub rd a b f : Nat) : Option POp :=
  if sub ≠ 0 then none
  else match shiftOfFunc f with
    | some sf => some (.shift sf w rd a b)
    | none =>
      if f = 0x13 then some (.trapArith .addT w rd a b)
      else if f = 0x14 then some (.trapArith .subT w rd a b)
      else if w then
        if f = 0 then some (.alu .add true rd a b) else if f = 1 then some (.alu .sub true rd a b) else none
      else if f = 0x16 then if b = 0 then some (.trapArith .negT false rd a b) else none
      else match aluOfFunc f with
        | some af => if af.unary ∧ b ≠ 0 then none else some (.alu af false rd a b)
        | none => none

/-- OP 0x03 (Table 3.9). -/
def decodeMul (sub rd a b f : Nat) : Option POp :=
  if sub ≠ 0 then none
  else if f < 5 then
    some (.mul ([MulF.mul, .mulh, .mulhu, .mulhsu, .mulw].getD f .mul) rd a b)
  else if 8 ≤ f ∧ f < 16 then
    if rd % 2 = 0 then
      some (.div ([DivF.div, .divu, .divT, .divz, .divzu, .divw, .divuw, .divwT].getD (f - 8) .div) rd a b)
    else none
  else none

/-- OP 0x05 (Table 3.10): the count, whose upper bits must be 0. -/
def decodeShiftImm (sub rd a imm : Nat) : Option POp :=
  let f : ShiftF := [ShiftF.sll, .srl, .sra, .ror].getD (sub % 4) .sll
  if sub < 4 then if imm < 64 then some (.shiftImm f false rd a imm) else none
  else if imm < 32 then some (.shiftImm f true rd a imm) else none

/-- OP 0x0A (Table 3.11). -/
def decodeOrdered (sub rd a b f : Nat) : Option POp :=
  if 4 ≤ sub then none
  else if f = 0 then if b = 0 then some (.ldA sub rd a) else none
  else if f = 1 then if rd = 0 then some (.stR sub a b) else none
  else if f = 2 then some (.cas sub rd a b)
  else if f = 3 then if sub = 3 ∧ rd % 2 = 0 ∧ b % 2 = 0 then some (.casQ rd a b) else none
  else if f = 4 then if sub = 3 ∧ rd % 2 = 0 ∧ b = 0 then some (.ldQA rd a) else none
  else none

/-- OP 0x11 (Table 3.10, R66). -/
def decodeAcc (sub rd a b f : Nat) : Option POp :=
  if f ≠ 0 then none
  else if sub = 0 then if rd < 4 ∧ a = 0 ∧ b = 0 then some (.accz rd) else none
  else if sub = 1 then if b < 4 ∧ a = 0 then some (.mfa false rd b) else none
  else if sub = 2 then if b < 4 ∧ a = 0 then some (.mfa true rd b) else none
  else if sub = 3 then if rd < 4 ∧ b = 0 then some (.mta false rd a) else none
  else if sub = 4 then if rd < 4 ∧ b = 0 then some (.mta true rd a) else none
  else none

/-- OP 0x12 (Table 3.11). -/
def decodeFp (sub rd a b f : Nat) : Option POp :=
  let dbl := sub == 1
  if 2 ≤ sub then none
  else if f < 4 then some (.farith ([FArithF.fadd, .fsub, .fmul, .fdiv].getD f .fadd) dbl rd a b)
  else if f = 0x04 then if b = 0 then some (.farith .fsqrt dbl rd a b) else none
  else if f = 0x05 then some (.fminmax false dbl rd a b)
  else if f = 0x06 then some (.fminmax true dbl rd a b)
  else if f = 0x07 then some (.fbit .signC dbl rd a b)
  else if f = 0x08 then some (.fbit .signN dbl rd a b)
  else if f = 0x09 then some (.fbit .signX dbl rd a b)
  else if 0x0A ≤ f ∧ f ≤ 0x0C then some (.fcmp (f - 0x0A) dbl rd a b)
  else if b ≠ 0 then none
  else if f = 0x0D then some (.ftype dbl rd a)
  else if 0x0E ≤ f ∧ f ≤ 0x16 then
    some (.fcvt ([FcvtF.fmt, .toL, .toLU, .toW, .toWU, .fromL, .fromLU, .fromW, .fromWU].getD (f - 0x0E) .fmt) dbl rd a)
  else if f = 0x17 then some (.fbit .bitsG dbl rd a b)
  else if f = 0x18 then some (.fbit .bitsF dbl rd a b)
  else none

/-- OP 0x16 (Table 3.10, R66). -/
def decodeSystem (n sub rd a imm : Nat) : Option POp :=
  let num := nfld n 20 12
  let listed := specialListed num && nfld n 16 4 == 0
  if sub = 0 then if listed then some (.mfs rd num) else none
  else if sub = 1 then if listed && nfld num 10 1 == 0 then some (.mts num rd) else none
  else if sub = 2 then if rd = 0 ∧ a = 0 ∧ imm = 0 then some .rfe else none
  else if sub = 3 then if rd = 0 ∧ a = 0 then some (.svc imm) else none
  else if sub = 4 then if rd = 0 ∧ a = 0 then some (.hvc imm) else none
  else if sub = 5 then if rd = 0 ∧ a = 0 then some (.mcall imm) else none
  else if sub = 6 then if rd = 0 ∧ a = 0 ∧ imm = 0 then some .wait else none
  else none

/-- OP 0x17 (Table 3.11); the fields an entry does not use must be 0. -/
def decodeSync (sub rd a b f : Nat) : Option POp :=
  if sub ≠ 0 ∨ rd ≠ 0 then none
  else if f = 0x00 then if a = 0 ∧ b = 0 then some (.fence .c) else none
  else if f = 0x01 then if a = 0 ∧ b = 0 then some (.fence .l) else none
  else if f = 0x02 then if a = 0 ∧ b = 0 then some (.fence .s) else none
  else if f = 0x03 then if a = 0 ∧ b = 0 then some .fsync else none
  else if f = 0x04 then if a = 0 ∧ b = 0 then some .isync else none
  else if f = 0x05 then if b = 0 then some (.zeroL a) else none
  else if f = 0x06 then some (.tlbi .va a b)
  else if f = 0x07 then if a = 0 then some (.tlbi .asid a b) else none
  else if f = 0x08 then if a = 0 ∧ b = 0 then some (.tlbi .s1all a b) else none
  else if f = 0x09 then some (.tlbi .gpa a b)
  else if f = 0x0A then if a = 0 then some (.tlbi .vmid a b) else none
  else if f = 0x0B then if a = 0 ∧ b = 0 then some (.tlbi .all a b) else none
  else none

/-- The 32-bit instruction that an instruction word spells (Tables 3.6 to 3.11). -/
def decode32 (n : Nat) : Option POp :=
  let op := nfld n 8 5
  let sub := nfld n 0 3
  let rd := nfld n 3 5
  let a := nfld n 16 5
  let b := nfld n 21 5
  let f := nfld n 26 6
  let uimm := nfld n 21 11
  let imm := signed 11 uimm
  let imm24 := signed 24 (nfld n 16 16 * 256 + nfld n 0 8)
  let imm19 := signed 19 (nfld n 16 16 * 8 + sub)
  if op = 0x01 then decodeReg false sub rd a b f
  else if op = 0x02 then decodeReg true sub rd a b f
  else if op = 0x03 then decodeMul sub rd a b f
  else if op = 0x04 then
    if sub < 6 then some (.aluImm ([AluF.add, .and, .or, .xor, .slt, .sltu].getD sub .add) false rd a imm)
    else if sub = 6 then some (.aluImm .add true rd a imm) else none
  else if op = 0x05 then decodeShiftImm sub rd a uimm
  else if op = 0x06 then some (.lui rd imm19)
  else if op = 0x07 then some (.auipc rd imm19)
  else if op = 0x08 then
    if sub < 4 then some (.load sub true rd a imm)
    else if sub < 7 then some (.load (sub - 4) false rd a imm) else none
  else if op = 0x09 then if sub < 4 then some (.store sub rd a imm) else none
  else if op = 0x0A then decodeOrdered sub rd a b f
  else if op = 0x0B then
    if sub < 6 then some (.branch ([CondF.eq, .ne, .lt, .ge, .ltu, .geu].getD sub .eq) a rd (imm * 2)) else none
  else if op = 0x0C then some (.b (imm24 * 2))
  else if op = 0x0D then some (.call (imm24 * 2))
  else if op = 0x0E then
    if rd ≠ 0 then none else if sub = 0 then some (.jr a imm) else if sub = 1 then some (.callr a imm) else none
  else if op = 0x0F then if rd = 0 ∧ sub = 0 ∧ uimm ≠ 0 then some (.loop a (uimm * 2)) else none
  else if op = 0x10 then
    if sub < 3 ∧ rd < 4 ∧ a ≠ 0 ∧ b ≠ 0 ∧ f = 0 then some (.macd sub rd a b) else none
  else if op = 0x11 then decodeAcc sub rd a b f
  else if op = 0x12 then decodeFp sub rd a b f
  else if op = 0x13 then
    if f < 32 then
      some (.fma ([FmaF.fmadd, .fmsub, .fnmadd, .fnmsub].getD (sub / 2) .fmadd) (sub % 2 == 1) rd a b f)
    else none
  else if op = 0x14 then
    if sub = 0 then some (.fload false rd a imm) else if sub = 1 then some (.fload true rd a imm)
    else if sub = 2 then some (.fstore false rd a imm) else if sub = 3 then some (.fstore true rd a imm)
    else none
  else if op = 0x15 then
    if sub < 5 ∧ f = 0 then some (.dec ([DecF.addp, .subp, .mulp, .divp, .cmpp].getD sub .addp) rd a b) else none
  else if op = 0x16 then decodeSystem n sub rd a uimm
  else if op = 0x17 then decodeSync sub rd a b f
  else if op = 0x18 then if rd = 0 then some (.tbegin (imm19 * 2)) else none
  else if op = 0x19 then if rd = 0 then some (.tbeginb (imm19 * 2)) else none
  else if op = 0x1A then
    if f ≠ 0 then none
    else if sub = 0 then if rd = 0 ∧ a = 0 ∧ b = 0 then some .tcommit else none
    else if sub = 1 then if rd = 0 ∧ b = 0 then some (.tabort a) else none
    else if sub = 2 then if a = 0 ∧ b = 0 then some (.ttest rd) else none
    else none
  else none

/-- Whether an instruction word is a 32-bit instruction (R48). -/
def isLong (w : BitVec 32) : Bool := nfld w.toNat 13 3 == 7

/-- The length of an instruction in bytes. -/
def insnLen (w : BitVec 32) : Nat := if isLong w then 4 else 2

/-- The instruction that a fetched word spells; none is Illegal Instruction (R68). -/
def decodePuldo (w : BitVec 32) : Option POp :=
  if isLong w then decode32 w.toNat else decode16 (w.toNat % 0x10000)

/-- The lowest level that may execute an instruction (Table 3.7 and its Level columns; R57 for MFS and MTS). -/
def POp.level : POp → Nat
  | .mfs _ num => nfld num 8 2
  | .mts num _ => nfld num 8 2
  | .rfe | .wait | .hvc _ => 1
  | .mcall _ => 2
  | .tlbi .va _ _ | .tlbi .asid _ _ | .tlbi .s1all _ _ => 1
  | .tlbi .gpa _ _ | .tlbi .vmid _ _ | .tlbi .all _ _ => 2
  | _ => 0

/-- The bit of CORE_CTL whose 0 makes the instruction raise Facility Absent (Table 3.3): 1 FPE, 2 ACCE. -/
def POp.facility : POp → Option Nat
  | .farith .. | .fma .. | .fcvt .. | .fminmax .. | .fcmp .. | .ftype .. | .fbit .. | .fload .. | .fstore .. => some 1
  | .mfs _ num => if num = 1 ∨ num = 2 then some 1 else none
  | .mts num _ => if num = 1 ∨ num = 2 then some 1 else none
  | .macd .. | .accz .. | .mfa .. | .mta .. => some 2
  | _ => none

end Sys2Proof.Machine
end

