-- ==== Sys2Proof/Machine/Alu.lean ====
section
/-!
DEFINITION. Integer and packed-decimal computation (*Integer, Decimal and Control Instructions*).
-/

namespace Sys2Proof.Machine

/-- The result of a W form: a 32-bit result sign-extended from bit 31 (R72). -/
def wResult (n : Nat) : Word := signExt 32 n

/-- Leading zero bits of a 64-bit number. -/
def clz64 (n : Nat) : Nat := if n = 0 then 64 else 63 - Nat.log2 n

/-- Trailing zero bits, looking at `k` bits. -/
def ctzFrom : Nat → Nat → Nat
  | 0, _ => 0
  | k + 1, n => if n % 2 = 1 then 0 else 1 + ctzFrom k (n / 2)

/-- The eight bytes of a word in reverse order. -/
def bswap (v : Word) : Word := BitVec.ofNat 64 (leNat (leBytes 8 v.toNat).reverse)

/-- The operations of R73. -/
def aluOp (f : AluF) (a b : Word) : Word :=
  match f with
  | .add => a + b
  | .sub => a - b
  | .and => a &&& b
  | .or => a ||| b
  | .xor => a ^^^ b
  | .andn => a &&& ~~~b
  | .orn => a ||| ~~~b
  | .xnor => ~~~(a ^^^ b)
  | .slt => BitVec.ofNat 64 (b2n (decide (a.toInt < b.toInt)))
  | .sltu => BitVec.ofNat 64 (b2n (decide (a.toNat < b.toNat)))
  | .min => if a.toInt ≤ b.toInt then a else b
  | .max => if a.toInt ≤ b.toInt then b else a
  | .minu => if a.toNat ≤ b.toNat then a else b
  | .maxu => if a.toNat ≤ b.toNat then b else a
  | .neg => 0 - a
  | .not => ~~~a
  | .clz => BitVec.ofNat 64 (clz64 a.toNat)
  | .ctz => BitVec.ofNat 64 (ctzFrom 64 a.toNat)
  | .popc => BitVec.ofNat 64 (popCount a)
  | .bswap => bswap a
  | .sextB => signExt 8 a.toNat
  | .sextH => signExt 16 a.toNat
  | .sextW => signExt 32 a.toNat
  | .zextB => BitVec.ofNat 64 (a.toNat % 2 ^ 8)
  | .zextH => BitVec.ofNat 64 (a.toNat % 2 ^ 16)
  | .zextW => BitVec.ofNat 64 (a.toNat % 2 ^ 32)

/-- A register or immediate operation in its 64-bit or W form (R72, R73). -/
def aluResult (f : AluF) (w : Bool) (a b : Word) : Word :=
  if w then wResult (aluOp f a b).toNat else aluOp f a b

/-- The shifts and rotates of R74 on `width` bits: the count is the whole unsigned register. -/
def shiftNat (f : ShiftF) (width a c : Nat) : Nat :=
  let x := a % 2 ^ width
  match f with
  | .sll => if c < width then (x * 2 ^ c) % 2 ^ width else 0
  | .srl => if c < width then x / 2 ^ c else 0
  | .sra =>
    if c < width then ((signed width x) / (2 ^ c : Nat) % (2 ^ width : Nat)).toNat
    else if x < 2 ^ (width - 1) then 0 else 2 ^ width - 1
  | .rol => let k := c % width; (x * 2 ^ k) % 2 ^ width + x / 2 ^ (width - k)
  | .ror => let k := c % width; x / 2 ^ k + (x * 2 ^ (width - k)) % 2 ^ width

/-- A shift in its 64-bit or W form. -/
def shiftResult (f : ShiftF) (w : Bool) (a : Word) (c : Nat) : Word :=
  if w then wResult (shiftNat f 32 a.toNat c) else BitVec.ofNat 64 (shiftNat f 64 a.toNat c)

/-- The multiplies of R75. -/
def mulResult (f : MulF) (a b : Word) : Word :=
  match f with
  | .mul => a * b
  | .mulh => wordOfInt ((a.toInt * b.toInt) / (2 ^ 64 : Nat))
  | .mulhu => BitVec.ofNat 64 (a.toNat * b.toNat / 2 ^ 64)
  | .mulhsu => wordOfInt ((a.toInt * (b.toNat : Int)) / (2 ^ 64 : Nat))
  | .mulw => wResult ((a.toNat % 2 ^ 32) * (b.toNat % 2 ^ 32))

/-- A value of `width` bits fits the signed range. -/
def fitsSigned (width : Nat) (i : Int) : Bool :=
  decide (-(2 ^ (width - 1) : Nat) ≤ i) && decide (i < (2 ^ (width - 1) : Nat))

/-- The trapping variants of R76 that are not divides: the result, or none on Fixed-Point Overflow. -/
def trapResult (f : TrapF) (w : Bool) (a b : Word) : Option Word :=
  let width := if w then 32 else 64
  let x := signed width a.toNat
  let y := signed width b.toNat
  let r := match f with | .addT => x + y | .subT => x - y | .negT => -x
  if fitsSigned width r then some (wordOfInt r) else none

/-- The outcome of a divide (R76 to R78). -/
inductive DivRes where
  | ok (quo rem : Word)
  | byZero
  | overflow
  deriving DecidableEq, Repr

/-- Quotient truncated toward zero and remainder with the sign of the dividend (R77). -/
def divSigned (width : Nat) (x y : Int) : DivRes :=
  .ok (signExt width (Int.tdiv x y % (2 ^ width : Nat)).toNat) (signExt width (Int.tmod x y % (2 ^ width : Nat)).toNat)

def divUnsigned (width x y : Nat) : DivRes := .ok (signExt width (x / y)) (signExt width (x % y))

/-- The divides of R77. -/
def divResult (f : DivF) (a b : Word) : DivRes :=
  let width := match f with | .divw | .divuw | .divwT => 32 | _ => 64
  let xu := a.toNat % 2 ^ width
  let yu := b.toNat % 2 ^ width
  let x := signed width xu
  let y := signed width yu
  if yu = 0 then
    match f with
    | .divz | .divzu => .ok 0 a
    | _ => .byZero
  else match f with
    | .div | .divz | .divw => divSigned width x y
    | .divu | .divzu | .divuw => divUnsigned width xu yu
    | .divT | .divwT => if x = -(2 ^ (width - 1) : Nat) ∧ y = -1 then .overflow else divSigned width x y

/-- The comparisons of the conditional branches. -/
def condHolds (c : CondF) (a b : Word) : Bool :=
  match c with
  | .eq => a == b
  | .ne => a != b
  | .lt => decide (a.toInt < b.toInt)
  | .ge => decide (b.toInt ≤ a.toInt)
  | .ltu => decide (a.toNat < b.toNat)
  | .geu => decide (b.toNat ≤ a.toNat)

/-- The lane products of MACD.B (element of 1 byte) and MACD.H (2 bytes), summed (Table 4.4). -/
def macdSum (bytes : Nat) : Nat → Nat → Nat → Int
  | 0, _, _ => 0
  | k + 1, a, b =>
    signed (8 * bytes) a * signed (8 * bytes) b
      + macdSum bytes k (a / 2 ^ (8 * bytes)) (b / 2 ^ (8 * bytes))

/-! ## Packed decimal (R100 to R104) -/

/-- The nibbles of a packed operand in address order: the sign, then the digits, most significant first. -/
def nibbles : List Byte → List Nat
  | [] => []
  | b :: rest => b.toNat / 16 :: b.toNat % 16 :: nibbles rest

/-- Whether every nibble of an operand is valid (Table 4.6). -/
def decValid (bs : List Byte) : Bool :=
  match nibbles bs with
  | [] => false
  | s :: ds => decide (s ≤ 1) && ds.all (fun d => decide (d ≤ 9))

/-- The number that digits spell, most significant first. -/
def digitsNat : Nat → List Nat → Nat
  | acc, [] => acc
  | acc, d :: rest => digitsNat (acc * 10 + d) rest

/-- The value of a packed operand. -/
def decValue (bs : List Byte) : Int :=
  match nibbles bs with
  | [] => 0
  | s :: ds => if s = 1 then -(digitsNat 0 ds : Int) else digitsNat 0 ds

/-- The `k` low decimal digits of a number, most significant first. -/
def decDigits : Nat → Nat → List Nat
  | 0, _ => []
  | k + 1, n => decDigits k (n / 10) ++ [n % 10]

/-- Nibbles paired into bytes, the high nibble first. -/
def pairNibbles : List Nat → List Byte
  | a :: b :: rest => BitVec.ofNat 8 (a * 16 + b) :: pairNibbles rest
  | _ => []

/-- A value as a packed operand of `len` bytes; a zero carries the sign 0 (R102). -/
def decPack (len : Nat) (v : Int) : List Byte :=
  pairNibbles ((if v < 0 then 1 else 0) :: decDigits (2 * len - 1) v.natAbs)

/-- COND of Table 4.7 for an arithmetic result. -/
def decCond (v : Int) : Nat := if v = 0 then 0 else if v < 0 then 1 else 2

/-- The result of a packed-decimal instruction on valid operands: the new operand 1, if it stores one, and
COND; none is Decimal Overflow (R104). -/
def decCompute (f : DecF) (l1 l2 : Nat) (x y : Int) : Option (Option (List Byte) × Nat) :=
  let fits := fun (v : Int) (len : Nat) => decide (v.natAbs < 10 ^ (2 * len - 1))
  match f with
  | .addp => if fits (x + y) l1 then some (some (decPack l1 (x + y)), decCond (x + y)) else none
  | .subp => if fits (x - y) l1 then some (some (decPack l1 (x - y)), decCond (x - y)) else none
  | .mulp => if fits (x * y) l1 then some (some (decPack l1 (x * y)), decCond (x * y)) else none
  | .divp =>
    if l1 ≤ l2 ∨ y = 0 then none
    else
      let q := Int.tdiv x y
      let r := Int.tmod x y
      if fits q (l1 - l2) then some (some (decPack (l1 - l2) q ++ decPack l2 r), decCond q) else none
  | .cmpp => some (none, if x = y then 0 else if x < y then 1 else 2)

end Sys2Proof.Machine
end

