-- ==== Sys2Proof/Machine/SysRegs.lean ====
section
/-!
DEFINITION. The special registers of a logical core (Tables 3.2, 3.3, 6.1, 8.5): which numbers there are, what a
read returns, and which bits a write changes. MFS, MTS and DBG_DATA use it.
-/

namespace Sys2Proof.Machine

/-- The special registers that a core holds itself (Table 3.2). -/
def srHeld : List Nat :=
  [0x001, 0x002, 0x003, 0x010, 0x011, 0x012, 0x100, 0x101, 0x102, 0x103, 0x104, 0x105, 0x106, 0x107, 0x108, 0x110,
   0x201, 0x202, 0x203, 0x204, 0x206, 0x210, 0x220, 0x221, 0x222, 0x223, 0x301, 0x302, 0x303, 0x304, 0x306]

/-- The read-only special registers, which no MTS reaches (Table 3.2). -/
def srComputed : List Nat := [0x400, 0x401, 0x600, 0x700]

/-- Whether Table 3.2 lists a number. -/
def srListed (n : Nat) : Bool := srHeld.contains n || srComputed.contains n

/-- The bits of PSW that an MTS at a level may write (Table 6.1, R131). -/
def pswMask (level : Nat) : Word := if level = 3 then 0x7C else if level = 2 then 0x6C else 0x60

/-- The bits of a special register that an MTS at a level writes; the others keep their value. -/
def srMask (n level : Nat) : Word :=
  if n = srPSW then pswMask level
  else if n = srFPCR then 0x1FF
  else if n = srFPSR then 0x5F
  else if n = srTXSTAT then 0x7FFFFF00
  else if n = srLB ∨ n = srLE then 0xFFFFFFFFFFFFFFFE
  else if n = srCORE_CTL then 7
  else if n = 0x102 ∨ n = 0x202 ∨ n = 0x302 then 0x7FFFFF3FFF
  else if n = 0x103 ∨ n = 0x203 ∨ n = 0x303 then 0xFFFFFFFFFFFFFC00
  else if n = srTTB_S then 0xFFFFFFFFFFFFF001
  else if n = srTTB_H then 0x0FFFFFFFFFFFFFF1
  else if 0x221 ≤ n ∧ n ≤ 0x223 then 0xFFFFFFFFFFFFFFF7
  else BitVec.allOnes 64

/-- What a read of a special register of logical core `n` returns (R58). -/
def State.readSr (s : State) (n num : Nat) : Word :=
  if num = 0x400 then BitVec.ofNat 64 n
  else if num = 0x401 then s.timebase
  else if num = 0x600 then BitVec.ofNat 64 (s.zoneOf n)
  else if num = 0x700 then BitVec.ofNat 64 (s.posOf n + 64 * s.pipeOf n)
  else (s.core n).arch.getS num

/-- A core's state after a write of a special register at a level. -/
def Arch.writeSr (a : Arch) (num level : Nat) (v : Word) : Arch :=
  if srHeld.contains num then
    a.setS num ((a.getS num &&& ~~~srMask num level) ||| (v &&& srMask num level))
  else a

/-- The vector that R57 raises for a number, or none. -/
def srFault (a : Arch) (num : Nat) (write : Bool) : Option Nat :=
  if ¬ srListed num then some 0x04
  else if write ∧ num.testBit 10 then some 0x04
  else if a.level < (num / 256) % 4 then some 0x05
  else if (num = srFPCR ∨ num = srFPSR) ∧ a.sf srCORE_CTL 1 1 = 0 then some 0x06
  else none

/-! ## State of a halted core (R475) -/

/-- The architected state that DBG_SEL names: file 0 G, 1 F, 2 special register, 3 accumulator half, 4 PC. A number
that names nothing reads as zero. -/
def State.debugRead (s : State) (n file num : Nat) : Word :=
  let a := (s.core n).arch
  if file = 0 then (if num < 32 then a.getG num else 0)
  else if file = 1 then (if num < 32 then a.getF num else 0)
  else if file = 2 then (if srListed num then s.readSr n num else 0)
  else if file = 3 then
    (if num < 8 then BitVec.ofNat 64 ((a.getAcc (num / 2)).toNat >>> (64 * (num % 2))) else 0)
  else if file = 4 then a.pc
  else 0

/-- An accumulator with one 64-bit half replaced. -/
def putAccHalf (acc : BitVec 128) (half : Nat) (v : Word) : BitVec 128 :=
  if half = 0 then BitVec.ofNat 128 (acc.toNat / 2 ^ 64 * 2 ^ 64 + v.toNat)
  else BitVec.ofNat 128 (acc.toNat % 2 ^ 64 + v.toNat * 2 ^ 64)

/-- A write of that state, at M authority; bit 0 of PC is zero (Table 3.1). -/
def debugPut (a : Arch) (file num : Nat) (v : Word) : Arch :=
  if file = 0 then (if num < 32 then a.setG num v else a)
  else if file = 1 then (if num < 32 then a.setF num v else a)
  else if file = 2 then a.writeSr num 3 v
  else if file = 3 then (if num < 8 then a.setAcc (num / 2) (putAccHalf (a.getAcc (num / 2)) (num % 2) v) else a)
  else if file = 4 then { a with pc := v &&& 0xFFFFFFFFFFFFFFFE }
  else a

/-- A write of DBG_DATA reaches a halted core and its leading Wafer. -/
def State.debugWrite (s : State) (n file num : Nat) (v : Word) : State :=
  let c := s.core n
  if c.halted then
    let a := debugPut c.arch file num v
    s.setCore n { c with arch := a, wafer := a }
  else s

end Sys2Proof.Machine
end

