-- ==== Sys2Proof/Machine/RegAccess.lean ====
section
/-!
DEFINITION. Accesses to the register window: the refusals of Table 2.6 and where they are recorded, what a
register reads as, what a write changes, and the run, quiesce and soft-reset controls of a block
(*The Register Window*).
-/

namespace Sys2Proof.Machine

/-! ## The source of an access (R40, R47) -/

/-- LEVEL of BLK_CFGERR_INFO: the ESE and the service port have the authority of M (R478). -/
def srcLevel : Src → Nat
  | .core _ l => l.val
  | _ => 3

/-- SVC of BLK_CFGERR_INFO. -/
def srcSvc : Src → Bool
  | .core _ _ => false
  | _ => true

/-- The access comes from the service port. -/
def srcPort : Src → Bool
  | .svc => true
  | _ => false

/-- ZONE of BLK_CFGERR_INFO: 0 at M and for the ESE. -/
def State.srcZone (s : State) : Src → Nat
  | .core n l => if l.val < 3 then s.zoneOf n.val else 0
  | _ => 0

/-- The page whose header records a refusal (R30, R47). -/
def State.errPage (s : State) (src : Src) (p : Page) : Page :=
  if srcLevel src < 3 then ⟨.door, s.srcZone src⟩
  else match p.typ with
    | .zoneTable => zctlPage
    | .sourceArray => icPage
    | _ => p

/-- Records a refusal: CFGERR or SIZEERR, INFO_OVW, BLK_CFGERR_INFO (R36, R37). -/
def State.refusal (s : State) (src : Src) (p : Page) (off reason : Nat) : State :=
  let q := s.errPage src p
  let e := s.reg (q.base + 0x020)
  let s1 := if bit e 0 || bit e 1 then s.raiseErr q 2 else s
  (s1.raiseErr q (if reason = 6 then 1 else 0)).setReg (q.base + 0x030)
    (BitVec.ofNat 64 (off + 2 ^ 16 * reason + 2 ^ 24 * p.index + 2 ^ 40 * s.srcZone src + 2 ^ 48 * srcLevel src +
      2 ^ 50 * b2n (srcSvc src)))

/-! ## What a register reads as -/

/-- DIR_STAT: valid entries, the largest number of reserved ways in a set, eviction buffers in use. -/
def State.dirStat (s : State) : Word :=
  let resv := s.home.dir.filter (fun (x : Nat × DirEntry) => x.2.resv.isSome)
  let most := resv.foldl (fun m (x : Nat × DirEntry) =>
    let k := (resv.filter (fun (y : Nat × DirEntry) => dirSet y.1 == dirSet x.1)).length
    if m < k then k else m) 0
  BitVec.ofNat 64 (s.home.dir.length % 2 ^ 24 + 2 ^ 24 * most + 2 ^ 32 * s.home.evicting.length)

/-- DB_ZONE of zone z's doorbell page (Table 2.8). -/
def State.dbZone (s : State) (z : Nat) : Word :=
  BitVec.ofNat 64 (z + 2 ^ 8 * b2n (s.zoneValid z) + 2 ^ 9 * b2n s.glazed)

/-- A register of a block page as a read returns it: the stored word, or what the block's state gives. -/
def State.liveReg (s : State) (p : Page) (off : Nat) : Word :=
  let i := p.inst
  let stored := s.reg (p.base + off)
  match p.typ with
  | .ese => if off = 0x080 then s.evqData else if off = 0x088 then BitVec.ofNat 64 s.ese.queue.length else stored
  | .pwr => if off = 0x058 then s.ltModule else stored
  | .tilePwr => if off = 0x048 then s.tileStat i else if off = 0x058 then s.tileImax i else stored
  | .recorder => if off = 0x070 then s.recData else stored
  | .zctl => if off = 0x058 then BitVec.ofNat 64 s.zoneCount else stored
  | .position => if off = 0x058 then s.chkLast i else stored
  | .home => if off = 0x058 then s.dirStat else stored
  | .css => if off = 0x048 then s.cssStat else if off = 0x108 then s.pairStat else stored
  | .cport =>
    if off = 0x048 then s.cpStat i
    else if off = 0x078 then BitVec.ofNat 64 (s.xopen i)
    else if off = 0x108 then s.lgStat i
    else if off = 0x110 then s.lgUnit i
    else if off = 0x408 then s.path i (s.fld (bCport i) F.PT_SEL_STATION)
    else if off = 0x410 then s.ptCount i
    else stored
  | .cipher => if off = 0x048 then s.cipherStat else if off = 0x090 then s.keyInfo else stored
  | .cpipe => if off = 0x040 then s.pipeStat i else stored
  | .comp => if off = 0x048 then s.compStat else stored
  | .compressor => if off = 0x040 then s.zuStat i else stored
  | .decompressor => if off = 0x040 then s.zuStat (8 + i) else stored
  | .icGlobal => if off = 0x048 then s.icStat else stored
  | .icIface =>
    if off = 0x040 then s.icCur i
    else if off = 0x050 then s.icPend i
    else if off = 0x060 then BitVec.ofNat 64 (s.coreEvt i)
    else if 0x080 ≤ off ∧ off < 0x0C0 then s.icStk i ((off - 0x080) / 8)
    else stored
  | .door =>
    if off = 0x040 then s.dbZone i
    else if off = 0x218 ∧ ¬ s.present cipherPage then 0
    else stored
  | _ => stored

/-- A read of the source array: a zone reads an entry it does not own as zero (R32, R412). -/
def State.readSource (s : State) (src : Src) (w : Nat) : Word :=
  let n := (w - 0x680000) / 16
  if srcLevel src < 3 ∧ s.irqOwner n ≠ some (s.srcZone src) then 0 else (s.source n).word (w % 16 == 8)

/-- What a read of DBG_DATA returns: nothing for a core that is not halted, and nothing to a logical core. -/
def State.dbgData (s : State) : Word :=
  let n := s.fld bEse F.DBG_SEL_CORE
  if (s.core n).halted then s.debugRead n (s.fld bEse F.DBG_SEL_FILE) (s.fld bEse F.DBG_SEL_NUM) else 0

/-- What a read takes with it: an event queue entry, the next snapshot word, the latch of the time of day. `bad` is
the word of the next record that the recorder SRAM cannot give (R458). -/
def State.readEffect (s : State) (p : Page) (off : Nat) (bad : Option (Fin 16)) : State :=
  match p.typ with
  | .ese => if off = 0x080 then s.evqPop else s
  | .recorder => if off = 0x070 then s.recAdvance bad else if off = 0x080 then s.latchTod else s
  | _ => s

/-- A read of 8 bytes of the window but for the service window's data register (R41, Table 2.7); `w` is the offset in
the window. An access of another size is refused (reason 0x06) and reads as zero. -/
def regRead (src : Src) (size w : Nat) (bad : Option (Fin 16)) (s : State) : State × Word :=
  let w := w % 2 ^ 28
  match pageAt (w / 0x1000) with
  | none => (s, 0)
  | some p =>
    let off := w % 0x1000
    if p.typ = .zoneTable then
      if size ≠ 8 then (s.refusal src p off 6, 0) else (s, s.reg w)
    else if p.typ = .sourceArray then
      if size ≠ 8 then (s.refusal src p off 6, 0) else (s, s.readSource src w)
    else if ¬ s.present p then (s, 0)
    else if size ≠ 8 then (s.refusal src p off 6, 0)
    else if p.typ = .recorder ∧ off = 0x080 then
      let s1 := s.latchTod
      (s1, s1.reg w)
    else if p.typ = .ese ∧ off = 0x0C8 then (s, if srcSvc src then s.dbgData else 0)
    else (s.readEffect p off bad, s.liveReg p off)

/-! ## Zone and protection tables (R154) -/

/-- A write of a table word. -/
def tableWrite (src : Src) (p : Page) (w : Nat) (v : Word) (s : State) : State :=
  let off := w % 0x1000
  match ztMask w with
  | none => s.refusal src p off 7
  | some m =>
    if ¬ ztLegal w v then s.refusal src p off 2
    else if s.glazed ∧ v &&& m ≠ s.reg w then s.refusal src p off 3
    else if s.flag bZctl F.ZT_STAT_BUSY then s.refusal src p off 5
    else if s.glazed then s
    else s.setReg w (v &&& m)

/-- A write of a source array word (R412 to R414). -/
def sourceWrite (src : Src) (p : Page) (w : Nat) (v : Word) (s : State) : State :=
  let n := (w - 0x680000) / 16
  let one := w % 16 == 8
  if srcLevel src < 3 ∧ ¬ s.sourceWriteOwned (s.srcZone src) n one v then s.refusal src p (w % 0x1000) 4
  else if one then s.writeSource1 n v
  else s.writeSource0 n v

/-! ## Refusals of a block page (Table 2.6) -/

/-- The fields of a header register that a write may change. -/
def headerFields (p : Page) (off : Nat) : List Fld :=
  if off = 0x010 then (if p.typ.runFixed then [] else [F.RUN]) ++ [F.SOFT_RESET, F.QUIESCE]
  else if off = 0x020 then [F.BLK_ERR]
  else if off = 0x028 then [F.BLK_ERR_MASK]
  else if off = 0x038 then [F.BLK_SCRATCH]
  else []

/-- The fields of a register of a page, or none at an unassigned offset. Offsets 0x090 to 0x0F8 of the identity page
are reserved, as the header's read-only registers are read-only. -/
def pageFields (p : Page) (off : Nat) : Option (List Fld) :=
  if off % 8 ≠ 0 then none
  else if off < 0x040 then some (headerFields p off)
  else match findReg p.typ.regs off with
    | some r => some r.fields
    | none => if p.typ = .ident ∧ 0x090 ≤ off ∧ off < 0x100 then some [] else none

/-- A field that a write may change. -/
def writable (f : Fld) : Bool :=
  match f.acc with
  | .ro => false
  | _ => true

/-- A value is one of those that a field's list allows. -/
def inRanges : List (Nat × Nat) → Nat → Bool
  | [], _ => false
  | (lo, hi) :: rest, n => (decide (lo ≤ n) && decide (n ≤ hi)) || inRanges rest n

/-- A write places a reserved value in a field (R39, R524). -/
def reservedIn (v : Word) (f : Fld) : Bool :=
  writable f && !f.legal.isEmpty && !inRanges f.legal (bits v f.lo f.width) &&
  (match f.force with
   | some (lo, width) => bits v lo width != 0
   | none => true)

/-- A write places a reserved value in a field of a page: the table's, a way mask of fewer than two ways (R203), and
the engine that the part does not have (R358). -/
def State.reservedWrite (s : State) (p : Page) (off : Nat) (v : Word) (fs : List Fld) : Bool :=
  fs.any (reservedIn v) ||
  (match p.typ with
   | .position => off == 0x108 && !(waysLegal (bits v F.L2_WAYS_WAYS_A.lo F.L2_WAYS_WAYS_A.width) &&
       waysLegal (bits v F.L2_WAYS_WAYS_B.lo F.L2_WAYS_WAYS_B.width))
   | .l3 => off == 0x048 && !waysLegal (bits v F.L3_WAYS_WAYS.lo F.L3_WAYS_WAYS.width)
   | .css => off == 0x100 && bit v 0 && !s.present (engPage 1)
   | _ => false)

/-- A zone has descriptor rings of an engine (R375, R400). -/
def State.hasRings (s : State) (comp : Bool) (z : Nat) : Bool := bit (s.reg (dBase comp + 0x800 + 8 * z)) 0

/-- A write of a doorbell page names a resource that the Glaze does not give to its zone (R46). -/
def State.notOwned (s : State) (p : Page) (off : Nat) (v : Word) : Bool :=
  match p.typ with
  | .door =>
    let z := p.inst
    if 0x080 ≤ off ∧ off < 0x100 then decide (zrtCount (s.zrt z) ≤ (off - 0x080) / 8)
    else if 0x100 ≤ off ∧ off < 0x140 then s.present cipherPage && !s.hasRings false z
    else if 0x140 ≤ off ∧ off < 0x180 then s.present compPage && !s.hasRings true z
    else if off = 0x200 then s.present cipherPage && keyNotOwned s z v
    else if 0x300 ≤ off ∧ off < 0x500 then
      let e := s.reg (ztCoreZone + 8 * ((off - 0x300) / 8))
      !(bit e 8 && bits e 0 8 == z)
    else false
  | _ => false

/-- The ESE-page writes that a source may not make, and the commands that the mode refuses. -/
def State.eseRefused (s : State) (src : Src) (off : Nat) (v : Word) (fs : List Fld) : List Fld :=
  if off = 0x048 then
    let ok := match src with
      | .core _ _ => s.modeCmdOk (bits v 0 4) false
      | .svc => s.modeCmdOk (bits v 0 4) true
      | .ese => bits v 0 4 != 2 && s.modeCmdOk (bits v 0 4) false
    if ok then [] else fs
  else if off = 0x050 then
    if srcSvc src ∨ bit v 0 = s.split then [] else [F.BOOT_OPT_SPLIT]
  else if off = 0x068 then (if s.mode = 3 then [] else fs)
  else if off = 0x0B0 then
    if bits v 8 2 = 0 ∧ srcSvc src then []
    else if srcPort src ∧ 4 ≤ s.mode ∧ s.mode ≤ 8 ∧ s.flag bEse F.BOOT_OPT_DEBUG_EN then [] else fs
  else if (off = 0x090 ∨ off = 0x098 ∨ off = 0x0A0 ∨ off = 0x0C0 ∨ off = 0x0C8) ∧ ¬ srcSvc src then fs
  else []

/-- The fields that the block's present state refuses (reason 0x05). -/
def State.refused05 (s : State) (src : Src) (p : Page) (off : Nat) (v : Word) (fs : List Fld) : List Fld :=
  let i := p.inst
  if 0x040 ≤ off ∧ s.flag p.base F.BUSY ∧ ¬ (p.typ = .eng ∧ s.engRole i = 6) then fs
  else if off = 0x010 then
    let byCore := (p.typ = .position ∨ p.typ = .eng) ∧ ¬ srcSvc src
    if byCore then fs
    else
      (if (p.typ = .memory ∨ p.typ = .group ∨ p.typ = .chan) ∧ s.glazed ∧ s.flag p.base F.RUN ∧ ¬ bit v 0 then [F.RUN]
       else []) ++
      (if bit v 1 ∧ s.running p then [F.SOFT_RESET] else [])
  else if off < 0x040 then []
  else match p.typ with
    | .ese => s.eseRefused src off v fs
    | .recorder => recRefused s off v
    | .zctl => zctlRefused s off v
    | .position => posRefused s i off v
    | .l3 => l3Refused s i off v
    | .home => homeRefused s off v
    | .fport => fportRefused s i off v
    | .chan => chanRefused s i off v
    | .css => if 0x800 ≤ off ∧ zrtRefused s ((off - 0x800) / 8) v then fs else pairRefused s off v
    | .cport => cportRefused s i off v ++ ptRefused s i off v
    | .cipher => if 0x068 ≤ off ∧ off < 0x080 then keyRefused s 256 (off - 0x068) v else []
    | .icIface => if off = 0x058 ∧ srcLevel src = 1 then fs else ifaceRefused s i off v
    | .ucode => ucRefused s i off v
    | .door =>
      if 0x080 ≤ off ∧ off < 0x100 then (if s.glazed then [] else fs)
      else if 0x100 ≤ off ∧ off < 0x140 then (if s.glazed ∧ s.present cipherPage then [] else fs)
      else if 0x140 ≤ off ∧ off < 0x180 then (if s.glazed ∧ s.present compPage then [] else fs)
      else if 0x200 ≤ off ∧ off < 0x218 then keyRefused s i (off - 0x200) v
      else []
    | _ => []

/-- The GL fields that a write after the Glaze would change (reason 0x03, R523); `old` is what the register reads. -/
def refused03 (old v : Word) (fs : List Fld) : List Fld :=
  fs.filter (fun f => decide (f.acc = .gl) && bits v f.lo f.width != bits old f.lo f.width)

/-- The RW-S fields that a write would change while the block runs (reason 0x01, R38). -/
def State.refused01 (s : State) (p : Page) (old v : Word) (fs : List Fld) : List Fld :=
  if s.flag p.base F.RUN ∨ s.running p then
    fs.filter (fun f => decide (f.acc = .rwS) && bits v f.lo f.width != bits old f.lo f.width)
  else []

/-! ## The effect of a write -/

/-- The registers whose value is the block's state and is stored nowhere else: PT_DATA, and the data registers of the
service window and of debug. -/
def storedElsewhere (p : Page) (off : Nat) : Bool :=
  match p.typ with
  | .cport => off == 0x408
  | .ese => off == 0x0A0 || off == 0x0C8
  | _ => false

/-- One field of a stored word after a write that is not refused for it. -/
def storeField (old v w : Word) (f : Fld) : Word :=
  match f.acc with
  | .rwS | .rwL | .gl => putBits w f.lo f.width (bits v f.lo f.width)
  | .w1c => putBits w f.lo f.width (bits (old &&& ~~~v) f.lo f.width)
  | .ro | .cmd | .wo => w

/-- A stored word after a write, with the fields in `bad` left alone. -/
def storeFields (old v : Word) (bad fs : List Fld) : Word :=
  fs.foldl (fun w f => if bad.contains f then w else storeField old v w f) old

/-- A written word with the bits of the refused fields zero. -/
def maskRefused (v : Word) (bad : List Fld) : Word := bad.foldl (fun w f => putBits w f.lo f.width 0) v

/-- What starting a block does beyond RUNNING (R35). -/
def blockStart (p : Page) (s : State) : State :=
  match p.typ with
  | .css => cssStart s
  | .cport => cportStart p.inst s
  | .fport => fportStart p.inst s
  | .rport => rportStart p.inst s
  | _ => s

/-- What a block does when it has stopped. -/
def blockStop (p : Page) (s : State) : State :=
  match p.typ with
  | .css => cssStop s
  | .cport => cportStop p.inst s
  | .fport => fportStop p.inst s
  | .rport => rportStop p.inst s
  | _ => s

/-- The RW-S and RW-L bits of a page's registers from 0x040 upward. -/
def softMask (p : Page) (off : Nat) : Word :=
  match findReg p.typ.regs off with
  | some r => r.fields.foldl (fun m f =>
      if f.acc = .rwS ∨ f.acc = .rwL then putBits m f.lo f.width (2 ^ f.width - 1) else m) 0
  | none => 0

/-- The internal state of a block returns to reset (R35). -/
def softInternal (p : Page) (s : State) : State :=
  let i := p.inst
  match p.typ with
  | .home => { s with home := {} }
  | .fport => fportStop i s
  | .group => { s with scrub := SMap.erase s.scrub i }
  | .css => { s with css := { s.css with stations := [], rings := [], lastXid := 0, abandoned := [], doorbells := [] } }
  | .cport => { s with css := { s.css with ports := SMap.erase s.css.ports i } }.setFld (bCport i) F.CP_STAT_STATE 0
  | .cipher => { (s.endCipherWork (fun _ => true) (fun _ => true)).zeroizeKeys 2 with cRings := [], cJobs := [], cUnits := [] }
  | .cpipe => s.setPipe i {}
  | .comp => { s with zRings := [], zJobs := [] }
  | .icGlobal => { s with ic := [], icOrder := 0 }
  | .rport => { s with pcie := s.pcie.filter (fun (x : Nat × Byte) => x.1 / 4096 / 4 != i) }
  | .ucode => ucStop i s
  | _ => s

/-- A soft reset is accepted: BUSY, the block's internal state, its RW-S and RW-L fields (R35). -/
def softReset (p : Page) (s : State) : State :=
  let s1 := softInternal p s
  let keep := fun (w : Nat) =>
    if w / 0x1000 = p.index ∧ 0x040 ≤ w % 0x1000 then ~~~softMask p (w % 0x1000) else BitVec.allOnes 64
  let s2 := { s1 with regs := keepRegs keep s1.regs }.setFlag p.base F.BUSY true
  if p.typ = .position then s2.resetWays p.inst else s2

/-- What a write of BLK_CTL does, as far as it is not refused (R35). -/
def controlWrite (p : Page) (v : Word) (bad : List Fld) (s : State) : State :=
  let run := !bad.contains F.RUN && !p.typ.runFixed
  let was := s.flag p.base F.RUN
  let s1 :=
    if run ∧ bit v 0 ∧ ¬ was then blockStart p ((s.setFlag p.base F.RUN true).setFlag p.base F.RUNNING true)
    else if run ∧ ¬ bit v 0 ∧ was then
      (if p.typ = .ucode then ucStop p.inst (s.setFlag p.base F.RUN false) else s.setFlag p.base F.RUN false)
    else s
  let s2 :=
    if bad.contains F.QUIESCE then s1
    else
      let a := s1.setFlag p.base F.QUIESCE (bit v 2)
      if bit v 2 then a else a.setFlag p.base F.QUIESCED false
  if bit v 1 ∧ ¬ bad.contains F.SOFT_RESET then softReset p s2 else s2

/-- What an accepted write of an ESE register does beyond storing it. -/
def eseWrote (src : Src) (off : Nat) (v : Word) (s : State) : State :=
  if off = 0x048 then s.modeCmd (bits v 0 4) (bit v 4) (srcPort src)
  else if off = 0x068 then s.coreStart v
  else if off = 0x0B0 then
    let n := bits v 0 6
    if bits v 8 2 = 1 then s.debugHalt n
    else if bits v 8 2 = 2 then s.debugResume n
    else if bits v 8 2 = 3 ∧ (s.core n).halted then s.setCore n { s.core n with stepGrant := true }
    else s
  else if off = 0x0C8 then
    s.debugWrite (s.fld bEse F.DBG_SEL_CORE) (s.fld bEse F.DBG_SEL_FILE) (s.fld bEse F.DBG_SEL_NUM) v
  else s

/-- What an accepted write of a doorbell page does beyond storing it (R46). -/
def doorWrote (z off : Nat) (v : Word) (s : State) : State :=
  if 0x080 ≤ off ∧ off < 0x100 then s.cssDoorbell (zrtFirst (s.zrt z) + (off - 0x080) / 8) (bits v 0 32)
  else if 0x100 ≤ off ∧ off < 0x140 then s.cipherDoorbell (8 * z + (off - 0x100) / 8) (bits v 0 32)
  else if 0x140 ≤ off ∧ off < 0x180 then s.compDoorbell (8 * z + (off - 0x140) / 8) (bits v 0 32)
  else if 0x200 ≤ off ∧ off < 0x218 then keyWrote z (off - 0x200) v s
  else if 0x300 ≤ off ∧ off < 0x500 then s.reselect ((off - 0x300) / 8)
  else s

/-- What a write does once its fields are stored; `old` is the state before the write. -/
def blockWrote (src : Src) (p : Page) (off : Nat) (v : Word) (old s : State) : State :=
  let i := p.inst
  match p.typ with
  | .ese => eseWrote src off v s
  | .pwr => pwrWrote off s
  | .tilePwr => tilePwrWrote i off s
  | .recorder => recWrote off v s
  | .zctl => zctlWrote off v s
  | .position => posWrote i off v s
  | .l3 => l3Wrote i off v s
  | .home => homeWrote off old s
  | .fport => fportWrote i off v s
  | .chan => chanWrote i off v s
  | .css => if off = 0x060 then s.cssDoorbell 1024 (bits v 0 32) else pairWrote off v s
  | .cport => ptWrote i off v (cportCommand i off v s)
  | .cipher =>
    if off = 0x060 then s.cipherDoorbell 2048 (bits v 0 32)
    else if 0x068 ≤ off ∧ off < 0x080 then keyWrote 256 (off - 0x068) v s
    else if off = 0x098 ∧ bit v 0 then s.zeroizeAll
    else s
  | .comp => if off = 0x060 then s.compDoorbell 2048 (bits v 0 32) else s
  | .icIface => ifaceWrote i off v s
  | .rport => rportWrote i off s
  | .door => doorWrote i off v s
  | .ucode => ucWrote i off v s
  | _ => s

/-- The state that a refused KEY_DATA or UC_DATA write leaves beyond its record (R282, R366). -/
def refusedEffect (p : Page) (off : Nat) (s : State) : State :=
  match p.typ with
  | .ucode => ucOverflow s p.inst off
  | .cipher => if 0x068 ≤ off ∧ off < 0x080 then keyOverflow s 256 (off - 0x068) else s
  | .door => if 0x200 ≤ off ∧ off < 0x218 ∧ s.glazed ∧ s.present cipherPage then keyOverflow s p.inst (off - 0x200) else s
  | _ => s

/-- The bits of BLK_ERR_MASK that a block assigns. -/
def errMask (p : Page) : Word := BitVec.ofNat 64 (7 + p.typ.errBits)

/-- The part of a write that is not refused takes effect. -/
def applyWrite (src : Src) (p : Page) (off : Nat) (v : Word) (bad fs : List Fld) (s : State) : State :=
  if off = 0x010 then controlWrite p v bad s
  else if off = 0x028 then s.setReg (p.base + off) (v &&& errMask p)
  else
    let old := s.reg (p.base + off)
    let s1 := if storedElsewhere p off then s else s.setReg (p.base + off) (storeFields old v bad fs)
    if !fs.any writable || (fs.filter writable).all (fun f => bad.contains f) then s1
    else blockWrote src p off (maskRefused v bad) s s1

/-- A write of 8 bytes to a register of a page that is present (R37 to R40). -/
def blockWrite (src : Src) (p : Page) (off : Nat) (v : Word) (s : State) : State :=
  match pageFields p off with
  | none => s.refusal src p off 7
  | some fs =>
    if s.notOwned p off v then s.refusal src p off 4
    else if s.reservedWrite p off v fs then s.refusal src p off 2
    else
      let old := s.liveReg p off
      let b3 := if s.glazed then refused03 old v fs else []
      let b5 := s.refused05 src p off v fs
      let b1 := s.refused01 p old v fs
      let s1 :=
        if !b3.isEmpty then s.refusal src p off 3
        else if !b5.isEmpty then s.refusal src p off 5
        else if !b1.isEmpty then s.refusal src p off 1
        else s
      let s2 := if b5.isEmpty then s1 else refusedEffect p off s1
      applyWrite src p off v (b3 ++ b5 ++ b1) fs s2

/-- A write in the window but for the service window's data register; `w` is the offset in the window. In Check-Stop
the pages beyond the ESE's and the recorder's are frozen (R474). -/
def regWrite (src : Src) (size w : Nat) (v : Word) (s : State) : State :=
  let w := w % 2 ^ 28
  match pageAt (w / 0x1000) with
  | none => s
  | some p =>
    let off := w % 0x1000
    let frozen := s.mode = 10 ∧ p.typ ≠ .ese ∧ p.typ ≠ .recorder
    if frozen then s
    else if p.typ = .zoneTable then (if size ≠ 8 then s.refusal src p off 6 else tableWrite src p w v s)
    else if p.typ = .sourceArray then (if size ≠ 8 then s.refusal src p off 6 else sourceWrite src p w v s)
    else if ¬ s.present p then s
    else if size ≠ 8 then s.refusal src p off 6
    else blockWrite src p off v s

/-- The access class of a page admits a source (R32, Table 2.3). -/
def State.classAllows (s : State) (src : Src) (p : Option Page) : Bool :=
  match src with
  | .core n l =>
    match p with
    | some q =>
      match q.typ with
      | .icIface => decide (1 ≤ l.val) && decide (q.inst = n.val)
      | .sourceArray => decide (2 ≤ l.val)
      | .door => l.val == 3 || s.zoneOf n.val == q.inst
      | _ => l.val == 3
    | none => l.val == 3
  | _ => true

/-! ## Block controls that end later (R35) -/

/-- A block has reached the boundary at which it stops. -/
def State.atBoundary (s : State) (p : Page) : Bool :=
  match p.typ with
  | .css => s.outOfIdle == 0
  | .cipher => (List.range 16).all (fun n => (s.pipe n).unit.isNone)
  | .cpipe => (s.pipe p.inst).unit.isNone
  | .comp => (List.range 16).all (fun u => (s.zJobOf u).isNone && (s.zStation u).isNone)
  | .compressor => (s.zJobOf p.inst).isNone && (s.zStation p.inst).isNone
  | .decompressor => (s.zJobOf (8 + p.inst)).isNone && (s.zStation (8 + p.inst)).isNone
  | .l3 => (s.tile p.inst).jobs.isEmpty
  | .home => s.home.busy.isEmpty && s.home.evicting.isEmpty && s.home.recalls.isEmpty
  | .fport => (s.fport p.inst).replay.isEmpty
  | .ucode => s.ucState p.inst != 2
  | _ => true

/-- A block has finished the work it had accepted. -/
def State.noWorkLeft (s : State) (p : Page) : Bool :=
  match p.typ with
  | .comp => s.atBoundary p && bits s.compStat 32 7 == 0
  | _ => s.atBoundary p

end Sys2Proof.Machine
end

