-- ==== Sys2Proof/Machine/Operands.lean ====
section
/-!
DEFINITION. The addresses of a core's accesses: exceptions, the translation of R157 to R160 with the TLB of R165, and
the checks of R161 to R164, R172 and R173.
-/

namespace Sys2Proof.Machine

/-! ## Exceptions and the outcome of part of an instruction -/

/-- What part of an instruction comes to: a value; an exception; an abort of the open transaction, with DETAIL and
EADDR of Transaction Abort Escape (R195) where it escapes; or that the instruction does not retire yet, the state
holding what it has set going. -/
inductive Res (α : Type) where
  | ok (s : State) (v : α)
  | exc (s : State) (e : Exc)
  | abort (s : State) (code : Nat) (esc : Option (Nat × Word))
  | held (s : State)
  deriving DecidableEq, Repr

/-- Goes on with the value. -/
def Res.bind {α β : Type} (r : Res α) (f : State → α → Res β) : Res β :=
  match r with
  | .ok s v => f s v
  | .exc s e => .exc s e
  | .abort s c d => .abort s c d
  | .held s => .held s

/-- Replaces an exception. -/
def Res.mapExc {α : Type} (r : Res α) (f : Exc → Exc) : Res α :=
  match r with
  | .exc s e => .exc s (f e)
  | x => x

/-! ## Accesses -/

/-- The kinds of access that the checks tell apart. LD.A and ST.R are loads and stores; `block` and `blockStore` are
those of the vector block (R137). -/
inductive AKind where
  | load | ldQ | macd | decLoad | pop | block
  | store | decStore | zero | push | blockStore
  | cas | casQ
  | fetch
  deriving DecidableEq, Repr

/-- The access writes, or may write. -/
def AKind.writes : AKind → Bool
  | .store | .decStore | .zero | .push | .blockStore | .cas | .casQ => true
  | _ => false

/-- The access reads data. -/
def AKind.reads : AKind → Bool
  | .load | .ldQ | .macd | .decLoad | .pop | .block | .cas | .casQ => true
  | _ => false

/-- An access: kind, level, size in bytes, and whether it must be naturally aligned on any memory (Table 8.1). -/
structure Acc where
  kind : AKind
  level : Nat
  size : Nat
  strict : Bool := false
  deriving DecidableEq, Repr

/-- A translation or a protection fault of an access, by DETAIL. -/
def tFault (k : AKind) (d : Nat) (stage2 : Bool) : Exc :=
  { vec := if k = .fetch then 0x03 else 0x07, detail := d, stage2 := stage2, write := k.writes }

/-- A refusal of an access by permission, bounds, class or target: vector 0x08, or 0x02 for a fetch. -/
def pFault (k : AKind) (dataDetail fetchDetail : Nat) : Exc :=
  if k = .fetch then { vec := 0x02, detail := fetchDetail }
  else { vec := 0x08, detail := dataDetail, write := k.writes }

/-- An uncorrectable error on data that an instruction consumes (Table 6.4, vector 0x00). -/
def mcPoison : Exc := { vec := 0x00, detail := 2 }

/-! ## Targets (R27 to R29) -/

/-- A physical address lies in main memory that exists: usable memory of the module, or memory of another module
while the home agent sends requests there (R27). -/
def State.mainTarget (s : State) (pa : Nat) : Bool :=
  if pa / 2 ^ 44 = s.moduleId then decide (pa % 2 ^ 44 < s.usable)
  else decide (pa % 2 ^ 44 < 2 ^ 43) && s.running homePage && (s.portFor (pa / 2 ^ 44)).isSome

/-- What a physical address names, with the memory type that the translation gives main memory (R160). -/
inductive MemType where
  | wb | uncached | device
  | register | otherRegister | flash | pcie | config | hole
  deriving DecidableEq, Repr

/-- The type of an address; `attr` is the stronger ATTR of the two stages. -/
def State.memType (s : State) (pa attr : Nat) : MemType :=
  let a := pa % 2 ^ 44
  let own := pa / 2 ^ 44 == s.moduleId
  if 0xFFFF0000000 ≤ a then (if own then .register else .otherRegister)
  else if own ∧ 0xFFFE0000000 ≤ a then .flash
  else if own ∧ (ecamPort a).isSome then .config
  else if own ∧ 2 ^ 43 ≤ a then (if (s.windowLink a).isSome then .pcie else .hole)
  else if s.mainTarget pa then (if attr = 2 then .device else if attr = 1 then .uncached else .wb)
  else .hole

/-- Device memory, whose accesses must be aligned (Table 8.1). -/
def MemType.isDevice : MemType → Bool
  | .device | .register | .otherRegister | .flash | .pcie | .config => true
  | _ => false

/-- An address in the register window, the boot flash window or a PCI Express window of the module (R87). -/
def State.inWindow (s : State) (pa : Nat) : Bool :=
  decide (0xFFFF0000000 ≤ pa % 2 ^ 44) ||
  (pa / 2 ^ 44 == s.moduleId && (decide (0xFFFE0000000 ≤ pa % 2 ^ 44) || (pciePort (pa % 2 ^ 44)).isSome ||
    (ecamPort (pa % 2 ^ 44)).isSome))

/-- A core at a level as the source of a register access. -/
def srcCore (n level : Nat) : Src := .core (Fin.ofNat 64 n) (Fin.ofNat 4 level)

/-! ## Translation (R157 to R161) -/

/-- An address after translation: physical address, ATTR in force, and the leaves of the two stages. -/
structure Trans where
  pa : Nat
  attr : Nat
  leaf1 : Option Word := none
  leaf2 : Option Word := none
  deriving DecidableEq, Repr

/-- Bits [63:56] of an address all equal bit 56 (R161, step 1). -/
def canonicalVa (va : Word) : Bool := bits va 56 8 == 0 || bits va 56 8 == 255

/-- One table read of a walk: zone bounds, target, poison (R161, R162). -/
def State.tableRead (s : State) (z ea : Nat) (k : AKind) : Res Word :=
  if ¬ s.inBounds z 1 ea .read ∨ ¬ s.mainTarget ea then .exc s (tFault k 7 true)
  else
    let r := s.readPa 2 ea 8
    if r.poison then .exc r.s mcPoison else .ok r.s (BitVec.ofNat 64 (leNat r.data))

/-- The stage-2 walk of a GPA from level `level` down: the leaf and the size it maps. -/
def State.walk2 : Nat → State → Nat → Nat → Nat → AKind → Bool → Res (Word × Nat)
  | 0, s, _, _, _, k, _ => .exc s (tFault k 2 true)
  | level + 1, s, z, table, gpa, k, write =>
    (s.tableRead z (table + 8 * (gpa / levelSize level % 512)) k).bind fun s1 e =>
      match entryFault false level write e with
      | some d => .exc s1 (tFault k d true)
      | none => if teType e = 2 then State.walk2 level s1 z (teAddr e) gpa k write else .ok s1 (e, levelSize level)

/-- A GPA after stage 2: physical address, leaf, and the size that the stage maps (R159). -/
structure Stage2 where
  pa : Nat
  leaf : Option Word
  size : Nat

/-- Stage-2 translation of a GPA for core `n`. -/
def State.stage2 (s : State) (n gpa : Nat) (k : AKind) (write : Bool) : Res Stage2 :=
  let ttb := (s.core n).arch.getS srTTB_H
  if bit ttb 0 then
    (State.walk2 4 s (s.zoneOf n) (bits ttb 12 48 * 4096) gpa k write).bind fun s1 x =>
      .ok s1 { pa := teAddr x.1 + gpa % x.2, leaf := some x.1, size := x.2 }
  else if 2 ^ 44 ≤ gpa then .exc s (tFault k 6 true)
  else .ok s { pa := s.moduleId * 2 ^ 44 + gpa, leaf := none, size := 2 ^ 44 }

/-- A stage-2 leaf does not let the walker read a table (R161). -/
def tableDenied (x : Stage2) : Bool :=
  match x.leaf with
  | some e => !teR e
  | none => false

/-- The stage-1 walk of a virtual address from level `level` down, its tables named by GPA. -/
def State.walk1 : Nat → State → Nat → Nat → Nat → AKind → Res (Word × Nat)
  | 0, s, _, _, _, k => .exc s (tFault k 2 false)
  | level + 1, s, n, table, va, k =>
    (s.stage2 n (table + 8 * (va / levelSize level % 512)) k false).bind fun s1 x =>
      if tableDenied x then .exc s1 { pFault k 1 1 with stage2 := true }
      else
        (s1.tableRead (s1.zoneOf n) x.pa k).bind fun s2 e =>
          match entryFault true level k.writes e with
          | some d => .exc s2 (tFault k d false)
          | none => if teType e = 2 then State.walk1 level s2 n (teAddr e) va k else .ok s2 (e, levelSize level)

/-- Whether a TLB entry translates an address for a core as its translation registers stand (R165). -/
def TlbEntry.hits (e : TlbEntry) (zone va : Nat) (ttbS ttbH : Word) : Bool :=
  e.zone == zone && e.vmid == bits ttbH 4 8 && e.stage1 == bit ttbS 0 && e.leaf2.isSome == bit ttbH 0 &&
  (!e.stage1 || e.asid == none || e.asid == some (bits ttbS 48 16)) && decide (e.va ≤ va) && decide (va < e.va + e.size)

/-- Puts an entry into a core's TLB, which holds 4,096 entries. -/
def State.fillTlb (s : State) (n : Nat) (e : TlbEntry) : State :=
  let c := s.core n
  s.setCore n { c with tlb := (if c.tlb.length < 4096 then c.tlb else c.tlb.drop 1) ++ [e] }

/-- A transaction notes the translations it uses (Table 8.6, code 0x0F). -/
def State.notePage (s : State) (n : Nat) (e : TlbEntry) : State :=
  let c := s.core n
  match c.tx with
  | some t => if t.pages.contains e then s else s.setCore n { c with tx := some { t with pages := t.pages ++ [e] } }
  | none => s

/-- The stronger ATTR of two leaves; a stage that is off is write-back (R159, R160). -/
def strongerAttr (a b : Option Word) : Nat :=
  let x := (a.map teAttr).getD 0
  let y := (b.map teAttr).getD 0
  if x < y then y else x

/-- An address through a TLB entry: a write meets the D bits of the cached leaves. -/
def TlbEntry.use (e : TlbEntry) (va : Nat) (k : AKind) : Except Exc Trans :=
  if k.writes ∧ e.leaf1.any (fun l => !teD l) then .error (tFault k 4 false)
  else if k.writes ∧ e.leaf2.any (fun l => !teD l) then .error (tFault k 4 true)
  else .ok { pa := e.pa + (va - e.va), attr := strongerAttr e.leaf1 e.leaf2, leaf1 := e.leaf1, leaf2 := e.leaf2 }

/-- The walk of both stages for an access at U or S; the entry is cached. -/
def State.walkBoth (s : State) (n : Nat) (va : Word) (k : AKind) : Res Trans :=
  let a := (s.core n).arch
  let v := va.toNat % 2 ^ 57
  let ttbS := a.getS srTTB_S
  let first : Res (Nat × Option Word × Nat) :=
    if bit ttbS 0 then
      (State.walk1 5 s n (bits ttbS 12 36 * 4096) v k).bind fun s1 x =>
        .ok s1 (teAddr x.1 + v % x.2, some x.1, x.2)
    else if bits va 48 9 ≠ 0 then .exc s (tFault k 6 false)
    else .ok s (v, none, 2 ^ 48)
  first.bind fun s1 x =>
    (s1.stage2 n x.1 k k.writes).bind fun s2 y =>
      let t : Trans := { pa := y.pa, attr := strongerAttr x.2.1 y.leaf, leaf1 := x.2.1, leaf2 := y.leaf }
      if x.2.1.isNone ∧ y.leaf.isNone then .ok s2 t
      else
        let size := if x.2.2 < y.size then x.2.2 else y.size
        let ttbH := a.getS srTTB_H
        let e : TlbEntry :=
          { zone := s2.zoneOf n, vmid := bits ttbH 4 8
            asid := if x.2.1.any teG then none else some (bits ttbS 48 16)
            stage1 := x.2.1.isSome, size := size, va := v / size * size, gpaSize := y.size
            gpa := x.1 / y.size * y.size, leaf1 := x.2.1, leaf2 := y.leaf, pa := y.pa / size * size }
        .ok ((s2.fillTlb n e).notePage n e) t

/-- Translation of an address for an access of core `n` at a level (R159, R161 steps 1 to 3). -/
def State.translate (s : State) (n : Nat) (acc : Acc) (va : Word) : Res Trans :=
  let k := acc.kind
  if ¬ canonicalVa va then .exc s (tFault k 0 false)
  else if acc.level = 3 then
    if bits va 44 13 ≠ 0 then .exc s (tFault k 6 false)
    else .ok s { pa := s.moduleId * 2 ^ 44 + bits va 0 44, attr := 0 }
  else if acc.level = 2 then
    if bits va 49 8 ≠ 0 then .exc s (tFault k 6 false)
    else .ok s { pa := s.memberModule (bits va 44 5) * 2 ^ 44 + bits va 0 44, attr := 0 }
  else
    let a := (s.core n).arch
    let v := va.toNat % 2 ^ 57
    match (s.core n).tlb.find? (fun e => e.hits (s.zoneOf n) v (a.getS srTTB_S) (a.getS srTTB_H)) with
    | some e =>
      match e.use v k with
      | .ok t => .ok (s.notePage n e) t
      | .error x => .exc s x
    | none => s.walkBoth n va k

/-! ## Permission, bounds and targets (R161 steps 4 to 7) -/

/-- What a leaf refuses an access: `user` is U at stage 1. -/
def leafDenies (stage1 : Bool) (level : Nat) (k : AKind) (e : Word) : Bool :=
  (k.reads && !teR e) || (k.writes && !teW e) || (stage1 && level == 0 && !teU e) ||
  (k == .fetch && (teNx e || teAttr e == 2 || (stage1 && level == 1 && teU e)))

/-- Steps 4 and 5. -/
def permissionFault (acc : Acc) (t : Trans) : Option Exc :=
  let wr := fun (e : Word) => acc.kind.writes && (!teW e || !acc.kind.reads)
  match t.leaf1, t.leaf2 with
  | some e, y =>
    if leafDenies true acc.level acc.kind e then some { pFault acc.kind 0 0 with write := wr e }
    else y.bind (fun f => if leafDenies false acc.level acc.kind f then
      some { pFault acc.kind 1 1 with stage2 := true, write := wr f } else none)
  | none, some f =>
    if leafDenies false acc.level acc.kind f then some { pFault acc.kind 1 1 with stage2 := true, write := wr f } else none
  | none, none => none

/-- Step 6 (R163): the write of a CAS is judged before its read (R172). -/
def State.boundsFault (s : State) (n : Nat) (acc : Acc) (pa : Nat) : Option Exc :=
  let z := s.zoneOf n
  let inside := fun (b : Access3) => s.inBounds z acc.level pa b
  if acc.level = 3 then none
  else if acc.kind = .fetch then if inside .fetch then none else some (pFault .fetch 2 4)
  else if acc.kind.writes ∧ ¬ inside .write then some { pFault acc.kind 2 4 with write := true }
  else if acc.kind.reads ∧ ¬ inside .read then some { pFault acc.kind 2 4 with write := false }
  else none

/-- The accesses that a memory type performs, once class, level and target have passed (Table 2.7, R97, R172, R209). -/
def MemType.performs (m : MemType) (acc : Acc) : Bool :=
  match m with
  | .wb | .uncached => true
  | .device => [AKind.load, .store, .push, .pop, .block, .blockStore, .cas, .fetch].contains acc.kind
  | .register => acc.kind == .load || acc.kind == .store
  | .flash => acc.kind == .load || acc.kind == .fetch
  | .pcie => acc.kind == .load || acc.kind == .store || acc.kind == .fetch || (acc.kind == .cas && decide (4 ≤ acc.size))
  | .config => acc.kind == .load || acc.kind == .store
  | .otherRegister => false
  | .hole => true

/-- Step 7: the fault of an access to an address of a type, in the order of the list. -/
def State.targetFault (s : State) (n : Nat) (acc : Acc) (pa : Nat) (m : MemType) : Option Exc :=
  let k := acc.kind
  let noTarget := k == .fetch || k.reads
  if (k = .push ∨ k = .pop) ∧ s.inWindow pa then some (pFault k 7 7)
  else
  match m with
  | .otherRegister => some { vec := 0x08, detail := 5, write := k.writes }
  | .register =>
    if k = .fetch then some (pFault k 2 2)
    else if ¬ s.classAllows (srcCore n acc.level) (pageAt (pa % 2 ^ 28 / 0x1000)) then some (pFault k 3 3)
    else none
  | .flash =>
    if noTarget ∧ acc.level < 3 then some (pFault k 8 5)
    else if k.writes then some (pFault k 6 6)
    else none
  | .config =>
    if k = .fetch then some (pFault k 8 5)
    else if acc.level < 2 then some (pFault k 8 5)
    else if noTarget ∧ ¬ (ecamPort (pa % 2 ^ 44)).any (fun p => s.present (rportPage p)) then some (pFault k 4 3)
    else none
  | .hole => if noTarget then some (pFault k 4 3) else none
  | _ => none

/-- A part of an access that lies in one 4 KiB page: where it goes. -/
structure Part where
  pa : Nat
  len : Nat
  mem : MemType
  deriving DecidableEq, Repr

/-- Steps 1 to 7 for the bytes of an access that lie in one 4 KiB page. Inside a transaction an access other than a
fetch makes no access to device, window or uncached memory (R190). -/
def State.checkPart (s : State) (n : Nat) (acc : Acc) (va : Word) (len : Nat) : Res Part :=
  ((s.translate n acc va).bind fun s1 t =>
    match permissionFault acc t with
    | some e => .exc s1 e
    | none =>
      match s1.boundsFault n acc t.pa with
      | some e => .exc s1 e
      | none =>
        let m := s1.memType t.pa t.attr
        match s1.targetFault n acc t.pa m with
        | some e => .exc s1 e
        | none =>
          if (s1.core n).tx.isSome ∧ acc.kind ≠ .fetch ∧ (m.isDevice ∨ m = .uncached) then .abort s1 0x09 none
          else if m.performs acc then .ok s1 { pa := t.pa, len := len, mem := m }
          else .exc s1 (pFault acc.kind 7 7)).mapExc
    fun e => { e with eaddr := some va }

/-- An access must be aligned and is not (step 8). -/
def misaligned (acc : Acc) (va : Word) (ps : List Part) : Bool :=
  (ps.any (fun p => p.mem == .register) && bits va 0 3 != 0) ||
  ((acc.strict || ps.any (fun p => p.mem.isDevice)) && decide (acc.kind ≠ .fetch) && va.toNat % acc.size != 0)

/-- The checks of R161 for an access, both pages of one that crosses a page first (R174). -/
def State.check (s : State) (n : Nat) (acc : Acc) (va : Word) : Res (List Part) :=
  let len := pagePart va.toNat acc.size
  let parts : Res (List Part) :=
    (s.checkPart n acc va len).bind fun s1 p =>
      if len = acc.size then .ok s1 [p]
      else
        (s1.checkPart n acc (va + BitVec.ofNat 64 len) (acc.size - len)).bind fun s2 q => .ok s2 [p, q]
  parts.bind fun s1 ps =>
    if misaligned acc va ps then .exc s1 { vec := 0x09, write := acc.kind.writes, eaddr := some va } else .ok s1 ps

end Sys2Proof.Machine
end

