-- ==== Sys2Proof/Machine/Access.lean ====
section
/-!
DEFINITION. The loads, stores and atomic accesses of a core once their addresses are checked: the store buffer and its
fences, lines and single accesses, transactional sets (*Memory Ordering, Barriers and Transactions*).
-/

namespace Sys2Proof.Machine

/-! ## The store buffer (R168, R175) -/

/-- The oldest buffered store of a core leaves the buffer: to its register page, its window, the tile's ordering queue,
or, without a target, into the log. -/
def State.drainOldest (s : State) (n : Nat) : State :=
  let c := s.core n
  match c.stores with
  | [] => s
  | st :: rest =>
    let s1 := s.setCore n { c with stores := rest }
    match st.kind with
    | .lost => s1.logLate n 1 st.zone st.addr
    | .register => regWrite (srcCore n st.level) st.data.length (st.addr % 2 ^ 28) (BitVec.ofNat 64 (leNat st.data)) s1
    | .window => s1.windowStore st.addr st.data
    | _ => s1.setTile (s1.coreTile n)
        { s1.tile (s1.coreTile n) with ordering := (s1.tile (s1.coreTile n)).ordering ++ [(n, st)] }

/-- Drains the oldest `k` stores of a core's buffer. -/
def State.drainBuffer : Nat → State → Nat → State
  | 0, s, _ => s
  | k + 1, s, n => State.drainBuffer k (s.drainOldest n) n

/-- An FP Trap is armed for a core (R123). -/
def State.trapArmed (s : State) (n : Nat) : Bool := (s.core n).arch.sf srFPSR 5 1 == 1

/-- What ends the group in progress makes an FP Trap armed in it due (R124). -/
def State.trapCuts (s : State) (n : Nat) : Bool := s.trapArmed n && (s.core n).group != 0

/-- Every earlier store of a core becomes domain-visible or is dropped, with all that waits in the ordering queue of
its tile (FENCE.S, FENCE.C); false where a store has still to complete. -/
def State.drainAll (s : State) (n : Nat) : State × Bool :=
  let s0 := s.commitGroup n
  let s1 := State.drainBuffer (s0.core n).stores.length s0 n
  let r := s1.drainOrdering (s1.coreTile n)
  if s.trapCuts n then (s0, false)
  else if (r.1.core n).homeTile = r.1.coreTile n then r
  else
    let q := r.1.drainOrdering (r.1.core n).homeTile
    (q.1, r.2 && q.2)

/-- After sparing has moved a core out of a home tile, FENCE.L of that tile's cores is FENCE.S (R176). -/
def State.crossTile (s : State) (t : Nat) : Bool :=
  s.cores.any (fun (x : Nat × LCore) => x.2.started && x.2.homeTile == t && s.posOf x.1 / 10 != t) ||
  (List.range 10).any (fun i =>
    s.flag (bPos (10 * t + i)) F.SPARE_INFO_VALID && s.flag (bPos (10 * t + i)) F.SPARE_INFO_CROSS_TILE)

/-- Every earlier store of a core reaches the tile point (FENCE.L). -/
def State.drainLocal (s : State) (n : Nat) : State × Bool :=
  if s.crossTile (s.core n).homeTile then s.drainAll n
  else if s.trapCuts n then (s.commitGroup n, false)
  else ((s.commitGroup n).orderStores n, true)

/-- Drains a core's buffer until no store of a kind is left in it. -/
def State.drainUntil (s : State) (n : Nat) (p : Store → Bool) : State :=
  let k := (s.core n).stores.length
  let last := ((s.core n).stores.zipIdx.filter (fun x => p x.1)).getLast?
  match last with
  | some x => State.drainBuffer (if x.2 < k then x.2 + 1 else k) s n
  | none => s

/-! ## What a core's loads see (R168) -/

/-- The stores that a core's loads see before the domain does, oldest first: those at the tile point of its home tile,
and its own. -/
def State.visibleStores (s : State) (n : Nat) : List Store :=
  let c := s.core n
  let t := s.coreTile n
  let far := if t = c.homeTile then [] else ((s.tile t).ordering.filter (fun x => x.1 == n)).map (·.2)
  ((s.tile c.homeTile).ordering.map (·.2) ++ far ++ c.stores ++ c.fresh).filter (fun st => st.kind.normal)

/-- A byte that a store covers is the store's. -/
def Store.cover (st : Store) (a : Nat) (b : Byte) : Byte :=
  if st.addr ≤ a then (st.data[a - st.addr]?).getD b else b

/-- Bytes from an address upward as the core sees them: with the stores visible to it, and its write set (R184). -/
def State.overlay (s : State) (n a : Nat) (bytes : List Byte) : List Byte :=
  let sts := s.visibleStores n
  let wd := match (s.core n).tx with
    | some t => t.wdata
    | none => []
  bytes.zipIdx.map (fun x =>
    match SMap.find? wd (a + x.2) with
    | some b => b
    | none => sts.foldl (fun b st => st.cover (a + x.2) b) x.1)

/-! ## Transactional sets (R188 to R190, R194) -/

/-- A core has an open transaction. -/
def State.inTx (s : State) (n : Nat) : Bool := (s.core n).tx.isSome

/-- A line enters the read or write set of the open transaction; the write set holds 512 lines and a bounded
transaction touches four (R189, R194). -/
def State.touch (s : State) (n : Nat) (va : Word) (line : Nat) (write : Bool) : Res Unit :=
  let c := s.core n
  match c.tx with
  | none => .ok s ()
  | some t =>
    let old := t.lines.find? (fun x => x.1 == line)
    if t.bounded ∧ old.isNone ∧ 4 ≤ t.lines.length then .abort s 0x0E (some (2, va))
    else if write ∧ ¬ t.writes.contains line ∧ 512 ≤ t.writes.length then .abort s 0x03 none
    else
      let lines := match old with
        | some x => t.lines.map (fun y => if y.1 = line then (line, x.2 || write) else y)
        | none => t.lines ++ [(line, write)]
      let t1 := { t with
        reads := if write ∨ t.reads.contains line then t.reads else t.reads ++ [line]
        writes := if write ∧ ¬ t.writes.contains line then t.writes ++ [line] else t.writes
        lines := lines
        homes := if lineHome line = s.moduleId ∨ t.homes.contains (lineHome line) then t.homes
                 else t.homes ++ [lineHome line] }
      .ok (s.setCore n { c with tx := some t1 }) ()

/-- Stores of the tile to a line that a transaction accesses are performed first: it sees only whole lines. -/
def State.clearOrdering (s : State) (n line : Nat) : Res Unit :=
  let t := s.coreTile n
  if s.inTx n ∧ (s.tile t).ordering.any (fun x => x.2.addr / 128 == line) then
    let r := s.drainOrdering t
    if r.2 ∧ r.1.inTx n then .ok r.1 () else .held r.1
  else .ok s ()

/-! ## Loads of normal memory -/

/-- The exception of a load whose request ended without its line (R29, R164, Table 6.4). -/
def refusedExc (k : AKind) (r : Nat) : Exc :=
  if r = 1 then { pFault k 2 4 with write := false }
  else if r = 2 then { pFault k 4 3 with write := false }
  else { vec := 0x00, detail := 3 }

/-- Whether an instruction that begins after a rollback makes an access other than the one made once for it (R253). -/
def State.replayMismatch (s : State) (n : Nat) (first : Bool) : Bool :=
  first && (s.core n).group == 0 && (s.core n).replay.any (fun r => decide (r.kind < 5))

/-- The response captured for an access. -/
def State.replayed (s : State) (n addr size kind : Nat) : Option Replay :=
  (s.core n).replay.find? (fun r => r.addr == addr && r.size == size && r.kind == kind)

/-- Keeps the response of an access until its group commits. -/
def State.keepReplay (s : State) (n addr size kind : Nat) (v : Option Nat) : State :=
  let c := s.core n
  s.setCore n { c with replay := c.replay ++ [⟨addr, size, kind, v⟩] }

/-- A restarted access does not match the captured one: a check of code 0x1 fires (R253). -/
def State.mismatch (s : State) (n : Nat) : State :=
  s.checkFires (s.posOf n) (if s.split then s.pipeOf n else 0) n 1 none false

/-- One access made at the home of a line, RD_ONCE or CAS_NC: the 128 bytes the home answers (R227). -/
def State.onceAtHome (s : State) (n line level : Nat) (k : AKind) (code : Nat) (cas : Option (Nat × Nat × Nat × Nat)) :
    Res (List Byte) :=
  let t := s.coreTile n
  let txn := coreTxn n 3
  match s.otherRequest t txn line with
  | (s0, true) => .held s0
  | (s0, false) =>
    let s1 := match s0.findRequest t txn with
      | some _ => s0
      | none => s0.coreRequest n 3 code line level (s0.zoneOf n) (fun m => { m with cas := cas })
    match s1.findRequest t txn with
    | some q =>
      if q.refused ≠ 0 then .exc (s1.dropRequest t txn) (refusedExc k q.refused)
      else
        match q.result with
        | some d =>
          if q.poison then .exc (s1.dropRequest t txn) mcPoison else .ok (s1.dropRequest t txn) d
        | none => .held s1
    | none => .held s1

/-- A line read at its home without a place in a cache: its data is kept, as kind 6, until the instruction ends. -/
def State.onceLine (s : State) (n line level : Nat) (k : AKind) : Res (List Byte) :=
  match s.replayed n line 128 6 with
  | some r => .ok s (leBytes 128 (r.value.getD 0))
  | none =>
    (s.onceAtHome n line level k 4 none).bind fun s1 d => .ok (s1.keepReplay n line 128 6 (some (leNat d))) d

/-- What is kept for one instruction only is dropped at its end. -/
def State.dropKept (s : State) (n : Nat) : State :=
  let c := s.core n
  if c.replay.any (fun r => r.kind == 6) then
    s.setCore n { c with replay := c.replay.filter (fun r => r.kind != 6) }
  else s

/-- A line of write-back memory as a load of core `n` reads it: won in the tile, or read at its home while no cache
may allocate it. -/
def State.loadLine (s : State) (n line level : Nat) (k : AKind) : Res (List Byte) :=
  let t := s.coreTile n
  let c := s.coreCache n
  let give := fun (u : State) (x : List Byte × Bool) => if x.2 then Res.exc u mcPoison else Res.ok u x.1
  if s.escHeld t line n then .held s
  else if s.holdsFor t line false ∨ s.canAllocate t c then
    match s.acquire n 0 line level (s.zoneOf n) { own := false, tx := s.inTx n } with
    | (s1, .yes) =>
      let s2 := (s1.placeFor n line).txConflict t line false (some n) 0x02
      match SMap.find? (s2.tile t).lines line with
      | some x => give s2 (x.data, x.poison)
      | none => give s2 (s2.lineValue line).1
    | (s1, .no) => .held s1
    | (s1, .refused r) => .exc s1 (refusedExc k r)
    | (s1, .gone) => give s1 (s1.lineValue line).1
  else if s.inTx n then .abort s 0x04 none
  else s.onceLine n line level k

/-- Bytes of write-back memory that lie in one line, as a load sees them. -/
def State.loadPiece (s : State) (n : Nat) (acc : Acc) (va : Word) (pa len : Nat) : Res (List Byte) :=
  let line := pa / 128
  (s.touch n va line false).bind fun s1 _ =>
    (s1.clearOrdering n line).bind fun s2 _ =>
      (s2.loadLine n line acc.level acc.kind).bind fun s3 d =>
        if s.inTx n ∧ ¬ s3.inTx n then .held s3
        else .ok s3 (s3.overlay n pa ((d.drop (pa % 128)).take len))

/-- An uncached load, made once (R248). -/
def State.oncePiece (s : State) (n : Nat) (acc : Acc) (pa len : Nat) (first : Bool) : Res (List Byte) :=
  let s0 := s.commitGroup n
  if s.trapCuts n then .held s0
  else
  match s0.replayed n pa len 1 with
  | some r =>
    match r.value with
    | some v => .ok s0 (s0.overlay n pa (leBytes len v))
    | none => .exc s0 mcPoison
  | none =>
    if s0.replayMismatch n first then .held (s0.mismatch n)
    else
      (s0.onceAtHome n (pa / 128) acc.level acc.kind 4 none).bind fun s1 d =>
        let bytes := (d.drop (pa % 128)).take len
        .ok (s1.keepReplay n pa len 1 (some (leNat bytes))) (s1.overlay n pa bytes)

/-- A load of normal memory, line by line; `fuel` bounds the lines. -/
def State.loadNormal : Nat → State → Nat → Acc → Word → Nat → Nat → Bool → Bool → Res (List Byte)
  | 0, s, _, _, _, _, _, _, _ => .ok s []
  | f + 1, s, n, acc, va, pa, len, wb, first =>
    if len = 0 then .ok s []
    else
      let k := if len < 128 - pa % 128 then len else 128 - pa % 128
      (if wb then s.loadPiece n acc va pa k else s.oncePiece n acc pa k first).bind fun s1 a =>
        (State.loadNormal f s1 n acc (va + BitVec.ofNat 64 k) (pa + k) (len - k) wb false).bind fun s2 b =>
          .ok s2 (a ++ b)

/-! ## Single accesses of device memory (R41, R42, R182, R498) -/

/-- A register-page load: issued when oldest, after the core's earlier stores to the page. `silent` is a page that
gives no response within 12 µs. -/
def State.loadRegister (s : State) (n level pa len : Nat) (first silent : Bool) : Res (List Byte) :=
  let w := pa % 2 ^ 28
  let s0 := (s.commitGroup n).drainUntil n (fun st => st.kind == .register && st.addr / 4096 == pa / 4096)
  if s.trapCuts n then .held (s.commitGroup n)
  else
  match s0.replayed n pa len 0 with
  | some r => .ok s0 (leBytes len (r.value.getD 0))
  | none =>
    if s0.replayMismatch n first then .held (s0.mismatch n)
    else if silent then
      let s1 := match pageAt (w / 0x1000) with
        | some p => s0.crumbOpen p 0x0A00 [BitVec.ofNat 64 w]
        | none => s0
      .exc s1 { vec := 0x00, detail := 1 }
    else
      let r := regRead (srcCore n level) len w none s0
      .ok (r.1.keepReplay n pa len 0 (some (r.2.toNat % 2 ^ (8 * len)))) (leBytes len r.2.toNat)

/-- An access that waits for a PCI Express device; a poisoned completion is an uncorrectable error. -/
def State.deviceAccess (s : State) (n pa len kind : Nat) (first : Bool) : Res Nat :=
  let a := pa % 2 ^ 44
  let s0 := (s.commitGroup n).drainUntil n (fun st => st.kind == .window)
  if s.trapCuts n then .held (s.commitGroup n)
  else
  match s0.replayed n a len kind with
  | some r =>
    match r.value with
    | some v => .ok s0 v
    | none => .exc s0 mcPoison
  | none =>
    if s0.replayMismatch n first ∧ kind ≠ 5 then .held (s0.mismatch n)
    else .held (s0.setCore n { s0.core n with devLoad := some (a, len, kind) })

/-- An exception whose EADDR is not yet set reports an address. -/
def Exc.at (va : Word) (e : Exc) : Exc := if e.eaddr.isSome then e else { e with eaddr := some va }

/-- The line of a fetch: won in the tile as a load wins it, or read at its home (R71). -/
def State.fetchLine (s : State) (n line level : Nat) (wb : Bool) : Res Unit :=
  let t := s.coreTile n
  let give := fun (u : State) (p : Bool) => if p then Res.exc u mcPoison else Res.ok u ()
  if s.escHeld t line n then .held s
  else if wb ∧ (s.holdsFor t line false ∨ s.canAllocate t (s.coreCache n)) then
    match s.acquire n 0 line level (s.zoneOf n) { own := false } with
    | (s1, .yes) =>
      let s2 := (s1.placeFor n line).txConflict t line false (some n) 0x02
      match SMap.find? (s2.tile t).lines line with
      | some x => give s2 x.poison
      | none => give s2 (s2.lineValue line).1.2
    | (s1, .no) => .held s1
    | (s1, .refused r) => .exc s1 (refusedExc .fetch r)
    | (s1, .gone) => give s1 (s1.lineValue line).1.2
  else (s.onceLine n line level .fetch).bind fun s1 _ => .ok s1 ()

/-- The fetch of one parcel: checks, then its line or the device that answers it (R51). -/
def State.fetchParcel (s : State) (n level : Nat) (va : Word) : Res Unit :=
  ((s.check n { kind := .fetch, level := level, size := 2 } va).bind fun s1 ps =>
    match ps with
    | [p] =>
      match p.mem with
      | .wb => s1.fetchLine n (p.pa / 128) level true
      | .uncached => s1.fetchLine n (p.pa / 128) level false
      | .pcie => (s1.deviceAccess n p.pa 2 5 true).bind fun s2 _ => .ok s2 ()
      | _ => .ok s1 ()
    | _ => .ok s1 ()).mapExc (Exc.at va)

/-- The bytes of a part of a load. -/
def State.loadPart (s : State) (n : Nat) (acc : Acc) (va : Word) (p : Part) (first silent : Bool) : Res (List Byte) :=
  match p.mem with
  | .wb => State.loadNormal 3 s n acc va p.pa p.len true first
  | .uncached | .device => State.loadNormal 3 s n acc va p.pa p.len false first
  | .register => s.loadRegister n acc.level p.pa p.len first silent
  | .flash => .ok s (s.flashBytes (p.pa % 2 ^ 44 - 0xFFFE0000000) p.len)
  | .pcie | .config => (s.deviceAccess n p.pa p.len 3 first).bind fun s1 v => .ok s1 (leBytes p.len v)
  | _ => .ok s (List.replicate p.len 0)

/-- The bytes of a load, part by part. -/
def State.loadParts (s : State) (n : Nat) (acc : Acc) (va : Word) (ps : List Part) (first silent : Bool) :
    Res (List Byte) :=
  match ps with
  | [] => .ok s []
  | p :: rest =>
    (s.loadPart n acc va p first silent).bind fun s1 a =>
      (match rest with
       | q :: _ => s1.loadPart n acc (va + BitVec.ofNat 64 p.len) q false silent
       | [] => .ok s1 []).bind fun s2 b => .ok s2 (a ++ b)

/-- A load: checks, then the bytes. -/
def State.loadBytes (s : State) (n : Nat) (acc : Acc) (va : Word) (first : Bool := true) (silent : Bool := false) :
    Res (List Byte) :=
  ((s.check n acc va).bind fun s1 ps => s1.loadParts n acc va ps first silent).mapExc (Exc.at va)

/-! ## Stores (R168) -/

/-- Where a store to a memory type goes. -/
def MemType.store : MemType → StoreKind
  | .wb => .cached
  | .uncached | .device => .uncached
  | .register => .register
  | .hole => .lost
  | _ => .window

/-- Bytes at consecutive addresses, cut at line boundaries; `fuel` bounds the lines. -/
def cutLines : Nat → Nat → List Byte → List (Nat × List Byte)
  | 0, _, _ => []
  | f + 1, a, bytes =>
    if bytes.isEmpty then []
    else
      let k := 128 - a % 128
      (a, bytes.take k) :: cutLines f (a + k) (bytes.drop k)

/-- The stores of a part. -/
def Part.stores (p : Part) (level zone : Nat) (bytes : List Byte) : List Store :=
  let put := fun (x : Nat × List Byte) =>
    ({ kind := p.mem.store, addr := if p.mem.store = .window then x.1 % 2 ^ 44 else x.1, data := x.2, level := level,
       zone := zone } : Store)
  if p.mem.store = .register ∨ p.mem.store = .window then [put (p.pa, bytes)]
  else (cutLines 3 p.pa bytes).map put

/-- Stores retire into the group that has not committed; its commit puts them into the store buffer (R247). -/
def State.putFresh (s : State) (n : Nat) (sts : List Store) : State :=
  let c := s.core n
  s.setCore n { c with fresh := c.fresh ++ sts }

/-- Bytes within a line enter the write set: the line is won in the position's L2 (R189, R223). -/
def State.txStore (s : State) (n : Nat) (va : Word) (level : Nat) (x : Nat × List Byte) : Res Unit :=
  let line := x.1 / 128
  let t := s.coreTile n
  let c := s.coreCache n
  (s.touch n va line true).bind fun s1 _ =>
    (s1.clearOrdering n line).bind fun s2 _ =>
      if ¬ s2.mainTarget (line * 128) then .ok s2 ()
      else if s2.escHeld t line n then .held s2
      else if ¬ s2.cacheOn t c ∨ s2.cacheClosing t c then .abort s2 0x04 none
      else
        match s2.acquire n 0 line level (s2.zoneOf n) { own := true, tx := true } with
        | (s3, .yes) =>
          let s4 := (s3.placeFor n line).txConflict t line true (some n) 0x02
          if ¬ s4.inTx n then .held s4
          else if (SMap.find? (s4.tile t).lines line).any (fun y => y.inCache c) then .ok s4 ()
          else .abort s4 0x04 none
        | (s3, .no) => .held s3
        | (s3, .refused r) => .exc s3 (refusedExc .store r)
        | (s3, .gone) => .abort s3 0x04 none

/-- The bytes enter the write data of the open transaction. -/
def State.txPut (s : State) (n : Nat) (x : Nat × List Byte) : State :=
  let c := s.core n
  match c.tx with
  | some t =>
    let wd := x.2.zipIdx.foldl (fun (m : SMap Byte) y => SMap.put m (x.1 + y.2) y.1) t.wdata
    s.setCore n { c with tx := some { t with wdata := wd } }
  | none => s

/-- The lines of a transactional store are won one after the other; then all its bytes are entered. -/
def State.txStores (s : State) (n : Nat) (va : Word) (level : Nat) (xs : List (Nat × List Byte)) : Res Unit :=
  (xs.foldl (fun (r : Res Unit) x => r.bind fun s1 _ => s1.txStore n va level x) (.ok s ())).bind fun s2 _ =>
    .ok (xs.foldl (fun u x => u.txPut n x) s2) ()

/-- A store that has passed its checks retires. -/
def State.storeParts (s : State) (n : Nat) (acc : Acc) (va : Word) (ps : List Part) (bytes : List Byte) : Res Unit :=
  let pieces := match ps with
    | [p] => [(p, bytes)]
    | [p, q] => [(p, bytes.take p.len), (q, bytes.drop p.len)]
    | _ => []
  if s.inTx n then
    s.txStores n va acc.level (pieces.flatMap (fun x => cutLines 3 x.1.pa x.2))
  else .ok (s.putFresh n (pieces.flatMap (fun x => x.1.stores acc.level (s.zoneOf n) x.2))) ()

/-- A store: checks, then its retirement. -/
def State.storeBytes (s : State) (n : Nat) (acc : Acc) (va : Word) (bytes : List Byte) : Res Unit :=
  ((s.check n acc va).bind fun s1 ps => s1.storeParts n acc va ps bytes).mapExc (Exc.at va)

/-! ## Atomic accesses (R172) -/

/-- A CAS on write-back memory: the line is won, the old value read, and the new one written when they are equal. -/
def State.casLine (s : State) (n : Nat) (acc : Acc) (pa : Nat) (expect new : List Byte) : Res (List Byte) :=
  let t := s.coreTile n
  let line := pa / 128
  match s.acquire n 0 line acc.level (s.zoneOf n) { own := true } with
  | (s1, .yes) =>
    let s2 := (s1.placeFor n line).txConflict t line true (some n) 0x02
    match SMap.find? (s2.tile t).lines line with
    | some x =>
      if x.poison then .exc s2 mcPoison
      else
        let old := (x.data.drop (pa % 128)).take acc.size
        .ok (if old = expect then s2.mergeLine t (s2.coreCache n) pa new else s2) old
    | none => .held s2
  | (s1, .no) => .held s1
  | (s1, .refused r) => .exc s1 (refusedExc acc.kind r)
  | (s1, .gone) =>
    (s1.onceAtHome n line acc.level acc.kind 7 (some (pa % 128, acc.size, leNat expect, leNat new))).bind fun s2 d =>
      .ok s2 ((d.drop (pa % 128)).take acc.size)

/-- A CAS, CAS.Q or LD.Q.A that the home performs (CAS_NC), made once (R248). -/
def State.casAtHome (s : State) (n : Nat) (acc : Acc) (pa : Nat) (ops : Option (List Byte × List Byte)) :
    Res (List Byte) :=
  match s.replayed n pa acc.size 2 with
  | some r =>
    match r.value with
    | some v => .ok s (leBytes acc.size v)
    | none => .exc s mcPoison
  | none =>
    if s.replayMismatch n true then .held (s.mismatch n)
    else
      (s.onceAtHome n (pa / 128) acc.level acc.kind 7
        (ops.map (fun x => (pa % 128, acc.size, leNat x.1, leNat x.2)))).bind fun s1 d =>
        let old := (d.drop (pa % 128)).take acc.size
        .ok (s1.keepReplay n pa acc.size 2 (some (leNat old))) old

/-- A CAS inside a transaction reads and writes its sets. -/
def State.casTx (s : State) (n : Nat) (acc : Acc) (va : Word) (pa : Nat) (expect new : List Byte) : Res (List Byte) :=
  (s.txStore n va acc.level (pa, new)).bind fun s1 _ =>
    (s1.loadLine n (pa / 128) acc.level acc.kind).bind fun s2 d =>
      if ¬ s2.inTx n then .held s2
      else
        let old := s2.overlay n pa ((d.drop (pa % 128)).take acc.size)
        .ok (if old = expect then s2.txPut n (pa, new) else s2) old

/-- A CAS or CAS.Q: an acquire and a release, so every earlier store is performed first. -/
def State.casBytes (s : State) (n : Nat) (acc : Acc) (va : Word) (expect new : List Byte) : Res (List Byte) :=
  ((s.check n acc va).bind fun s1 ps =>
    match ps with
    | [p] =>
      if s1.inTx n then s1.casTx n acc va p.pa expect new
      else
        match s1.drainAll n with
        | (s2, false) => .held s2
        | (s2, true) =>
          if p.mem = .pcie then
            (s2.deviceAccess n p.pa acc.size 4 true).bind fun s3 v => .ok s3 (leBytes acc.size v)
          else if p.mem = .wb then
            if s2.escHeld (s2.coreTile n) (p.pa / 128) n then .held s2
            else if s2.canAllocate (s2.coreTile n) (s2.coreCache n) ∨ s2.holdsFor (s2.coreTile n) (p.pa / 128) true then
              s2.casLine n acc p.pa expect new
            else s2.casAtHome n acc p.pa (some (expect, new))
          else s2.casAtHome n acc p.pa (some (expect, new))
    | _ => .held s1).mapExc (Exc.at va)

/-- LD.Q.A: an acquire load of 16 bytes, which the home performs on uncached memory (R171, R227). -/
def State.loadQ (s : State) (n : Nat) (acc : Acc) (va : Word) : Res (List Byte) :=
  ((s.check n acc va).bind fun s1 ps =>
    match ps with
    | [p] =>
      if p.mem = .uncached then
        match s1.drainAll n with
        | (s2, false) => .held s2
        | (s2, true) => s2.casAtHome n acc p.pa none
      else s1.loadParts n acc va ps true false
    | _ => .held s1).mapExc (Exc.at va)

end Sys2Proof.Machine
end

