-- ==== Sys2Proof/Machine/Entry.lean ====
section
/-!
DEFINITION. Taking an exception, return from one, and the events taken at a boundary (*Privilege Levels, Exceptions
and Interrupt Entry*, R124, R191).
-/

namespace Sys2Proof.Machine

/-- The state an outcome holds. -/
def Res.state {α : Type} (r : Res α) : State :=
  match r with
  | .ok s _ => s
  | .exc s _ => s
  | .abort s _ _ => s
  | .held s => s

/-! ## Where an exception is taken (R133) -/

/-- The level that takes an exception raised at a level (Table 6.2). -/
def excLevel (cur : Nat) (e : Exc) : Nat :=
  let up := fun (l : Nat) => if cur < l then l else cur
  if e.vec = 0x00 ∨ e.vec = 0x12 then 3
  else if e.vec = 0x01 ∨ e.vec = 0x11 ∨ e.vec = 0x20 then up 2
  else if e.vec = 0x02 ∨ e.vec = 0x08 then up (if e.detail = 0 then 1 else 2)
  else if e.vec = 0x03 ∨ e.vec = 0x07 then up (if e.stage2 then 2 else 1)
  else if e.vec = 0x05 then (if cur = 1 then 2 else up 1)
  else if e.vec = 0x16 then
    if e.detail = 6 then 3
    else up (if e.detail = 3 ∨ e.detail = 5 ∨ (e.detail = 4 ∧ e.stage2) then 2 else 1)
  else up 1

/-- ESTAT as an entry writes it (Table 6.3). -/
def Taken.estat (t : Taken) (esc vfail : Bool) (psw : Nat) : Word :=
  BitVec.ofNat 64 (t.exc.vec + 2 ^ 6 * b2n t.exc.stage2 + 2 ^ 7 * b2n esc + 2 ^ 8 * t.exc.detail + 2 ^ 12 * b2n t.exc.write
    + 2 ^ 13 * b2n vfail + 2 ^ 16 * (t.parcel % 2 ^ 16) + 2 ^ 32 * psw)

/-- EADDR as an entry writes it, where it does; a Machine Check without an address reports 0 (Table 6.2). -/
def Exc.eaddrOf (e : Exc) : Option Word := if e.vec = 0 then some (e.eaddr.getD 0) else e.eaddr

/-- PSW[6:0] after an entry to a level. -/
def entryPsw (psw : Word) (level : Nat) : Word :=
  let p := putBits (putBits (putBits psw 0 2 level) 6 1 1) 5 1 0
  let q := if 2 ≤ level then putBits p 2 2 0 else p
  if level = 3 then putBits q 4 1 0 else q

/-- PSW after a refused RFE (R147). -/
def refusedPsw (psw : Word) (level : Nat) : Word :=
  let p := putBits (putBits psw 6 1 1) 5 1 0
  if 2 ≤ level then putBits p 2 2 0 else p

/-! ## The vector block (R136, R137) -/

/-- The address of a level's vector block. -/
def Arch.vectorBlock (a : Arch) (level : Nat) : Word := a.getS (srVBAR level) &&& 0xFFFFFFFFFFFFFC00

/-- The words that an entry reads, and where SAVED_SP goes, all three accesses checked before the first is made. An entry
from the same level leaves the stack pointer alone. -/
def State.vectorReads (s : State) (n level vec : Nat) (exchange : Bool) : Res (Word × Word × List Part) :=
  let base := (s.core n).arch.vectorBlock level
  let rd : Acc := { kind := .block, level := level, size := 8 }
  let wr : Acc := { kind := .blockStore, level := level, size := 8 }
  let va := base + BitVec.ofNat 64 (8 * vec)
  (s.check n rd va).bind fun s1 ph =>
    (if exchange then s1.check n rd (base + 0x200) else .ok s1 []).bind fun s2 pr =>
      (if exchange then s2.check n wr (base + 0x208) else .ok s2 []).bind fun s3 pw =>
        (s3.loadParts n rd va ph false false).bind fun s4 h =>
          (s4.loadParts n rd (base + 0x200) pr false false).bind fun s5 sp =>
            .ok s5 (BitVec.ofNat 64 (leNat h), BitVec.ofNat 64 (leNat sp), pw)

/-- A core's architected state after an entry to a level at a handler; an FP Trap's entry ends its arming (R125). -/
def Arch.entered (a : Arch) (level : Nat) (t : Taken) (esc vfail : Bool) (handler : Word) (sp : Option Word) : Arch :=
  let psw := a.getS srPSW
  let a1 := match sp with
    | some v => a.setG 31 v
    | none => a
  let a2 := (a1.setS (srESTAT level) (t.estat esc vfail (bits psw 0 7))).setS (srEPC level) t.epc
  let a3 := match t.exc.eaddrOf with
    | some v => a2.setS (srEADDR level) v
    | none => a2
  let a4 := if t.exc.vec = 0x0E then a3.setSf srFPSR 5 1 0 else a3
  { a4.setS srPSW (entryPsw psw level) with pc := handler }

/-- The retirement of an entry: the state it leaves and its SAVED_SP store commit together. -/
def State.commitEntry (s : State) (n : Nat) (a : Arch) (sts : List Store) : State :=
  let c := s.core n
  (s.setCore n { c with arch := a, fresh := c.fresh ++ sts, group := c.group + 1, waiting := false,
                        stepGrant := false }).commitGroup n

/-- Entry to level 4 - `k`, or escalation to the level above; from M it is Check-Stop (R137, R148). The answer tells
whether a level was entered. -/
def State.enterAt : Nat → State → Nat → Taken → Bool → Bool → Res Bool
  | 0, s, n, t, _, _ => .ok (s.checkStop 3 [BitVec.ofNat 64 t.exc.vec, t.epc, BitVec.ofNat 64 n]) false
  | k + 1, s, n, t, esc, vfail =>
    let level := 3 - k
    let a := (s.core n).arch
    let lower := decide (a.level < level)
    if a.level = level ∧ a.sf srPSW 6 1 = 1 then State.enterAt k s n t true false
    else
      match s.vectorReads n level t.exc.vec lower with
      | .held u => .held u
      | .abort u _ _ => .held u
      | .exc u _ => State.enterAt k u n t true true
      | .ok u x =>
        if bit x.1 0 ∨ (lower ∧ bits x.2.1 0 3 ≠ 0) then State.enterAt k u n t true true
        else
          let sp := (u.core n).arch.getG 31
          let sts := x.2.2.flatMap (fun p => p.stores level (u.zoneOf n) (leBytes 8 sp.toNat))
          .ok (u.commitEntry n ((u.core n).arch.entered level t esc vfail x.1 (if lower then some x.2.1 else none)) sts) true

/-- An exception is taken at the level that Table 6.2 gives, from a group that has passed comparison. -/
def State.takeExc (s : State) (n : Nat) (t : Taken) : Res Bool :=
  let s0 := s.commitGroup n
  State.enterAt (4 - excLevel (s0.core n).arch.level t.exc) s0 n t false false

/-! ## RFE (R146, R147) -/

/-- A refused RFE: a branch to HANDLER[0x0F] of its own level, or escalation. -/
def State.returnViolation (s : State) (n parcel : Nat) : Res Bool :=
  let s0 := s.commitGroup n
  let a := (s0.core n).arch
  let level := a.level
  let t : Taken := { exc := { vec := 0x0F, eaddr := some a.pc }, epc := a.pc, parcel := parcel }
  if a.sf srPSW 6 1 = 1 then State.enterAt (3 - level) s0 n t true false
  else
    match s0.vectorReads n level 0x0F false with
    | .held u => .held u
    | .abort u _ _ => .held u
    | .exc u _ => State.enterAt (3 - level) u n t true true
    | .ok u x =>
      if bit x.1 0 then State.enterAt (3 - level) u n t true true
      else
        let b := ((u.core n).arch.setS (srEADDR level) a.pc).setS srPSW (refusedPsw (a.getS srPSW) level)
        .ok (u.commitEntry n { b with pc := x.1 } []) true

/-- A field of the saved PSW that the level may not change differs from PSW (R146). -/
def rfeRefused (level : Nat) (saved psw : Word) : Bool :=
  decide (level < bits saved 0 2) ||
  (decide (level < 2) && bits saved 2 2 != bits psw 2 2) ||
  (decide (level < 3) && bits saved 4 1 != bits psw 4 1)

/-! ## Events at a boundary (R139, R144, R149) -/

/-- The events of Table 6.6 that come before the fetch of the next instruction. -/
inductive BoundaryEvent where
  | fpTrap | machineCheck | storeError | debugStep | interrupt
  deriving DecidableEq, Repr

/-- After a restart no asynchronous event is taken until the first group has committed (R253). -/
def State.justRestarted (s : State) (n : Nat) : Bool :=
  (s.checkEvent (s.posOf n) (if s.split then s.pipeOf n else 0)).any (fun e => e.clean == 0)

/-- The open transaction of a core is bounded. -/
def State.inBounded (s : State) (n : Nat) : Bool :=
  match (s.core n).tx with
  | some t => t.bounded
  | none => false

/-- An asynchronous Machine Check may be taken. -/
def State.mcDue (s : State) (n : Nat) : Bool :=
  let a := (s.core n).arch
  !(s.core n).mc.isEmpty && a.sf srPSW 4 1 == 1 && (a.level != 3 || a.sf srPSW 6 1 == 0)

/-- An Asynchronous Store Error may be taken (R144). -/
def State.aseDue (s : State) (n : Nat) : Bool :=
  let a := (s.core n).arch
  (s.core n).ase && (decide (a.level < 2) || (a.sf srPSW 3 1 == 1 && a.sf srPSW 6 1 == 0))

/-- An External Interrupt may be taken (R149). -/
def State.interruptDue (s : State) (n : Nat) : Bool :=
  let a := (s.core n).arch
  (s.offer n).isSome && (decide (a.level < 2) || (a.level == 2 && a.sf srPSW 2 1 == 1 && a.sf srPSW 6 1 == 0))

/-- Debug Step may be taken. -/
def State.stepDue (s : State) (n : Nat) : Bool :=
  let a := (s.core n).arch
  (s.core n).stepPending && !(a.level != 0 && a.sf srPSW 6 1 == 1)

/-- The first event of Table 6.6 that applies at a core's boundary; `sync` tells that the next instruction is FSYNC or
context-synchronizing (R124). While a trap is armed the others wait; a bounded transaction holds all but the first two
(Table 8.7); a halted core's interrupts, errors and Machine Checks stay pending (R475). -/
def State.dueEvent (s : State) (n : Nat) (sync : Bool) : Option BoundaryEvent :=
  let c := s.core n
  if s.trapArmed n then (if c.group = 0 ∨ sync then some .fpTrap else none)
  else
    let async := !c.halted && !s.justRestarted n
    if async ∧ s.mcDue n then some .machineCheck
    else if s.inBounded n then none
    else if async ∧ s.aseDue n then some .storeError
    else if s.stepDue n then some .debugStep
    else if async ∧ s.interruptDue n then some .interrupt
    else none

/-- How many entries of LSE_LOG are occupied. -/
def Arch.lateErrors (a : Arch) : Nat := ((List.range 4).filter (fun i => a.sf (srLSE_LOG + i) 0 3 != 0)).length

/-- The exception of an event (Table 6.4). -/
def State.eventExc (s : State) (n : Nat) (ev : BoundaryEvent) : Exc :=
  let c := s.core n
  match ev with
  | .fpTrap => { vec := 0x0E }
  | .machineCheck =>
    match c.mc with
    | x :: _ => { vec := 0x00, detail := x.1, eaddr := some x.2 }
    | [] => { vec := 0x00 }
  | .storeError => { vec := 0x01, detail := c.arch.lateErrors + 8 * c.arch.sf srLSE_LOG 3 1 }
  | .debugStep => { vec := 0x14 }
  | .interrupt => { vec := 0x20 }

/-- What the delivery of an event ends (R143, R417). -/
def State.eventTaken (s : State) (n : Nat) (ev : BoundaryEvent) (offer : Option (Nat × Nat)) : State :=
  let c := s.core n
  match ev with
  | .fpTrap => s
  | .machineCheck => s.setCore n { c with mc := c.mc.drop 1 }
  | .storeError => s.setCore n { c with ase := false }
  | .debugStep => s.setCore n { c with stepPending := false }
  | .interrupt =>
    match offer with
    | some (src, prio) => s.takeOffer n src prio
    | none => s

/-- An event is taken at a boundary outside a transaction. -/
def State.takeEvent (s : State) (n : Nat) (ev : BoundaryEvent) : State :=
  let t : Taken := { exc := s.eventExc n ev, epc := (s.core n).arch.pc, parcel := 0 }
  match s.takeExc n t with
  | .ok u true => u.eventTaken n ev (s.offer n)
  | r => r.state

/-- An event meets a boundary (Table 8.7): an open transaction aborts with code 0x07, and what is due at the boundary
that the abort creates is taken there. -/
def State.meetEvent (s : State) (n : Nat) (ev : BoundaryEvent) : State :=
  if s.inTx n then
    let counted := !(s.inBounded n && (ev == .machineCheck || ev == .fpTrap))
    let s1 := s.txAbort n 0x07 0 counted
    match s1.dueEvent n false with
    | some e => s1.takeEvent n e
    | none => s1
  else s.takeEvent n ev

/-! ## Precise exceptions (R140, R191) -/

/-- The exception that the abort of a transaction left to be taken is taken. -/
def State.takeOwed (s : State) (n : Nat) (t : Taken) : State :=
  match s.takeExc n t with
  | .ok u _ => u.setCore n { u.core n with owed := none }
  | r => r.state.setCore n { r.state.core n with owed := some t }

/-- A precise exception of the instruction at PC. A trap armed in its group is taken in its place (R124). Inside a
transaction it aborts with code 0x06; a bounded one then takes it with EPC naming the TBEGINB, and a Machine Check is
taken at M with EPC naming the abort handler. -/
def State.raisePrecise (s : State) (n : Nat) (e : Exc) (next : Word) (parcel : Nat) : State :=
  let c := s.core n
  if s.trapArmed n then s.meetEvent n .fpTrap
  else
    match c.tx with
    | none =>
      if e.vec = 0x0F then (s.returnViolation n parcel).state
      else
        let epc := if 0x10 ≤ e.vec ∧ e.vec ≤ 0x12 then next else c.arch.pc
        (s.takeExc n { exc := e, epc := epc, parcel := parcel }).state
    | some t =>
      if e.vec = 0x00 then
        (s.txAbort n 0x06 e.vec).takeOwed n { exc := e, epc := t.handler, parcel := parcel }
      else if t.bounded then
        (s.txAbort n 0x06 e.vec false).takeOwed n { exc := e, epc := t.begun, parcel := parcel }
      else s.txAbort n 0x06 e.vec

/-- BCOUNT is set (Table 8.5). -/
def State.setBcount (s : State) (n v : Nat) : State :=
  s.setCore n { s.core n with arch := (s.core n).arch.setSf srTXSTAT 32 4 v }

/-- An abort that the instruction at PC causes; a broken rule of R194 goes on to Transaction Abort Escape (R195). -/
def State.abortBy (s : State) (n code : Nat) (esc : Option (Nat × Word)) (parcel : Nat) : State :=
  if s.trapArmed n then s.meetEvent n .fpTrap
  else
    match esc, (s.core n).tx with
    | some (detail, addr), some t =>
      let s1 := (s.setBcount n 0).txAbort n 0x0E 0 false
      s1.takeOwed n { exc := { vec := 0x18, detail := detail, eaddr := some addr }, epc := t.begun, parcel := parcel }
    | _, _ => s.txAbort n code

end Sys2Proof.Machine
end

