-- ==== Sys2Proof/Machine/Flags.lean ====
section
/-!
DEFINITION. Binary floating point (*Binary Floating Point*): the formats, exact computation and the single
rounding of R112, the NaN rules of R115, the flushing of R114, and the five exception flags of Table 5.3.
A finite value is (-1)^sign · m · 2^e; every operation is computed exactly and rounded once.
-/

namespace Sys2Proof.Machine

/-- The parameters of a format (Table 5.1): precision, exponent bits. -/
structure FFmt where
  p : Nat
  ebits : Nat
  deriving DecidableEq, Repr

def fmt32 : FFmt := { p := 24, ebits := 8 }
def fmt64 : FFmt := { p := 53, ebits := 11 }

def FFmt.bias (f : FFmt) : Nat := 2 ^ (f.ebits - 1) - 1
def FFmt.width (f : FFmt) : Nat := f.p + f.ebits
/-- The exponent of the least significant bit of a subnormal. -/
def FFmt.qmin (f : FFmt) : Int := 1 - (f.bias : Int) - (f.p - 1 : Nat)
def FFmt.infBits (f : FFmt) : Nat := (2 ^ f.ebits - 1) * 2 ^ (f.p - 1)
def FFmt.maxBits (f : FFmt) : Nat := f.infBits - 1
def FFmt.dNaN (f : FFmt) : Nat := f.infBits + 2 ^ (f.p - 2)
def FFmt.signBit (f : FFmt) : Nat := 2 ^ (f.width - 1)

/-- The exception flags in the order of FPSR[4:0]. -/
def fNV : Nat := 1
def fDZ : Nat := 2
def fOF : Nat := 4
def fUF : Nat := 8
def fNX : Nat := 16

/-- The rounding directions of FPCR.RM. -/
inductive FRm where
  | rne | rtz | rdn | rup
  deriving DecidableEq, Repr

def rmOf (n : Nat) : FRm :=
  if n % 4 = 0 then .rne else if n % 4 = 1 then .rtz else if n % 4 = 2 then .rdn else .rup

/-- The rounding controls of FPCR. -/
structure FCtl where
  rm : FRm
  ftz : Bool
  daz : Bool
  deriving DecidableEq, Repr

/-- An operand. -/
inductive FVal where
  | nan (signalling : Bool) (raw : Nat)
  | inf (sign : Bool)
  | fin (sign : Bool) (m : Nat) (e : Int)
  deriving DecidableEq, Repr

def fSign (f : FFmt) (n : Nat) : Bool := (n / f.signBit) % 2 == 1
def fMag (f : FFmt) (n : Nat) : Nat := n % f.signBit

def fIsNaN (f : FFmt) (n : Nat) : Bool := decide (f.infBits < fMag f n)
def fIsSNaN (f : FFmt) (n : Nat) : Bool := fIsNaN f n && (fMag f n / 2 ^ (f.p - 2)) % 2 == 0
def fIsSub (f : FFmt) (n : Nat) : Bool := decide (0 < fMag f n) && decide (fMag f n < 2 ^ (f.p - 1))

/-- R114: with DAZ, a subnormal operand reads as a zero of the same sign. -/
def fDaz (f : FFmt) (daz : Bool) (n : Nat) : Nat :=
  if daz && fIsSub f n then (if fSign f n then f.signBit else 0) else n

/-- The value that the bits of a format stand for. -/
def fUnpack (f : FFmt) (n : Nat) : FVal :=
  let mag := fMag f n
  let ex := mag / 2 ^ (f.p - 1)
  let fr := mag % 2 ^ (f.p - 1)
  if fIsNaN f n then .nan (fIsSNaN f n) n
  else if mag = f.infBits then .inf (fSign f n)
  else if ex = 0 then .fin (fSign f n) fr f.qmin
  else .fin (fSign f n) (fr + 2 ^ (f.p - 1)) (f.qmin + (ex - 1 : Nat))

/-- The number of significant bits of a number. -/
def bitLen (n : Nat) : Nat := if n = 0 then 0 else Nat.log2 n + 1

/-- Whether a magnitude `quo` with remainder `rem` of `2^k` (and more below, when `sticky`) rounds up. -/
def fRoundUp (rm : FRm) (sign : Bool) (quo rem k : Nat) (sticky : Bool) : Bool :=
  let inexact := rem != 0 || sticky
  match rm with
  | .rne => decide (2 ^ k < 2 * rem) || (decide (2 * rem = 2 ^ k) && (sticky || quo % 2 == 1))
  | .rtz => false
  | .rdn => sign && inexact
  | .rup => !sign && inexact

/-- `m · 2^e` (and a little more, when `sticky`) as a multiple of `2^q`, rounded; and whether it is inexact. -/
def fRoundAt (rm : FRm) (sign : Bool) (m : Nat) (e q : Int) (sticky : Bool) : Nat × Bool :=
  if q ≤ e then (m * 2 ^ (e - q).toNat, sticky)
  else
    let k := (q - e).toNat
    let quo := m / 2 ^ k
    let rem := m % 2 ^ k
    (if fRoundUp rm sign quo rem k sticky && (0 < k) then quo + 1 else quo, rem != 0 || sticky)

/-- The signed result bits. -/
def fPack (f : FFmt) (sign : Bool) (mag : Nat) : Nat := (if sign then f.signBit else 0) + mag

/-- What an overflow delivers (R112). -/
def fOverflow (f : FFmt) (rm : FRm) (sign : Bool) : Nat :=
  match rm with
  | .rne => fPack f sign f.infBits
  | .rtz => fPack f sign f.maxBits
  | .rdn => if sign then fPack f sign f.infBits else fPack f sign f.maxBits
  | .rup => if sign then fPack f sign f.maxBits else fPack f sign f.infBits

/-- Rounds a nonzero exact result once to a format, with tininess detected after rounding (R112 to R114);
answers the bits and the flags. -/
def fRound (f : FFmt) (c : FCtl) (sign : Bool) (m : Nat) (e : Int) (sticky : Bool) : Nat × Nat :=
  let top : Int := (bitLen m : Int) - 1 + e
  let q0 := top - (f.p - 1 : Nat)
  let (mr, ix) := fRoundAt c.rm sign m e q0 sticky
  -- after a carry the significand is 2^p at q0, that is 2^(p-1) at q0 + 1
  let mr1 := if mr = 2 ^ f.p then 2 ^ (f.p - 1) else mr
  let q1 := if mr = 2 ^ f.p then q0 + 1 else q0
  if q1 < f.qmin then
    -- tiny: the magnitude rounded with unbounded exponent is below Nmin
    if c.ftz then (fPack f sign 0, fUF + fNX)
    else
      let (ms, ix2) := fRoundAt c.rm sign m e f.qmin sticky
      (fPack f sign ms, if ix2 then fUF + fNX else 0)
  else
    let ex := (q1 - f.qmin).toNat + 1
    if 2 ^ f.ebits - 1 ≤ ex then (fOverflow f c.rm sign, fOF + fNX)
    else (fPack f sign (mr1 - 2 ^ (f.p - 1) + ex * 2 ^ (f.p - 1)), if ix then fNX else 0)

/-- The sign of an exact zero sum of operands of opposite sign (R116). -/
def fZeroSum (f : FFmt) (rm : FRm) : Nat := if rm = .rdn then f.signBit else 0

/-- The first quiet NaN of the operands, unchanged (R115). -/
def fFirstNaN : List FVal → Option Nat
  | [] => none
  | .nan _ raw :: _ => some raw
  | _ :: rest => fFirstNaN rest

def fAnySNaN (l : List FVal) : Bool := l.any (fun v => match v with | .nan s _ => s | _ => false)

/-- The exact sum of two finite values, rounded (R112, R116). -/
def fSumFin (f : FFmt) (c : FCtl) (sa : Bool) (ma : Nat) (ea : Int) (sb : Bool) (mb : Nat) (eb : Int) : Nat × Nat :=
  let e := min ea eb
  let a : Int := (if sa then -1 else 1) * ((ma * 2 ^ (ea - e).toNat : Nat) : Int)
  let b : Int := (if sb then -1 else 1) * ((mb * 2 ^ (eb - e).toNat : Nat) : Int)
  let t := a + b
  if t = 0 then
    (if ma = 0 ∧ mb = 0 ∧ sa = sb then fPack f sa 0 else fZeroSum f c.rm, 0)
  else fRound f c (decide (t < 0)) t.natAbs e false

/-- Negates a value that is not a NaN. -/
def FVal.neg : FVal → FVal
  | .nan s r => .nan s r
  | .inf s => .inf (!s)
  | .fin s m e => .fin (!s) m e

/-- FADD of two values (Table 5.4). -/
def fAddV (f : FFmt) (c : FCtl) (a b : FVal) : Nat × Nat :=
  if fAnySNaN [a, b] then (f.dNaN, fNV)
  else match a, b with
    | .inf s, .inf t => if s = t then (fPack f s f.infBits, 0) else (f.dNaN, fNV)
    | .nan _ r, _ => (r, 0)
    | _, .nan _ r => (r, 0)
    | .inf s, _ => (fPack f s f.infBits, 0)
    | _, .inf s => (fPack f s f.infBits, 0)
    | .fin sa ma ea, .fin sb mb eb => fSumFin f c sa ma ea sb mb eb

/-- FMUL (Table 5.5). -/
def fMulV (f : FFmt) (c : FCtl) (a b : FVal) : Nat × Nat :=
  if fAnySNaN [a, b] then (f.dNaN, fNV)
  else match a, b with
    | .nan _ r, _ => (r, 0)
    | _, .nan _ r => (r, 0)
    | .inf s, .inf t => (fPack f (s != t) f.infBits, 0)
    | .inf s, .fin t m _ => if m = 0 then (f.dNaN, fNV) else (fPack f (s != t) f.infBits, 0)
    | .fin t m _, .inf s => if m = 0 then (f.dNaN, fNV) else (fPack f (s != t) f.infBits, 0)
    | .fin s m e, .fin t n d =>
      if m = 0 ∨ n = 0 then (fPack f (s != t) 0, 0) else fRound f c (s != t) (m * n) (e + d) false

/-- FDIV (Table 5.5). -/
def fDivV (f : FFmt) (c : FCtl) (a b : FVal) : Nat × Nat :=
  if fAnySNaN [a, b] then (f.dNaN, fNV)
  else match a, b with
    | .nan _ r, _ => (r, 0)
    | _, .nan _ r => (r, 0)
    | .inf _, .inf _ => (f.dNaN, fNV)
    | .inf s, .fin t _ _ => (fPack f (s != t) f.infBits, 0)
    | .fin s _ _, .inf t => (fPack f (s != t) 0, 0)
    | .fin s m e, .fin t n d =>
      if n = 0 then if m = 0 then (f.dNaN, fNV) else (fPack f (s != t) f.infBits, fDZ)
      else if m = 0 then (fPack f (s != t) 0, 0)
      else
        let k := f.p + 3 + bitLen n
        fRound f c (s != t) (m * 2 ^ k / n) (e - d - k) (m * 2 ^ k % n != 0)

/-- The integer square root, bit by bit from bit `k - 1`. -/
def isqrt (n : Nat) : Nat → Nat → Nat
  | 0, r => r
  | k + 1, r => if (r + 2 ^ k) * (r + 2 ^ k) ≤ n then isqrt n k (r + 2 ^ k) else isqrt n k r

/-- FSQRT (Table 5.5). -/
def fSqrtV (f : FFmt) (c : FCtl) (a : FVal) : Nat × Nat :=
  if fAnySNaN [a] then (f.dNaN, fNV)
  else match a with
    | .nan _ r => (r, 0)
    | .inf s => if s then (f.dNaN, fNV) else (f.infBits, 0)
    | .fin s m e =>
      if m = 0 then (fPack f s 0, 0)
      else if s then (f.dNaN, fNV)
      else
        let k := 2 * (f.p + 3) + (e % 2).toNat
        let n := m * 2 ^ k
        let r := isqrt n (bitLen n / 2 + 1) 0
        fRound f c false r ((e - k) / 2) (r * r != n)

/-- The fused multiply-adds: the product of the first two operands, optionally negated, plus the third,
optionally negated, rounded once (R112, R115). -/
def fFmaV (f : FFmt) (c : FCtl) (negP negC : Bool) (a b d : FVal) : Nat × Nat :=
  if fAnySNaN [a, b, d] then (f.dNaN, fNV)
  else
    let invalid := match a, b with
      | .inf _, .fin _ m _ => m == 0
      | .fin _ m _, .inf _ => m == 0
      | _, _ => false
    if invalid then (f.dNaN, fNV)
    else match fFirstNaN [a, b, d] with
      | some r => (r, 0)
      | none =>
        let d1 := if negC then d.neg else d
        match a, b with
        | .fin s m e, .fin t n g =>
          let ps := (s != t) != negP
          match d1 with
          | .inf u => (fPack f u f.infBits, 0)
          | .fin u k h => fSumFin f c ps (m * n) (e + g) u k h
          | .nan _ r => (r, 0)
        | _, _ =>
          -- an infinite product
          let sg := fun v => match v with | FVal.inf s => s | .fin s _ _ => s | .nan _ _ => false
          let ps := (sg a != sg b) != negP
          match d1 with
          | .inf u => if u = ps then (fPack f ps f.infBits, 0) else (f.dNaN, fNV)
          | _ => (fPack f ps f.infBits, 0)

/-- FCVT between formats (R115 item 4, R117). -/
def fCvtFmt (src dst : FFmt) (c : FCtl) (a : FVal) : Nat × Nat :=
  match a with
  | .nan sig raw =>
    if sig then (dst.dNaN, fNV)
    else
      let fr := fMag src raw % 2 ^ (src.p - 1)
      let fr1 := if src.p ≤ dst.p then fr * 2 ^ (dst.p - src.p) else fr / 2 ^ (src.p - dst.p)
      (fPack dst (fSign src raw) (dst.infBits + fr1), 0)
  | .inf s => (fPack dst s dst.infBits, 0)
  | .fin s m e => if m = 0 then (fPack dst s 0, 0) else fRound dst c s m e false

/-- FCVT to an integer with range [lo, hi] (R117): the integer and the flags. -/
def fToInt (rm : FRm) (lo hi : Int) (a : FVal) : Int × Nat :=
  match a with
  | .nan _ _ => (0, fNV)
  | .inf s => (if s then lo else hi, fNV)
  | .fin s m e =>
    let (q, ix) := fRoundAt rm s m e 0 false
    let v : Int := if s then -(q : Int) else q
    if v < lo then (lo, fNV) else if hi < v then (hi, fNV) else (v, if ix then fNX else 0)

/-- FCVT from an integer (R117, R116). -/
def fFromInt (f : FFmt) (c : FCtl) (i : Int) : Nat × Nat :=
  if i = 0 then (0, 0) else fRound f c (decide (i < 0)) i.natAbs 0 false

/-- The order of two numbers of a format that are not NaNs, as integers; both zeros are 0. -/
def fKey (f : FFmt) (n : Nat) : Int := if fSign f n then -(fMag f n : Int) else fMag f n

/-- FMIN and FMAX (R118): minimumNumber and maximumNumber with -0 below +0. -/
def fMinMax (f : FFmt) (max : Bool) (a b : Nat) : Nat × Nat :=
  let fl := if fIsSNaN f a || fIsSNaN f b then fNV else 0
  if fIsNaN f a && fIsNaN f b then (if fl = 0 then a else f.dNaN, fl)
  else if fIsNaN f a then (b, fl)
  else if fIsNaN f b then (a, fl)
  else
    let less := decide (fKey f a < fKey f b) || (decide (fKey f a = fKey f b) && fSign f a && !fSign f b)
    (if less != max then a else b, fl)

/-- FCMP.EQ (0), FCMP.LT (1), FCMP.LE (2) (R118). -/
def fCompare (f : FFmt) (k a b : Nat) : Nat × Nat :=
  if fIsNaN f a || fIsNaN f b then
    (0, if k = 0 then (if fIsSNaN f a || fIsSNaN f b then fNV else 0) else fNV)
  else
    let x := fKey f a
    let y := fKey f b
    (b2n (if k = 0 then decide (x = y) else if k = 1 then decide (x < y) else decide (x ≤ y)), 0)

/-- FTYPE (Table 5.8). -/
def fClass (f : FFmt) (n : Nat) : Nat :=
  let mag := fMag f n
  let c := if fIsNaN f n then (if fIsSNaN f n then 5 else 4)
    else if mag = f.infBits then 3
    else if mag = 0 then 0
    else if fIsSub f n then 1 else 2
  c + (if fSign f n then 8 else 0)

/-- The operand that a binary32 instruction reads from an F register (R54): an improperly boxed value reads as
the default quiet NaN. -/
def unbox32 (v : Word) : Nat :=
  if v.toNat / 2 ^ 32 = 0xFFFFFFFF then v.toNat % 2 ^ 32 else fmt32.dNaN

/-- A binary32 value as an F register holds it (R54). -/
def box32 (n : Nat) : Word := BitVec.ofNat 64 (0xFFFFFFFF * 2 ^ 32 + n % 2 ^ 32)

/-- The operand of a format that an instruction reads from an F register. -/
def fOperand (dbl : Bool) (v : Word) : Nat := if dbl then v.toNat else unbox32 v

/-- The F register contents for a result of a format. -/
def fResult (dbl : Bool) (n : Nat) : Word := if dbl then BitVec.ofNat 64 n else box32 n

def fmtOf (dbl : Bool) : FFmt := if dbl then fmt64 else fmt32

/-- The value of an operand of a format, with DAZ applied. -/
def fRead (dbl : Bool) (c : FCtl) (v : Word) : FVal :=
  fUnpack (fmtOf dbl) (fDaz (fmtOf dbl) c.daz (fOperand dbl v))

/-- FADD, FSUB, FMUL, FDIV, FSQRT on F register contents: the result register and the flags. -/
def fpArith (op : FArithF) (dbl : Bool) (c : FCtl) (a b : Word) : Word × Nat :=
  let x := fRead dbl c a
  let y := fRead dbl c b
  let f := fmtOf dbl
  let r := match op with
    | .fadd => fAddV f c x y
    | .fsub => fAddV f c x y.neg
    | .fmul => fMulV f c x y
    | .fdiv => fDivV f c x y
    | .fsqrt => fSqrtV f c x
  (fResult dbl r.1, r.2)

/-- FMADD a·b + c, FMSUB a·b − c, FNMADD −(a·b) − c, FNMSUB −(a·b) + c. -/
def fpFma (op : FmaF) (dbl : Bool) (c : FCtl) (a b d : Word) : Word × Nat :=
  let np := match op with | .fmadd | .fmsub => false | .fnmadd | .fnmsub => true
  let nc := match op with | .fmadd | .fnmsub => false | .fmsub | .fnmadd => true
  let r := fFmaV (fmtOf dbl) c np nc (fRead dbl c a) (fRead dbl c b) (fRead dbl c d)
  (fResult dbl r.1, r.2)

/-- FCVT to integer: the G register result and the flags (R117, R72 for the W forms). -/
def fpToInt (op : FcvtF) (dbl : Bool) (c : FCtl) (a : Word) : Word × Nat :=
  let x := fRead dbl c a
  match op with
  | .toL => let r := fToInt c.rm (-(2 ^ 63)) (2 ^ 63 - 1) x; (wordOfInt r.1, r.2)
  | .toLU => let r := fToInt c.rm 0 (2 ^ 64 - 1) x; (wordOfInt r.1, r.2)
  | .toW => let r := fToInt c.rm (-(2 ^ 31)) (2 ^ 31 - 1) x; (wordOfInt r.1, r.2)
  | _ => let r := fToInt c.rm 0 (2 ^ 32 - 1) x; (signExt 32 r.1.toNat, r.2)

/-- FCVT from integer: the F register result and the flags. -/
def fpFromInt (op : FcvtF) (dbl : Bool) (c : FCtl) (a : Word) : Word × Nat :=
  let i : Int := match op with
    | .fromL => signed 64 a.toNat
    | .fromLU => (a.toNat : Int)
    | .fromW => signed 32 a.toNat
    | _ => ((a.toNat % 2 ^ 32 : Nat) : Int)
  let r := fFromInt (fmtOf dbl) c i
  (fResult dbl r.1, r.2)

/-- FCVT between formats; `dbl` selects the result format (Table 3.11). -/
def fpConvert (dbl : Bool) (c : FCtl) (a : Word) : Word × Nat :=
  let r := fCvtFmt (fmtOf (!dbl)) (fmtOf dbl) c (fRead (!dbl) c a)
  (fResult dbl r.1, r.2)

/-- FSIGNC, FSIGNN, FSIGNX and FBITS.F on F register or G register contents (Table 3.11, R54). -/
def fpBits (op : FbitF) (dbl : Bool) (a b : Word) : Word :=
  let f := fmtOf dbl
  let x := fOperand dbl a
  let y := fOperand dbl b
  match op with
  | .signC => fResult dbl (fPack f (fSign f y) (fMag f x))
  | .signN => fResult dbl (fPack f (!fSign f y) (fMag f x))
  | .signX => fResult dbl (fPack f (fSign f x != fSign f y) (fMag f x))
  | .bitsG => if dbl then a else signExt 32 a.toNat
  | .bitsF => if dbl then a else box32 a.toNat

/-- One accumulation of MACD.S (R96): two exact products added to ACC[63:0] one after the other. -/
def fpMacd (c : FCtl) (acc : Nat) (a0 b0 a1 b1 : Nat) : Nat × Nat :=
  let prod := fun (x y : Nat) =>
    let u := fUnpack fmt32 (fDaz fmt32 c.daz x)
    let v := fUnpack fmt32 (fDaz fmt32 c.daz y)
    let widen := fun (w : FVal) => match w with
      | .nan s r => FVal.nan s (fCvtFmt fmt32 fmt64 c (.nan false r)).1
      | w => w
    fMulV fmt64 { c with ftz := false } (widen u) (widen v)
  let p0 := prod a0 b0
  let p1 := prod a1 b1
  let rd := fun (n : Nat) => fUnpack fmt64 (fDaz fmt64 c.daz n)
  let s0 := fAddV fmt64 c (rd acc) (fUnpack fmt64 p0.1)
  let s1 := fAddV fmt64 c (rd s0.1) (fUnpack fmt64 p1.1)
  (s1.1, p0.2 ||| p1.2 ||| s0.2 ||| s1.2)

end Sys2Proof.Machine
end

