-- ==== Sys2Proof/Machine/IntegerOps.lean ====
section
/-!
DEFINITION. The instructions that work on registers alone: integer, accumulator and floating-point computation
(*Integer, Decimal and Control Instructions*, *Binary Floating Point*).
-/

namespace Sys2Proof.Machine

/-- What an instruction does at its retirement beside its effects: where control passes when not to the next
instruction, whether its group commits with it, and whether it has written LC itself. -/
structure Done where
  target : Option Word := none
  alone : Bool := false
  wroteLc : Bool := false
  deriving DecidableEq, Repr

/-! ## Registers of a core -/

/-- The architected state of a core. -/
def State.arch (s : State) (n : Nat) : Arch := (s.core n).arch

/-- Writes the architected state of a core. -/
def State.setArch (s : State) (n : Nat) (a : Arch) : State := s.setCore n { s.core n with arch := a }

/-- A general register of a core. -/
def State.gr (s : State) (n r : Nat) : Word := (s.arch n).getG r

/-- Writes a general register of a core. -/
def State.putG (s : State) (n r : Nat) (v : Word) : State := s.setArch n ((s.arch n).setG r v)

/-- A floating-point register of a core. -/
def State.fr (s : State) (n r : Nat) : Word := (s.arch n).getF r

/-- Writes a floating-point register of a core. -/
def State.putF (s : State) (n r : Nat) (v : Word) : State := s.setArch n ((s.arch n).setF r v)

/-- An instruction that writes one general register and goes on. -/
def State.doneG (s : State) (n r : Nat) (v : Word) : Res Done := .ok (s.putG n r v) {}

/-! ## Integer arithmetic (R72 to R78) -/

def State.doAlu (s : State) (n : Nat) (f : AluF) (w : Bool) (rd a b : Nat) : Res Done :=
  s.doneG n rd (aluResult f w (s.gr n a) (s.gr n b))

def State.doAluImm (s : State) (n : Nat) (f : AluF) (w : Bool) (rd a : Nat) (imm : Int) : Res Done :=
  s.doneG n rd (aluResult f w (s.gr n a) (wordOfInt imm))

/-- The count of a register shift is all 64 bits of RS2 (R74). -/
def State.doShift (s : State) (n : Nat) (f : ShiftF) (w : Bool) (rd a b : Nat) : Res Done :=
  s.doneG n rd (shiftResult f w (s.gr n a) (s.gr n b).toNat)

def State.doShiftImm (s : State) (n : Nat) (f : ShiftF) (w : Bool) (rd a cnt : Nat) : Res Done :=
  s.doneG n rd (shiftResult f w (s.gr n a) cnt)

/-- IMM19 × 2^11, sign-extended (R73). -/
def upperImm (imm : Int) : Word := wordOfInt (imm * 2048)

def State.doLui (s : State) (n rd : Nat) (imm : Int) : Res Done := s.doneG n rd (upperImm imm)

def State.doAuipc (s : State) (n rd : Nat) (imm : Int) : Res Done := s.doneG n rd ((s.arch n).pc + upperImm imm)

def State.doMul (s : State) (n : Nat) (f : MulF) (rd a b : Nat) : Res Done :=
  s.doneG n rd (mulResult f (s.gr n a) (s.gr n b))

/-- Fixed-Point Overflow writes no register (R76). -/
def State.doTrapArith (s : State) (n : Nat) (f : TrapF) (w : Bool) (rd a b : Nat) : Res Done :=
  match trapResult f w (s.gr n a) (s.gr n b) with
  | some v => s.doneG n rd v
  | none => .exc s { vec := 0x0B }

/-- The quotient goes to RD and the remainder to RD + 1 (R77, R78). -/
def State.doDiv (s : State) (n : Nat) (f : DivF) (rd a b : Nat) : Res Done :=
  match divResult f (s.gr n a) (s.gr n b) with
  | .ok q r => .ok ((s.putG n rd q).putG n (rd + 1) r) {}
  | .byZero => .exc s { vec := 0x0A }
  | .overflow => .exc s { vec := 0x0B }

/-! ## Accumulators (R55, R99) -/

def State.doAccz (s : State) (n acc : Nat) : Res Done := .ok (s.setArch n ((s.arch n).setAcc acc 0)) {}

def State.doMfa (s : State) (n : Nat) (hi : Bool) (rd acc : Nat) : Res Done :=
  s.doneG n rd (BitVec.ofNat 64 (((s.arch n).getAcc acc).toNat >>> (if hi then 64 else 0)))

def State.doMta (s : State) (n : Nat) (hi : Bool) (acc a : Nat) : Res Done :=
  .ok (s.setArch n ((s.arch n).setAcc acc (putAccHalf ((s.arch n).getAcc acc) (b2n hi) (s.gr n a)))) {}

/-! ## Floating point (R109 to R123) -/

/-- The rounding controls in force (Table 5.2). -/
def Arch.fctl (a : Arch) : FCtl :=
  { rm := rmOf (a.sf srFPCR 0 2), ftz := a.sf srFPCR 2 1 == 1, daz := a.sf srFPCR 3 1 == 1 }

/-- FPSR after an instruction raises flags at an address, and the FP Trap that an enabled one arms (R111, R123). -/
def Arch.raiseFlags (a : Arch) (pc : Word) (flags : Nat) : Arch :=
  let on := flags &&& a.sf srFPCR 4 5
  let a1 := a.setSf srFPSR 0 5 (a.sf srFPSR 0 5 ||| flags)
  if on = 0 then a1
  else if a.sf srFPSR 5 1 = 1 then a1.setSf srFPSR 6 1 1
  else ((a1.setSf srFPSR 5 1 1).setSf srFPSR 8 5 on).setS srFPTRAP_PC pc

/-- A floating-point instruction that writes an F register. -/
def State.doneF (s : State) (n rd : Nat) (r : Word × Nat) : Res Done :=
  .ok (s.setArch n (((s.arch n).setF rd r.1).raiseFlags (s.arch n).pc r.2)) {}

/-- A floating-point instruction that writes a G register. -/
def State.doneFG (s : State) (n rd : Nat) (r : Word × Nat) : Res Done :=
  .ok (s.setArch n (((s.arch n).setG rd r.1).raiseFlags (s.arch n).pc r.2)) {}

def State.doFarith (s : State) (n : Nat) (f : FArithF) (dbl : Bool) (rd a b : Nat) : Res Done :=
  s.doneF n rd (fpArith f dbl (s.arch n).fctl (s.fr n a) (s.fr n b))

def State.doFma (s : State) (n : Nat) (f : FmaF) (dbl : Bool) (rd a b c : Nat) : Res Done :=
  s.doneF n rd (fpFma f dbl (s.arch n).fctl (s.fr n a) (s.fr n b) (s.fr n c))

/-- Conversions between formats, to an integer in a G register, and from one (R117). -/
def State.doFcvt (s : State) (n : Nat) (f : FcvtF) (dbl : Bool) (rd a : Nat) : Res Done :=
  let c := (s.arch n).fctl
  match f with
  | .fmt => s.doneF n rd (fpConvert dbl c (s.fr n a))
  | .toL | .toLU | .toW | .toWU => s.doneFG n rd (fpToInt f dbl c (s.fr n a))
  | .fromL | .fromLU | .fromW | .fromWU => s.doneF n rd (fpFromInt f dbl c (s.gr n a))

/-- A comparison operand: DAZ applies (R114). -/
def Arch.cmpOperand (x : Arch) (dbl : Bool) (r : Nat) : Nat :=
  fDaz (fmtOf dbl) x.fctl.daz (fOperand dbl (x.getF r))

def State.doFminmax (s : State) (n : Nat) (max dbl : Bool) (rd a b : Nat) : Res Done :=
  let r := fMinMax (fmtOf dbl) max ((s.arch n).cmpOperand dbl a) ((s.arch n).cmpOperand dbl b)
  s.doneF n rd (fResult dbl r.1, r.2)

def State.doFcmp (s : State) (n c : Nat) (dbl : Bool) (rd a b : Nat) : Res Done :=
  let r := fCompare (fmtOf dbl) c ((s.arch n).cmpOperand dbl a) ((s.arch n).cmpOperand dbl b)
  s.doneFG n rd (BitVec.ofNat 64 r.1, r.2)

def State.doFtype (s : State) (n : Nat) (dbl : Bool) (rd a : Nat) : Res Done :=
  s.doneG n rd (BitVec.ofNat 64 (fClass (fmtOf dbl) (fOperand dbl (s.fr n a))))

/-- FSIGN and FBITS move bits and raise nothing (R114). -/
def State.doFbit (s : State) (n : Nat) (f : FbitF) (dbl : Bool) (rd a b : Nat) : Res Done :=
  match f with
  | .bitsG => s.doneG n rd (fpBits f dbl (s.fr n a) 0)
  | .bitsF => .ok (s.putF n rd (fpBits f dbl (s.gr n a) 0)) {}
  | _ => .ok (s.putF n rd (fpBits f dbl (s.fr n a) (s.fr n b))) {}

end Sys2Proof.Machine
end

