-- ==== Sys2Proof/Machine/MemoryOps.lean ====
section
/-!
DEFINITION. The instructions that access memory: loads, stores, atomic accesses, MACD, packed decimal and ZERO.L (R95
to R107, R168 to R174, R209), and the errors that the cache arrays show to a load (R205, R207).
-/

namespace Sys2Proof.Machine

/-- An access of a core at its level. -/
def State.acc (s : State) (n : Nat) (kind : AKind) (size : Nat) (strict : Bool := false) : Acc :=
  { kind := kind, level := (s.arch n).level, size := size, strict := strict }

/-- Base register plus offset. -/
def State.ea (s : State) (n a : Nat) (imm : Int) : Word := s.gr n a + wordOfInt imm

/-! ## Loads and stores -/

/-- What a load writes: its bytes, sign- or zero-extended. -/
def loadValue (size : Nat) (sext : Bool) (bytes : List Byte) : Word :=
  if sext then signExt (8 * 2 ^ size) (leNat bytes) else BitVec.ofNat 64 (leNat bytes)

def State.doLoad (s : State) (n size : Nat) (sext : Bool) (rd a : Nat) (imm : Int) (silent : Bool) : Res Done :=
  (s.loadBytes n (s.acc n .load (2 ^ size)) (s.ea n a imm) true silent).bind fun s1 d =>
    s1.doneG n rd (loadValue size sext d)

/-- FLD.S boxes its 32 bits (R54). -/
def State.doFload (s : State) (n : Nat) (dbl : Bool) (rd a : Nat) (imm : Int) (silent : Bool) : Res Done :=
  (s.loadBytes n (s.acc n .load (if dbl then 8 else 4)) (s.ea n a imm) true silent).bind fun s1 d =>
    .ok (s1.putF n rd (fResult dbl (leNat d))) {}

/-- The low bytes of a register are stored. -/
def State.storeReg (s : State) (n bytes : Nat) (strict : Bool) (va v : Word) : Res Done :=
  (s.storeBytes n (s.acc n .store bytes strict) va (leBytes bytes v.toNat)).bind fun s1 _ => .ok s1 {}

def State.doStore (s : State) (n size b a : Nat) (imm : Int) : Res Done :=
  s.storeReg n (2 ^ size) false (s.ea n a imm) (s.gr n b)

def State.doFstore (s : State) (n : Nat) (dbl : Bool) (b a : Nat) (imm : Int) : Res Done :=
  s.storeReg n (if dbl then 8 else 4) false (s.ea n a imm) (s.fr n b)

/-! ## Ordered and atomic accesses (R171, R172) -/

def State.doLdA (s : State) (n size rd a : Nat) (silent : Bool) : Res Done :=
  (s.loadBytes n (s.acc n .load (2 ^ size) true) (s.gr n a) true silent).bind fun s1 d =>
    s1.doneG n rd (loadValue size false d)

def State.doStR (s : State) (n size a b : Nat) : Res Done := s.storeReg n (2 ^ size) true (s.gr n a) (s.gr n b)

def State.doCas (s : State) (n size rd a b : Nat) : Res Done :=
  let k := 2 ^ size
  (s.casBytes n (s.acc n .cas k true) (s.gr n a) (leBytes k (s.gr n rd).toNat) (leBytes k (s.gr n b).toNat)).bind
    fun s1 d => .ok (s1.putG n rd (loadValue size false d)) { alone := true }

/-- The 16 bytes of a register pair. -/
def State.pair16 (s : State) (n r : Nat) : List Byte :=
  leBytes 8 (s.gr n r).toNat ++ leBytes 8 (s.gr n (r + 1)).toNat

/-- Sixteen bytes go to a register pair. -/
def State.putPair (s : State) (n r : Nat) (d : List Byte) : State :=
  (s.putG n r (BitVec.ofNat 64 (leNat (d.take 8)))).putG n (r + 1) (BitVec.ofNat 64 (leNat (d.drop 8)))

def State.doCasQ (s : State) (n rd a b : Nat) : Res Done :=
  (s.casBytes n (s.acc n .casQ 16 true) (s.gr n a) (s.pair16 n rd) (s.pair16 n b)).bind fun s1 d =>
    .ok (s1.putPair n rd d) { alone := true }

def State.doLdQA (s : State) (n rd a : Nat) : Res Done :=
  (s.loadQ n (s.acc n .ldQ 16 true) (s.gr n a)).bind fun s1 d => .ok (s1.putPair n rd d) {}

/-! ## MACD (R95 to R97) -/

/-- The accumulator after a MACD, and the flags (Table 4.4). -/
def Arch.macdResult (x : Arch) (ty : Nat) (acc : BitVec 128) (p q : List Byte) : BitVec 128 × Nat :=
  if ty = 2 then
    let r := fpMacd x.fctl (acc.toNat % 2 ^ 64) (leNat (p.take 4)) (leNat (q.take 4)) (leNat (p.drop 4)) (leNat (q.drop 4))
    (putAccHalf acc 0 (BitVec.ofNat 64 r.1), r.2)
  else
    let k := ty + 1
    (acc + BitVec.ofInt 128 (macdSum k (8 / k) (leNat p) (leNat q)), 0)

def State.doMacd (s : State) (n ty acc a b : Nat) : Res Done :=
  let rd := s.acc n .macd 8
  (s.loadBytes n rd (s.gr n a)).bind fun s1 p =>
    (s1.loadBytes n rd (s.gr n b) false).bind fun s2 q =>
      let x := s2.arch n
      let r := x.macdResult ty (x.getAcc acc) p q
      let x1 := (x.setAcc acc r.1).setG a (x.getG a + 8)
      let x2 := if a = b then x1 else x1.setG b (x.getG b + 8)
      .ok (s2.setArch n (x2.raiseFlags x.pc r.2)) {}

/-! ## Packed decimal (R100 to R105) -/

/-- The checks and reads of R104, items 1 to 3, in their order: both operands, and the parts of the store. -/
def State.decOperands (s : State) (n : Nat) (f : DecF) (l1 l2 : Nat) (va1 va2 : Word) :
    Res (List Byte × List Byte × List Part) :=
  (s.loadBytes n (s.acc n .decLoad l1) va1).bind fun s1 x =>
    (s1.loadBytes n (s.acc n .decLoad l2) va2 false).bind fun s2 y =>
      if f = .cmpp then .ok s2 (x, y, [])
      else
        ((s2.check n (s.acc n .decStore l1) va1).mapExc (Exc.at va1)).bind fun s3 ps => .ok s3 (x, y, ps)

/-- The condition goes to bits [17:16] of the length register; G0 discards it (R101). -/
def State.putCond (s : State) (n rl c : Nat) : State := s.putG n rl (putBits (s.gr n rl) 16 2 c)

def State.doDec (s : State) (n : Nat) (f : DecF) (rl a b : Nat) : Res Done :=
  let l1 := bits (s.gr n rl) 0 4 + 1
  let l2 := bits (s.gr n rl) 8 4 + 1
  let va1 := s.gr n a
  let va2 := s.gr n b
  (s.decOperands n f l1 l2 va1 va2).bind fun s1 x =>
    if ¬ decValid x.1 then .exc s1 { vec := 0x0C, eaddr := some va1 }
    else if ¬ decValid x.2.1 then .exc s1 { vec := 0x0C, eaddr := some va2 }
    else
      match decCompute f l1 l2 (decValue x.1) (decValue x.2.1) with
      | none => .exc s1 { vec := 0x0D, eaddr := some va1 }
      | some (out, c) =>
        (match out with
         | some bytes => s1.storeParts n (s.acc n .decStore l1) va1 x.2.2 bytes
         | none => .ok s1 ()).bind fun s2 _ => .ok (s2.putCond n rl c) {}

/-! ## ZERO.L (R209, R210) -/

/-- MNT_FORM of a tile. -/
def State.mntForm (s : State) (t : Nat) : Nat := s.fld (bL3 t) F.L3_CTL_MNT_FORM

/-- The line that contains the address is checked as a store of 128 bytes and retires as one; under MNT_FORM = 2 it
goes past the L2. -/
def State.doZeroL (s : State) (n a : Nat) : Res Done :=
  let va := s.gr n a
  let line := va &&& 0xFFFFFFFFFFFFFF80
  let acc := s.acc n .zero 128
  let zeros := List.replicate 128 (0 : Byte)
  ((s.check n acc line).mapExc fun e => { e with eaddr := some va }).bind fun s1 ps =>
    if s1.inTx n then (s1.storeParts n acc va ps zeros).bind fun s2 _ => .ok s2 {}
    else
      let bulk := s1.mntForm (s1.coreTile n) == 2
      let put := fun (st : Store) => if bulk && st.kind == .cached then { st with kind := .bulk } else st
      .ok (s1.putFresh n (ps.flatMap (fun p => (p.stores acc.level (s1.zoneOf n) zeros).map put))) {}

/-! ## Errors in the arrays (R205, R207) -/

/-- Counts an error at a cache and names its line. -/
def State.countCacheErr (s : State) (n cache line : Nat) (ce tag ue : Bool) : State :=
  let p := s.posOf n
  if cache = 3 then
    let b := bL3 (p / 10)
    let s1 := if ce then s.count b F.L3_ERRCNT_CE else if tag then s.count b F.L3_ERRCNT_TAGPE
      else if ue then s.count b F.L3_ERRCNT_UE else s
    (s1.setFld b F.L3_ERRADDR_ADDR line).setFld b F.L3_ERRADDR_CACHE 3
  else
    let b := bPos p
    let s1 := if ce then s.count b F.CACHE_ERRCNT_CE else if tag then s.count b F.CACHE_ERRCNT_TAGPE
      else if ue then s.count b F.CACHE_ERRCNT_UE else s
    ((s1.setFld b F.CACHE_ERRADDR_ADDR line).setFld b F.CACHE_ERRADDR_CACHE cache).setFld b F.CACHE_ERRADDR_PIPE
      (if cache < 2 then s.pipeOf n else 0)

/-- A cache of a core's position or tile: 2 its L2, 3 the L3. -/
def State.cacheOf (s : State) (n cache : Nat) : Nat := if cache = 3 then 10 else s.coreCache n

/-- A clean line leaves a cache; a transaction that wrote it aborts. -/
def State.invalidateIn (s : State) (t c line : Nat) : State :=
  let r := (s.txConflict t line false none 0x04).losePlace t c line
  r.1.deliver r.2

/-- Whether a cache of the core shows an error on a line: the L1s when in use, an L2 or L3 that holds the line. -/
def State.showsError (s : State) (n cache line : Nat) : Bool :=
  let t := s.coreTile n
  if cache = 0 then s.flag (bPos (s.posOf n)) F.CACHE_STAT_L1I_ON
  else if cache = 1 then s.flag (bPos (s.posOf n)) F.CACHE_STAT_L1D_ON
  else (SMap.find? (s.tile t).lines line).any (fun x => x.inCache (s.cacheOf n cache))

/-- An uncorrectable data error: an L1 line is refilled, a clean line of an L2 or L3 is dropped to be refilled, a
dirty one is poisoned. -/
def State.dataUncorrectable (s : State) (n cache line : Nat) : State :=
  let t := s.coreTile n
  let c := s.cacheOf n cache
  if cache < 2 then s.countCacheErr n cache line true false false
  else
    let s1 := s.countCacheErr n cache line false false true
    if s.tileState t line = .m then s1.poisonLine t c line
    else
      let page := if cache = 3 then l3Page t else posPage (s.posOf n)
      (s1.invalidateIn t c line).crumbOpen page 0x0600 [BitVec.ofNat 64 (128 * line)]

/-- A tag parity error in the set of a line: a clean entry is invalidated, a dirty one starts a retry (check 7). -/
def State.tagParity (s : State) (n cache line way : Nat) : Res Unit :=
  let t := s.coreTile n
  let c := s.cacheOf n cache
  if cache < 2 then .ok (s.countCacheErr n cache line false true false) ()
  else
    match s.lineAtWay t c (line % cacheSets c) way with
    | none => .ok s ()
    | some l =>
      if s.tileState t l = .m then .held (s.checkFires (s.posOf n) (if s.split then s.pipeOf n else 0) n 7 none false)
      else
        .ok ((s.countCacheErr n cache l false true false).invalidateIn t c l) ()

/-- The error that a load meets at a line. -/
def State.cacheError (s : State) (n line : Nat) (e : CacheErr) : Res Unit :=
  match e with
  | .none => .ok s ()
  | .corrected c => .ok (if s.showsError n c.val line then s.countCacheErr n c.val line true false false else s) ()
  | .uncorrectable c => .ok (if s.showsError n c.val line then s.dataUncorrectable n c.val line else s) ()
  | .tag c way => s.tagParity n c.val line way.val

/-- A load that meets an error of the arrays: the L1 instruction cache's is of the instruction's line, any other of the
line of the data. -/
def State.doLoadErr (s : State) (n size : Nat) (sext : Bool) (rd a : Nat) (imm : Int) (e : CacheErr) : Res Done :=
  let go := fun (u : State) => u.doLoad n size sext rd a imm false
  let inCode := match e with
    | .corrected c | .uncorrectable c | .tag c _ => c.val == 0
    | .none => false
  if e = .none then go s
  else
    let where_ := if inCode then s.check n (s.acc n .fetch 2) (s.arch n).pc
      else s.check n (s.acc n .load (2 ^ size)) (s.ea n a imm)
    match where_ with
    | .ok s1 (p :: _) =>
      if p.mem = .wb then (s1.cacheError n (p.pa / 128) e).bind fun s2 _ => if s.inTx n ∧ ¬ s2.inTx n then .held s2 else go s2
      else go s1
    | _ => go s

end Sys2Proof.Machine
end

