-- ==== Sys2Proof/Machine/ControlOps.lean ====
section
/-!
DEFINITION. The instructions that transfer control, the stack and the hardware loop (R49, R84 to R94).
-/

namespace Sys2Proof.Machine

/-- Control passes to an address. -/
def goTo (s : State) (target : Word) : Res Done := .ok s { target := some target }

/-- A transfer to an address held in a register, in memory or in saved state: bit 0 must be 0 (R49). -/
def oddTarget (s : State) (target : Word) : Res Unit :=
  if bit target 0 then .exc s { vec := 0x09, eaddr := some target } else .ok s ()

def State.doBranch (s : State) (n : Nat) (c : CondF) (a b : Nat) (off : Int) : Res Done :=
  if condHolds c (s.gr n a) (s.gr n b) then goTo s ((s.arch n).pc + wordOfInt off) else .ok s {}

def State.doB (s : State) (n : Nat) (off : Int) : Res Done := goTo s ((s.arch n).pc + wordOfInt off)

def State.doJr (s : State) (n a : Nat) (imm : Int) : Res Done :=
  let t := s.ea n a imm
  (oddTarget s t).bind fun s1 _ => goTo s1 t

/-! ## The stack (R84 to R88) -/

/-- A Stack Fault at a slot (Table 4.3). -/
def stackFault (cause : Nat) (stage2 write : Bool) (slot : Word) : Exc :=
  { vec := 0x16, detail := cause, stage2 := stage2, write := write, eaddr := some slot }

/-- The Stack Fault that a fault of the slot's checks is reported as; a Machine Check of a table read stays one (R87). -/
def stackExc (slot : Word) (e : Exc) : Exc :=
  if e.vec = 0x07 then stackFault (if e.stage2 then 3 else 2) e.stage2 e.write slot
  else if e.vec = 0x08 ∧ e.detail < 2 then stackFault 4 e.stage2 e.write slot
  else if e.vec = 0x08 ∧ e.detail ≠ 4 then stackFault 5 false e.write slot
  else e

/-- The checks of a slot: the limit of R86, alignment, then those of the access; the lowest cause is reported. -/
def State.checkSlot (s : State) (n : Nat) (push : Bool) (slot : Word) : Res (List Part) :=
  let a := s.arch n
  let sp := a.getG 31
  let limit := a.getS (srSPLIM a.level)
  let kind : AKind := if push then .push else .pop
  if (push ∧ sp.toNat < 8) ∨ slot.toNat < limit.toNat then .exc s (stackFault 0 false push slot)
  else if slot.toNat % 8 ≠ 0 then .exc s (stackFault 1 false push slot)
  else (s.check n (s.acc n kind 8) slot).mapExc (stackExc slot)

/-- The push of a return address, and the transfer. -/
def State.doPush (s : State) (n : Nat) (ret target : Word) : Res Done :=
  let slot := s.gr n 31 - 8
  (s.checkSlot n true slot).bind fun s1 ps =>
    (s1.storeParts n (s.acc n .push 8) slot ps (leBytes 8 ret.toNat)).bind fun s2 _ =>
      goTo (s2.putG n 31 slot) target

def State.doCall (s : State) (n len : Nat) (off : Int) : Res Done :=
  let pc := (s.arch n).pc
  s.doPush n (pc + BitVec.ofNat 64 len) (pc + wordOfInt off)

/-- The target of CALLR is computed and checked before the push. -/
def State.doCallr (s : State) (n len a : Nat) (imm : Int) : Res Done :=
  let t := s.ea n a imm
  (oddTarget s t).bind fun s1 _ => s1.doPush n ((s.arch n).pc + BitVec.ofNat 64 len) t

/-- An error on the line of the pop slot is cause 0x6; one that a request came back with keeps its own name or is that
of the slot's checks. -/
def popExc (slot : Word) (e : Exc) : Exc :=
  if e = mcPoison then stackFault 6 false false slot else (stackExc slot e).at slot

def State.doRet (s : State) (n : Nat) : Res Done :=
  let slot := s.gr n 31
  (s.checkSlot n false slot).bind fun s1 ps =>
    ((s1.loadParts n (s.acc n .pop 8) slot ps true false).mapExc (popExc slot)).bind fun s2 d =>
      let t := BitVec.ofNat 64 (leNat d)
      (oddTarget s2 t).bind fun s3 _ => goTo (s3.putG n 31 (slot + 8)) t

/-! ## The hardware loop (R89 to R94) -/

/-- The instructions that may not stand at LE (R92). -/
def POp.notAtLe : POp → Bool
  | .branch .. | .b _ | .call _ | .callr .. | .jr .. | .ret | .rfe | .svc _ | .hvc _ | .mcall _ | .wait | .loop ..
  | .tbegin _ | .tbeginb _ | .tcommit | .tabort _ | .ttest _ => true
  | _ => false

/-- Loop Fault (R92). -/
def Arch.loopFault (a : Arch) (op : POp) : Bool :=
  let lc := a.getS srLC
  let lb := a.getS srLB
  let le := a.getS srLE
  match op with
  | .loop _ off =>
    off == 2 || (lc != 0 && decide (lb.toNat ≤ a.pc.toNat) && decide (a.pc.toNat ≤ le.toNat)) || (lc != 0 && a.pc == le)
  | _ => lc != 0 && a.pc == le && op.notAtLe

/-- The length that the first parcel of an instruction gives it. -/
def parcelLen (p : BitVec 16) : Nat := if p.toNat / 2 ^ 13 = 7 then 4 else 2

/-- LOOP; a zero count skips the body, whose last instruction begins with the parcel `tail` (R89). -/
def State.doLoop (s : State) (n a off : Nat) (tail : BitVec 16) : Res Done :=
  let x := s.arch n
  let count := s.gr n a
  let le := x.pc + BitVec.ofNat 64 off
  let x1 := ((x.setS srLC count).setS srLB (x.pc + 4)).setS srLE le
  if count = 0 then
    (s.fetchParcel n x.level le).bind fun s1 _ =>
      .ok (s1.setArch n x1) { target := some (le + BitVec.ofNat 64 (parcelLen tail)), wroteLc := true }
  else .ok (s.setArch n x1) { wroteLc := true }

end Sys2Proof.Machine
end

