-- ==== Sys2Proof/Machine/SystemOps.lean ====
section
/-!
DEFINITION. The system instructions: special registers, RFE, the calls to a higher level, WAIT, the TLB instructions,
the fences and the transaction instructions (R57, R131, R146, R150, R166, R175, R183 to R196).
-/

namespace Sys2Proof.Machine

/-! ## Special registers -/

def State.doMfs (s : State) (n rd num : Nat) : Res Done := s.doneG n rd (s.readSr n num)

def State.doMts (s : State) (n num a : Nat) : Res Done :=
  .ok (s.setArch n ((s.arch n).writeSr num (s.arch n).level (s.gr n a))) { alone := true, wroteLc := num == srLC }

/-- RFE checks the saved PSW, then EPC, and restores both (R146). -/
def State.doRfe (s : State) (n : Nat) : Res Done :=
  let a := s.arch n
  let level := a.level
  let saved := BitVec.ofNat 64 (bits (a.getS (srESTAT level)) 32 7)
  let epc := a.getS (srEPC level)
  if rfeRefused level saved (a.getS srPSW) then .exc s { vec := 0x0F }
  else
    (oddTarget s epc).bind fun s1 _ =>
      .ok (s1.setArch n (a.setS srPSW (putBits (a.getS srPSW) 0 7 saved.toNat))) { target := some epc, alone := true }

/-- WAIT stops issue and selects the power state (R150, R429). -/
def State.doWait (s : State) (n : Nat) : Res Done :=
  .ok (s.setCore n { s.core n with waiting := true, sel := s.selectState n }) { alone := true }

/-! ## TLB instructions (R166) -/

/-- The TLB entries of a zone that a TLBI removes, by its form, RS1 and RS2, and the current VMID. -/
def tlbiHits (f : TlbiF) (zone vmid : Nat) (a b : Word) (e : TlbEntry) : Bool :=
  let v := a.toNat % 2 ^ 57
  let asid := bits b 0 16
  let covers := fun (base size x : Nat) => decide (base ≤ x) && decide (x < base + size)
  e.zone == zone &&
  (match f with
   | .va => e.vmid == vmid && e.stage1 && (e.asid == none || e.asid == some asid) && covers e.va e.size v
   | .asid => e.vmid == vmid && e.stage1 && e.asid == some asid
   | .s1all => e.vmid == vmid
   | .gpa => !bit b 8 && e.vmid == bits b 0 8 && e.leaf2.isSome && covers e.gpa e.gpaSize a.toNat
   | .vmid => !bit b 8 && e.vmid == bits b 0 8
   | .all => true)

/-- The I/O TLB entries of a zone that a TLBI removes. -/
def tlbiIoHits (f : TlbiF) (zone : Nat) (a b : Word) (e : IoTlbEntry) : Bool :=
  e.zone == zone &&
  (match f with
   | .gpa => bit b 8 && decide (e.iova ≤ a.toNat) && decide (a.toNat < e.iova + e.size)
   | .vmid => bit b 8
   | .all => true
   | _ => false)

/-- Every store of the cores of a zone completes. -/
def State.drainZone (s : State) (zone : Nat) : State × Bool :=
  (List.range 64).foldl (fun (r : State × Bool) m =>
    if r.1.zoneOf m = zone ∧ r.1.coreValid m then
      let q := r.1.drainAll m
      (q.1, r.2 && q.2)
    else r) (s, true)

/-- Entries leave the TLB of a core; an open transaction of another core that used one aborts. -/
def State.purgeTlb (s : State) (n m : Nat) (hit : TlbEntry → Bool) : State :=
  let c := s.core m
  let s1 := s.setCore m { c with tlb := c.tlb.filter (fun e => !hit e) }
  match c.tx with
  | some t => if m ≠ n ∧ t.pages.any hit then s1.txAbort m 0x0F else s1
  | none => s1

def State.doTlbi (s : State) (n : Nat) (f : TlbiF) (a b : Nat) : Res Done :=
  let zone := s.zoneOf n
  let x := s.gr n a
  let y := s.gr n b
  let hit := tlbiHits f zone (bits ((s.arch n).getS srTTB_H) 4 8) x y
  match s.drainZone zone with
  | (s1, false) => .held s1
  | (s1, true) =>
    let s2 := (List.range 64).foldl (fun u m => u.purgeTlb n m hit) s1
    .ok { s2 with ioTlb := s2.ioTlb.filter (fun e => !tlbiIoHits f zone x y e) } { alone := true }

/-! ## Fences (R175, R190) -/

/-- A fence waits as Table 8.2 gives; inside a transaction it has no effect. -/
def State.doFence (s : State) (n : Nat) (f : FenceF) : Res Done :=
  if s.inTx n then .ok s {}
  else
    match (match f with
      | .l => s.drainLocal n
      | .c | .s => s.drainAll n) with
    | (s1, true) => .ok s1 { alone := true }
    | (s1, false) => .held s1

/-! ## Transactions (R183 to R196) -/

/-- TXSTAT as a transaction opens. -/
def openTxstat (v : Word) (bounded escal : Bool) (bcount : Nat) : Word :=
  let v1 := putBits (putBits (putBits v 0 1 1) 1 1 (b2n bounded)) 2 4 1
  if bounded then putBits (putBits v1 36 1 (b2n escal)) 32 4 bcount else v1

/-- A transaction opens: the abort handler and the architected state are recorded (R183). -/
def State.openTx (s : State) (n : Nat) (bounded escal : Bool) (off : Int) (gather : List (Nat × Bool)) (bcount : Nat) :
    State :=
  let c := s.core n
  let t : Tx :=
    { bounded := bounded, escal := escal, handler := c.arch.pc + wordOfInt off, begun := c.arch.pc, saved := c.arch,
      gather := gather }
  s.setCore n { c with tx := some t, arch := c.arch.setS srTXSTAT (openTxstat (c.arch.getS srTXSTAT) bounded escal bcount) }

/-- One level deeper; beyond 15 the transaction aborts. -/
def State.nestTx (s : State) (n : Nat) : Res Done :=
  let d := (s.arch n).sf srTXSTAT 2 4
  if d = 15 then .abort s 0x05 none
  else .ok (s.setArch n ((s.arch n).setSf srTXSTAT 2 4 (d + 1))) { alone := true }

/-- A rule of R194 is broken by the instruction at PC. -/
def State.breaks (s : State) (n detail : Nat) : Res Done := .abort s 0x0E (some (detail, (s.arch n).pc))

def State.doTbegin (s : State) (n : Nat) (off : Int) : Res Done :=
  match (s.core n).tx with
  | some t => if t.bounded then s.breaks n 4 else s.nestTx n
  | none =>
    match s.drainAll n with
    | (s1, true) => .ok (s1.openTx n false false off [] 0) { alone := true }
    | (s1, false) => .held s1

/-- The listed lines in ascending address order. -/
def insertLine (x : Nat × Bool) : List (Nat × Bool) → List (Nat × Bool)
  | [] => [x]
  | y :: rest => if x.1 < y.1 then x :: y :: rest else y :: insertLine x rest

def sortLines (l : List (Nat × Bool)) : List (Nat × Bool) := l.foldr insertLine []

/-- The gather of an escalated attempt wins its lines one after the other (R196). A line that its home refuses is left
out: the body meets the refusal itself. -/
def State.gatherLines : Nat → State → Nat → Res Done
  | 0, s, _ => .ok s { alone := true }
  | k + 1, s, n =>
    match (s.core n).tx with
    | none => .held s
    | some t =>
      match t.gather with
      | [] => .ok s { alone := true }
      | x :: rest =>
        let tile := s.coreTile n
        let put := fun (u : State) (won : List (Nat × Bool)) =>
          match (u.core n).tx with
          | some y =>
            let home := lineHome x.1
            let homes := if home = u.moduleId ∨ y.homes.contains home then y.homes else y.homes ++ [home]
            u.setCore n { u.core n with tx := some { y with gather := rest, won := y.won ++ won, homes := homes } }
          | none => u
        let won := fun (u : State) => put u [x]
        let skip := fun (u : State) => put u []
        if s.holdsFor tile x.1 x.2 ∧ (s.holdOn tile x.1).any (fun h => h.esc) ∧ ¬ s.escHeld tile x.1 n then
          State.gatherLines k (won s) n
        else
          match s.acquire n 0 x.1 (s.arch n).level (s.zoneOf n) { own := x.2, tx := true, esc := true } with
          | (s1, .yes) => State.gatherLines k (won s1) n
          | (s1, .no) => .held s1
          | (s1, .refused _) => State.gatherLines k (skip s1) n
          | (s1, .gone) => .held s1

/-- A gather that takes too long releases the lines it has won and starts again, still escalated (R196). -/
def State.restartGather (s : State) (n : Nat) (t : Tx) : State :=
  let rls := fun (d : Nat) =>
    ({ cls := 4, code := 2, dest := d, src := s.moduleId, agent := s.coreTile n, txn := n, line := 0 } : Msg)
  let s1 := (t.homes.foldl (fun u d => u.enqueue (rls d)) s).dropReservations (markCore s.moduleId n)
  let s2 := s1.endEscalatedHolds n t
  let list := sortLines ((((s.core n).lastTb.map (·.2))).getD [])
  s2.setCore n { s2.core n with tx := some { t with gather := list, won := [] } }

/-- TBEGINB (R183, R194, R196). -/
def State.doTbeginb (s : State) (n : Nat) (off : Int) : Res Done :=
  let c := s.core n
  match c.tx with
  | some t =>
    if t.bounded ∧ t.begun = c.arch.pc ∧ t.gather ≠ [] then State.gatherLines 5 s n
    else if t.bounded then s.breaks n 4
    else s.nestTx n
  | none =>
    let same := c.lastTb.any (fun x => x.1 == c.arch.pc)
    let bcount := if same then c.arch.sf srTXSTAT 32 4 else 0
    let escal := decide (8 ≤ bcount)
    let list := if escal then sortLines ((c.lastTb.map (·.2)).getD []) else []
    State.gatherLines 5 (s.openTx n true escal off list bcount) n

/-- The write data of a commit, by line: consecutive bytes are merged into the line the tile owns; data without a
target is dropped and recorded (R184, R141). -/
def State.commitWrites (s : State) (n : Nat) (t : Tx) : State :=
  let tile := s.coreTile n
  let c := s.coreCache n
  t.wdata.foldl (fun (u : State) (x : Nat × Byte) =>
    if u.mainTarget x.1 then u.mergeLine tile c x.1 [x.2] else u) s

/-- The lines of a write set that have no target. -/
def State.lostWrites (s : State) (n : Nat) (t : Tx) : State :=
  (t.writes.filter (fun l => !s.mainTarget (l * 128))).foldl (fun u l => u.logLate n 1 (u.zoneOf n) (l * 128)) s

/-- A commit makes every store of the transaction visible at once and ends its marks and holds (R184, R196). -/
def State.commitTx (s : State) (n : Nat) (t : Tx) : State :=
  let s1 := (s.commitWrites n t).lostWrites n t
  let c := s1.core n
  let v := putBits (putBits (c.arch.getS srTXSTAT) 0 1 0) 2 4 0
  let s2 := s1.setCore n { c with tx := none, arch := c.arch.setS srTXSTAT (if t.bounded then putBits v 32 4 0 else v) }
  (s2.txMessages n t).endEscalatedHolds n t

def State.doTcommit (s : State) (n : Nat) : Res Done :=
  match (s.core n).tx with
  | none => .ok s {}
  | some t =>
    let d := (s.arch n).sf srTXSTAT 2 4
    if 1 < d then .ok (s.setArch n ((s.arch n).setSf srTXSTAT 2 4 (d - 1))) { alone := true }
    else
      match s.drainAll n with
      | (s1, true) => if s1.inTx n then .ok (s1.commitTx n t) { alone := true } else .held s1
      | (s1, false) => .held s1

/-- TABORT places its operand in UCODE and aborts with code 0x01. -/
def State.doTabort (s : State) (n a : Nat) : Res Done :=
  if s.inTx n then .abort (s.setArch n ((s.arch n).setSf srTXSTAT 16 8 (bits (s.gr n a) 0 8))) 0x01 none
  else .ok s {}

def State.doTtest (s : State) (n rd : Nat) : Res Done :=
  s.doneG n rd (BitVec.ofNat 64 ((s.arch n).sf srTXSTAT 2 4))

/-! ## What may stand in a transaction (R190, R194) -/

/-- The instructions excluded from every transaction (R190). -/
def POp.excluded : POp → Bool
  | .mts .. | .rfe | .svc _ | .hvc _ | .mcall _ | .wait | .isync | .tlbi .. => true
  | _ => false

/-- The instructions that may retire inside a bounded transaction (R194). -/
def boundedAllows (w : BitVec 32) (op : POp) : Bool :=
  if isLong w then
    [0x01, 0x02, 0x04, 0x05, 0x06, 0x07, 0x08, 0x09, 0x0A, 0x0B, 0x0C, 0x0E].contains (nfld w.toNat 8 5) ||
    (match op with
     | .mul .. | .fence _ | .tcommit | .tabort _ | .ttest _ => true
     | _ => false)
  else
    match op with
    | .brk _ | .svc _ => false
    | _ => true

end Sys2Proof.Machine
end

