-- ==== Sys2Proof/Machine/Issue.lean ====
section
/-!
DEFINITION. The issue of one instruction by a logical core: the events of its boundary, its fetch and decoding, what
may stand where it stands, its effects and its retirement (R51, R69, R90, R92, R139, R190 to R195, R247).
-/

namespace Sys2Proof.Machine

/-- What the outside adds to an instruction: an error of the arrays, the parcel at LE, a register page that is silent. -/
structure Env where
  err : CacheErr := .none
  tail : BitVec 16 := 0
  silent : Bool := false

/-- The row of the table of operations that an instruction belongs to. -/
def POp.row : POp → String
  | .alu .. | .aluImm .. => "ALU_REGISTER_OP"
  | .shift .. | .shiftImm .. => "SHIFT_OP"
  | .lui .. => "LUI"
  | .auipc .. => "AUIPC"
  | .mul .. => "MULTIPLY"
  | .trapArith .. => "TRAPPING_ARITHMETIC"
  | .div .. => "DIVIDE"
  | .load .. => "LOAD"
  | .store .. => "STORE"
  | .fload .. | .fstore .. => "FP_LOAD_STORE"
  | .ldA .. => "LD_A"
  | .stR .. => "ST_R"
  | .cas .. => "CAS"
  | .casQ .. => "CAS_Q"
  | .ldQA .. => "LD_Q_A"
  | .branch .. => "COMPARE_AND_BRANCH"
  | .b _ => "B"
  | .call _ => "CALL"
  | .jr .. => "JR"
  | .callr .. => "CALLR"
  | .ret => "RET"
  | .loop .. => "LOOP"
  | .macd .. => "MACD"
  | .accz _ | .mfa .. | .mta .. => "ACCUMULATOR_TRANSFER"
  | .dec .addp _ _ _ => "DADDP"
  | .dec .subp _ _ _ => "DSUBP"
  | .dec .mulp _ _ _ => "DMULP"
  | .dec .divp _ _ _ => "DDIVP"
  | .dec .cmpp _ _ _ => "DCMPP"
  | .farith .. => "FP_ARITHMETIC"
  | .fma .. => "FUSED_MULTIPLY_ADD"
  | .fcvt .. => "FP_CONVERT"
  | .fminmax .. => "FMIN_FMAX"
  | .fcmp .. => "FCMP"
  | .ftype .. => "FTYPE"
  | .fbit .. => "FP_BIT_MOVE"
  | .fence .c => "FENCE_C"
  | .fence .l => "FENCE_L"
  | .fence .s => "FENCE_S"
  | .fsync => "FSYNC"
  | .isync => "ISYNC"
  | .zeroL _ => "ZERO_L"
  | .tlbi .va _ _ => "TLBI_VA"
  | .tlbi .asid _ _ => "TLBI_ASID"
  | .tlbi .s1all _ _ => "TLBI_S1ALL"
  | .tlbi .gpa _ _ => "TLBI_GPA"
  | .tlbi .vmid _ _ => "TLBI_VMID"
  | .tlbi .all _ _ => "TLBI_ALL"
  | .mfs .. => "MFS"
  | .mts .. => "MTS"
  | .rfe => "RFE"
  | .svc _ => "SVC"
  | .hvc _ => "HVC"
  | .mcall _ => "MCALL"
  | .brk _ => "BRK"
  | .nop => "NOP"
  | .wait => "WAIT"
  | .tbegin _ => "TBEGIN"
  | .tbeginb _ => "TBEGINB"
  | .tcommit => "TCOMMIT"
  | .tabort _ => "TABORT"
  | .ttest _ => "TTEST"

/-- The effects of a decoded instruction. -/
def State.perform (s : State) (n len : Nat) (env : Env) (op : POp) : Res Done :=
  match op with
  | .alu f w rd a b => s.doAlu n f w rd a b
  | .aluImm f w rd a imm => s.doAluImm n f w rd a imm
  | .shift f w rd a b => s.doShift n f w rd a b
  | .shiftImm f w rd a c => s.doShiftImm n f w rd a c
  | .lui rd imm => s.doLui n rd imm
  | .auipc rd imm => s.doAuipc n rd imm
  | .mul f rd a b => s.doMul n f rd a b
  | .trapArith f w rd a b => s.doTrapArith n f w rd a b
  | .div f rd a b => s.doDiv n f rd a b
  | .load size sext rd a imm =>
    if env.silent then s.doLoad n size sext rd a imm true else s.doLoadErr n size sext rd a imm env.err
  | .store size b a imm => s.doStore n size b a imm
  | .fload dbl rd a imm => s.doFload n dbl rd a imm env.silent
  | .fstore dbl b a imm => s.doFstore n dbl b a imm
  | .ldA size rd a => s.doLdA n size rd a env.silent
  | .stR size a b => s.doStR n size a b
  | .cas size rd a b => s.doCas n size rd a b
  | .casQ rd a b => s.doCasQ n rd a b
  | .ldQA rd a => s.doLdQA n rd a
  | .branch c a b off => s.doBranch n c a b off
  | .b off => s.doB n off
  | .call off => s.doCall n len off
  | .jr a imm => s.doJr n a imm
  | .callr a imm => s.doCallr n len a imm
  | .ret => s.doRet n
  | .loop a off => s.doLoop n a off env.tail
  | .macd ty acc a b => s.doMacd n ty acc a b
  | .accz acc => s.doAccz n acc
  | .mfa hi rd acc => s.doMfa n hi rd acc
  | .mta hi acc a => s.doMta n hi acc a
  | .dec f rl a b => s.doDec n f rl a b
  | .farith f dbl rd a b => s.doFarith n f dbl rd a b
  | .fma f dbl rd a b c => s.doFma n f dbl rd a b c
  | .fcvt f dbl rd a => s.doFcvt n f dbl rd a
  | .fminmax max dbl rd a b => s.doFminmax n max dbl rd a b
  | .fcmp c dbl rd a b => s.doFcmp n c dbl rd a b
  | .ftype dbl rd a => s.doFtype n dbl rd a
  | .fbit f dbl rd a b => s.doFbit n f dbl rd a b
  | .fence f => s.doFence n f
  | .fsync => .ok s {}
  | .isync => .ok s { alone := true }
  | .zeroL a => s.doZeroL n a
  | .tlbi f a b => s.doTlbi n f a b
  | .mfs rd num => s.doMfs n rd num
  | .mts num a => s.doMts n num a
  | .rfe => s.doRfe n
  | .svc _ => .exc s { vec := 0x10 }
  | .hvc _ => .exc s { vec := 0x11 }
  | .mcall _ => .exc s { vec := 0x12 }
  | .brk _ => .exc s { vec := 0x13 }
  | .nop => .ok s {}
  | .wait => s.doWait n
  | .tbegin off => s.doTbegin n off
  | .tbeginb off => s.doTbeginb n off
  | .tcommit => s.doTcommit n
  | .tabort a => s.doTabort n a
  | .ttest rd => s.doTtest n rd

/-! ## Decoding exceptions (R68, R69) -/

/-- The facilities of CORE_CTL that an instruction needs are enabled (R59, R97). -/
def Arch.hasFacility (a : Arch) (op : POp) : Bool :=
  (match op.facility with
   | some i => a.sf srCORE_CTL i 1 == 1
   | none => true) &&
  (match op with
   | .macd ty _ _ _ => ty != 2 || a.sf srCORE_CTL 1 1 == 1
   | _ => true)

/-- The vector of the decoding exception of an instruction word, and of Loop Fault (Table 6.6, orders 7 and 8). -/
def Arch.decodeFault (a : Arch) : Option POp → Option Nat
  | none => some 0x04
  | some op =>
    if a.level < op.level then some 0x05
    else if ¬ a.hasFacility op then some 0x06
    else if a.loopFault op then some 0x17
    else none

/-- FSYNC and the context-synchronizing instructions, at which an armed FP Trap is due (R70, R124). -/
def POp.syncs : POp → Bool
  | .fsync | .mts .. | .rfe | .svc _ | .hvc _ | .mcall _ | .wait | .isync => true
  | _ => false

/-! ## Retirement (R90, R139, R247) -/

/-- Retirement of the instruction at PC, whose loop registers stood as in `old` when it began: the loop step, the next
PC, and the group it joins. -/
def State.retire (s : State) (n : Nat) (old : Arch) (len : Nat) (d : Done) : State :=
  let c := s.core n
  let lc := old.getS srLC
  let atLe := lc != 0 && old.pc == old.getS srLE
  let next := old.pc + BitVec.ofNat 64 len
  let a1 := if atLe ∧ ¬ d.wroteLc then c.arch.setS srLC (lc - 1) else c.arch
  let pc := if atLe then (if lc = 1 then next else old.getS srLB) else d.target.getD next
  let step := c.stepPending || (old.sf srPSW 5 1 == 1 && a1.sf srPSW 5 1 == 1)
  let tx := match c.tx with
    | some t => some { t with retired := t.retired + 1 }
    | none => none
  let s1 := (s.setCore n { c with arch := { a1 with pc := pc }, stepPending := step, group := c.group + 1, tx := tx,
                                  stepGrant := false }).dropKept n
  if d.alone ∨ 7 ≤ c.group then s1.commitGroup n else s1

/-! ## Issue -/

/-- What may not stand in the open transaction (R190, R194): the abort it causes. -/
def State.txRefuses (s : State) (n : Nat) (w : BitVec 32) (op : POp) : Option (Nat × Option (Nat × Word)) :=
  match (s.core n).tx with
  | none => none
  | some t =>
    let nested := match op with
      | .tbegin _ | .tbeginb _ => true
      | _ => false
    let order9 := match op with
      | .brk _ => true
      | _ => false
    if op.excluded then some (0x08, none)
    else if t.bounded && !nested && !order9 && !boundedAllows w op then some (0x0E, some (3, (s.arch n).pc))
    else none

/-- A bounded transaction has used its 32 retirements, which its own TBEGINB precedes (R194). -/
def State.budgetSpent (s : State) (n : Nat) : Bool :=
  match (s.core n).tx with
  | some t => t.bounded && decide (32 < t.retired)
  | none => false

/-- The fetch of an instruction: both parcels, the first fault reported (R51). The answer tells on which parcel it
faults. -/
def State.fetchInsn (s : State) (n len : Nat) : Res Unit × Bool :=
  let a := s.arch n
  match s.fetchParcel n a.level a.pc with
  | .ok s1 _ => (if len = 4 then s1.fetchParcel n a.level (a.pc + 2) else .ok s1 (), true)
  | r => (r, false)

/-- What an instruction comes to once its fetch has passed. -/
def State.execute (s : State) (n : Nat) (w : BitVec 32) (op : Option POp) (env : Env) : Res Done :=
  match (s.arch n).decodeFault op, op with
  | some v, _ => .exc s { vec := v }
  | none, none => .held s
  | none, some o =>
    match s.txRefuses n w o with
    | some x => .abort s x.1 x.2
    | none =>
      match s.perform n (insnLen w) env o with
      | .ok s1 d => if s.budgetSpent n then .abort s 0x0E (some (1, (s.arch n).pc)) else .ok s1 d
      | r => r

/-- One instruction at a boundary where no event is due. -/
def State.runInsn (s : State) (n : Nat) (w : BitVec 32) (env : Env) : State :=
  let len := insnLen w
  let a := s.arch n
  let next := a.pc + BitVec.ofNat 64 len
  let parcel := w.toNat % 2 ^ 16
  match s.fetchInsn n len with
  | (.ok s1 _, _) =>
    if s.inTx n ∧ ¬ s1.inTx n then s1
    else
      match s1.execute n w (decodePuldo w) env with
      | .ok s2 d => s2.retire n a len d
      | .exc s2 e => (s2.dropKept n).raisePrecise n e next parcel
      | .abort s2 code esc => (s2.dropKept n).abortBy n code esc parcel
      | .held s2 => s2
  | (.exc s1 e, true) => (s1.dropKept n).raisePrecise n e next parcel
  | (.exc s1 e, false) => (s1.drawn.dropKept n).raisePrecise n e next (s1.freeVal.toNat % 2 ^ 16)
  | (.abort s1 code esc, _) => s1.abortBy n code esc parcel
  | (.held s1, _) => s1

/-- A core that waits and that an event of R150 reaches goes on. -/
def State.wakes (s : State) (n : Nat) : State :=
  let c := s.core n
  if c.waiting then s.setCore n { c with waiting := false, sel := 0 } else s

/-- A logical core is at a boundary and may issue: it runs, it is not halted but for one step, it does not wait for a
device or for an event that is not pending, and its clock runs. -/
def State.coreReady (s : State) (n : Nat) : Bool :=
  let c := s.core n
  s.coreIssues n && (!c.halted || c.stepGrant) && !s.coreDozing n && c.devLoad.isNone &&
  (!c.waiting || s.wakePending n)

/-- The gather of an escalated attempt is not complete: its TBEGINB is still to retire. -/
def State.gathers (s : State) (n : Nat) : Bool :=
  match (s.core n).tx with
  | some t => !t.gather.isEmpty
  | none => false

/-- The boundary before an instruction: what an abort left to be taken, a debug halt that is due, the events of Table
6.6, then the instruction. -/
def State.issue (s : State) (n : Nat) (w : BitVec 32) (env : Env) : State :=
  let s0 := s.wakes n
  let c := s0.core n
  match c.owed with
  | some t => s0.takeOwed n t
  | none =>
    if c.haltDue then s0.park n
    else
      match s0.dueEvent n ((decodePuldo w).any (fun op => op.syncs)) with
      | some ev => s0.meetEvent n ev
      | none => s0.runInsn n w env

/-- An instruction row: the word presented at a core's boundary spells an instruction of the row, or none. -/
def insn (m : String) (n : Fin 64) (w : BitVec 32) (env : Env) (s : State) : Host.Outcome State Fault Refusal :=
  let fits := match decodePuldo w with
    | some op => op.row == m && (!s.gathers n.val || m == "TBEGINB")
    | none => !s.gathers n.val
  event m (fits && s.coreReady n.val) s (s.issue n.val w env)

end Sys2Proof.Machine
end

