-- ==== Sys2Proof/Machine/InsnRows.lean ====
section
/-!
DEFINITION. The rows of the table of operations that are instructions: the word `w` is presented at a boundary of
logical core `n`.
-/

namespace Sys2Proof.Machine

/-- ALU_REGISTER_OP (R73): Integer register or immediate operation of OP 0x01, 0x02, 0x04 or its 16-bit form, computed modulo 2^64 or as a W form. -/
def execAluRegisterOp (n : Fin 64) (w : BitVec 32) (s : State) : Host.Outcome State Fault Refusal :=
  insn "ALU_REGISTER_OP" n w {} s

/-- SHIFT_OP (R74): Shift or rotate by register or immediate, with unmasked counts for the register forms. -/
def execShiftOp (n : Fin 64) (w : BitVec 32) (s : State) : Host.Outcome State Fault Refusal :=
  insn "SHIFT_OP" n w {} s

/-- LUI (R73): Load the sign-extended IMM19 times 2^11 into RD. -/
def execLui (n : Fin 64) (w : BitVec 32) (s : State) : Host.Outcome State Fault Refusal :=
  insn "LUI" n w {} s

/-- AUIPC (R73): Add the sign-extended IMM19 times 2^11 to the instruction's address and write the result to RD. -/
def execAuipc (n : Fin 64) (w : BitVec 32) (s : State) : Host.Outcome State Fault Refusal :=
  insn "AUIPC" n w {} s

/-- MULTIPLY (R75): MUL, MULH, MULHU, MULHSU or MULW, which writes the low or high part of the product and raises no exception. -/
def execMultiply (n : Fin 64) (w : BitVec 32) (s : State) : Host.Outcome State Fault Refusal :=
  insn "MULTIPLY" n w {} s

/-- TRAPPING_ARITHMETIC (R76): ADD.T, SUB.T, ADDW.T, SUBW.T or NEG.T, which raises Fixed-Point Overflow and writes no register when the result does not fit. -/
def execTrappingArithmetic (n : Fin 64) (w : BitVec 32) (s : State) : Host.Outcome State Fault Refusal :=
  insn "TRAPPING_ARITHMETIC" n w {} s

/-- DIVIDE (R77): An integer divide that writes the quotient to RD and the remainder to RD+1, or raises Integer Divide by Zero or Fixed-Point Overflow. -/
def execDivide (n : Fin 64) (w : BitVec 32) (s : State) : Host.Outcome State Fault Refusal :=
  insn "DIVIDE" n w {} s

/-- LOAD (R161): Integer load, checked in the order of R161 and performed from memory or from a register page. -/
def execLoad (n : Fin 64) (w : BitVec 32) (err : CacheErr) (s : State) : Host.Outcome State Fault Refusal :=
  insn "LOAD" n w { err := err } s

/-- STORE (R168): Integer store, checked under R161, that retires into the store buffer. -/
def execStore (n : Fin 64) (w : BitVec 32) (s : State) : Host.Outcome State Fault Refusal :=
  insn "STORE" n w {} s

/-- FP_LOAD_STORE (R54): FLD.S, FLD.D, FST.S or FST.D moves data between memory and an F register, with boxing of binary32 values. -/
def execFpLoadStore (n : Fin 64) (w : BitVec 32) (s : State) : Host.Outcome State Fault Refusal :=
  insn "FP_LOAD_STORE" n w {} s

/-- COMPARE_AND_BRANCH (R80): BEQ, BNE, BLT, BGE, BLTU, BGEU, BEQZ or BNEZ branches to PC plus the offset when its condition holds. -/
def execCompareAndBranch (n : Fin 64) (w : BitVec 32) (s : State) : Host.Outcome State Fault Refusal :=
  insn "COMPARE_AND_BRANCH" n w {} s

/-- B (R49): Unconditional PC-relative branch. -/
def execB (n : Fin 64) (w : BitVec 32) (s : State) : Host.Outcome State Fault Refusal :=
  insn "B" n w {} s

/-- JR (R49): Jump to RS1 plus IMM11, raising Alignment Fault if bit 0 of the target is set. -/
def execJr (n : Fin 64) (w : BitVec 32) (s : State) : Host.Outcome State Fault Refusal :=
  insn "JR" n w {} s

/-- CALL (R84): Push the return address at SP minus 8 after the stack-limit check, decrement SP and branch. -/
def execCall (n : Fin 64) (w : BitVec 32) (s : State) : Host.Outcome State Fault Refusal :=
  insn "CALL" n w {} s

/-- CALLR (R84): Call through a register target, which is checked before the push. -/
def execCallr (n : Fin 64) (w : BitVec 32) (s : State) : Host.Outcome State Fault Refusal :=
  insn "CALLR" n w {} s

/-- RET (R85): Pop the return address from SP after the stack-limit check and transfer to it. -/
def execRet (n : Fin 64) (w : BitVec 32) (s : State) : Host.Outcome State Fault Refusal :=
  insn "RET" n w {} s

/-- LOOP (R89): Set LC, LB and LE, then enter the loop body or skip it. -/
def execLoop (n : Fin 64) (w : BitVec 32) (tail : BitVec 16) (s : State) : Host.Outcome State Fault Refusal :=
  insn "LOOP" n w { tail := tail } s

/-- MACD (R95): Read two 8-byte operands, accumulate their lane products into an accumulator and advance both address registers by 8. -/
def execMacd (n : Fin 64) (w : BitVec 32) (s : State) : Host.Outcome State Fault Refusal :=
  insn "MACD" n w {} s

/-- ACCUMULATOR_TRANSFER (R99): ACCZ, MFA.L, MFA.H, MTA.L or MTA.H, each waiting for earlier MACDs into the same accumulator. -/
def execAccumulatorTransfer (n : Fin 64) (w : BitVec 32) (s : State) : Host.Outcome State Fault Refusal :=
  insn "ACCUMULATOR_TRANSFER" n w {} s

/-- DADDP (R102): Packed-decimal add of operand 2 into operand 1, which also writes COND. -/
def execDaddp (n : Fin 64) (w : BitVec 32) (s : State) : Host.Outcome State Fault Refusal :=
  insn "DADDP" n w {} s

/-- DSUBP (R102): Packed-decimal subtract of operand 2 from operand 1. -/
def execDsubp (n : Fin 64) (w : BitVec 32) (s : State) : Host.Outcome State Fault Refusal :=
  insn "DSUBP" n w {} s

/-- DMULP (R102): Packed-decimal multiply into operand 1. -/
def execDmulp (n : Fin 64) (w : BitVec 32) (s : State) : Host.Outcome State Fault Refusal :=
  insn "DMULP" n w {} s

/-- DDIVP (R102): Packed-decimal divide, which writes the quotient and the remainder into operand 1. -/
def execDdivp (n : Fin 64) (w : BitVec 32) (s : State) : Host.Outcome State Fault Refusal :=
  insn "DDIVP" n w {} s

/-- DCMPP (R102): Packed-decimal algebraic compare that writes only COND. -/
def execDcmpp (n : Fin 64) (w : BitVec 32) (s : State) : Host.Outcome State Fault Refusal :=
  insn "DCMPP" n w {} s

/-- FP_ARITHMETIC (R112): FADD, FSUB, FMUL, FDIV or FSQRT, rounded once under FPCR, setting flags and possibly arming an FP Trap. -/
def execFpArithmetic (n : Fin 64) (w : BitVec 32) (s : State) : Host.Outcome State Fault Refusal :=
  insn "FP_ARITHMETIC" n w {} s

/-- FUSED_MULTIPLY_ADD (R112): FMADD, FMSUB, FNMADD or FNMSUB, rounded once after the addition. -/
def execFusedMultiplyAdd (n : Fin 64) (w : BitVec 32) (s : State) : Host.Outcome State Fault Refusal :=
  insn "FUSED_MULTIPLY_ADD" n w {} s

/-- FP_CONVERT (R117): FCVT between formats, to integer with saturation, or from integer. -/
def execFpConvert (n : Fin 64) (w : BitVec 32) (s : State) : Host.Outcome State Fault Refusal :=
  insn "FP_CONVERT" n w {} s

/-- FMIN_FMAX (R118): minimumNumber or maximumNumber of two F registers. -/
def execFminFmax (n : Fin 64) (w : BitVec 32) (s : State) : Host.Outcome State Fault Refusal :=
  insn "FMIN_FMAX" n w {} s

/-- FCMP (R118): FCMP.EQ, FCMP.LT or FCMP.LE writes 1 or 0 to a G register. -/
def execFcmp (n : Fin 64) (w : BitVec 32) (s : State) : Host.Outcome State Fault Refusal :=
  insn "FCMP" n w {} s

/-- FTYPE (R118): Write the class code of Table 5.8 to a G register. -/
def execFtype (n : Fin 64) (w : BitVec 32) (s : State) : Host.Outcome State Fault Refusal :=
  insn "FTYPE" n w {} s

/-- FP_BIT_MOVE (R118): FSIGNC, FSIGNN, FSIGNX, FBITS.G or FBITS.F moves bits and sets no flag. -/
def execFpBitMove (n : Fin 64) (w : BitVec 32) (s : State) : Host.Outcome State Fault Refusal :=
  insn "FP_BIT_MOVE" n w {} s

/-- LD_A (R171): Acquire load. -/
def execLdA (n : Fin 64) (w : BitVec 32) (s : State) : Host.Outcome State Fault Refusal :=
  insn "LD_A" n w {} s

/-- ST_R (R171): Release store. -/
def execStR (n : Fin 64) (w : BitVec 32) (s : State) : Host.Outcome State Fault Refusal :=
  insn "ST_R" n w {} s

/-- CAS (R172): Single-copy-atomic compare and swap, which acts as an acquire and as a release. -/
def execCas (n : Fin 64) (w : BitVec 32) (s : State) : Host.Outcome State Fault Refusal :=
  insn "CAS" n w {} s

/-- CAS_Q (R172): 16-byte compare and swap on register pairs. -/
def execCasQ (n : Fin 64) (w : BitVec 32) (s : State) : Host.Outcome State Fault Refusal :=
  insn "CAS_Q" n w {} s

/-- LD_Q_A (R171): 16-byte acquire load into a register pair. -/
def execLdQA (n : Fin 64) (w : BitVec 32) (s : State) : Host.Outcome State Fault Refusal :=
  insn "LD_Q_A" n w {} s

/-- FENCE_C (R44): Wait for earlier register stores to be acknowledged and order memory before later register accesses. -/
def execFenceC (n : Fin 64) (w : BitVec 32) (s : State) : Host.Outcome State Fault Refusal :=
  insn "FENCE_C" n w {} s

/-- FENCE_L (R175): Fence that orders accesses for the cores of the same home tile, performed as FENCE.S after cross-tile sparing. -/
def execFenceL (n : Fin 64) (w : BitVec 32) (s : State) : Host.Outcome State Fault Refusal :=
  insn "FENCE_L" n w {} s

/-- FENCE_S (R175): Fence that orders accesses for the whole coherence domain and all I/O. -/
def execFenceS (n : Fin 64) (w : BitVec 32) (s : State) : Host.Outcome State Fault Refusal :=
  insn "FENCE_S" n w {} s

/-- FSYNC (R124): Wait for earlier FP instructions and deliver any armed FP Trap. -/
def execFsync (n : Fin 64) (w : BitVec 32) (s : State) : Host.Outcome State Fault Refusal :=
  insn "FSYNC" n w {} s

/-- ISYNC (R70): Context-synchronizing instruction. -/
def execIsync (n : Fin 64) (w : BitVec 32) (s : State) : Host.Outcome State Fault Refusal :=
  insn "ISYNC" n w {} s

/-- ZERO_L (R209): Zero the 128-byte line holding the address, checked as a 128-byte store. -/
def execZeroL (n : Fin 64) (w : BitVec 32) (s : State) : Host.Outcome State Fault Refusal :=
  insn "ZERO_L" n w {} s

/-- TLBI_VA (R166): Remove stage-1 entries of the current VMID that map a virtual address under an ASID or G. -/
def execTlbiVa (n : Fin 64) (w : BitVec 32) (s : State) : Host.Outcome State Fault Refusal :=
  insn "TLBI_VA" n w {} s

/-- TLBI_ASID (R166): Remove the non-global entries of one ASID. -/
def execTlbiAsid (n : Fin 64) (w : BitVec 32) (s : State) : Host.Outcome State Fault Refusal :=
  insn "TLBI_ASID" n w {} s

/-- TLBI_S1ALL (R166): Remove every entry of the current VMID. -/
def execTlbiS1all (n : Fin 64) (w : BitVec 32) (s : State) : Host.Outcome State Fault Refusal :=
  insn "TLBI_S1ALL" n w {} s

/-- TLBI_GPA (R166): Remove the entries whose stage-2 page, or I/O entry, covers a GPA. -/
def execTlbiGpa (n : Fin 64) (w : BitVec 32) (s : State) : Host.Outcome State Fault Refusal :=
  insn "TLBI_GPA" n w {} s

/-- TLBI_VMID (R166): Remove every entry of one VMID, or every I/O entry of the zone. -/
def execTlbiVmid (n : Fin 64) (w : BitVec 32) (s : State) : Host.Outcome State Fault Refusal :=
  insn "TLBI_VMID" n w {} s

/-- TLBI_ALL (R166): Remove every entry of the zone, I/O included. -/
def execTlbiAll (n : Fin 64) (w : BitVec 32) (s : State) : Host.Outcome State Fault Refusal :=
  insn "TLBI_ALL" n w {} s

/-- MFS (R57): Read a special register after the number, level and facility checks. -/
def execMfs (n : Fin 64) (w : BitVec 32) (s : State) : Host.Outcome State Fault Refusal :=
  insn "MFS" n w {} s

/-- MTS (R57): Write a special register, context-synchronizing and delivering any armed FP Trap first. -/
def execMts (n : Fin 64) (w : BitVec 32) (s : State) : Host.Outcome State Fault Refusal :=
  insn "MTS" n w {} s

/-- RFE (R146): Check the saved PSW and return to EPC, restoring PSW. -/
def execRfe (n : Fin 64) (w : BitVec 32) (s : State) : Host.Outcome State Fault Refusal :=
  insn "RFE" n w {} s

/-- SVC (R133): Supervisor Call exception. -/
def execSvc (n : Fin 64) (w : BitVec 32) (s : State) : Host.Outcome State Fault Refusal :=
  insn "SVC" n w {} s

/-- HVC (R133): Hypervisor Call exception. -/
def execHvc (n : Fin 64) (w : BitVec 32) (s : State) : Host.Outcome State Fault Refusal :=
  insn "HVC" n w {} s

/-- MCALL (R133): Machine Call exception. -/
def execMcall (n : Fin 64) (w : BitVec 32) (s : State) : Host.Outcome State Fault Refusal :=
  insn "MCALL" n w {} s

/-- BRK (R133): Breakpoint exception. -/
def execBrk (n : Fin 64) (w : BitVec 32) (s : State) : Host.Outcome State Fault Refusal :=
  insn "BRK" n w {} s

/-- NOP (R60): 16-bit no-operation. -/
def execNop (n : Fin 64) (w : BitVec 32) (s : State) : Host.Outcome State Fault Refusal :=
  insn "NOP" n w {} s

/-- WAIT (R150): Stop issue until an interrupt, a machine check or a store error is pending, and enter the power state that R429 selects. -/
def execWait (n : Fin 64) (w : BitVec 32) (s : State) : Host.Outcome State Fault Refusal :=
  insn "WAIT" n w {} s

/-- TBEGIN (R183): Open a transaction or nest one deeper, recording the architected state. -/
def execTbegin (n : Fin 64) (w : BitVec 32) (s : State) : Host.Outcome State Fault Refusal :=
  insn "TBEGIN" n w {} s

/-- TBEGINB (R194): Open a bounded transaction, escalated when BCOUNT is at least 8. -/
def execTbeginb (n : Fin 64) (w : BitVec 32) (s : State) : Host.Outcome State Fault Refusal :=
  insn "TBEGINB" n w {} s

/-- TCOMMIT (R183): Decrement the depth and commit the transaction at depth 0. -/
def execTcommit (n : Fin 64) (w : BitVec 32) (s : State) : Host.Outcome State Fault Refusal :=
  insn "TCOMMIT" n w {} s

/-- TABORT (R183): Abort the open transaction with code 0x01. -/
def execTabort (n : Fin 64) (w : BitVec 32) (s : State) : Host.Outcome State Fault Refusal :=
  insn "TABORT" n w {} s

/-- TTEST (R183): Write the nesting depth to RD. -/
def execTtest (n : Fin 64) (w : BitVec 32) (s : State) : Host.Outcome State Fault Refusal :=
  insn "TTEST" n w {} s

end Sys2Proof.Machine
end

