-- ==== Sys2Proof/Machine/ServicePort.lean ====
section
/-!
DEFINITION. The service window, the service port and the SMBus target (R477 to R479).
-/

namespace Sys2Proof.Machine

/-- The address that SVC_WIN_ADDR names. -/
def State.winAddr (s : State) : Nat := 8 * s.fld bEse F.SVC_WIN_ADDR_ADDR

/-- The register window and the boot flash window (Table 2.1). -/
def regWindowBase : Nat := 0xFFFF0000000
def flashWindowBase : Nat := 0xFFFE0000000

/-- A page of the register window answers: its rails are up, or it is the ESE's or the recorder's (R463, R466). -/
def State.pageAnswers (s : State) (w : Nat) : Bool :=
  w / 0x1000 == 1 || w / 0x1000 == 0x20 ||
  !(s.mode == 0 || s.mode == 11 || (s.mode == 1 && s.phase == 1))

/-- Main memory that the service window reaches (R478). -/
def State.winMemory (s : State) (a : Nat) : Bool :=
  decide (a < s.usable) && (!s.glazed || s.flag bEse F.BOOT_OPT_SVC_MEM)

/-- Main memory answers the window: the memory controllers serve it, in Check-Stop for reads alone and only with
SVC_MEM = 1 (R474). -/
def State.windowServed (s : State) : Bool := s.uncoreUp || (s.mode == 10 && s.flag bEse F.BOOT_OPT_SVC_MEM)

/-- The end of a window access: LAST, ERRORS, and AUTOINC after a completed one. -/
def State.winEnd (s : State) (last : Nat) : State :=
  let s1 := s.setFld bEse F.SVC_WIN_STAT_LAST last
  if last = 0 then
    if s.flag bEse F.SVC_WIN_ADDR_AUTOINC then s1.setFld bEse F.SVC_WIN_ADDR_ADDR (s.fld bEse F.SVC_WIN_ADDR_ADDR + 1) else s1
  else s1.count bEse F.SVC_WIN_STAT_ERRORS

/-- A read of SVC_WIN_DATA: the state, the word, and whether the access failed, in which case the word is open (R478).
The window does not reach its own data register a second time. `lost` tells that no response came within 12 µs. -/
def winRead (lost : Bool) (s : State) : State × Word × Bool :=
  let a := s.winAddr
  let fails := fun (t : State) (last : Nat) => (t.drawn.winEnd last, t.freeVal, true)
  if regWindowBase ≤ a then
    let w := a - regWindowBase
    if lost ∨ ¬ s.pageAnswers w then fails s 2
    else if w = bEse + 0x0A0 then (s.winEnd 0, 0, false)
    else
      let r := regRead .svc 8 w none s
      (r.1.winEnd 0, r.2, false)
  else if flashWindowBase ≤ a then
    if lost then fails s 2
    else (s.winEnd 0, BitVec.ofNat 64 (leNat (s.flashBytes (a - flashWindowBase) 8)), false)
  else if s.winMemory a then
    if lost ∨ ¬ s.windowServed then fails s 2
    else if s.mode = 10 then
      if s.memPoisoned (128 * (a / 128)) then fails s 3
      else (s.winEnd 0, BitVec.ofNat 64 (leNat (((s.memLine (s.moduleId * 2 ^ 37 + a / 128)).drop (a % 128)).take 8)), false)
    else
      let r := s.readPa 2 (s.moduleId * 2 ^ 44 + a) 8
      if r.poison then fails r.s 3 else (r.s.winEnd 0, BitVec.ofNat 64 (leNat r.data), false)
  else fails s 1

/-- A write of SVC_WIN_DATA (R478). -/
def winWrite (lost : Bool) (v : Word) (s : State) : State :=
  let a := s.winAddr
  if regWindowBase ≤ a then
    let w := a - regWindowBase
    if lost ∨ ¬ s.pageAnswers w then s.winEnd 2
    else if w = bEse + 0x0A0 then s.winEnd 0
    else (regWrite .svc 8 w v s).winEnd 0
  else if s.winMemory a then
    if lost ∨ ¬ s.uncoreUp then s.winEnd 2
    else (s.writePa 2 9 (s.moduleId * 2 ^ 44 + a) (leBytes 8 v.toNat) false false 0).winEnd 0
  else s.winEnd 1

/-- An 8-byte read of an ESE page offset by the service port or SMBus. -/
def eseRead (off : Nat) (s : State) : State × Word × Bool :=
  if off = 0x0A0 then winRead false s
  else
    let r := regRead .svc 8 (bEse + off) none s
    (r.1, r.2, false)

/-- An 8-byte write of an ESE page offset by the service port or SMBus. -/
def eseWrite (off : Nat) (v : Word) (s : State) : State :=
  if off = 0x0A0 then winWrite false v s else regWrite .svc 8 (bEse + off) v s

/-- What a port drives out. -/
def State.drive (s : State) (out : List Byte) : State := s.modEse (fun e => { e with spiOut := out })

/-! ## SPI -/

/-- SVC_ALERT_N is asserted (R479). -/
def State.alertAsserted (s : State) : Bool := s.fld bEse { F.SVC_ALERT_CHECKSTOP with width := 4 } != 0

/-- The byte that STATUS returns. -/
def State.statusByte (s : State) : Byte :=
  BitVec.ofNat 8 (s.mode + 2 ^ 4 * b2n s.alertAsserted + 2 ^ 5 * b2n (!s.ese.queue.isEmpty))

/-- An offset that a transaction may name. -/
def spiOffset (off : Nat) : Bool := off % 8 == 0 && decide (off < 0x1000)

/-- WRITE and QWRITE: each word in turn to the offset; one whose offset is not 8-aligned is dropped. -/
def spiWrites (off : Nat) (words : List Word) (s : State) : State :=
  if spiOffset off then words.foldl (fun st v => eseWrite off v st) s else s

/-- One word of a read: filler, status byte, data. -/
def State.spiFrame (s : State) (status : Nat) (v : Word) : List Byte :=
  List.replicate (s.fld bEse F.SVC_PORT_CFG_GAP) 0xFF ++ BitVec.ofNat 8 status :: leBytes 8 v.toNat

/-- The words of a READ or QREAD in turn, each ready or not; `whole` tells that the last was clocked to its end. -/
def spiReads (off : Nat) (whole : Bool) : List Bool → List Byte → State → State
  | [], out, s => s.drive out
  | ready :: rest, out, s =>
    let last := rest.isEmpty && !whole
    match SMap.find? s.ese.spiHeld off with
    | some (v, st) =>
      if last then spiReads off whole rest out s
      else
        spiReads off whole rest (out ++ s.spiFrame (if st = 1 then 9 else st) v)
          (s.modEse (fun e => { e with spiHeld := SMap.erase e.spiHeld off }))
    | none =>
      if ready then
        let r := eseRead off s
        let st := if r.2.2 then 4 else 1
        if last then
          spiReads off whole rest out (r.1.modEse (fun e => { e with spiHeld := SMap.put e.spiHeld off (r.2.1, st) }))
        else spiReads off whole rest (out ++ s.spiFrame st r.2.1) r.1
      else spiReads off whole rest (out ++ s.spiFrame 2 0) s

/-- A READ or QREAD transaction. -/
def spiTransaction (off : Nat) (ready : List Bool) (whole : Bool) (s : State) : State :=
  if spiOffset off then spiReads off whole ready [] s else s.drive []

/-- SPI_STATUS (R477). -/
def execSpiStatus (s : State) : Host.Outcome State Fault Refusal :=
  event "SPI_STATUS" true s (s.drive [s.statusByte])

/-- SPI_WRITE (R477): `words` are those that chip select lets finish. -/
def execSpiWrite (off : BitVec 16) (words : List (BitVec 64)) (s : State) : Host.Outcome State Fault Refusal :=
  event "SPI_WRITE" true s (spiWrites off.toNat words s)

/-- SPI_QWRITE (R477): as WRITE. -/
def execSpiQwrite (off : BitVec 16) (words : List (BitVec 64)) (s : State) : Host.Outcome State Fault Refusal :=
  event "SPI_QWRITE" true s (spiWrites off.toNat words s)

/-- SPI_READ (R477): for each word clocked, whether it was ready; `whole` tells that the last was clocked to its last
data byte. -/
def execSpiRead (off : BitVec 16) (ready : List Bool) (whole : Bool) (s : State) : Host.Outcome State Fault Refusal :=
  event "SPI_READ" true s (spiTransaction off.toNat ready whole s)

/-- SPI_QREAD (R477): as READ. -/
def execSpiQread (off : BitVec 16) (ready : List Bool) (whole : Bool) (s : State) : Host.Outcome State Fault Refusal :=
  event "SPI_QREAD" true s (spiTransaction off.toNat ready whole s)

/-- SMBUS_ACCESS (R479): a block write of a word, or a block read, of ESE page offset 8 × code. -/
def execSmbusAccess (code : BitVec 8) (data : Option (BitVec 64)) (s : State) : Host.Outcome State Fault Refusal :=
  let off := 8 * code.toNat
  match data with
  | some v => event "SMBUS_ACCESS" true s (eseWrite off v s)
  | none =>
    let r := eseRead off s
    event "SMBUS_ACCESS" true s (r.1.drive (leBytes 8 r.2.1.toNat))

/-- SVC_WIN_DATA_ACCESS (R478): a write of SVC_WIN_DATA, or a read of it, by the service port. `lost` tells that the
access draws no response within 12 µs. -/
def execSvcWinDataAccess (data : Option (BitVec 64)) (lost : Bool) (s : State) : Host.Outcome State Fault Refusal :=
  match data with
  | some v => event "SVC_WIN_DATA_ACCESS" true s (winWrite lost v s)
  | none =>
    let r := winRead lost s
    event "SVC_WIN_DATA_ACCESS" true s (r.1.drive (leBytes 8 r.2.1.toNat))

end Sys2Proof.Machine
end

