-- ==== Sys2Proof/Machine/WriteRows.lean ====
section
/-!
DEFINITION. The commands that are writes and reads of registers: each is one access to the register its row names,
from a source that the page's class admits (Tables 2.3, 2.6).
-/

namespace Sys2Proof.Machine

/-- A source can make an access that reaches window offset `w`: its class, a running core, a page that answers. -/
def State.mayAccess (s : State) (src : Src) (w : Nat) : Bool :=
  s.pageAnswers w && s.classAllows src (pageAt (w / 0x1000)) &&
  (match src with
   | .core n _ => decide (3 ≤ s.mode) && decide (s.mode ≤ 9) && s.coreValid n.val
   | _ => true)

/-- One 8-byte write as a command. -/
def writeRow (m : String) (src : Src) (w : Nat) (v : Word) (s : State) : Host.Outcome State Fault Refusal :=
  event m (s.mayAccess src w) s (regWrite src 8 w v s)

/-- One 8-byte read as a command; what the service port reads is driven out. -/
def readRow (m : String) (src : Src) (w : Nat) (bad : Option (Fin 16)) (s : State) :
    Host.Outcome State Fault Refusal :=
  let r := regRead src 8 w bad s
  event m (s.mayAccess src w) s (if srcPort src then r.1.drive (leBytes 8 r.2.toNat) else r.1)

/-- A command bit written beside the other fields of its register as they stand. -/
def State.withBit (s : State) (w i : Nat) : Word := putBit (s.reg w) i true

/-- BLK_CTL of a page as it stands, with one of its bits replaced. -/
def State.ctlWith (s : State) (page i : Nat) (b : Bool) : Word := putBit (s.reg (page * 0x1000 + 0x010)) i b

/-- The key registers of a doorbell page or of the global page; `off` counts from KEY_SEL. -/
def keyReg (z : Option (Fin 256)) (off : Nat) : Nat :=
  match z with
  | some k => bDoor k.val + 0x200 + off
  | none => bCipher + 0x068 + off

/-- REGISTER_WRITE (R40): a write of 1, 2, 4 or 8 bytes at an 8-aligned offset of the window. -/
def execRegisterWrite (src : Src) (off : BitVec 28) (size : Fin 4) (v : BitVec 64) (s : State) :
    Host.Outcome State Fault Refusal :=
  let w := off.toNat - off.toNat % 8
  event "REGISTER_WRITE" (s.mayAccess src w) s
    (if w = bEse + 0x0A0 ∧ srcPort src ∧ size.val = 3 then winWrite false v s else regWrite src (2 ^ size.val) w v s)

/-- BLOCK_STOPPED (R35): a block whose RUN is 0 reaches its boundary. -/
def execBlockStopped (page : BitVec 16) (s : State) : Host.Outcome State Fault Refusal :=
  match pageAt page.toNat with
  | some p =>
    event "BLOCK_STOPPED"
      (s.present p && p.typ != .zoneTable && p.typ != .sourceArray && !s.flag p.base F.RUN && s.running p && s.atBoundary p) s
      (blockStop p (s.setFlag p.base F.RUNNING false))
  | none => event "BLOCK_STOPPED" false s s

/-- BLOCK_QUIESCED (R35): a block whose QUIESCE is 1 has no accepted work left. -/
def execBlockQuiesced (page : BitVec 16) (s : State) : Host.Outcome State Fault Refusal :=
  match pageAt page.toNat with
  | some p =>
    event "BLOCK_QUIESCED"
      (s.present p && p.typ != .zoneTable && p.typ != .sourceArray && s.flag p.base F.QUIESCE &&
       !s.flag p.base F.QUIESCED && s.noWorkLeft p) s
      (s.setFlag p.base F.QUIESCED true)
  | none => event "BLOCK_QUIESCED" false s s

/-- SOFT_RESET_COMPLETE (R35): the soft reset of a block ends. -/
def execSoftResetComplete (page : BitVec 16) (s : State) : Host.Outcome State Fault Refusal :=
  match pageAt page.toNat with
  | some p =>
    event "SOFT_RESET_COMPLETE"
      (s.present p && p.typ != .zoneTable && p.typ != .sourceArray && s.flag p.base F.BUSY &&
       !(p.typ == .eng && s.engRole p.inst == 6)) s
      (s.setFlag p.base F.BUSY false)
  | none => event "SOFT_RESET_COMPLETE" false s s

/-- REC_RD_SEL_WRITE (R458): `bad` is the word of the record that the SRAM cannot give. -/
def execRecRdSelWrite (src : Src) (index : BitVec 16) (bad : Option (Fin 16)) (s : State) :
    Host.Outcome State Fault Refusal :=
  event "REC_RD_SEL_WRITE" (s.mayAccess src (bRec + 0x068)) s
    ((regWrite src 8 (bRec + 0x068) (index.setWidth 64) s).snapshot index.toNat bad)

/-- DBG_DATA_ACCESS (R475): a write of DBG_DATA by the service port, or a read, which is driven out. -/
def execDbgDataAccess (data : Option (BitVec 64)) (s : State) : Host.Outcome State Fault Refusal :=
  match data with
  | some v => event "DBG_DATA_ACCESS" true s (eseWrite 0x0C8 v s)
  | none =>
    let r := eseRead 0x0C8 s
    event "DBG_DATA_ACCESS" true s (r.1.drive (leBytes 8 r.2.1.toNat))

/-- MFG_TEST (R476): the command with TEST_EN at a level. -/
def execMfgTest (testEn : Bool) (s : State) : Host.Outcome State Fault Refusal :=
  event "MFG_TEST" true s (regWrite .svc 8 (bEse + 0x048) 8 (s.modEse (fun e => { e with testEn := testEn })))

/-- BLK_ERR_CLEAR (R36): a W1C write of BLK_ERR. -/
def execBlkErrClear (src : Src) (page : BitVec 16) (v : BitVec 64) (s : State) : Host.Outcome State Fault Refusal :=
  writeRow "BLK_ERR_CLEAR" src (page.toNat * 0x1000 + 0x020) v s

/-- RUN_SET (R35): BLK_CTL.RUN written 1. -/
def execRunSet (src : Src) (page : BitVec 16) (s : State) : Host.Outcome State Fault Refusal :=
  writeRow "RUN_SET" src (page.toNat * 0x1000 + 0x010) (s.ctlWith page.toNat 0 true) s

/-- RUN_CLEAR (R35): BLK_CTL.RUN written 0. -/
def execRunClear (src : Src) (page : BitVec 16) (s : State) : Host.Outcome State Fault Refusal :=
  writeRow "RUN_CLEAR" src (page.toNat * 0x1000 + 0x010) (s.ctlWith page.toNat 0 false) s

/-- BLK_QUIESCE_SET (R35): BLK_CTL.QUIESCE written 1. -/
def execBlkQuiesceSet (src : Src) (page : BitVec 16) (s : State) : Host.Outcome State Fault Refusal :=
  writeRow "BLK_QUIESCE_SET" src (page.toNat * 0x1000 + 0x010) (s.ctlWith page.toNat 2 true) s

/-- BLK_QUIESCE_CLEAR (R35): BLK_CTL.QUIESCE written 0. -/
def execBlkQuiesceClear (src : Src) (page : BitVec 16) (s : State) : Host.Outcome State Fault Refusal :=
  writeRow "BLK_QUIESCE_CLEAR" src (page.toNat * 0x1000 + 0x010) (s.ctlWith page.toNat 2 false) s

/-- SOFT_RESET (R35): BLK_CTL.SOFT_RESET. -/
def execSoftReset (src : Src) (page : BitVec 16) (s : State) : Host.Outcome State Fault Refusal :=
  writeRow "SOFT_RESET" src (page.toNat * 0x1000 + 0x010) (s.ctlWith page.toNat 1 true) s

/-- ZONE_TABLE_WRITE (R154): a word of the zone and protection tables, by its number from window offset 0x31000. -/
def execZoneTableWrite (src : Src) (word : Fin 105984) (v : BitVec 64) (s : State) :
    Host.Outcome State Fault Refusal :=
  writeRow "ZONE_TABLE_WRITE" src (0x31000 + 8 * word.val) v s

/-- ZT_GLAZE (R156): ZT_GLAZE. -/
def execZtGlaze (src : Src) (v : BitVec 64) (s : State) : Host.Outcome State Fault Refusal :=
  writeRow "ZT_GLAZE" src (bZctl + 0x048) v s

/-- The register that an enable or way mask of a cache stands in: positions 0 to 39, then the L3 of tiles 0 to 3. -/
def cacheReg (unit : Nat) (ways : Bool) : Nat :=
  if unit < 40 then bPos unit + (if ways then 0x108 else 0x100) else bL3 (unit - 40) + (if ways then 0x048 else 0x040)

/-- CACHE_ENABLE_CHANGE (R202): CACHE_CTL or L2_WAYS of a position, L3_CTL or L3_WAYS of a tile. -/
def execCacheEnableChange (src : Src) (unit : Fin 44) (ways : Bool) (v : BitVec 64) (s : State) :
    Host.Outcome State Fault Refusal :=
  writeRow "CACHE_ENABLE_CHANGE" src (cacheReg unit.val ways) v s

/-- RNG_GO (R211): RNG_CMD.GO of a tile. -/
def execRngGo (src : Src) (t : Fin 4) (s : State) : Host.Outcome State Fault Refusal :=
  writeRow "RNG_GO" src (bL3 t.val + 0x098) 1 s

/-- RNG_ABORT (R212): RNG_CMD.ABORT of a tile. -/
def execRngAbort (src : Src) (t : Fin 4) (s : State) : Host.Outcome State Fault Refusal :=
  writeRow "RNG_ABORT" src (bL3 t.val + 0x098) 2 s

/-- MEMBER_DOWN_WRITE (R240): MEMBER_DOWN. -/
def execMemberDownWrite (src : Src) (v : BitVec 64) (s : State) : Host.Outcome State Fault Refusal :=
  writeRow "MEMBER_DOWN_WRITE" src (bHome + 0x050) v s

/-- FP_CMD_RETRAIN (R244): FP_CMD.RETRAIN. -/
def execFpCmdRetrain (src : Src) (f : Fin 12) (s : State) : Host.Outcome State Fault Refusal :=
  writeRow "FP_CMD_RETRAIN" src (bFport f.val + 0x060) 1 s

/-- FP_CMD_DOWN (R244): FP_CMD.DOWN. -/
def execFpCmdDown (src : Src) (f : Fin 12) (s : State) : Host.Outcome State Fault Refusal :=
  writeRow "FP_CMD_DOWN" src (bFport f.val + 0x060) 2 s

/-- SPARE_NOW (R257): POS_CTL.SPARE_NOW. -/
def execSpareNow (src : Src) (p : Fin 40) (s : State) : Host.Outcome State Fault Refusal :=
  writeRow "SPARE_NOW" src (bPos p.val + 0x040) (s.withBit (bPos p.val + 0x040) 0) s

/-- DEBUG_HALT (R475): DBG_CTL HALT by the service port. -/
def execDebugHalt (n : Fin 64) (s : State) : Host.Outcome State Fault Refusal :=
  writeRow "DEBUG_HALT" .svc (bEse + 0x0B0) (BitVec.ofNat 64 (n.val + 0x100)) s

/-- DEBUG_RESUME (R266): DBG_CTL RESUME by the service port. -/
def execDebugResume (n : Fin 64) (s : State) : Host.Outcome State Fault Refusal :=
  writeRow "DEBUG_RESUME" .svc (bEse + 0x0B0) (BitVec.ofNat 64 (n.val + 0x200)) s

/-- UC_OPEN (R282): UC_CTL.OPEN of a store's window. -/
def execUcOpen (src : Src) (u : Fin 8) (s : State) : Host.Outcome State Fault Refusal :=
  writeRow "UC_OPEN" src (bUcode u.val + 0x040) 1 s

/-- UC_DATA (R282): UC_DATA. -/
def execUcData (src : Src) (u : Fin 8) (v : BitVec 64) (s : State) : Host.Outcome State Fault Refusal :=
  writeRow "UC_DATA" src (bUcode u.val + 0x048) v s

/-- UC_COMMIT (R284): UC_CTL.COMMIT. -/
def execUcCommit (src : Src) (u : Fin 8) (s : State) : Host.Outcome State Fault Refusal :=
  writeRow "UC_COMMIT" src (bUcode u.val + 0x040) 2 s

/-- UC_ABORT (R282): UC_CTL.ABORT. -/
def execUcAbort (src : Src) (u : Fin 8) (s : State) : Host.Outcome State Fault Refusal :=
  writeRow "UC_ABORT" src (bUcode u.val + 0x040) 4 s

/-- CSS_DB (R292): CSS_DB[n] of a zone. -/
def execCssDb (src : Src) (z : Fin 256) (n : Fin 16) (pi : BitVec 32) (s : State) :
    Host.Outcome State Fault Refusal :=
  writeRow "CSS_DB" src (bDoor z.val + 0x080 + 8 * n.val) (pi.setWidth 64) s

/-- CSS_FWR_DB (R290): CSS_FWR_DB. -/
def execCssFwrDb (src : Src) (pi : BitVec 32) (s : State) : Host.Outcome State Fault Refusal :=
  writeRow "CSS_FWR_DB" src (bCss + 0x060) (pi.setWidth 64) s

/-- PT_DATA_WRITE (R305): PT_DATA of a channel port. -/
def execPtDataWrite (src : Src) (p : Fin 16) (v : BitVec 64) (s : State) : Host.Outcome State Fault Refusal :=
  writeRow "PT_DATA_WRITE" src (bCport p.val + 0x408) v s

/-- CSS_ZRT_WRITE (R288): CSS_ZRT[z]. -/
def execCssZrtWrite (src : Src) (z : Fin 256) (v : BitVec 64) (s : State) : Host.Outcome State Fault Refusal :=
  writeRow "CSS_ZRT_WRITE" src (bCss + 0x800 + 8 * z.val) v s

/-- CP_CMD_RETRAIN (R339): CP_CMD.RETRAIN. -/
def execCpCmdRetrain (src : Src) (p : Fin 16) (s : State) : Host.Outcome State Fault Refusal :=
  writeRow "CP_CMD_RETRAIN" src (bCport p.val + 0x058) 1 s

/-- CP_CMD_DOWN (R339): CP_CMD.DOWN. -/
def execCpCmdDown (src : Src) (p : Fin 16) (s : State) : Host.Outcome State Fault Refusal :=
  writeRow "CP_CMD_DOWN" src (bCport p.val + 0x058) 2 s

/-- SPLIT (R355): CSS_PAIR_CMD.SPLIT. -/
def execSplit (src : Src) (s : State) : Host.Outcome State Fault Refusal :=
  writeRow "SPLIT" src (bCss + 0x110) 1 s

/-- REPAIR (R355): CSS_PAIR_CMD.REPAIR of an engine. -/
def execRepair (src : Src) (e : Fin 2) (s : State) : Host.Outcome State Fault Refusal :=
  writeRow "REPAIR" src (bCss + 0x110) (BitVec.ofNat 64 (2 + 0x100 * e.val)) s

/-- RESYNC (R355): CSS_PAIR_CMD.RESYNC. -/
def execResync (src : Src) (s : State) : Host.Outcome State Fault Refusal :=
  writeRow "RESYNC" src (bCss + 0x110) 4 s

/-- KEY_SEL (R365): KEY_SEL of a zone's page, or of the global page. -/
def execKeySel (src : Src) (z : Option (Fin 256)) (v : BitVec 64) (s : State) : Host.Outcome State Fault Refusal :=
  writeRow "KEY_SEL" src (keyReg z 0) v s

/-- KEY_DATA (R366): KEY_DATA of a zone's page, or of the global page. -/
def execKeyData (src : Src) (z : Option (Fin 256)) (v : BitVec 64) (s : State) : Host.Outcome State Fault Refusal :=
  writeRow "KEY_DATA" src (keyReg z 8) v s

/-- KEY_COMMIT (R367): KEY_COMMIT.COMMIT. -/
def execKeyCommit (src : Src) (z : Option (Fin 256)) (s : State) : Host.Outcome State Fault Refusal :=
  writeRow "KEY_COMMIT" src (keyReg z 0x10) 1 s

/-- KEY_ERASE (R367): KEY_COMMIT.ERASE. -/
def execKeyErase (src : Src) (z : Option (Fin 256)) (s : State) : Host.Outcome State Fault Refusal :=
  writeRow "KEY_ERASE" src (keyReg z 0x10) 2 s

/-- KEY_ABORT (R367): KEY_COMMIT.ABORT. -/
def execKeyAbort (src : Src) (z : Option (Fin 256)) (s : State) : Host.Outcome State Fault Refusal :=
  writeRow "KEY_ABORT" src (keyReg z 0x10) 4 s

/-- CIPH_ZEROIZE (R384): CIPH_ZEROIZE.ALL. -/
def execCiphZeroize (src : Src) (s : State) : Host.Outcome State Fault Refusal :=
  writeRow "CIPH_ZEROIZE" src (bCipher + 0x098) 1 s

/-- CIPHER_DB (R375): doorbell n of a zone, or that of the firmware ring. -/
def execCipherDb (src : Src) (z : Option (Fin 256)) (n : Fin 8) (pi : BitVec 32) (s : State) : Host.Outcome State Fault Refusal :=
  match z with
  | some k => writeRow "CIPHER_DB" src (bDoor k.val + 0x100 + 8 * n.val) (pi.setWidth 64) s
  | none => writeRow "CIPHER_DB" src (bCipher + 0x060) (pi.setWidth 64) s

/-- COMP_DB (R400): doorbell n of a zone, or that of the firmware ring. -/
def execCompDb (src : Src) (z : Option (Fin 256)) (n : Fin 8) (pi : BitVec 32) (s : State) : Host.Outcome State Fault Refusal :=
  match z with
  | some k => writeRow "COMP_DB" src (bDoor k.val + 0x140 + 8 * n.val) (pi.setWidth 64) s
  | none => writeRow "COMP_DB" src (bComp + 0x060) (pi.setWidth 64) s

/-- TRIGGER (R414): TRIGGER of a source. -/
def execTrigger (src : Src) (n : BitVec 13) (s : State) : Host.Outcome State Fault Refusal :=
  writeRow "TRIGGER" src (0x680000 + 16 * n.toNat + 8) 4 s

/-- PEND_DISCARD (R414): PEND of a source written 1. -/
def execPendDiscard (src : Src) (n : BitVec 13) (s : State) : Host.Outcome State Fault Refusal :=
  writeRow "PEND_DISCARD" src (0x680000 + 16 * n.toNat + 8) 1 s

/-- SOURCE_ENTRY_WRITE (R413): word 0 of a source entry. -/
def execSourceEntryWrite (src : Src) (n : BitVec 13) (v : BitVec 64) (s : State) : Host.Outcome State Fault Refusal :=
  writeRow "SOURCE_ENTRY_WRITE" src (0x680000 + 16 * n.toNat) v s

/-- IC_EOI (R418): IC_EOI of a logical core's interface. -/
def execIcEoi (src : Src) (c : Fin 64) (n : BitVec 13) (s : State) : Host.Outcome State Fault Refusal :=
  writeRow "IC_EOI" src (bIface c.val + 0x048) (n.setWidth 64) s

/-- IC_COREEVT_CLEAR (R423): IC_COREEVT of a logical core's interface. -/
def execIcCoreevtClear (src : Src) (c : Fin 64) (mask : BitVec 3) (s : State) : Host.Outcome State Fault Refusal :=
  writeRow "IC_COREEVT_CLEAR" src (bIface c.val + 0x060) (mask.setWidth 64) s

/-- EVQ_DATA_READ (R480): a read of EVQ_DATA. -/
def execEvqDataRead (src : Src) (s : State) : Host.Outcome State Fault Refusal :=
  readRow "EVQ_DATA_READ" src (bEse + 0x080) none s

/-- LT_CORE_WRITE (R430): LT_CORE[n] of a zone's page. -/
def execLtCoreWrite (src : Src) (z : Fin 256) (n : Fin 64) (v : BitVec 64) (s : State) :
    Host.Outcome State Fault Refusal :=
  writeRow "LT_CORE_WRITE" src (bDoor z.val + 0x300 + 8 * n.val) v s

/-- LT_SVC_WRITE (R428): LT_SVC. -/
def execLtSvcWrite (src : Src) (v : BitVec 64) (s : State) : Host.Outcome State Fault Refusal :=
  writeRow "LT_SVC_WRITE" src (bPwr + 0x050) v s

/-- TILE_DIV_WRITE (R433): TILE_DIV of a tile. -/
def execTileDivWrite (src : Src) (t : Fin 4) (v : BitVec 64) (s : State) : Host.Outcome State Fault Refusal :=
  writeRow "TILE_DIV_WRITE" src (bTilePwr t.val + 0x040) v s

/-- REARM (R457): REC_CMD.REARM. -/
def execRearm (src : Src) (s : State) : Host.Outcome State Fault Refusal :=
  writeRow "REARM" src (bRec + 0x060) 1 s

/-- REC_RD_DATA_READ (R458): a read of REC_RD_DATA; `bad` is the word of the next record that the SRAM cannot give. -/
def execRecRdDataRead (src : Src) (bad : Option (Fin 16)) (s : State) : Host.Outcome State Fault Refusal :=
  readRow "REC_RD_DATA_READ" src (bRec + 0x070) bad s

/-- TOD_SEC_READ (R459): a read of TOD_SEC. -/
def execTodSecRead (src : Src) (s : State) : Host.Outcome State Fault Refusal :=
  readRow "TOD_SEC_READ" src (bRec + 0x080) none s

/-- SET_NOW (R453): TOD_CMD.SET_NOW. -/
def execSetNow (src : Src) (s : State) : Host.Outcome State Fault Refusal :=
  writeRow "SET_NOW" src (bRec + 0x0A0) 1 s

/-- SET_AT_PPS (R453): TOD_CMD.SET_AT_PPS. -/
def execSetAtPps (src : Src) (s : State) : Host.Outcome State Fault Refusal :=
  writeRow "SET_AT_PPS" src (bRec + 0x0A0) 2 s

/-- LEAP_INS (R455): TOD_CMD.LEAP_INS. -/
def execLeapIns (src : Src) (s : State) : Host.Outcome State Fault Refusal :=
  writeRow "LEAP_INS" src (bRec + 0x0A0) 4 s

/-- LEAP_DEL (R455): TOD_CMD.LEAP_DEL. -/
def execLeapDel (src : Src) (s : State) : Host.Outcome State Fault Refusal :=
  writeRow "LEAP_DEL" src (bRec + 0x0A0) 8 s

/-- LEAP_CANCEL (R455): TOD_CMD.LEAP_CANCEL. -/
def execLeapCancel (src : Src) (s : State) : Host.Outcome State Fault Refusal :=
  writeRow "LEAP_CANCEL" src (bRec + 0x0A0) 16 s

/-- BOOT (R466): MODE_CMD BOOT, by the service port. -/
def execBoot (s : State) : Host.Outcome State Fault Refusal :=
  writeRow "BOOT" .svc (bEse + 0x048) 1 s

/-- CORE_START (R470): CORE_START. -/
def execCoreStart (src : Src) (mask : BitVec 64) (s : State) : Host.Outcome State Fault Refusal :=
  writeRow "CORE_START" src (bEse + 0x068) mask s

/-- OPERATE (R472): MODE_CMD OPERATE. -/
def execOperate (src : Src) (s : State) : Host.Outcome State Fault Refusal :=
  writeRow "OPERATE" src (bEse + 0x048) 2 s

/-- QUIESCE (R473): MODE_CMD QUIESCE. -/
def execQuiesce (src : Src) (s : State) : Host.Outcome State Fault Refusal :=
  writeRow "QUIESCE" src (bEse + 0x048) 3 s

/-- MODE_RESUME (R473): MODE_CMD RESUME. -/
def execModeResume (src : Src) (s : State) : Host.Outcome State Fault Refusal :=
  writeRow "MODE_RESUME" src (bEse + 0x048) 4 s

/-- WARM_RESET (R473): MODE_CMD WARM_RESET. -/
def execWarmReset (src : Src) (s : State) : Host.Outcome State Fault Refusal :=
  writeRow "WARM_RESET" src (bEse + 0x048) 5 s

/-- COLD_RESET (R463): MODE_CMD COLD_RESET. -/
def execColdReset (src : Src) (reboot : Bool) (s : State) : Host.Outcome State Fault Refusal :=
  writeRow "COLD_RESET" src (bEse + 0x048) (BitVec.ofNat 64 (6 + 16 * b2n reboot)) s

/-- CHECKSTOP (R474): MODE_CMD CHECKSTOP. -/
def execCheckstop (src : Src) (s : State) : Host.Outcome State Fault Refusal :=
  writeRow "CHECKSTOP" src (bEse + 0x048) 7 s

/-- CH_CMD_FAIL (R490): CH_CMD.FAIL of a channel. -/
def execChCmdFail (src : Src) (c : Fin 20) (s : State) : Host.Outcome State Fault Refusal :=
  writeRow "CH_CMD_FAIL" src (bChan c.val + 0x058) 1 s

end Sys2Proof.Machine
end

