-- ==== Sys2Proof/Machine/CoreEvents.lean ====
section
/-!
DEFINITION. The rows of the table of operations that are events at a logical core: commits, the events of its
boundaries, timeouts of its accesses, and the debug step.
-/

namespace Sys2Proof.Machine

/-- RETIREMENT_GROUP_COMMIT (R247): the two records of a group match. -/
def execRetirementGroupCommit (n : Fin 64) (s : State) : Host.Outcome State Fault Refusal :=
  event "RETIREMENT_GROUP_COMMIT" (s.coreIssues n.val && (s.core n.val).group != 0) s (s.commitGroup n.val)

/-- An event of Table 6.6 is taken at a boundary at which it is the first that applies. -/
def boundaryRow (m : String) (ev : BoundaryEvent) (n : Fin 64) (s : State) : Host.Outcome State Fault Refusal :=
  let s0 := s.wakes n.val
  event m (s.coreReady n.val && (s.core n.val).owed.isNone && !(s.core n.val).haltDue &&
    s0.dueEvent n.val false == some ev) s (s0.meetEvent n.val ev)

/-- EXTERNAL_INTERRUPT (R417). -/
def execExternalInterrupt (n : Fin 64) (s : State) : Host.Outcome State Fault Refusal :=
  boundaryRow "EXTERNAL_INTERRUPT" .interrupt n s

/-- ASYNCHRONOUS_STORE_ERROR (R144). -/
def execAsynchronousStoreError (n : Fin 64) (s : State) : Host.Outcome State Fault Refusal :=
  boundaryRow "ASYNCHRONOUS_STORE_ERROR" .storeError n s

/-- MACHINE_CHECK_ASYNC (R149). -/
def execMachineCheckAsync (n : Fin 64) (s : State) : Host.Outcome State Fault Refusal :=
  boundaryRow "MACHINE_CHECK_ASYNC" .machineCheck n s

/-- FP_TRAP (R124): the group that holds the armed instruction has ended. -/
def execFpTrap (n : Fin 64) (s : State) : Host.Outcome State Fault Refusal := boundaryRow "FP_TRAP" .fpTrap n s

/-- DEBUG_STEP (R139). -/
def execDebugStep (n : Fin 64) (s : State) : Host.Outcome State Fault Refusal := boundaryRow "DEBUG_STEP" .debugStep n s

/-- The address of an instruction that loads from one address, and its access. -/
def State.loadAccess (s : State) (n : Nat) (op : POp) : Option (Acc × Word) :=
  match op with
  | .load size _ _ a imm => some (s.acc n .load (2 ^ size), s.ea n a imm)
  | .fload dbl _ a imm => some (s.acc n .load (if dbl then 8 else 4), s.ea n a imm)
  | .ldA size _ a => some (s.acc n .load (2 ^ size) true, s.gr n a)
  | _ => none

/-- The instruction is a load of a register page that has passed its checks. -/
def State.loadsRegister (s : State) (n : Nat) (op : POp) : Bool :=
  match s.loadAccess n op with
  | some (acc, va) =>
    match s.check n acc va with
    | .ok _ [p] => p.mem == .register
    | _ => false
  | none => false

/-- REGISTER_LOAD_TIMEOUT (R42): a load that draws no response from its register page within 12 µs. -/
def execRegisterLoadTimeout (n : Fin 64) (w : BitVec 32) (s : State) : Host.Outcome State Fault Refusal :=
  event "REGISTER_LOAD_TIMEOUT"
    (s.coreReady n.val && (decodePuldo w).any (fun op => s.loadsRegister n.val op)) s (s.issue n.val w { silent := true })

/-- REGISTER_STORE_TIMEOUT (R44): the oldest store of a core, to a register page, draws no acknowledgement. -/
def execRegisterStoreTimeout (n : Fin 64) (s : State) : Host.Outcome State Fault Refusal :=
  let c := s.core n.val
  match c.stores with
  | st :: rest =>
    event "REGISTER_STORE_TIMEOUT" (st.kind == .register && s.mode != 10) s
      ((s.setCore n.val { c with stores := rest }).logLate n.val 2 st.zone st.addr)
  | [] => event "REGISTER_STORE_TIMEOUT" false s s

/-- FABRIC_TIMEOUT (R141): a request of a core to another module has no completion within 12 µs. A store is dropped and
recorded; a load raises Machine Check when its instruction is presented again. `k` selects the request as `coreTxn`
numbers them. -/
def execFabricTimeout (n : Fin 64) (k : Fin 4) (s : State) : Host.Outcome State Fault Refusal :=
  let t := s.coreTile n.val
  match s.findRequest t (coreTxn n.val k.val) with
  | some q =>
    let s1 := s.putRequest { q with refused := 3 }
    event "FABRIC_TIMEOUT" (q.req.dest != s.moduleId && q.refused == 0 && q.result.isNone && s.mode != 10) s
      (if k.val = 1 ∨ k.val = 2 then (s1.drainHead t).1 else s1)
  | none => event "FABRIC_TIMEOUT" false s s

/-- ESCALATED_GATHER_RESTART (R196). -/
def execEscalatedGatherRestart (n : Fin 64) (s : State) : Host.Outcome State Fault Refusal :=
  match (s.core n.val).tx with
  | some t => event "ESCALATED_GATHER_RESTART" (!t.gather.isEmpty && s.coreIssues n.val) s (s.restartGather n.val t)
  | none => event "ESCALATED_GATHER_RESTART" false s s

/-- DEBUG_STEP_CMD (R475): DBG_CTL STEP by the service port; a halted core issues the instruction at its PC and halts
again. -/
def execDebugStepCmd (n : Fin 64) (w : BitVec 32) (s : State) : Host.Outcome State Fault Refusal :=
  let s1 := regWrite .svc 8 (bEse + 0x0B0) (BitVec.ofNat 64 (n.val + 0x300)) s
  event "DEBUG_STEP_CMD" (s.mayAccess .svc (bEse + 0x0B0)) s
    (if (s1.core n.val).stepGrant ∧ s1.coreReady n.val then s1.issue n.val w {} else s1)

end Sys2Proof.Machine
end

