-- ==== Sys2Proof/Machine/Dispatch.lean ====
section
/-!
DEFINITION. The meaning of every command: one arm per row of spec/opcode_table.json, each one direct call.
-/

namespace Sys2Proof.Machine

def exec (i : Instr) (s : State) : Host.Outcome State Fault Refusal :=
  match i with
  | .aluRegisterOp n w => Sys2Proof.Machine.execAluRegisterOp n w s
  | .shiftOp n w => Sys2Proof.Machine.execShiftOp n w s
  | .lui n w => Sys2Proof.Machine.execLui n w s
  | .auipc n w => Sys2Proof.Machine.execAuipc n w s
  | .multiply n w => Sys2Proof.Machine.execMultiply n w s
  | .trappingArithmetic n w => Sys2Proof.Machine.execTrappingArithmetic n w s
  | .divide n w => Sys2Proof.Machine.execDivide n w s
  | .load n w err => Sys2Proof.Machine.execLoad n w err s
  | .store n w => Sys2Proof.Machine.execStore n w s
  | .fpLoadStore n w => Sys2Proof.Machine.execFpLoadStore n w s
  | .compareAndBranch n w => Sys2Proof.Machine.execCompareAndBranch n w s
  | .b n w => Sys2Proof.Machine.execB n w s
  | .jr n w => Sys2Proof.Machine.execJr n w s
  | .call n w => Sys2Proof.Machine.execCall n w s
  | .callr n w => Sys2Proof.Machine.execCallr n w s
  | .ret n w => Sys2Proof.Machine.execRet n w s
  | .loop n w tail => Sys2Proof.Machine.execLoop n w tail s
  | .macd n w => Sys2Proof.Machine.execMacd n w s
  | .accumulatorTransfer n w => Sys2Proof.Machine.execAccumulatorTransfer n w s
  | .daddp n w => Sys2Proof.Machine.execDaddp n w s
  | .dsubp n w => Sys2Proof.Machine.execDsubp n w s
  | .dmulp n w => Sys2Proof.Machine.execDmulp n w s
  | .ddivp n w => Sys2Proof.Machine.execDdivp n w s
  | .dcmpp n w => Sys2Proof.Machine.execDcmpp n w s
  | .fpArithmetic n w => Sys2Proof.Machine.execFpArithmetic n w s
  | .fusedMultiplyAdd n w => Sys2Proof.Machine.execFusedMultiplyAdd n w s
  | .fpConvert n w => Sys2Proof.Machine.execFpConvert n w s
  | .fminFmax n w => Sys2Proof.Machine.execFminFmax n w s
  | .fcmp n w => Sys2Proof.Machine.execFcmp n w s
  | .ftype n w => Sys2Proof.Machine.execFtype n w s
  | .fpBitMove n w => Sys2Proof.Machine.execFpBitMove n w s
  | .ldA n w => Sys2Proof.Machine.execLdA n w s
  | .stR n w => Sys2Proof.Machine.execStR n w s
  | .cas n w => Sys2Proof.Machine.execCas n w s
  | .casQ n w => Sys2Proof.Machine.execCasQ n w s
  | .ldQA n w => Sys2Proof.Machine.execLdQA n w s
  | .fenceC n w => Sys2Proof.Machine.execFenceC n w s
  | .fenceL n w => Sys2Proof.Machine.execFenceL n w s
  | .fenceS n w => Sys2Proof.Machine.execFenceS n w s
  | .fsync n w => Sys2Proof.Machine.execFsync n w s
  | .isync n w => Sys2Proof.Machine.execIsync n w s
  | .zeroL n w => Sys2Proof.Machine.execZeroL n w s
  | .tlbiVa n w => Sys2Proof.Machine.execTlbiVa n w s
  | .tlbiAsid n w => Sys2Proof.Machine.execTlbiAsid n w s
  | .tlbiS1all n w => Sys2Proof.Machine.execTlbiS1all n w s
  | .tlbiGpa n w => Sys2Proof.Machine.execTlbiGpa n w s
  | .tlbiVmid n w => Sys2Proof.Machine.execTlbiVmid n w s
  | .tlbiAll n w => Sys2Proof.Machine.execTlbiAll n w s
  | .mfs n w => Sys2Proof.Machine.execMfs n w s
  | .mts n w => Sys2Proof.Machine.execMts n w s
  | .rfe n w => Sys2Proof.Machine.execRfe n w s
  | .svc n w => Sys2Proof.Machine.execSvc n w s
  | .hvc n w => Sys2Proof.Machine.execHvc n w s
  | .mcall n w => Sys2Proof.Machine.execMcall n w s
  | .brk n w => Sys2Proof.Machine.execBrk n w s
  | .nop n w => Sys2Proof.Machine.execNop n w s
  | .wait n w => Sys2Proof.Machine.execWait n w s
  | .tbegin n w => Sys2Proof.Machine.execTbegin n w s
  | .tbeginb n w => Sys2Proof.Machine.execTbeginb n w s
  | .tcommit n w => Sys2Proof.Machine.execTcommit n w s
  | .tabort n w => Sys2Proof.Machine.execTabort n w s
  | .ttest n w => Sys2Proof.Machine.execTtest n w s
  | .escalatedGatherRestart n => Sys2Proof.Machine.execEscalatedGatherRestart n s
  | .retirementGroupCommit n => Sys2Proof.Machine.execRetirementGroupCommit n s
  | .externalInterrupt n => Sys2Proof.Machine.execExternalInterrupt n s
  | .asynchronousStoreError n => Sys2Proof.Machine.execAsynchronousStoreError n s
  | .machineCheckAsync n => Sys2Proof.Machine.execMachineCheckAsync n s
  | .fpTrap n => Sys2Proof.Machine.execFpTrap n s
  | .debugStep n => Sys2Proof.Machine.execDebugStep n s
  | .registerLoadTimeout n w => Sys2Proof.Machine.execRegisterLoadTimeout n w s
  | .registerStoreTimeout n => Sys2Proof.Machine.execRegisterStoreTimeout n s
  | .fabricTimeout n k => Sys2Proof.Machine.execFabricTimeout n k s
  | .registerWrite src off size v => Sys2Proof.Machine.execRegisterWrite src off size v s
  | .blkErrClear src page v => Sys2Proof.Machine.execBlkErrClear src page v s
  | .runSet src page => Sys2Proof.Machine.execRunSet src page s
  | .runClear src page => Sys2Proof.Machine.execRunClear src page s
  | .blockStopped page => Sys2Proof.Machine.execBlockStopped page s
  | .blkQuiesceSet src page => Sys2Proof.Machine.execBlkQuiesceSet src page s
  | .blkQuiesceClear src page => Sys2Proof.Machine.execBlkQuiesceClear src page s
  | .blockQuiesced page => Sys2Proof.Machine.execBlockQuiesced page s
  | .softReset src page => Sys2Proof.Machine.execSoftReset src page s
  | .softResetComplete page => Sys2Proof.Machine.execSoftResetComplete page s
  | .zoneTableWrite src word v => Sys2Proof.Machine.execZoneTableWrite src word v s
  | .ztGlaze src v => Sys2Proof.Machine.execZtGlaze src v s
  | .glazeValidationComplete => Sys2Proof.Machine.execGlazeValidationComplete s
  | .cacheEnableChange src unit ways v => Sys2Proof.Machine.execCacheEnableChange src unit ways v s
  | .maintenanceBoundary t c => Sys2Proof.Machine.execMaintenanceBoundary t c s
  | .disableFlushComplete t c => Sys2Proof.Machine.execDisableFlushComplete t c s
  | .wayDrainComplete t c => Sys2Proof.Machine.execWayDrainComplete t c s
  | .rngGo src t => Sys2Proof.Machine.execRngGo src t s
  | .rngAbort src t => Sys2Proof.Machine.execRngAbort src t s
  | .rangeOperationComplete t done => Sys2Proof.Machine.execRangeOperationComplete t done s
  | .tagRebuildComplete p l3 rebuilt set way => Sys2Proof.Machine.execTagRebuildComplete p l3 rebuilt set way s
  | .wayFail t c way => Sys2Proof.Machine.execWayFail t c way s
  | .rdS h => Sys2Proof.Machine.execRdS h s
  | .rdO h => Sys2Proof.Machine.execRdO h s
  | .upg h => Sys2Proof.Machine.execUpg h s
  | .ownZ h => Sys2Proof.Machine.execOwnZ h s
  | .rdOnce h => Sys2Proof.Machine.execRdOnce h s
  | .wrLine h data => Sys2Proof.Machine.execWrLine h data s
  | .wrPart h data mask => Sys2Proof.Machine.execWrPart h data mask s
  | .casNc h off size ops => Sys2Proof.Machine.execCasNc h off size ops s
  | .fwdS h => Sys2Proof.Machine.execFwdS h s
  | .fwdO h => Sys2Proof.Machine.execFwdO h s
  | .fwdOnce h => Sys2Proof.Machine.execFwdOnce h s
  | .inv h => Sys2Proof.Machine.execInv h s
  | .invZ h => Sys2Proof.Machine.execInvZ h s
  | .recall h => Sys2Proof.Machine.execRecall h s
  | .setRecall home set way => Sys2Proof.Machine.execSetRecall home set way s
  | .ack h => Sys2Proof.Machine.execAck h s
  | .cmp h => Sys2Proof.Machine.execCmp h s
  | .fwdDone h => Sys2Proof.Machine.execFwdDone h s
  | .wbAck h => Sys2Proof.Machine.execWbAck h s
  | .refused h => Sys2Proof.Machine.execRefused h s
  | .data h data => Sys2Proof.Machine.execData h data s
  | .datWb h data => Sys2Proof.Machine.execDatWb h data s
  | .dataNc h data => Sys2Proof.Machine.execDataNc h data s
  | .wb h data => Sys2Proof.Machine.execWb h data s
  | .evn h => Sys2Proof.Machine.execEvn h s
  | .rls h => Sys2Proof.Machine.execRls h s
  | .txend h => Sys2Proof.Machine.execTxend h s
  | .holdEnd t line => Sys2Proof.Machine.execHoldEnd t line s
  | .directoryEvictionBufferFree line => Sys2Proof.Machine.execDirectoryEvictionBufferFree line s
  | .reservationExpiry line => Sys2Proof.Machine.execReservationExpiry line s
  | .setRecallComplete set => Sys2Proof.Machine.execSetRecallComplete set s
  | .fabricFrame f frame => Sys2Proof.Machine.execFabricFrame f frame s
  | .fabricIdentityFrame f peer port kind lanes => Sys2Proof.Machine.execFabricIdentityFrame f peer port kind lanes s
  | .fabricLaneFailure f lane => Sys2Proof.Machine.execFabricLaneFailure f lane s
  | .fabricPortLoss f => Sys2Proof.Machine.execFabricPortLoss f s
  | .fabricAckTimeout f => Sys2Proof.Machine.execFabricAckTimeout f s
  | .fabricRetrainComplete f => Sys2Proof.Machine.execFabricRetrainComplete f s
  | .routingResume f => Sys2Proof.Machine.execRoutingResume f s
  | .memberLoss k => Sys2Proof.Machine.execMemberLoss k s
  | .memberDownWrite src v => Sys2Proof.Machine.execMemberDownWrite src v s
  | .fpCmdRetrain src f => Sys2Proof.Machine.execFpCmdRetrain src f s
  | .fpCmdDown src f => Sys2Proof.Machine.execFpCmdDown src f s
  | .checkFiring n code selfPipe => Sys2Proof.Machine.execCheckFiring n code selfPipe s
  | .trailingRecordTimeout n => Sys2Proof.Machine.execTrailingRecordTimeout n s
  | .retryRestart n lost => Sys2Proof.Machine.execRetryRestart n lost s
  | .checkEventEnd n => Sys2Proof.Machine.execCheckEventEnd n s
  | .spareNow src p => Sys2Proof.Machine.execSpareNow src p s
  | .spareWakeComplete => Sys2Proof.Machine.execSpareWakeComplete s
  | .storeBufferDrainComplete => Sys2Proof.Machine.execStoreBufferDrainComplete s
  | .lineMoveComplete => Sys2Proof.Machine.execLineMoveComplete s
  | .spareRestart => Sys2Proof.Machine.execSpareRestart s
  | .chkInjectArm n => Sys2Proof.Machine.execChkInjectArm n s
  | .debugHalt n => Sys2Proof.Machine.execDebugHalt n s
  | .debugStepCmd n w => Sys2Proof.Machine.execDebugStepCmd n w s
  | .debugResume n => Sys2Proof.Machine.execDebugResume n s
  | .dbgDataAccess data => Sys2Proof.Machine.execDbgDataAccess data s
  | .microword u copy cond dv err => Sys2Proof.Machine.execMicroword u copy cond dv err s
  | .microwordWaitEnd u copy cond dv => Sys2Proof.Machine.execMicrowordWaitEnd u copy cond dv s
  | .ucOpen src u => Sys2Proof.Machine.execUcOpen src u s
  | .ucData src u v => Sys2Proof.Machine.execUcData src u v s
  | .ucCommit src u => Sys2Proof.Machine.execUcCommit src u s
  | .ucAbort src u => Sys2Proof.Machine.execUcAbort src u s
  | .imageCheckComplete u => Sys2Proof.Machine.execImageCheckComplete u s
  | .copySwitch u copy => Sys2Proof.Machine.execCopySwitch u copy s
  | .cssDb src z n pi => Sys2Proof.Machine.execCssDb src z n pi s
  | .cssFwrDb src pi => Sys2Proof.Machine.execCssFwrDb src pi s
  | .ringSlotRetry ring => Sys2Proof.Machine.execRingSlotRetry ring s
  | .start ring => Sys2Proof.Machine.execStart ring s
  | .halt ring => Sys2Proof.Machine.execHalt ring s
  | .cancel ring => Sys2Proof.Machine.execCancel ring s
  | .query ring => Sys2Proof.Machine.execQuery ring s
  | .modify ring => Sys2Proof.Machine.execModify ring s
  | .stationCommandSent station => Sys2Proof.Machine.execStationCommandSent station s
  | .barrierSeFetch station => Sys2Proof.Machine.execBarrierSeFetch station s
  | .pathwaitExpiry station => Sys2Proof.Machine.execPathwaitExpiry station s
  | .timeLimitExpiry station => Sys2Proof.Machine.execTimeLimitExpiry station s
  | .haltingTimeout station => Sys2Proof.Machine.execHaltingTimeout station s
  | .ptDataWrite src p v => Sys2Proof.Machine.execPtDataWrite src p v s
  | .cssZrtWrite src z v => Sys2Proof.Machine.execCssZrtWrite src z v s
  | .pcsLock p => Sys2Proof.Machine.execPcsLock p s
  | .channelLaneLoss p lane => Sys2Proof.Machine.execChannelLaneLoss p lane s
  | .channelFrameReceive p bytes fec => Sys2Proof.Machine.execChannelFrameReceive p bytes fec s
  | .init p => Sys2Proof.Machine.execInit p s
  | .initAck p => Sys2Proof.Machine.execInitAck p s
  | .initResend p => Sys2Proof.Machine.execInitResend p s
  | .lstat p => Sys2Proof.Machine.execLstat p s
  | .lstatSend p => Sys2Proof.Machine.execLstatSend p s
  | .retransmissionTimer p seq => Sys2Proof.Machine.execRetransmissionTimer p seq s
  | .linkSilenceTimeout p => Sys2Proof.Machine.execLinkSilenceTimeout p s
  | .channelLinkLoss p => Sys2Proof.Machine.execChannelLinkLoss p s
  | .loginAck p => Sys2Proof.Machine.execLoginAck p s
  | .loginTimeout p partner => Sys2Proof.Machine.execLoginTimeout p partner s
  | .logout p => Sys2Proof.Machine.execLogout p s
  | .channelData p bufErr => Sys2Proof.Machine.execChannelData p bufErr s
  | .dstat p => Sys2Proof.Machine.execDstat p s
  | .xack p => Sys2Proof.Machine.execXack p s
  | .abortAck p => Sys2Proof.Machine.execAbortAck p s
  | .resumeAck p => Sys2Proof.Machine.execResumeAck p s
  | .resumeTimeout station => Sys2Proof.Machine.execResumeTimeout station s
  | .unsol p => Sys2Proof.Machine.execUnsol p s
  | .reject p => Sys2Proof.Machine.execReject p s
  | .cpCmdRetrain src p => Sys2Proof.Machine.execCpCmdRetrain src p s
  | .cpCmdDown src p => Sys2Proof.Machine.execCpCmdDown src p s
  | .engineCycle selfA selfB unit mirror => Sys2Proof.Machine.execEngineCycle selfA selfB unit mirror s
  | .outputCopyArrival engine receiver oseq data => Sys2Proof.Machine.execOutputCopyArrival engine receiver oseq data s
  | .receiverWindowExpiry receiver => Sys2Proof.Machine.execReceiverWindowExpiry receiver s
  | .retryNotice => Sys2Proof.Machine.execRetryNotice s
  | .engineSilence engine receiver => Sys2Proof.Machine.execEngineSilence engine receiver s
  | .revoke => Sys2Proof.Machine.execRevoke s
  | .revokeAck receiver => Sys2Proof.Machine.execRevokeAck receiver s
  | .grant => Sys2Proof.Machine.execGrant s
  | .revokeAckTimeout => Sys2Proof.Machine.execRevokeAckTimeout s
  | .leaseRenewal => Sys2Proof.Machine.execLeaseRenewal s
  | .leaseExpiry receiver => Sys2Proof.Machine.execLeaseExpiry receiver s
  | .resyncSweepComplete => Sys2Proof.Machine.execResyncSweepComplete s
  | .gapCopyComplete unreadable => Sys2Proof.Machine.execGapCopyComplete unreadable s
  | .autoReturn => Sys2Proof.Machine.execAutoReturn s
  | .split src => Sys2Proof.Machine.execSplit src s
  | .repair src e => Sys2Proof.Machine.execRepair src e s
  | .repairComplete passed => Sys2Proof.Machine.execRepairComplete passed s
  | .resync src => Sys2Proof.Machine.execResync src s
  | .e12EngineRecovery passed unreadable => Sys2Proof.Machine.execE12EngineRecovery passed unreadable s
  | .cssPairInject receiver unit => Sys2Proof.Machine.execCssPairInject receiver unit s
  | .keySel src z v => Sys2Proof.Machine.execKeySel src z v s
  | .keyData src z v => Sys2Proof.Machine.execKeyData src z v s
  | .keyCommit src z => Sys2Proof.Machine.execKeyCommit src z s
  | .keyErase src z => Sys2Proof.Machine.execKeyErase src z s
  | .keyAbort src z => Sys2Proof.Machine.execKeyAbort src z s
  | .ciphZeroize src => Sys2Proof.Machine.execCiphZeroize src s
  | .cipherDb src z n pi => Sys2Proof.Machine.execCipherDb src z n pi s
  | .cipherDescriptorTaken ring => Sys2Proof.Machine.execCipherDescriptorTaken ring s
  | .cipherWorkUnit pipe => Sys2Proof.Machine.execCipherWorkUnit pipe s
  | .tagCompare pipe => Sys2Proof.Machine.execTagCompare pipe s
  | .releaseBufferZeroized pipe => Sys2Proof.Machine.execReleaseBufferZeroized pipe s
  | .twopassVerifyComplete pipe => Sys2Proof.Machine.execTwopassVerifyComplete pipe s
  | .cipherJobComplete ring => Sys2Proof.Machine.execCipherJobComplete ring s
  | .pipelineCheckFire pipe => Sys2Proof.Machine.execPipelineCheckFire pipe s
  | .keySlotUncorrectable slot => Sys2Proof.Machine.execKeySlotUncorrectable slot s
  | .compDb src z n pi => Sys2Proof.Machine.execCompDb src z n pi s
  | .compDescriptorTaken ring => Sys2Proof.Machine.execCompDescriptorTaken ring s
  | .zstateRelease inlined n => Sys2Proof.Machine.execZstateRelease inlined n s
  | .streamStateRestoreComplete unit => Sys2Proof.Machine.execStreamStateRestoreComplete unit s
  | .compJobComplete ring => Sys2Proof.Machine.execCompJobComplete ring s
  | .streamSaveComplete unit => Sys2Proof.Machine.execStreamSaveComplete unit s
  | .streamPark unit => Sys2Proof.Machine.execStreamPark unit s
  | .streamResume unit station => Sys2Proof.Machine.execStreamResume unit station s
  | .unitSelfcheck unit => Sys2Proof.Machine.execUnitSelfcheck unit s
  | .sourceEvent n => Sys2Proof.Machine.execSourceEvent n s
  | .holdoffExpiry n => Sys2Proof.Machine.execHoldoffExpiry n s
  | .trigger src n => Sys2Proof.Machine.execTrigger src n s
  | .pendDiscard src n => Sys2Proof.Machine.execPendDiscard src n s
  | .sourceEntryWrite src n v => Sys2Proof.Machine.execSourceEntryWrite src n v s
  | .icEoi src c n => Sys2Proof.Machine.execIcEoi src c n s
  | .icCoreevtClear src c mask => Sys2Proof.Machine.execIcCoreevtClear src c mask s
  | .msiXWrite port rid addr data => Sys2Proof.Machine.execMsiXWrite port rid addr data s
  | .eseEventDelivery => Sys2Proof.Machine.execEseEventDelivery s
  | .evqDataRead src => Sys2Proof.Machine.execEvqDataRead src s
  | .powerStateEntry n => Sys2Proof.Machine.execPowerStateEntry n s
  | .powerStateWake n => Sys2Proof.Machine.execPowerStateWake n s
  | .tileDeepEntry t => Sys2Proof.Machine.execTileDeepEntry t s
  | .tileDeepExit t => Sys2Proof.Machine.execTileDeepExit t s
  | .l3BankRetentionTimeout t => Sys2Proof.Machine.execL3BankRetentionTimeout t s
  | .ltCoreWrite src z n v => Sys2Proof.Machine.execLtCoreWrite src z n v s
  | .ltSvcWrite src v => Sys2Proof.Machine.execLtSvcWrite src v s
  | .tileDivWrite src t v => Sys2Proof.Machine.execTileDivWrite src t v s
  | .dividerStep t => Sys2Proof.Machine.execDividerStep t s
  | .level t => Sys2Proof.Machine.execLevel t s
  | .thermalReading t tj => Sys2Proof.Machine.execThermalReading t tj s
  | .throttleStep t => Sys2Proof.Machine.execThrottleStep t s
  | .packageLimitStep watts => Sys2Proof.Machine.execPackageLimitStep watts s
  | .crumbSubmission page code sev zone injected payload => Sys2Proof.Machine.execCrumbSubmission page code sev zone injected payload s
  | .crumbWrite => Sys2Proof.Machine.execCrumbWrite s
  | .dropReport => Sys2Proof.Machine.execDropReport s
  | .tokenGain code => Sys2Proof.Machine.execTokenGain code s
  | .recorderFillComplete => Sys2Proof.Machine.execRecorderFillComplete s
  | .rearm src => Sys2Proof.Machine.execRearm src s
  | .recRdSelWrite src index bad => Sys2Proof.Machine.execRecRdSelWrite src index bad s
  | .recRdDataRead src bad => Sys2Proof.Machine.execRecRdDataRead src bad s
  | .todSecRead src => Sys2Proof.Machine.execTodSecRead src s
  | .setNow src => Sys2Proof.Machine.execSetNow src s
  | .setAtPps src => Sys2Proof.Machine.execSetAtPps src s
  | .leapIns src => Sys2Proof.Machine.execLeapIns src s
  | .leapDel src => Sys2Proof.Machine.execLeapDel src s
  | .leapCancel src => Sys2Proof.Machine.execLeapCancel src s
  | .leapSecond => Sys2Proof.Machine.execLeapSecond s
  | .ppsEdge => Sys2Proof.Machine.execPpsEdge s
  | .ppsHoldover => Sys2Proof.Machine.execPpsHoldover s
  | .powerOn reference resetLow => Sys2Proof.Machine.execPowerOn reference resetLow s
  | .referenceTimeout => Sys2Proof.Machine.execReferenceTimeout s
  | .vddSvcLoss => Sys2Proof.Machine.execVddSvcLoss s
  | .sysRstNAssert => Sys2Proof.Machine.execSysRstNAssert s
  | .sysRstNDeassert => Sys2Proof.Machine.execSysRstNDeassert s
  | .resetSequenceComplete fault => Sys2Proof.Machine.execResetSequenceComplete fault s
  | .boot => Sys2Proof.Machine.execBoot s
  | .railPowerGood => Sys2Proof.Machine.execRailPowerGood s
  | .railPowerGoodTimeout => Sys2Proof.Machine.execRailPowerGoodTimeout s
  | .rootPllLock => Sys2Proof.Machine.execRootPllLock s
  | .pllLockTimeout => Sys2Proof.Machine.execPllLockTimeout s
  | .selfTestComplete failed ok => Sys2Proof.Machine.execSelfTestComplete failed ok s
  | .manifestCheckComplete sfdp => Sys2Proof.Machine.execManifestCheckComplete sfdp s
  | .microcodeLoadComplete => Sys2Proof.Machine.execMicrocodeLoadComplete s
  | .memoryBringUpComplete gib two slow trained => Sys2Proof.Machine.execMemoryBringUpComplete gib two slow trained s
  | .coreStart src mask => Sys2Proof.Machine.execCoreStart src mask s
  | .operate src => Sys2Proof.Machine.execOperate src s
  | .quiesce src => Sys2Proof.Machine.execQuiesce src s
  | .quiesceStationTimeout station => Sys2Proof.Machine.execQuiesceStationTimeout station s
  | .modeResume src => Sys2Proof.Machine.execModeResume src s
  | .warmReset src => Sys2Proof.Machine.execWarmReset src s
  | .coldReset src reboot => Sys2Proof.Machine.execColdReset src reboot s
  | .checkstop src => Sys2Proof.Machine.execCheckstop src s
  | .mfgTest testEn => Sys2Proof.Machine.execMfgTest testEn s
  | .rootPllLockLoss => Sys2Proof.Machine.execRootPllLockLoss s
  | .referenceLoss => Sys2Proof.Machine.execReferenceLoss s
  | .railFault rail => Sys2Proof.Machine.execRailFault rail s
  | .thermtrip => Sys2Proof.Machine.execThermtrip s
  | .spiStatus => Sys2Proof.Machine.execSpiStatus s
  | .spiWrite off words => Sys2Proof.Machine.execSpiWrite off words s
  | .spiQwrite off words => Sys2Proof.Machine.execSpiQwrite off words s
  | .spiRead off ready whole => Sys2Proof.Machine.execSpiRead off ready whole s
  | .spiQread off ready whole => Sys2Proof.Machine.execSpiQread off ready whole s
  | .smbusAccess code data => Sys2Proof.Machine.execSmbusAccess code data s
  | .svcWinDataAccess data lost => Sys2Proof.Machine.execSvcWinDataAccess data lost s
  | .memoryRead line fixed bad => Sys2Proof.Machine.execMemoryRead line fixed bad s
  | .memoryWrite line data poison => Sys2Proof.Machine.execMemoryWrite line data poison s
  | .stripePartnerWaitExpiry line => Sys2Proof.Machine.execStripePartnerWaitExpiry line s
  | .scrubStripe g fixed bad parityWrong => Sys2Proof.Machine.execScrubStripe g fixed bad parityWrong s
  | .memoryCounterPoll c temp manyCorrected manyRebuilt => Sys2Proof.Machine.execMemoryCounterPoll c temp manyCorrected manyRebuilt s
  | .channelLoss c cause => Sys2Proof.Machine.execChannelLoss c cause s
  | .chCmdFail src c => Sys2Proof.Machine.execChCmdFail src c s
  | .rebuildStripe g => Sys2Proof.Machine.execRebuildStripe g s
  | .rebuildComplete g => Sys2Proof.Machine.execRebuildComplete g s
  | .deviceLoad n outcome data => Sys2Proof.Machine.execDeviceLoad n outcome data s
  | .deviceCompletionTimeout n => Sys2Proof.Machine.execDeviceCompletionTimeout n s
  | .configAccess n reply => Sys2Proof.Machine.execConfigAccess n reply s
  | .inboundRequest port k rid kind addr len data poisoned => Sys2Proof.Machine.execInboundRequest port k rid kind addr len data poisoned s
  | .ltrMessage port k snoop noSnoop => Sys2Proof.Machine.execLtrMessage port k snoop noSnoop s
  | .pcieLinkDown port k => Sys2Proof.Machine.execPcieLinkDown port k s
  | .referenceInTolerance => Sys2Proof.Machine.execReferenceInTolerance s
  | .eseSelfCheck => Sys2Proof.Machine.execEseSelfCheck s
  | .pcieLinkUp port k width rate flit => Sys2Proof.Machine.execPcieLinkUp port k width rate flit s
  | .pcieErrorMessage port k kind => Sys2Proof.Machine.execPcieErrorMessage port k kind s
  | .ieee11491Instruction ir => Sys2Proof.Machine.execIeee11491Instruction ir s

end Sys2Proof.Machine
end

