-- ==== Sys2Proof/Machine/Tick.lean ====
section
/-!
DEFINITION. What an empty queue does: one 10 ns step of the time base (R525, R452), in which every store buffer and
every tile's ordering queue lets its oldest store go (R168).
-/

namespace Sys2Proof.Machine

/-- The oldest store of every buffer and of every ordering queue leaves, where it can. -/
def State.drainStep (s : State) : State :=
  let s1 := (List.range 64).foldl (fun u n => u.drainOldest n) s
  (List.range 4).foldl (fun u t => (u.drainHead t).1) s1

/-- One step of the time base. -/
def State.tick (s : State) : State :=
  if ¬ s.powered then s
  else
    let s1 := { s with timebase := s.timebase + 1, tod := s.tod.tick }.leapStat.ppsStat
    if 3 ≤ s.mode ∧ s.mode ≤ 9 then s1.drainStep.quiesceGo else s1

end Sys2Proof.Machine
end

