-- ==== Sys2Proof/Machine/PuldoEncode.lean ====
section
/-!
DEFINITION. The words of Puldo instructions (Tables 3.4 to 3.11): for each instruction its 32-bit form, or its 16-bit
form where it has no other.
-/

namespace Sys2Proof.Machine

/-- The low bits of an integer. -/
def lowBits (width : Nat) (i : Int) : Nat := (i % (2 ^ width : Nat)).toNat

/-- A 32-bit instruction: OP, SUB, RD and the second parcel (Table 3.6). -/
def word32 (op sub rd upper : Nat) : BitVec 32 := BitVec.ofNat 32 (7 * 2 ^ 13 + op * 2 ^ 8 + rd * 2 ^ 3 + sub + upper * 2 ^ 16)

/-- A register form: RS1, RS2 and FUNC in the second parcel. -/
def formR (op sub rd a b f : Nat) : BitVec 32 := word32 op sub rd (a + b * 2 ^ 5 + f * 2 ^ 10)

/-- An immediate form: RS1 and IMM11. -/
def formI (op sub rd a : Nat) (imm : Int) : BitVec 32 := word32 op sub rd (a + lowBits 11 imm * 2 ^ 5)

/-- IMM19: its low three bits stand in SUB. -/
def form19 (op rd : Nat) (imm : Int) : BitVec 32 := word32 op (lowBits 19 imm % 8) rd (lowBits 19 imm / 8)

/-- IMM24: its low eight bits stand in the first parcel. -/
def form24 (op : Nat) (imm : Int) : BitVec 32 :=
  BitVec.ofNat 32 (7 * 2 ^ 13 + op * 2 ^ 8 + lowBits 24 imm % 256 + lowBits 24 imm / 256 * 2 ^ 16)

/-- FUNC of OP 0x01 (Table 3.8). -/
def AluF.func : AluF → Nat
  | .add => 0 | .sub => 1 | .and => 2 | .or => 3 | .xor => 4 | .andn => 5 | .orn => 6 | .xnor => 7
  | .slt => 0x0D | .sltu => 0x0E | .min => 0x0F | .max => 0x10 | .minu => 0x11 | .maxu => 0x12
  | .neg => 0x15 | .not => 0x17 | .clz => 0x18 | .ctz => 0x19 | .popc => 0x1A | .bswap => 0x1B
  | .sextB => 0x1C | .sextH => 0x1D | .sextW => 0x1E | .zextB => 0x1F | .zextH => 0x20 | .zextW => 0x21

/-- SUB of OP 0x04; 7 where the operation has no immediate form. -/
def AluF.immSub : AluF → Nat
  | .add => 0 | .and => 1 | .or => 2 | .xor => 3 | .slt => 4 | .sltu => 5 | _ => 7

def ShiftF.idx : ShiftF → Nat
  | .sll => 0 | .srl => 1 | .sra => 2 | .rol => 3 | .ror => 4

/-- SUB of OP 0x05, for the 64-bit form; 7 where there is none. -/
def ShiftF.immSub : ShiftF → Nat
  | .sll => 0 | .srl => 1 | .sra => 2 | .ror => 3 | .rol => 7

def MulF.idx : MulF → Nat
  | .mul => 0 | .mulh => 1 | .mulhu => 2 | .mulhsu => 3 | .mulw => 4

def DivF.idx : DivF → Nat
  | .div => 0 | .divu => 1 | .divT => 2 | .divz => 3 | .divzu => 4 | .divw => 5 | .divuw => 6 | .divwT => 7

def CondF.idx : CondF → Nat
  | .eq => 0 | .ne => 1 | .lt => 2 | .ge => 3 | .ltu => 4 | .geu => 5

def DecF.idx : DecF → Nat
  | .addp => 0 | .subp => 1 | .mulp => 2 | .divp => 3 | .cmpp => 4

def FArithF.idx : FArithF → Nat
  | .fadd => 0 | .fsub => 1 | .fmul => 2 | .fdiv => 3 | .fsqrt => 4

def FmaF.idx : FmaF → Nat
  | .fmadd => 0 | .fmsub => 1 | .fnmadd => 2 | .fnmsub => 3

def FcvtF.idx : FcvtF → Nat
  | .fmt => 0 | .toL => 1 | .toLU => 2 | .toW => 3 | .toWU => 4 | .fromL => 5 | .fromLU => 6 | .fromW => 7 | .fromWU => 8

def FbitF.func : FbitF → Nat
  | .signC => 7 | .signN => 8 | .signX => 9 | .bitsG => 0x17 | .bitsF => 0x18

def FenceF.idx : FenceF → Nat
  | .c => 0 | .l => 1 | .s => 2

def TlbiF.idx : TlbiF → Nat
  | .va => 0 | .asid => 1 | .s1all => 2 | .gpa => 3 | .vmid => 4 | .all => 5

/-- The word of an instruction. -/
def encodePuldo : POp → BitVec 32
  | .alu f w rd a b => formR (if w then 2 else 1) 0 rd a b f.func
  | .aluImm f w rd a imm => formI 4 (if w then 6 else f.immSub) rd a imm
  | .shift f w rd a b => formR (if w then 2 else 1) 0 rd a b (8 + f.idx)
  | .shiftImm f w rd a cnt => formI 5 (f.immSub + if w then 4 else 0) rd a cnt
  | .lui rd imm => form19 6 rd imm
  | .auipc rd imm => form19 7 rd imm
  | .mul f rd a b => formR 3 0 rd a b f.idx
  | .trapArith f w rd a b =>
    formR (if w then 2 else 1) 0 rd a b (match f with | .addT => 0x13 | .subT => 0x14 | .negT => 0x16)
  | .div f rd a b => formR 3 0 rd a b (8 + f.idx)
  | .load size sext rd a imm => formI 8 (if sext then size else size + 4) rd a imm
  | .store size b a imm => formI 9 size b a imm
  | .fload dbl rd a imm => formI 0x14 (if dbl then 1 else 0) rd a imm
  | .fstore dbl b a imm => formI 0x14 (if dbl then 3 else 2) b a imm
  | .ldA size rd a => formR 0x0A size rd a 0 0
  | .stR size a b => formR 0x0A size 0 a b 1
  | .cas size rd a b => formR 0x0A size rd a b 2
  | .casQ rd a b => formR 0x0A 3 rd a b 3
  | .ldQA rd a => formR 0x0A 3 rd a 0 4
  | .branch c a b off => formI 0x0B c.idx b a (off / 2)
  | .b off => form24 0x0C (off / 2)
  | .call off => form24 0x0D (off / 2)
  | .jr a imm => formI 0x0E 0 0 a imm
  | .callr a imm => formI 0x0E 1 0 a imm
  | .ret => 0xC100
  | .loop a off => formI 0x0F 0 0 a (off / 2 : Nat)
  | .macd ty acc a b => formR 0x10 ty acc a b 0
  | .accz acc => formR 0x11 0 acc 0 0 0
  | .mfa hi rd acc => formR 0x11 (if hi then 2 else 1) rd 0 acc 0
  | .mta hi acc a => formR 0x11 (if hi then 4 else 3) acc a 0 0
  | .dec f rl a b => formR 0x15 f.idx rl a b 0
  | .farith f dbl rd a b => formR 0x12 (if dbl then 1 else 0) rd a b f.idx
  | .fma f dbl rd a b c => formR 0x13 (2 * f.idx + if dbl then 1 else 0) rd a b c
  | .fcvt f dbl rd a => formR 0x12 (if dbl then 1 else 0) rd a 0 (0x0E + f.idx)
  | .fminmax max dbl rd a b => formR 0x12 (if dbl then 1 else 0) rd a b (if max then 6 else 5)
  | .fcmp c dbl rd a b => formR 0x12 (if dbl then 1 else 0) rd a b (0x0A + c)
  | .ftype dbl rd a => formR 0x12 (if dbl then 1 else 0) rd a 0 0x0D
  | .fbit f dbl rd a b => formR 0x12 (if dbl then 1 else 0) rd a b f.func
  | .fence f => formR 0x17 0 0 0 0 f.idx
  | .fsync => formR 0x17 0 0 0 0 3
  | .isync => formR 0x17 0 0 0 0 4
  | .zeroL a => formR 0x17 0 0 a 0 5
  | .tlbi f a b => formR 0x17 0 0 a b (6 + f.idx)
  | .mfs rd num => word32 0x16 0 rd (num * 2 ^ 4)
  | .mts num a => word32 0x16 1 a (num * 2 ^ 4)
  | .rfe => formI 0x16 2 0 0 0
  | .svc code => formI 0x16 3 0 0 code
  | .hvc code => formI 0x16 4 0 0 code
  | .mcall code => formI 0x16 5 0 0 code
  | .brk code => BitVec.ofNat 32 (0xC300 + code)
  | .nop => 0xC200
  | .wait => formI 0x16 6 0 0 0
  | .tbegin off => form19 0x18 0 (off / 2)
  | .tbeginb off => form19 0x19 0 (off / 2)
  | .tcommit => formR 0x1A 0 0 0 0 0
  | .tabort a => formR 0x1A 1 0 a 0 0
  | .ttest rd => formR 0x1A 2 rd 0 0 0

end Sys2Proof.Machine
end

