-- ==== Sys2Proof/WellFormed.lean ====
section
/-!
DEFINITION. Which terms are instructions and commands of the hardware: operands within the encoding's fields, and the
words that an instruction row may present.
-/

namespace Sys2Proof.Machine

/-- A register number. -/
def regOk (r : Nat) : Bool := decide (r < 32)

/-- A signed value of some bits. -/
def immOk (width : Nat) (i : Int) : Bool := decide (-(2 ^ (width - 1) : Nat) ≤ i) && decide (i < (2 ^ (width - 1) : Nat))

/-- A byte offset of a branch: even, with half of it a signed value of some bits. -/
def offOk (width : Nat) (i : Int) : Bool := decide (i % 2 = 0) && immOk width (i / 2)

/-- The operands of an instruction are values that its encoding admits (Tables 3.4 to 3.11, R62 to R67). -/
def POp.wellFormed : POp → Bool
  | .alu f w rd a e =>
    regOk rd && regOk a && regOk e && (!f.unary || e == 0) && (!w || f == .add || f == .sub)
  | .aluImm f w rd a imm =>
    regOk rd && regOk a && immOk 11 imm && f.immSub != 7 && (!w || f == .add)
  | .shift _ _ rd a e => regOk rd && regOk a && regOk e
  | .shiftImm f w rd a cnt => regOk rd && regOk a && f != .rol && decide (cnt < if w then 32 else 64)
  | .lui rd imm => regOk rd && immOk 19 imm
  | .auipc rd imm => regOk rd && immOk 19 imm
  | .mul _ rd a e => regOk rd && regOk a && regOk e
  | .trapArith f w rd a e => regOk rd && regOk a && regOk e && (f != .negT || (!w && e == 0))
  | .div _ rd a e => regOk rd && decide (rd % 2 = 0) && regOk a && regOk e
  | .load size sext rd a imm => regOk rd && regOk a && immOk 11 imm && decide (size < if sext then 4 else 3)
  | .store size e a imm => regOk e && regOk a && immOk 11 imm && decide (size < 4)
  | .fload _ rd a imm => regOk rd && regOk a && immOk 11 imm
  | .fstore _ e a imm => regOk e && regOk a && immOk 11 imm
  | .ldA size rd a => regOk rd && regOk a && decide (size < 4)
  | .stR size a e => regOk a && regOk e && decide (size < 4)
  | .cas size rd a e => regOk rd && regOk a && regOk e && decide (size < 4)
  | .casQ rd a e => regOk rd && regOk a && regOk e && decide (rd % 2 = 0) && decide (e % 2 = 0)
  | .ldQA rd a => regOk rd && regOk a && decide (rd % 2 = 0)
  | .branch _ a e off => regOk a && regOk e && offOk 11 off
  | .b off => offOk 24 off
  | .call off => offOk 24 off
  | .jr a imm => regOk a && immOk 11 imm
  | .callr a imm => regOk a && immOk 11 imm
  | .loop a off => regOk a && decide (off % 2 = 0) && decide (0 < off) && decide (off < 4096)
  | .macd ty acc a e => decide (ty < 3) && decide (acc < 4) && regOk a && regOk e && a != 0 && e != 0
  | .accz acc => decide (acc < 4)
  | .mfa _ rd acc => regOk rd && decide (acc < 4)
  | .mta _ acc a => decide (acc < 4) && regOk a
  | .dec _ rl a e => regOk rl && regOk a && regOk e
  | .farith f _ rd a e => regOk rd && regOk a && regOk e && (f != .fsqrt || e == 0)
  | .fma _ _ rd a e c => regOk rd && regOk a && regOk e && regOk c
  | .fcvt _ _ rd a => regOk rd && regOk a
  | .fminmax _ _ rd a e => regOk rd && regOk a && regOk e
  | .fcmp c _ rd a e => decide (c < 3) && regOk rd && regOk a && regOk e
  | .ftype _ rd a => regOk rd && regOk a
  | .fbit f _ rd a e => regOk rd && regOk a && regOk e && ((f != .bitsG && f != .bitsF) || e == 0)
  | .zeroL a => regOk a
  | .tlbi f a e =>
    regOk a && regOk e && (match f with
      | .va | .gpa => true
      | .asid | .vmid => a == 0
      | .s1all | .all => a == 0 && e == 0)
  | .mfs rd num => regOk rd && specialListed num
  | .mts num a => regOk a && specialListed num && !num.testBit 10
  | .svc code => decide (code < 2048)
  | .hvc code => decide (code < 2048)
  | .mcall code => decide (code < 2048)
  | .brk code => decide (code < 256)
  | .tbegin off => offOk 19 off
  | .tbeginb off => offOk 19 off
  | .tabort a => regOk a
  | .ttest rd => regOk rd
  | .ret | .fence _ | .fsync | .isync | .rfe | .nop | .wait | .tcommit => true

/-- A word that an instruction row may present: one of its instructions, or an illegal one (R68). -/
def fitsRow (m : String) (w : BitVec 32) : Bool :=
  match decodePuldo w with
  | some op => op.row == m
  | none => true

end Sys2Proof.Machine
end

