-- ==== Sys2Proof/Safety.lean ====
section
/-!
DEFINITION. The terms in which the statements about the machine are made: which pages a source may write, what an
accepted write is, the boundary at which an instruction issues, and the forms that stay canonical.
-/

namespace Sys2Proof.Machine

/-! ## Register pages -/

/-- A block page of the window whose unit is present. -/
def State.blockPage (s : State) (p : Page) : Bool :=
  decide (pageAt p.index = some p) && p.typ != .zoneTable && p.typ != .sourceArray && s.present p

/-- A source may write a register of a block page, and the page is not frozen by Check-Stop (R32, R474). -/
def State.writesPage (s : State) (src : Src) (p : Page) (off : Nat) : Bool :=
  s.blockPage p && s.mayAccess src (p.base + off) &&
  (s.mode != 10 || decide (p.typ = .ese) || decide (p.typ = .recorder))

/-- An 8-byte write of a register of a block page for which Table 2.6 gives no refusal. -/
def State.accepts (s : State) (src : Src) (p : Page) (off : Nat) (v : Word) : Bool :=
  s.writesPage src p off &&
  (match pageFields p off with
   | none => false
   | some fs =>
     !s.notOwned p off v && !s.reservedWrite p off v fs &&
     (!s.glazed || (refused03 (s.liveReg p off) v fs).isEmpty) &&
     (s.refused05 src p off v fs).isEmpty && (s.refused01 p (s.liveReg p off) v fs).isEmpty)

/-! ## Instructions -/

/-- At a boundary of core `n` the word `w` spells `op` and the instruction goes ahead: the module has power, the core may
issue, no event of Table 6.6 comes first, no debug halt, abort or gather is in the way, the fetch passes and leaves `u`, the
level, the facilities and the loop rules admit the instruction, and so does an open transaction. A fetch leaves PC, the loop
registers and the transaction as they stand. -/
def State.admits (s : State) (n : Nat) (w : BitVec 32) (op : POp) (u : State) : Prop :=
  s.powered = true ∧ decodePuldo w = some op ∧ s.coreReady n = true ∧ s.gathers n = false ∧
  (s.core n).waiting = false ∧ (s.core n).owed = none ∧ (s.core n).haltDue = false ∧ s.dueEvent n op.syncs = none ∧
  s.fetchInsn n (insnLen w) = (.ok u (), true) ∧ u.inTx n = s.inTx n ∧
  ((u.arch n).pc = (s.arch n).pc ∧ (u.arch n).getS srLC = (s.arch n).getS srLC ∧ (u.arch n).getS srLE = (s.arch n).getS srLE) ∧
  (u.arch n).decodeFault (some op) = none ∧ u.txRefuses n w op = none ∧ u.budgetSpent n = false

/-- A state that differs from another in nothing but one logical core and the check event of its position, with its
RETRYING (bit 6 of CORE_STAT). -/
def State.onlyCore (s : State) (n : Nat) (t : State) : Prop :=
  t = { s with regs := t.regs, cores := t.cores, positions := t.positions } ∧
  (∀ m, m ≠ n → t.core m = s.core m) ∧ (∀ q, q ≠ s.posOf n → t.pos q = s.pos q) ∧
  (∀ x, x ≠ bPos (s.posOf n) + 0x048 → t.reg x = s.reg x) ∧
  ∀ i, i < 64 → i ≠ 6 → bit (t.reg (bPos (s.posOf n) + 0x048)) i = bit (s.reg (bPos (s.posOf n) + 0x048)) i

/-- The next PC after an instruction that began in `old` and asks for control to pass to `target`; the loop step (R90). -/
def Arch.nextPc (old : Arch) (len : Nat) (target : Option Word) : Word :=
  if old.getS srLC ≠ 0 ∧ old.pc = old.getS srLE then
    (if old.getS srLC = 1 then old.pc + BitVec.ofNat 64 len else old.getS srLB)
  else target.getD (old.pc + BitVec.ofNat 64 len)

/-- A core's registers after an instruction that began in `old` and left `a`: the loop step and the next PC. -/
def Arch.steps (old a : Arch) (len : Nat) (target : Option Word) : Arch :=
  { (if old.getS srLC ≠ 0 ∧ old.pc = old.getS srLE then a.setS srLC (old.getS srLC - 1) else a) with
    pc := old.nextPc len target }

/-- A command is the completion of an instruction of core `n` that leaves the registers `a` and passes control to
`target`, and changes nothing beyond core `n` of the state `u`. -/
def State.completes (s : State) (c : Instr) (n : Nat) (w : BitVec 32) (u : State) (a : Arch) (target : Option Word) : Prop :=
  ∃ t, exec c s = .next t ∧ t.arch n = (s.arch n).steps a (insnLen w) target ∧ u.onlyCore n t

/-! ## Entries and held lines -/

/-- An exception raised in `s` is taken at its level: the accesses to the vector block pass and leave `v`, the handler `h` and
the stack pointer `sp`, with `ps` the place of SAVED_SP; the handler is even, the stack pointer aligned, and no entry is in
progress at that level (R134, R137, R148). -/
def State.enters (s : State) (n : Nat) (e : Exc) (v : State) (h sp : Word) (ps : List Part) : Prop :=
  let s0 := s.commitGroup n
  let level := excLevel (s0.arch n).level e
  let lower := decide ((s0.arch n).level < level)
  level ≤ 3 ∧ ((s0.arch n).level = level → (s0.arch n).sf srPSW 6 1 = 0) ∧
  s0.vectorReads n level e.vec lower = .ok v (h, sp, ps) ∧ bit h 0 = false ∧ (lower = true → bits sp 0 3 = 0)

/-- The architected state of core `n` after that entry. -/
def State.afterEntry (s : State) (n : Nat) (t : Taken) (v : State) (h sp : Word) : Arch :=
  let s0 := s.commitGroup n
  let level := excLevel (s0.arch n).level t.exc
  (v.arch n).entered level t false false h (if (s0.arch n).level < level then some sp else none)

/-- A line of the module's main memory stands in the L2 of a core's position, without poison; no transaction is open, no
escalated hold stands on the line, and the core is at M. -/
def State.holdsLine (s : State) (n line : Nat) (data : List Byte) : Prop :=
  (s.arch n).level = 3 ∧ (s.core n).tx = none ∧ (∀ x ∈ s.cores, x.2.tx = none) ∧
  s.escHeld (s.coreTile n) line n = false ∧ line / 2 ^ 37 = s.moduleId ∧ line % 2 ^ 37 < 2 ^ 36 ∧
  line % 2 ^ 37 * 128 < s.usable ∧ data.length = 128 ∧
  ∃ x, SMap.find? (s.tile (s.coreTile n)).lines line = some x ∧ x.inCache (s.coreCache n) = true ∧ x.poison = false ∧
    x.data = data

/-! ## Messages -/

/-- From `s` to `t`, port `f` sent exactly one message: it stands last in its replay buffer with the next sequence number. -/
def State.sent (s t : State) (f : Nat) (m : Msg) : Prop :=
  (t.fport f).replay = (s.fport f).replay ++ [((s.fport f).nextSeq, m)]

/-- A request of a caching agent of another member reaches the running home of its line, by which the answer goes out by
port `f`: the grants admit it, the line is of usable memory, nothing about the line or its set makes it wait, the set has room,
and no tile of the module holds the line. -/
def State.reaches (s : State) (m : Msg) (f : Nat) : Prop :=
  s.powered = true ∧ s.uncoreUp = true ∧ s.running homePage = true ∧ m.cls = 0 ∧ m.dest = s.moduleId ∧
  m.src ≠ s.moduleId ∧ domainOf m.src = domainOf s.moduleId ∧ m.agent < 4 ∧ m.reissue = false ∧
  s.portFor m.src = some f ∧ s.requestGranted m = true ∧
  lineHome m.line = s.moduleId ∧ lineAddr m.line < s.usable ∧
  s.lineWaits m.line = false ∧ s.reserveFull m = false ∧ (s.dirInSet m.line).length < 16 ∧ s.holderTile m.line = none

/-- A directory entry that gives the line to the requester of `m`, reserved where the request was escalated. -/
def State.ownedBy (s : State) (m : Msg) : Prop :=
  ∃ e, s.dirEntry m.line = some e ∧ e.st = 3 ∧ e.who = memberOf m.src ∧ e.sharers = 2 ^ memberOf m.src ∧
    e.resv = if m.esc then some (markCore m.src m.txn) else none

end Sys2Proof.Machine
end

