-- ==== Sys2Proof/Certificates/Slice0/Obligations.lean ====
section
/-!
DEFINITION. The statements for the provers.
-/

open Sys2Proof Sys2Proof.Machine
/-! ## The machine as a whole -/

/-- One step: the command at the front of the queue acts on the state with the rest of the queue. The model's choices it
rests on: log entry 1. -/
def Obligations.StepRunsTheFrontCommand : Prop :=
  ∀ (c : Instr) (rest : List Instr) (s : State),
    step { s with pending := c :: rest } = exec c { s with pending := rest }

/-- R463: without power no block acts: every command but the four that are VDD_SVC and the reference coming and going, and
the thermal sensor, answers the fault `unpowered`. The model's choices it rests on: log entry 2. -/
def Obligations.WithoutPowerNothingActs : Prop :=
  ∀ (c : Instr) (s : State), s.powered = false → (∀ r l, c ≠ .powerOn r l) → c ≠ .referenceInTolerance →
    c ≠ .referenceTimeout → c ≠ .vddSvcLoss → c ≠ .thermtrip → exec c s = .fault .unpowered

/-! ## Register pages (R33 to R40) -/

/-- R36: a bit of BLK_ERR that goes from 0 to 1 with its mask bit 0 raises the block's error source; a bit that is already
1 raises nothing further; a masked one is only recorded. -/
def Obligations.BlockErrorRaisesItsSource : Prop :=
  ∀ (s : State) (p : Page) (i : Nat), i < 64 →
    (bit (s.reg (p.base + 0x020)) i = true → s.raiseErr p i = s) ∧
    bit ((s.raiseErr p i).reg (p.base + 0x020)) i = true ∧
    (∀ j, j < 64 → j ≠ i → bit ((s.raiseErr p i).reg (p.base + 0x020)) j = bit (s.reg (p.base + 0x020)) j) ∧
    (∀ w, w ≠ p.base + 0x020 → (s.raiseErr p i).reg w = s.reg w) ∧
    (∀ k, p.slot = some k → bit (s.reg (p.base + 0x020)) i = false → bit (s.reg (p.base + 0x028)) i = false →
      ((s.raiseErr p i).source (0x1C00 + k)).pend = true ∧
      ((s.raiseErr p i).source (0x1C00 + k)).events = satAdd 8 (s.source (0x1C00 + k)).events 1) ∧
    (bit (s.reg (p.base + 0x028)) i = true → (s.raiseErr p i).ic = s.ic)

/-- R37, R47: a write to an unassigned offset of a present block page changes no register but the record of its refusal,
which names reason 0x07, the page, the offset and the source, in the header of the page accessed or, for an access of
a zone below M, in that of the zone's doorbell page. The model's choices it rests on: log entry 10. -/
def Obligations.UnassignedWriteIsRefused : Prop :=
  ∀ (src : Src) (p : Page) (off : Nat) (v : Word) (s : State),
    s.writesPage src p off = true → off < 0x1000 → pageFields p off = none →
    (regWrite src 8 (p.base + off) v s).reg ((s.errPage src p).base + 0x030) =
      BitVec.ofNat 64 (off + 2 ^ 16 * 7 + 2 ^ 24 * p.index + 2 ^ 40 * s.srcZone src + 2 ^ 48 * srcLevel src +
        2 ^ 50 * b2n (srcSvc src)) ∧
    bit ((regWrite src 8 (p.base + off) v s).reg ((s.errPage src p).base + 0x020)) 0 = true ∧
    (∀ w, w ≠ (s.errPage src p).base + 0x020 → w ≠ (s.errPage src p).base + 0x030 →
      (regWrite src 8 (p.base + off) v s).reg w = s.reg w) ∧
    (regWrite src 8 (p.base + off) v s).mem = s.mem ∧ (regWrite src 8 (p.base + off) v s).cores = s.cores

/-- R37, R39: a write of 8 bytes that places a reserved value in an enumerated field, to a register that its source's zone
owns, changes no register but the record of its refusal, with reason 0x02. The model's choices it rests on: log entry
10. -/
def Obligations.ReservedValueChangesNoField : Prop :=
  ∀ (src : Src) (p : Page) (off : Nat) (v : Word) (fs : List Fld) (s : State),
    s.writesPage src p off = true → off < 0x1000 → pageFields p off = some fs → s.notOwned p off v = false →
    s.reservedWrite p off v fs = true →
    bits ((regWrite src 8 (p.base + off) v s).reg ((s.errPage src p).base + 0x030)) 16 8 = 2 ∧
    (∀ w, w ≠ (s.errPage src p).base + 0x020 → w ≠ (s.errPage src p).base + 0x030 →
      (regWrite src 8 (p.base + off) v s).reg w = s.reg w) ∧
    (regWrite src 8 (p.base + off) v s).mem = s.mem ∧ (regWrite src 8 (p.base + off) v s).cores = s.cores

/-- R35, R36, R40: the commands on a block's header complete. REGISTER_WRITE acts as one write of its size; BLK_ERR_CLEAR
clears the bits written as one; RUN_SET sets RUN and RUNNING of a stopped block; RUN_CLEAR clears RUN and leaves
RUNNING; BLK_QUIESCE_SET and _CLEAR write QUIESCE, and clearing it clears QUIESCED; SOFT_RESET of a stopped block sets
BUSY and leaves RUN and QUIESCE; and the three ends clear RUNNING, set QUIESCED and clear BUSY. The header's other
registers stay. The model's choices it rests on: log entries 2, 11. -/
def Obligations.HeaderCommandsComplete : Prop :=
  (∀ (src : Src) (off : BitVec 28) (size : Fin 4) (v : Word) (s : State), s.powered = true →
    s.mayAccess src (off.toNat - off.toNat % 8) = true →
    (off.toNat - off.toNat % 8 ≠ bEse + 0x0A0 ∨ srcPort src = false) →
    exec (.registerWrite src off size v) s = .next (regWrite src (2 ^ size.val) (off.toNat - off.toNat % 8) v s)) ∧
  (∀ (src : Src) (page : BitVec 16) (p : Page) (v : Word) (s : State), s.powered = true → page.toNat = p.index →
    s.writesPage src p 0x020 = true →
    ∃ t, exec (.blkErrClear src page v) s = .next t ∧
      t.reg (p.base + 0x020) = s.reg (p.base + 0x020) &&& ~~~v ∧
      (∀ w, w ≠ p.base + 0x020 → t.reg w = s.reg w) ∧ t.mem = s.mem ∧ t.cores = s.cores ∧ t.ic = s.ic) ∧
  (∀ (src : Src) (page : BitVec 16) (p : Page) (s : State), s.powered = true → page.toNat = p.index →
    s.writesPage src p 0x010 = true → p.typ.runFixed = false →
    ((p.typ = .position ∨ p.typ = .eng) → srcSvc src = true) →
    (s.flag p.base F.RUN = false → p.typ ≠ .css →
      ∃ t, exec (.runSet src page) s = .next t ∧ t.flag p.base F.RUN = true ∧ t.flag p.base F.RUNNING = true ∧
        t.flag p.base F.QUIESCE = s.flag p.base F.QUIESCE) ∧
    (s.flag p.base F.RUN = true → (s.glazed = true → p.typ ≠ .memory ∧ p.typ ≠ .group ∧ p.typ ≠ .chan) →
      p.typ ≠ .ucode →
      ∃ t, exec (.runClear src page) s = .next t ∧ t.flag p.base F.RUN = false ∧
        t.flag p.base F.RUNNING = s.flag p.base F.RUNNING ∧ (∀ w, w ≠ p.base + 0x010 → t.reg w = s.reg w) ∧
        t.mem = s.mem ∧ t.cores = s.cores)) ∧
  (∀ (src : Src) (page : BitVec 16) (p : Page) (s : State), s.powered = true → page.toNat = p.index →
    s.writesPage src p 0x010 = true → ((p.typ = .position ∨ p.typ = .eng) → srcSvc src = true) →
    (∃ t, exec (.blkQuiesceSet src page) s = .next t ∧ t.flag p.base F.QUIESCE = true ∧
      (∀ w, w ≠ p.base + 0x010 → t.reg w = s.reg w) ∧ t.mem = s.mem ∧ t.cores = s.cores) ∧
    (∃ t, exec (.blkQuiesceClear src page) s = .next t ∧ t.flag p.base F.QUIESCE = false ∧
      t.flag p.base F.QUIESCED = false ∧ (∀ w, w ≠ p.base + 0x010 → w ≠ p.base + 0x018 → t.reg w = s.reg w) ∧
      t.mem = s.mem ∧ t.cores = s.cores) ∧
    (s.running p = false → ∃ t, exec (.softReset src page) s = .next t ∧ t.flag p.base F.BUSY = true ∧
      t.flag p.base F.RUN = s.flag p.base F.RUN ∧ t.flag p.base F.QUIESCE = s.flag p.base F.QUIESCE)) ∧
  (∀ (page : BitVec 16) (p : Page) (s : State), s.powered = true → page.toNat = p.index → s.blockPage p = true →
    (s.flag p.base F.RUN = false → s.running p = true → s.atBoundary p = true →
      p.typ ≠ .css → p.typ ≠ .cport →
      ∃ t, exec (.blockStopped page) s = .next t ∧ t.flag p.base F.RUNNING = false ∧ t.mem = s.mem ∧
        t.cores = s.cores) ∧
    (s.flag p.base F.QUIESCE = true → s.flag p.base F.QUIESCED = false → s.noWorkLeft p = true →
      exec (.blockQuiesced page) s = .next (s.setFlag p.base F.QUIESCED true)) ∧
    (s.flag p.base F.BUSY = true → ¬ (p.typ = .eng ∧ s.engRole p.inst = 6) →
      exec (.softResetComplete page) s = .next (s.setFlag p.base F.BUSY false)))
/-! ## Instructions on registers (R53, R72 to R78, R99) -/

/-- R72 to R78, R99, R183: ALU_REGISTER_OP, SHIFT_OP, LUI, AUIPC, MULTIPLY, TRAPPING_ARITHMETIC whose result fits, DIVIDE
with a result, ACCUMULATOR_TRANSFER and TTEST complete: the destination takes the result of the operands as they
stood, every other register of the core but PC and the loop's LC keeps its value, and nothing beyond the core changes.
The model's choices it rests on: log entries 16, 17. -/
def Obligations.RegisterInstructionsComplete : Prop :=
  ∀ (n : Fin 64) (w : BitVec 32) (s u : State),
    (∀ f wf rd a b, s.admits n w (.alu f wf rd a b) u →
      s.completes (.aluRegisterOp n w) n w u
        ((u.arch n).setG rd (aluResult f wf ((u.arch n).getG a) ((u.arch n).getG b))) none) ∧
    (∀ f wf rd a imm, s.admits n w (.aluImm f wf rd a imm) u →
      s.completes (.aluRegisterOp n w) n w u
        ((u.arch n).setG rd (aluResult f wf ((u.arch n).getG a) (BitVec.ofInt 64 imm))) none) ∧
    (∀ f wf rd a b, s.admits n w (.shift f wf rd a b) u →
      s.completes (.shiftOp n w) n w u
        ((u.arch n).setG rd (shiftResult f wf ((u.arch n).getG a) ((u.arch n).getG b).toNat)) none) ∧
    (∀ f wf rd a cnt, s.admits n w (.shiftImm f wf rd a cnt) u →
      s.completes (.shiftOp n w) n w u ((u.arch n).setG rd (shiftResult f wf ((u.arch n).getG a) cnt)) none) ∧
    (∀ rd imm, s.admits n w (.lui rd imm) u →
      s.completes (.lui n w) n w u ((u.arch n).setG rd (BitVec.ofInt 64 (imm * 2048))) none) ∧
    (∀ rd imm, s.admits n w (.auipc rd imm) u →
      s.completes (.auipc n w) n w u ((u.arch n).setG rd ((s.arch n).pc + BitVec.ofInt 64 (imm * 2048))) none) ∧
    (∀ f rd a b, s.admits n w (.mul f rd a b) u →
      s.completes (.multiply n w) n w u
        ((u.arch n).setG rd (mulResult f ((u.arch n).getG a) ((u.arch n).getG b))) none) ∧
    (∀ f wf rd a b v, s.admits n w (.trapArith f wf rd a b) u →
      trapResult f wf ((u.arch n).getG a) ((u.arch n).getG b) = some v →
      s.completes (.trappingArithmetic n w) n w u ((u.arch n).setG rd v) none) ∧
    (∀ f rd a b q r, s.admits n w (.div f rd a b) u →
      divResult f ((u.arch n).getG a) ((u.arch n).getG b) = .ok q r →
      s.completes (.divide n w) n w u (((u.arch n).setG rd q).setG (rd + 1) r) none) ∧
    (∀ acc, s.admits n w (.accz acc) u →
      s.completes (.accumulatorTransfer n w) n w u ((u.arch n).setAcc acc 0) none) ∧
    (∀ hi rd acc, s.admits n w (.mfa hi rd acc) u →
      s.completes (.accumulatorTransfer n w) n w u
        ((u.arch n).setG rd (((u.arch n).getAcc acc).extractLsb' (if hi then 64 else 0) 64)) none) ∧
    (∀ hi acc a, s.admits n w (.mta hi acc a) u →
      s.completes (.accumulatorTransfer n w) n w u
        ((u.arch n).setAcc acc
          (if hi then (u.arch n).getG a ++ ((u.arch n).getAcc acc).extractLsb' 0 64
           else ((u.arch n).getAcc acc).extractLsb' 64 64 ++ (u.arch n).getG a)) none) ∧
    (∀ rd, s.admits n w (.ttest rd) u →
      s.completes (.ttest n w) n w u ((u.arch n).setG rd (BitVec.ofNat 64 ((u.arch n).sf srTXSTAT 2 4))) none)

/-- R53: G0 reads as zero whatever has been written, a write to it is discarded, and every other general register reads as
what was last written to it. -/
def Obligations.GeneralRegisters : Prop :=
  ∀ (a : Arch) (r q : Nat) (v : Word),
    a.getG 0 = 0 ∧ a.setG 0 v = a ∧ (r ≠ 0 → (a.setG r v).getG r = v) ∧ (q ≠ r → (a.setG r v).getG q = a.getG q)

/-- R74: shifts by register take their count from all 64 bits of RS2; the results of its table for every count, in the
64-bit form and in the W form on bits [31:0]; the count of an immediate shift is below the limit. -/
def Obligations.ShiftsUseTheWholeCount : Prop :=
  (∀ (x c : Word),
    shiftResult .sll false x c.toNat = (if c.toNat < 64 then x <<< c.toNat else 0) ∧
    shiftResult .srl false x c.toNat = (if c.toNat < 64 then x >>> c.toNat else 0) ∧
    shiftResult .sra false x c.toNat =
      (if c.toNat < 64 then x.sshiftRight c.toNat else if x.msb then 0xFFFFFFFFFFFFFFFF else 0) ∧
    shiftResult .rol false x c.toNat = x.rotateLeft (c.toNat % 64) ∧
    shiftResult .ror false x c.toNat = x.rotateRight (c.toNat % 64)) ∧
  (∀ (x c : Word),
    shiftResult .sll true x c.toNat =
      (if c.toNat < 32 then x.setWidth 32 <<< c.toNat else (0 : BitVec 32)).signExtend 64 ∧
    shiftResult .srl true x c.toNat =
      (if c.toNat < 32 then x.setWidth 32 >>> c.toNat else (0 : BitVec 32)).signExtend 64 ∧
    shiftResult .sra true x c.toNat =
      (if c.toNat < 32 then (x.setWidth 32).sshiftRight c.toNat
       else if (x.setWidth 32).msb then 0xFFFFFFFF else (0 : BitVec 32)).signExtend 64 ∧
    shiftResult .rol true x c.toNat = ((x.setWidth 32).rotateLeft (c.toNat % 32)).signExtend 64 ∧
    shiftResult .ror true x c.toNat = ((x.setWidth 32).rotateRight (c.toNat % 32)).signExtend 64) ∧
  (∀ (s : State) (n len : Nat) (env : Env) (f : ShiftF) (wf : Bool) (rd a b : Nat),
    s.perform n len env (.shift f wf rd a b) =
      .ok (s.putG n rd (shiftResult f wf (s.gr n a) (s.gr n b).toNat)) {}) ∧
  (∀ (w : BitVec 32) (f : ShiftF) (wf : Bool) (rd a cnt : Nat), decodePuldo w = some (.shiftImm f wf rd a cnt) →
    cnt < if wf then 32 else 64)

/-- R76: a trapping form raises vector 0x0B exactly when its true result does not fit, and writes no register; otherwise
it writes the result. -/
def Obligations.TrappingFormsRaiseOverflow : Prop :=
  ∀ (s : State) (n len : Nat) (env : Env) (rd a b : Nat),
    let x := s.gr n a
    let y := s.gr n b
    let fits := fun (width : Nat) (i : Int) => -(2 ^ (width - 1) : Int) ≤ i ∧ i < (2 ^ (width - 1) : Int)
    let ends := fun (op : POp) (width : Nat) (r : Int) =>
      (fits width r → s.perform n len env op = .ok (s.putG n rd (BitVec.ofInt 64 r)) {}) ∧
      (¬ fits width r → s.perform n len env op = .exc s { vec := 0x0B })
    ends (.trapArith .addT false rd a b) 64 (x.toInt + y.toInt) ∧
    ends (.trapArith .subT false rd a b) 64 (x.toInt - y.toInt) ∧
    ends (.trapArith .addT true rd a b) 32 ((x.setWidth 32).toInt + (y.setWidth 32).toInt) ∧
    ends (.trapArith .subT true rd a b) 32 ((x.setWidth 32).toInt - (y.setWidth 32).toInt) ∧
    ends (.trapArith .negT false rd a 0) 64 (-x.toInt) ∧
    (s.perform n len env (.div .divT rd a b) = .exc s { vec := 0x0B } ↔
      x = 0x8000000000000000 ∧ y = 0xFFFFFFFFFFFFFFFF) ∧
    (s.perform n len env (.div .divwT rd a b) = .exc s { vec := 0x0B } ↔
      x.setWidth 32 = 0x80000000#32 ∧ y.setWidth 32 = 0xFFFFFFFF#32)

/-- R77: the quotient goes to RD and the remainder to RD + 1, truncated toward zero with the dividend's sign on the
remainder; the six forms with a check raise vector 0x0A on a zero divisor and write neither register; DIVZ and DIVZU
write quotient 0 and the dividend; DIV.T and DIVW.T look at the zero divisor first. -/
def Obligations.DivideResults : Prop :=
  ∀ (s : State) (n len : Nat) (env : Env) (rd a b : Nat),
    let x := s.gr n a
    let y := s.gr n b
    let x32 := x.setWidth 32
    let y32 := y.setWidth 32
    let writes := fun (f : DivF) (q r : Word) =>
      s.perform n len env (.div f rd a b) = .ok ((s.putG n rd q).putG n (rd + 1) r) {}
    let byZero := fun (f : DivF) => s.perform n len env (.div f rd a b) = .exc s { vec := 0x0A }
    (y = 0 → byZero .div ∧ byZero .divu ∧ byZero .divT ∧ writes .divz 0 x ∧ writes .divzu 0 x) ∧
    (y32 = 0 → byZero .divw ∧ byZero .divuw ∧ byZero .divwT) ∧
    (y ≠ 0 →
      writes .div (BitVec.ofInt 64 (x.toInt.tdiv y.toInt)) (BitVec.ofInt 64 (x.toInt.tmod y.toInt)) ∧
      writes .divz (BitVec.ofInt 64 (x.toInt.tdiv y.toInt)) (BitVec.ofInt 64 (x.toInt.tmod y.toInt)) ∧
      writes .divu (x / y) (x % y) ∧ writes .divzu (x / y) (x % y) ∧
      (¬ (x = 0x8000000000000000 ∧ y = 0xFFFFFFFFFFFFFFFF) →
        writes .divT (BitVec.ofInt 64 (x.toInt.tdiv y.toInt)) (BitVec.ofInt 64 (x.toInt.tmod y.toInt)))) ∧
    (y32 ≠ 0 →
      writes .divw ((BitVec.ofInt 32 (x32.toInt.tdiv y32.toInt)).signExtend 64)
        ((BitVec.ofInt 32 (x32.toInt.tmod y32.toInt)).signExtend 64) ∧
      writes .divuw ((x32 / y32).signExtend 64) ((x32 % y32).signExtend 64) ∧
      (¬ (x32 = 0x80000000#32 ∧ y32 = 0xFFFFFFFF#32) →
        writes .divwT ((BitVec.ofInt 32 (x32.toInt.tdiv y32.toInt)).signExtend 64)
          ((BitVec.ofInt 32 (x32.toInt.tmod y32.toInt)).signExtend 64)))

/-! ## Floating point (R111, R114, R123) -/

/-- R111 to R118: the floating-point instructions complete: the result of the operands under FPCR goes to the destination,
the flags are OR-ed into FPSR and may arm a trap, and nothing else changes; FTYPE, FSIGN and FBITS raise nothing. The
model's choices it rests on: log entries 7, 16, 17. -/
def Obligations.FloatingPointInstructionsComplete : Prop :=
  ∀ (n : Fin 64) (w : BitVec 32) (s u : State),
    let x := u.arch n
    let toF := fun (c : Instr) (rd : Nat) (r : Word × Nat) =>
      s.completes c n w u ((x.setF rd r.1).raiseFlags (s.arch n).pc r.2) none
    let toG := fun (c : Instr) (rd : Nat) (r : Word × Nat) =>
      s.completes c n w u ((x.setG rd r.1).raiseFlags (s.arch n).pc r.2) none
    (∀ f dbl rd a b, s.admits n w (.farith f dbl rd a b) u →
      toF (.fpArithmetic n w) rd (fpArith f dbl x.fctl (x.getF a) (x.getF b))) ∧
    (∀ f dbl rd a b c, s.admits n w (.fma f dbl rd a b c) u →
      toF (.fusedMultiplyAdd n w) rd (fpFma f dbl x.fctl (x.getF a) (x.getF b) (x.getF c))) ∧
    (∀ dbl rd a, s.admits n w (.fcvt .fmt dbl rd a) u →
      toF (.fpConvert n w) rd (fpConvert dbl x.fctl (x.getF a))) ∧
    (∀ f dbl rd a, (f = .toL ∨ f = .toLU ∨ f = .toW ∨ f = .toWU) → s.admits n w (.fcvt f dbl rd a) u →
      toG (.fpConvert n w) rd (fpToInt f dbl x.fctl (x.getF a))) ∧
    (∀ f dbl rd a, (f = .fromL ∨ f = .fromLU ∨ f = .fromW ∨ f = .fromWU) → s.admits n w (.fcvt f dbl rd a) u →
      toF (.fpConvert n w) rd (fpFromInt f dbl x.fctl (x.getG a))) ∧
    (∀ max dbl rd a b, s.admits n w (.fminmax max dbl rd a b) u →
      toF (.fminFmax n w) rd
        (fResult dbl (fMinMax (fmtOf dbl) max (x.cmpOperand dbl a) (x.cmpOperand dbl b)).1,
         (fMinMax (fmtOf dbl) max (x.cmpOperand dbl a) (x.cmpOperand dbl b)).2)) ∧
    (∀ c dbl rd a b, s.admits n w (.fcmp c dbl rd a b) u →
      toG (.fcmp n w) rd
        (BitVec.ofNat 64 (fCompare (fmtOf dbl) c (x.cmpOperand dbl a) (x.cmpOperand dbl b)).1,
         (fCompare (fmtOf dbl) c (x.cmpOperand dbl a) (x.cmpOperand dbl b)).2)) ∧
    (∀ dbl rd a, s.admits n w (.ftype dbl rd a) u →
      s.completes (.ftype n w) n w u (x.setG rd (BitVec.ofNat 64 (fClass (fmtOf dbl) (fOperand dbl (x.getF a))))) none) ∧
    (∀ f dbl rd a b, (f = .signC ∨ f = .signN ∨ f = .signX) → s.admits n w (.fbit f dbl rd a b) u →
      s.completes (.fpBitMove n w) n w u (x.setF rd (fpBits f dbl (x.getF a) (x.getF b))) none) ∧
    (∀ dbl rd a b, s.admits n w (.fbit .bitsG dbl rd a b) u →
      s.completes (.fpBitMove n w) n w u (x.setG rd (fpBits .bitsG dbl (x.getF a) 0)) none) ∧
    (∀ dbl rd a b, s.admits n w (.fbit .bitsF dbl rd a b) u →
      s.completes (.fpBitMove n w) n w u (x.setF rd (fpBits .bitsF dbl (x.getG a) 0)) none)

/-- R123: an instruction at `pc` that raises flags ORs them into FPSR; with an enabled one among them it arms a trap
(TPEND, FPTRAP_PC, TCAUSE) when none is armed, and only sets TMULT when one is; with none enabled it arms nothing.
Writing FPCR, the enable bits included, arms nothing. -/
def Obligations.EnabledFlagsArmATrap : Prop :=
  (∀ (a : Arch) (pc : Word) (flags : Nat), flags < 32 →
    (a.raiseFlags pc flags).sf srFPSR 0 5 = a.sf srFPSR 0 5 ||| flags ∧
    (∀ r, r ≠ srFPSR → r ≠ srFPTRAP_PC → (a.raiseFlags pc flags).getS r = a.getS r) ∧
    (flags &&& a.sf srFPCR 4 5 ≠ 0 → a.sf srFPSR 5 1 = 0 →
      (a.raiseFlags pc flags).sf srFPSR 5 1 = 1 ∧ (a.raiseFlags pc flags).getS srFPTRAP_PC = pc ∧
      (a.raiseFlags pc flags).sf srFPSR 8 5 = flags &&& a.sf srFPCR 4 5 ∧
      (a.raiseFlags pc flags).sf srFPSR 6 1 = a.sf srFPSR 6 1) ∧
    (flags &&& a.sf srFPCR 4 5 ≠ 0 → a.sf srFPSR 5 1 = 1 →
      (a.raiseFlags pc flags).sf srFPSR 6 1 = 1 ∧ (a.raiseFlags pc flags).sf srFPSR 5 1 = 1 ∧
      (a.raiseFlags pc flags).getS srFPTRAP_PC = a.getS srFPTRAP_PC ∧
      (a.raiseFlags pc flags).sf srFPSR 8 5 = a.sf srFPSR 8 5) ∧
    (flags &&& a.sf srFPCR 4 5 = 0 →
      (a.raiseFlags pc flags).sf srFPSR 5 8 = a.sf srFPSR 5 8 ∧
      (a.raiseFlags pc flags).getS srFPTRAP_PC = a.getS srFPTRAP_PC)) ∧
  (∀ (a : Arch) (level : Nat) (v : Word),
    (a.writeSr srFPCR level v).getS srFPSR = a.getS srFPSR ∧
    (a.writeSr srFPCR level v).getS srFPTRAP_PC = a.getS srFPTRAP_PC)

/-- R131: an MTS to PSW at a level leaves LEVEL and every field whose write level lies above it as they stood, and gives
every other field the value written; no exception is raised, and it is context-synchronizing. -/
def Obligations.MtsToPsw : Prop :=
  ∀ (s : State) (n len : Nat) (env : Env) (a : Nat),
    let old := (s.arch n).getS srPSW
    let level := (s.arch n).level
    ∃ t d, s.perform n len env (.mts srPSW a) = .ok t d ∧ d.alone = true ∧
      let new := (t.arch n).getS srPSW
      bits new 0 2 = bits old 0 2 ∧
      bits new 5 2 = bits (s.gr n a) 5 2 ∧
      bits new 2 2 = (if 2 ≤ level then bits (s.gr n a) 2 2 else bits old 2 2) ∧
      bits new 4 1 = (if level = 3 then bits (s.gr n a) 4 1 else bits old 4 1)

/-- R71, R161, R168: an access of a core at M to a line that stands in the L2 of its position. A fetch changes nothing; a
load answers the line's bytes, with the stores that the core sees before the domain does laid over them, and changes
nothing; a store retires its bytes, at the address that the access names, into the core's group and changes nothing
else. The model's choices it rests on: log entries 18, 24. -/
def Obligations.HeldLineAccesses : Prop :=
  ∀ (s : State) (n : Fin 64) (line size : Nat) (va : Word) (data bytes : List Byte),
    s.holdsLine n line data → va.toNat / 128 = line % 2 ^ 37 → 0 < size → va.toNat % 128 + size ≤ 128 →
    (va.toNat % 2 = 0 → s.fetchParcel n 3 va = .ok s ()) ∧
    s.loadBytes n (s.acc n .load size) va =
      .ok s (s.overlay n (line * 128 + va.toNat % 128) ((data.drop (va.toNat % 128)).take size)) ∧
    (bytes.length = size → s.storeBytes n (s.acc n .store size) va bytes =
      .ok (s.putFresh n [⟨.cached, line * 128 + va.toNat % 128, bytes, 3, s.zoneOf n⟩]) ())

/-- R54, R161, R168, R171, R172, R209: LOAD, LD_A, LD_Q_A, FP_LOAD_STORE, STORE, ST_R, CAS, CAS_Q and ZERO_L complete
wherever their access passes: a load writes the bytes it read, extended as its form says (FLD.S boxed), and no other
register; a store writes no register and retires the low bytes of its operand; CAS and CAS.Q write the old value.
Beyond what the access itself leaves nothing changes but the core. The model's choices it rests on: log entries 16,
17, 19, 22. -/
def Obligations.LoadsAndStoresComplete : Prop :=
  ∀ (n : Fin 64) (w : BitVec 32) (s u v : State) (d : List Byte),
    (∀ size sext rd a imm, s.admits n w (.load size sext rd a imm) u →
      u.loadBytes n (u.acc n .load (2 ^ size)) ((u.arch n).getG a + BitVec.ofInt 64 imm) = .ok v d →
      s.completes (.load n w .none) n w v ((v.arch n).setG rd (loadValue size sext d)) none) ∧
    (∀ size rd a, s.admits n w (.ldA size rd a) u →
      u.loadBytes n (u.acc n .load (2 ^ size) true) ((u.arch n).getG a) = .ok v d →
      s.completes (.ldA n w) n w v ((v.arch n).setG rd (BitVec.ofNat 64 (leNat d))) none) ∧
    (∀ rd a, s.admits n w (.ldQA rd a) u → u.loadQ n (u.acc n .ldQ 16 true) ((u.arch n).getG a) = .ok v d →
      s.completes (.ldQA n w) n w v (((v.arch n).setG rd (BitVec.ofNat 64 (leNat (d.take 8)))).setG (rd + 1)
        (BitVec.ofNat 64 (leNat (d.drop 8)))) none) ∧
    (∀ dbl rd a imm, s.admits n w (.fload dbl rd a imm) u →
      u.loadBytes n (u.acc n .load (if dbl then 8 else 4)) ((u.arch n).getG a + BitVec.ofInt 64 imm) = .ok v d →
      s.completes (.fpLoadStore n w) n w v
        ((v.arch n).setF rd (if dbl then BitVec.ofNat 64 (leNat d) else box32 (leNat d))) none) ∧
    (∀ size b a imm, s.admits n w (.store size b a imm) u →
      u.storeBytes n (u.acc n .store (2 ^ size)) ((u.arch n).getG a + BitVec.ofInt 64 imm)
        (leBytes (2 ^ size) ((u.arch n).getG b).toNat) = .ok v () →
      s.completes (.store n w) n w v (v.arch n) none) ∧
    (∀ dbl b a imm, s.admits n w (.fstore dbl b a imm) u →
      u.storeBytes n (u.acc n .store (if dbl then 8 else 4)) ((u.arch n).getG a + BitVec.ofInt 64 imm)
        (leBytes (if dbl then 8 else 4) ((u.arch n).getF b).toNat) = .ok v () →
      s.completes (.fpLoadStore n w) n w v (v.arch n) none) ∧
    (∀ size a b, s.admits n w (.stR size a b) u →
      u.storeBytes n (u.acc n .store (2 ^ size) true) ((u.arch n).getG a) (leBytes (2 ^ size) ((u.arch n).getG b).toNat) =
        .ok v () →
      s.completes (.stR n w) n w v (v.arch n) none) ∧
    (∀ size rd a b, s.admits n w (.cas size rd a b) u →
      u.casBytes n (u.acc n .cas (2 ^ size) true) ((u.arch n).getG a) (leBytes (2 ^ size) ((u.arch n).getG rd).toNat)
        (leBytes (2 ^ size) ((u.arch n).getG b).toNat) = .ok v d →
      s.completes (.cas n w) n w v ((v.arch n).setG rd (BitVec.ofNat 64 (leNat d))) none) ∧
    (∀ rd a b, s.admits n w (.casQ rd a b) u →
      u.casBytes n (u.acc n .casQ 16 true) ((u.arch n).getG a) (u.pair16 n rd) (u.pair16 n b) = .ok v d →
      s.completes (.casQ n w) n w v (((v.arch n).setG rd (BitVec.ofNat 64 (leNat (d.take 8)))).setG (rd + 1)
        (BitVec.ofNat 64 (leNat (d.drop 8)))) none) ∧
    (∀ a ps, s.admits n w (.zeroL a) u →
      u.check n (u.acc n .zero 128) ((u.arch n).getG a &&& 0xFFFFFFFFFFFFFF80) = .ok v ps → v.inTx n = false →
      s.completes (.zeroL n w) n w (v.putFresh n (ps.flatMap (fun p =>
        (p.stores (u.arch n).level (v.zoneOf n) (List.replicate 128 0)).map (fun st =>
          if v.mntForm (v.coreTile n) == 2 && st.kind == .cached then { st with kind := .bulk } else st)))) (v.arch n) none)

/-- R95, R96, R100 to R105: MACD and the five packed-decimal instructions complete wherever their accesses pass: MACD adds
its lane products to the accumulator and advances both address registers by 8, once where they are one register; a
decimal instruction whose operands are valid and whose result exists stores it into operand 1 (DCMPP stores nothing)
and writes COND, bits [17:16] of the length register. The model's choices it rests on: log entries 16, 17. -/
def Obligations.MacdAndDecimalComplete : Prop :=
  ∀ (n : Fin 64) (w : BitVec 32) (s u v v2 : State),
    (∀ ty acc a b p q, s.admits n w (.macd ty acc a b) u →
      u.loadBytes n (u.acc n .macd 8) ((u.arch n).getG a) = .ok v p →
      v.loadBytes n (u.acc n .macd 8) ((u.arch n).getG b) false = .ok v2 q →
      let x := v2.arch n
      let r := x.macdResult ty (x.getAcc acc) p q
      let x1 := (x.setAcc acc r.1).setG a (x.getG a + 8)
      s.completes (.macd n w) n w v2
        ((if a = b then x1 else x1.setG b (x.getG b + 8)).raiseFlags x.pc r.2) none ∧
      (ty ≠ 2 → r.1 = x.getAcc acc + BitVec.ofInt 128 (macdSum (ty + 1) (8 / (ty + 1)) (leNat p) (leNat q)))) ∧
    (∀ f rl a b x y ps out c, s.admits n w (.dec f rl a b) u →
      let l1 := bits ((u.arch n).getG rl) 0 4 + 1
      let l2 := bits ((u.arch n).getG rl) 8 4 + 1
      u.decOperands n f l1 l2 ((u.arch n).getG a) ((u.arch n).getG b) = .ok v (x, y, ps) →
      decValid x = true → decValid y = true → decCompute f l1 l2 (decValue x) (decValue y) = some (out, c) →
      (∀ bytes, out = some bytes →
        v.storeParts n (u.acc n .decStore l1) ((u.arch n).getG a) ps bytes = .ok v2 ()) → (out = none → v2 = v) →
      s.completes (match f with
        | .addp => .daddp n w | .subp => .dsubp n w | .mulp => .dmulp n w | .divp => .ddivp n w | .cmpp => .dcmpp n w)
        n w v2 ((v2.arch n).setG rl (putBits ((v2.arch n).getG rl) 16 2 c)) none)

/-- R49, R80, R84, R85, R89, R60: COMPARE_AND_BRANCH, B, JR, CALL, CALLR, RET, LOOP and NOP complete: control passes to
the target, or to the next instruction where a branch is not taken; a call pushes the address of the next instruction
at SP − 8 and RET pops it; LOOP with a count sets LC, LB and LE and enters the body, and with none skips to the
instruction after LE. The model's choices it rests on: log entries 16, 17. -/
def Obligations.ControlTransfersComplete : Prop :=
  ∀ (n : Fin 64) (w : BitVec 32) (s u v v2 : State),
    let x := u.arch n
    (∀ c a b off, s.admits n w (.branch c a b off) u →
      s.completes (.compareAndBranch n w) n w u x
        (if condHolds c (x.getG a) (x.getG b) then some (x.pc + BitVec.ofInt 64 off) else none)) ∧
    (∀ off, s.admits n w (.b off) u → s.completes (.b n w) n w u x (some (x.pc + BitVec.ofInt 64 off))) ∧
    (∀ a imm, s.admits n w (.jr a imm) u → bit (x.getG a + BitVec.ofInt 64 imm) 0 = false →
      s.completes (.jr n w) n w u x (some (x.getG a + BitVec.ofInt 64 imm))) ∧
    (∀ off ps, s.admits n w (.call off) u → u.checkSlot n true (x.getG 31 - 8) = .ok v ps →
      v.storeParts n (u.acc n .push 8) (x.getG 31 - 8) ps (leBytes 8 (x.pc + BitVec.ofNat 64 (insnLen w)).toNat) =
        .ok v2 () →
      s.completes (.call n w) n w v2 ((v2.arch n).setG 31 (x.getG 31 - 8)) (some (x.pc + BitVec.ofInt 64 off))) ∧
    (∀ a imm ps, s.admits n w (.callr a imm) u → bit (x.getG a + BitVec.ofInt 64 imm) 0 = false →
      u.checkSlot n true (x.getG 31 - 8) = .ok v ps →
      v.storeParts n (u.acc n .push 8) (x.getG 31 - 8) ps (leBytes 8 (x.pc + BitVec.ofNat 64 (insnLen w)).toNat) =
        .ok v2 () →
      s.completes (.callr n w) n w v2 ((v2.arch n).setG 31 (x.getG 31 - 8)) (some (x.getG a + BitVec.ofInt 64 imm))) ∧
    (∀ ps d, s.admits n w .ret u → u.checkSlot n false (x.getG 31) = .ok v ps →
      v.loadParts n (u.acc n .pop 8) (x.getG 31) ps true false = .ok v2 d → bit (BitVec.ofNat 64 (leNat d)) 0 = false →
      s.completes (.ret n w) n w v2 ((v2.arch n).setG 31 (x.getG 31 + 8)) (some (BitVec.ofNat 64 (leNat d)))) ∧
    (∀ a off tail, s.admits n w (.loop a off) u →
      let y := ((x.setS srLC (x.getG a)).setS srLB (x.pc + 4)).setS srLE (x.pc + BitVec.ofNat 64 off)
      (x.getG a ≠ 0 → ∃ t, exec (.loop n w tail) s = .next t ∧
        t.arch n = { y with pc := x.pc + BitVec.ofNat 64 (insnLen w) } ∧ u.onlyCore n t) ∧
      (x.getG a = 0 → u.fetchParcel n x.level (x.pc + BitVec.ofNat 64 off) = .ok v () → ∃ t,
        exec (.loop n w tail) s = .next t ∧ v.onlyCore n t ∧
        t.arch n = { y with pc := x.pc + BitVec.ofNat 64 off + (if tail.toNat / 2 ^ 13 = 7 then 4 else 2) })) ∧
    (s.admits n w .nop u → s.completes (.nop n w) n w u x none)

/-! ## System and transaction instructions -/

/-- R57, R58, R70, R131, R146, R150, R166, R175: MFS, MTS, RFE, WAIT, FSYNC, ISYNC, the fences and the TLB instructions
complete. MFS writes the register read; MTS the bits of the special register that its level may write, LC among them;
RFE whose checks pass restores PSW[6:0] and goes to EPC; WAIT leaves the core waiting; a fence completes once what it
waits for has drained, and at once in a transaction; a TLB instruction completes once the zone's stores have drained,
and where no other core has a transaction open no TLB holds an entry it names. Nothing else but the core changes. The
model's choices it rests on: log entries 16, 17, 21. -/
def Obligations.SystemInstructionsComplete : Prop :=
  ∀ (n : Fin 64) (w : BitVec 32) (s u v : State),
    let x := u.arch n
    (∀ rd num, s.admits n w (.mfs rd num) u → s.completes (.mfs n w) n w u (x.setG rd (u.readSr n num)) none) ∧
    (∀ num a, s.admits n w (.mts num a) u →
      (num ≠ srLC → s.completes (.mts n w) n w u (x.writeSr num x.level (x.getG a)) none) ∧
      (num = srLC → ∃ t, exec (.mts n w) s = .next t ∧ u.onlyCore n t ∧
        t.arch n = { x.setS srLC (x.getG a) with pc := (s.arch n).nextPc (insnLen w) none })) ∧
    (s.admits n w .rfe u → rfeRefused x.level (BitVec.ofNat 64 (bits (x.getS (srESTAT x.level)) 32 7)) (x.getS srPSW) = false →
      bit (x.getS (srEPC x.level)) 0 = false →
      s.completes (.rfe n w) n w u
        (x.setS srPSW (putBits (x.getS srPSW) 0 7 (bits (x.getS (srESTAT x.level)) 32 7))) (some (x.getS (srEPC x.level)))) ∧
    (s.admits n w .wait u → ∃ t, exec (.wait n w) s = .next t ∧ (t.core n).waiting = true ∧ u.onlyCore n t ∧
      t.arch n = (s.arch n).steps x (insnLen w) none) ∧
    (s.admits n w .fsync u → s.completes (.fsync n w) n w u x none) ∧
    (s.admits n w .isync u → s.completes (.isync n w) n w u x none) ∧
    (∀ f, s.admits n w (.fence f) u →
      let c : Instr := match f with
        | .c => .fenceC n w
        | .l => .fenceL n w
        | .s => .fenceS n w
      (u.inTx n = true → s.completes c n w u x none) ∧
      (u.inTx n = false → (if f = .l then u.drainLocal n else u.drainAll n) = (v, true) →
        s.completes c n w v (v.arch n) none)) ∧
    (∀ f a b, s.admits n w (.tlbi f a b) u →
      let c : Instr := match f with
        | .va => .tlbiVa n w
        | .asid => .tlbiAsid n w
        | .s1all => .tlbiS1all n w
        | .gpa => .tlbiGpa n w
        | .vmid => .tlbiVmid n w
        | .all => .tlbiAll n w
      u.drainZone (u.zoneOf n) = (v, true) → (∀ m, m ≠ n.val → (v.core m).tx = none) → ∃ t, exec c s = .next t ∧
        t.arch n = (s.arch n).steps (v.arch n) (insnLen w) none ∧
        (∀ m, m < 64 → ∀ e ∈ (t.core m).tlb,
          tlbiHits f (u.zoneOf n) (bits (x.getS srTTB_H) 4 8) (x.getG a) (x.getG b) e = false) ∧
        (∀ e ∈ t.ioTlb, tlbiIoHits f (u.zoneOf n) (x.getG a) (x.getG b) e = false) ∧
        t.mem = v.mem ∧ (∀ m, m ≠ n.val → t.arch m = v.arch m))

/-- R183 to R186, R194: TBEGIN, TBEGINB, TCOMMIT and TABORT complete. Outside a transaction TBEGIN opens one once earlier
stores have drained, and TBEGINB a bounded one, with the registers as they stood recorded, the handler at PC plus the
offset, depth 1; TCOMMIT and TABORT do nothing there. Inside, TBEGIN of a transaction that is not bounded nests, up to
depth 15; TCOMMIT takes one level off and at depth 1 makes the writes visible; TABORT restores the registers recorded,
goes to the handler and reports code 0x01 with the low byte of its operand. The model's choices it rests on: log
entries 16, 17, 20. -/
def Obligations.TransactionInstructionsComplete : Prop :=
  ∀ (n : Fin 64) (w : BitVec 32) (s u v : State),
    let x := u.arch n
    (∀ off, s.admits n w (.tbegin off) u → (u.core n).tx = none → u.drainAll n = (v, true) → ∃ t y,
      exec (.tbegin n w) s = .next t ∧ (t.core n).tx = some y ∧ y.bounded = false ∧ y.saved = v.arch n ∧
      y.handler = (v.arch n).pc + BitVec.ofInt 64 off ∧ y.reads = [] ∧ y.writes = [] ∧ v.onlyCore n t ∧
      (t.arch n).sf srTXSTAT 0 1 = 1 ∧ (t.arch n).sf srTXSTAT 2 4 = 1 ∧ t.mem = v.mem) ∧
    (∀ off, s.admits n w (.tbeginb off) u → (u.core n).tx = none → (u.core n).lastTb = none → ∃ t y,
      exec (.tbeginb n w) s = .next t ∧ (t.core n).tx = some y ∧ y.bounded = true ∧ y.escal = false ∧ y.saved = x ∧
      y.handler = x.pc + BitVec.ofInt 64 off ∧ (t.arch n).sf srTXSTAT 1 1 = 1 ∧ (t.arch n).sf srTXSTAT 2 4 = 1 ∧
      (t.arch n).sf srTXSTAT 32 4 = 0 ∧ u.onlyCore n t) ∧
    (∀ off y, s.admits n w (.tbegin off) u → (u.core n).tx = some y → y.bounded = false → x.sf srTXSTAT 2 4 < 15 →
      s.completes (.tbegin n w) n w u (x.setSf srTXSTAT 2 4 (x.sf srTXSTAT 2 4 + 1)) none) ∧
    (s.admits n w .tcommit u →
      ((u.core n).tx = none → s.completes (.tcommit n w) n w u x none) ∧
      (∀ y, (u.core n).tx = some y → 1 < x.sf srTXSTAT 2 4 →
        s.completes (.tcommit n w) n w u (x.setSf srTXSTAT 2 4 (x.sf srTXSTAT 2 4 - 1)) none) ∧
      (∀ y, (u.core n).tx = some y → x.sf srTXSTAT 2 4 ≤ 1 → u.drainAll n = (v, true) → v.inTx n = true →
        s.completes (.tcommit n w) n w (v.commitTx n y) ((v.commitTx n y).arch n) none ∧
        ((v.commitTx n y).core n).tx = none)) ∧
    (∀ a, s.admits n w (.tabort a) u →
      ((u.core n).tx = none → s.completes (.tabort n w) n w u x none) ∧
      (∀ y, (u.core n).tx = some y → u.trapArmed n = false → ∃ t, exec (.tabort n w) s = .next t ∧ (t.core n).tx = none ∧
        (t.arch n).pc = y.handler ∧ (∀ r, (t.arch n).getG r = y.saved.getG r) ∧ (∀ r, (t.arch n).getF r = y.saved.getF r) ∧
        (t.arch n).sf srTXSTAT 8 8 = 0x01 ∧ (t.arch n).sf srTXSTAT 16 8 = bits (x.getG a) 0 8 ∧
        (t.arch n).sf srTXSTAT 2 4 = 0 ∧ (∀ m, m ≠ n.val → t.core m = u.core m) ∧ t.mem = u.mem))

/-! ## Exceptions (R133 to R149) -/

/-- R133, R134, R137: SVC, HVC, MCALL and BRK take their exceptions: the core enters the level of Table 6.2 at the handler
of its vector, with EPC the next instruction (BRK: its own address) and PARCEL its first parcel. Nothing else but the
core changes beyond what the reads of the vector block leave. The model's choices it rests on: log entries 16, 17. -/
def Obligations.CallsTakeTheirException : Prop :=
  ∀ (n : Fin 64) (w : BitVec 32) (s u v : State) (h sp : Word) (ps : List Part) (op : POp) (c : Instr) (vec : Nat),
    ((∃ i, op = .svc i ∧ c = .svc n w ∧ vec = 0x10) ∨ (∃ i, op = .hvc i ∧ c = .hvc n w ∧ vec = 0x11) ∨
     (∃ i, op = .mcall i ∧ c = .mcall n w ∧ vec = 0x12) ∨ (∃ i, op = .brk i ∧ c = .brk n w ∧ vec = 0x13)) →
    s.admits n w op u → u.inTx n = false → u.trapArmed n = false →
    (u.dropKept n).enters n { vec := vec } v h sp ps →
    ∃ t, exec c s = .next t ∧
      t.arch n = (u.dropKept n).afterEntry n
        { exc := { vec := vec }, parcel := w.toNat % 2 ^ 16
          epc := if vec = 0x13 then (u.arch n).pc else (u.arch n).pc + BitVec.ofNat 64 (insnLen w) } v h sp ∧
      v.onlyCore n t

/-- R134, R137: an entry to a level writes ESTAT and EPC of that level, EADDR where Table 6.2 gives one, PC and PSW; from
a lower level it also loads G31. PSW takes the level, EB = 1 and SS = 0; at H and M also IE = AE = 0, and at M ME = 0.
Every other register keeps its value, but an FP Trap's entry clears TPEND. The model's choices it rests on: log entry
21. -/
def Obligations.EntryWritesTheLevel : Prop :=
  ∀ (a : Arch) (level : Nat) (t : Taken) (esc vfail : Bool) (h : Word) (sp : Option Word), 1 ≤ level → level ≤ 3 →
    let b := a.entered level t esc vfail h sp
    b.pc = h ∧ b.getS (srEPC level) = t.epc ∧
    (t.exc.vec < 64 → b.sf (srESTAT level) 0 6 = t.exc.vec ∧ b.sf (srESTAT level) 6 1 = b2n t.exc.stage2 ∧
      b.sf (srESTAT level) 7 1 = b2n esc ∧ b.sf (srESTAT level) 8 4 = t.exc.detail % 16) ∧
    (t.exc.vec < 64 → t.exc.detail < 16 → b.sf (srESTAT level) 12 1 = b2n t.exc.write ∧
      b.sf (srESTAT level) 13 1 = b2n vfail ∧ b.sf (srESTAT level) 16 16 = t.parcel % 2 ^ 16 ∧
      b.sf (srESTAT level) 32 7 = bits (a.getS srPSW) 0 7) ∧
    b.getS (srEADDR level) = (t.exc.eaddrOf.getD (a.getS (srEADDR level))) ∧
    b.level = level ∧ b.sf srPSW 6 1 = 1 ∧ b.sf srPSW 5 1 = 0 ∧
    (2 ≤ level → b.sf srPSW 2 2 = 0) ∧ (level < 2 → b.sf srPSW 2 2 = a.sf srPSW 2 2) ∧
    b.sf srPSW 4 1 = (if level = 3 then 0 else a.sf srPSW 4 1) ∧
    b.getG 31 = sp.getD (a.getG 31) ∧ (∀ r, r ≠ 31 → b.getG r = a.getG r) ∧ (∀ r, b.getF r = a.getF r) ∧
    (∀ r, b.getAcc r = a.getAcc r) ∧
    (∀ r, r ≠ srEPC level → r ≠ srESTAT level → r ≠ srEADDR level → r ≠ srPSW → r ≠ srFPSR → b.getS r = a.getS r) ∧
    (t.exc.vec ≠ 0x0E → b.getS srFPSR = a.getS srFPSR)

/-- R147: a refused RFE while EB = 0 whose handler word can be read leaves EPC, ESTAT and G31 as they stand, writes its
own address to EADDR, sets EB, clears SS and, at H and M, IE and AE, and branches to HANDLER[0x0F] of its own level.
The model's choices it rests on: log entries 16, 17. -/
def Obligations.ReturnViolationKeepsTheSavedState : Prop :=
  ∀ (n : Fin 64) (w : BitVec 32) (s u v : State) (h sp : Word) (ps : List Part),
    s.admits n w .rfe u → u.inTx n = false → u.trapArmed n = false →
    let a := u.arch n
    rfeRefused a.level (BitVec.ofNat 64 (bits (a.getS (srESTAT a.level)) 32 7)) (a.getS srPSW) = true →
    a.sf srPSW 6 1 = 0 →
    ((u.dropKept n).commitGroup n).vectorReads n a.level 0x0F false = .ok v (h, sp, ps) → bit h 0 = false → v.arch n = a →
    ∃ t, exec (.rfe n w) s = .next t ∧ v.onlyCore n t ∧
      let b := t.arch n
      b.pc = h ∧ b.getS (srEADDR a.level) = a.pc ∧ b.level = a.level ∧ b.sf srPSW 6 1 = 1 ∧ b.sf srPSW 5 1 = 0 ∧
      (2 ≤ a.level → b.sf srPSW 2 2 = 0) ∧ (a.level < 2 → b.sf srPSW 2 2 = a.sf srPSW 2 2) ∧
      b.sf srPSW 4 1 = a.sf srPSW 4 1 ∧ (∀ r, b.getG r = a.getG r) ∧
      (∀ r, r ≠ srEADDR a.level → r ≠ srPSW → b.getS r = a.getS r)

/-- R142: a late store error goes to the lowest-numbered empty entry of LSE_LOG, and no occupied entry changes; with all
four occupied OVF is set and no entry changes. An Asynchronous Store Error becomes pending (R143). -/
def Obligations.LateErrorsFillTheLog : Prop :=
  ∀ (s : State) (n reason zone pa : Nat), 1 ≤ reason → reason < 8 →
    let a := s.arch n
    let b := (s.logLate n reason zone pa).arch n
    ((s.logLate n reason zone pa).core n).ase = true ∧
    (∀ r, (r < srLSE_LOG ∨ srLSE_LOG + 3 < r) → b.getS r = a.getS r) ∧
    (∀ i, i < 4 → (∀ j, j < i → a.sf (srLSE_LOG + j) 0 3 ≠ 0) → a.sf (srLSE_LOG + i) 0 3 = 0 →
      b.sf (srLSE_LOG + i) 0 3 = reason ∧ b.sf (srLSE_LOG + i) 4 8 = zone % 256 ∧
      b.sf (srLSE_LOG + i) 12 52 = pa / 256 % 2 ^ 52 ∧ b.sf (srLSE_LOG + i) 3 1 = a.sf (srLSE_LOG + i) 3 1 ∧
      (∀ j, j < 4 → j ≠ i → b.getS (srLSE_LOG + j) = a.getS (srLSE_LOG + j))) ∧
    ((∀ i, i < 4 → a.sf (srLSE_LOG + i) 0 3 ≠ 0) →
      b.sf srLSE_LOG 3 1 = 1 ∧ (∀ i, i < 4 → b.sf (srLSE_LOG + i) 0 3 = a.sf (srLSE_LOG + i) 0 3 ∧
        b.sf (srLSE_LOG + i) 4 60 = a.sf (srLSE_LOG + i) 4 60))

/-- R139, R144, R149: the five events at a boundary complete where they are the first that applies and no transaction is
open: the core enters the event's level at its handler with EPC the instruction at which it stood, and what was
delivered is no longer pending. R42, R44, R141, R196, R247, R475: RETIREMENT_GROUP_COMMIT takes the Wafer and gives
the group's stores to the store buffer; REGISTER_LOAD_TIMEOUT of a load that has no response takes Machine Check with
DETAIL 0x1 precisely; REGISTER_STORE_TIMEOUT drops the oldest store and records reason 2; FABRIC_TIMEOUT ends its
request, and lets the store that made it go; ESCALATED_GATHER_RESTART begins the gather again, still escalated;
DEBUG_STEP_CMD on a halted core lets the instruction at its PC retire. The model's choices it rests on: log entries 2,
17, 22. -/
def Obligations.CoreEventsComplete : Prop :=
  (∀ (n : Fin 64) (s v : State) (h sp : Word) (ps : List Part) (ev : BoundaryEvent) (c : Instr),
     c = (match ev with
       | .fpTrap => Instr.fpTrap n
       | .machineCheck => .machineCheckAsync n
       | .storeError => .asynchronousStoreError n
       | .debugStep => .debugStep n
       | .interrupt => .externalInterrupt n) →
     s.powered = true → s.coreReady n = true → (s.core n).owed = none → (s.core n).haltDue = false →
     (s.core n).waiting = false → s.dueEvent n false = some ev → s.inTx n = false →
     s.enters n (s.eventExc n ev) v h sp ps →
     ∃ t, exec c s = .next t ∧
       t.arch n = s.afterEntry n { exc := s.eventExc n ev, epc := (s.arch n).pc, parcel := 0 } v h sp ∧
       (ev = .machineCheck → (t.core n).mc = (v.core n).mc.drop 1) ∧ (ev = .storeError → (t.core n).ase = false) ∧
       (ev = .debugStep → (t.core n).stepPending = false) ∧ t.mem = v.mem) ∧
  (∀ (n : Fin 64) (s : State), s.powered = true →
     (s.coreIssues n = true → (s.core n).group ≠ 0 → ∃ t, exec (.retirementGroupCommit n) s = .next t ∧ s.onlyCore n t ∧
       t.arch n = s.arch n ∧ (t.core n).wafer = s.arch n ∧ (t.core n).stores = (s.core n).stores ++ (s.core n).fresh ∧
       (t.core n).fresh = [] ∧ (t.core n).group = 0) ∧
     (∀ w op u v x v2 h sp ps, s.admits n w op u → s.loadsRegister n op = true →
       u.perform n (insnLen w) { silent := true } op = .exc v { vec := 0, detail := 1, eaddr := x } → v.inTx n = false →
       v.trapArmed n = false → (v.dropKept n).enters n { vec := 0, detail := 1, eaddr := x } v2 h sp ps →
       ∃ t, exec (.registerLoadTimeout n w) s = .next t ∧ v2.onlyCore n t ∧
         t.arch n = (v.dropKept n).afterEntry n
           { exc := { vec := 0, detail := 1, eaddr := x }, epc := (v.arch n).pc, parcel := w.toNat % 2 ^ 16 } v2 h sp) ∧
     (∀ st rest, (s.core n).stores = st :: rest → st.kind = .register → s.mode ≠ 10 → ∃ t,
       exec (.registerStoreTimeout n) s = .next t ∧ s.onlyCore n t ∧ (t.core n).stores = rest ∧ (t.core n).ase = true ∧
       ((s.arch n).sf srLSE_LOG 0 3 = 0 → (t.arch n).sf srLSE_LOG 0 3 = 2)) ∧
     (∀ (k : Fin 4) q, s.findRequest (s.coreTile n) (coreTxn n k) = some q → q.req.dest ≠ s.moduleId → q.refused = 0 →
       q.result = none → s.mode ≠ 10 →
       exec (.fabricTimeout n k) s = .next (if k = 1 ∨ k = 2
         then ((s.putRequest { q with refused := 3 }).drainHead (s.coreTile n)).1
         else s.putRequest { q with refused := 3 })) ∧
     (∀ x, (s.core n).tx = some x → x.gather ≠ [] → s.coreIssues n = true → ∃ t y,
       exec (.escalatedGatherRestart n) s = .next t ∧ (t.core n).tx = some y ∧ y.won = [] ∧
       y.gather = sortLines (((s.core n).lastTb.map (·.2)).getD []) ∧ y.escal = x.escal ∧ y.saved = x.saved ∧
       (∀ m, m ≠ n.val → t.core m = s.core m) ∧ t.mem = s.mem) ∧
     (∀ w, s.mayAccess .svc (bEse + 0x0B0) = true → s.accepts .svc ⟨.ese, 0⟩ 0x0B0 (BitVec.ofNat 64 (n.val + 0x300)) = true →
       (s.core n).halted = true →
       let s1 := regWrite .svc 8 (bEse + 0x0B0) (BitVec.ofNat 64 (n.val + 0x300)) s
       (s1.core n).stepGrant = true ∧
       ∀ op u v d, s1.admits n w op u → u.perform n (insnLen w) {} op = .ok v d →
         exec (.debugStepCmd n w) s = .next (v.retire n (s1.arch n) (insnLen w) d)))
/-! ## Zones and the Glaze (R154, R156) -/

/-- R154, R156, R523: a table write before the Glaze, outside a validation, stores the assigned bits of the word and
changes nothing else; after the Glaze no table word changes. ZT_GLAZE with its code starts the validation in
Initialization and records RESULT 0x8 elsewhere. The end of a validation clears BUSY; without a failing entry it sets
the Glaze, its digest and RESULT 0x1; with one it records the entry and leaves the Glaze unset. The model's choices it
rests on: log entry 2. -/
def Obligations.ZoneCommandsComplete : Prop :=
  (∀ (src : Src) (word : Fin 105984) (v m : Word) (s : State), s.powered = true → s.mode ≠ 10 →
    s.mayAccess src (0x31000 + 8 * word.val) = true → ztMask (0x31000 + 8 * word.val) = some m →
    (ztLegal (0x31000 + 8 * word.val) v = true → s.glazed = false → s.flag bZctl F.ZT_STAT_BUSY = false →
      exec (.zoneTableWrite src word v) s = .next (s.setReg (0x31000 + 8 * word.val) (v &&& m))) ∧
    (s.glazed = true → ∃ t, exec (.zoneTableWrite src word v) s = .next t ∧
      (∀ k : Fin 105984, t.reg (0x31000 + 8 * k.val) = s.reg (0x31000 + 8 * k.val)) ∧ t.mem = s.mem ∧ t.cores = s.cores)) ∧
  (∀ (src : Src) (v : Word) (s : State), s.powered = true → s.mode ≠ 10 → s.present zctlPage = true →
    s.mayAccess src (bZctl + 0x048) = true → s.glazed = false → s.flag bZctl F.ZT_STAT_BUSY = false →
    s.flag bZctl F.BUSY = false → bits v 0 16 = 0x6C7A →
    ∃ t, exec (.ztGlaze src v) s = .next t ∧
      (s.mode = 3 → t.flag bZctl F.ZT_STAT_BUSY = true) ∧
      (s.mode ≠ 3 → t.flag bZctl F.ZT_STAT_BUSY = false ∧ t.fld bZctl F.ZT_STAT_RESULT = 8) ∧
      t.glazed = false ∧ t.mem = s.mem ∧ t.cores = s.cores) ∧
  (∀ s : State, s.powered = true → s.mode = 3 → s.flag bZctl F.ZT_STAT_BUSY = true →
    ∃ t, exec .glazeValidationComplete s = .next t ∧ t.flag bZctl F.ZT_STAT_BUSY = false ∧ t.mem = s.mem ∧
      t.cores = s.cores ∧
      (s.validation = none → t.glazed = true ∧ t.flag bEse F.MODE_STAT_GLAZED = true ∧
        t.fld bZctl F.ZT_STAT_RESULT = 1 ∧ t.fld bZctl F.ZT_DIGEST_DIGEST = s.ztDigest % 2 ^ 32) ∧
      (∀ r k i, s.validation = some (r, k, i) → t.glazed = s.glazed ∧ t.fld bZctl F.ZT_STAT_RESULT = r % 16 ∧
        t.fld bZctl F.ZT_STAT_FAIL_TABLE = k % 16 ∧ t.fld bZctl F.ZT_STAT_FAIL_INDEX = i % 65536))

/-! ## Caches and the range engine (R202 to R212) -/

/-- R202, R204: a write of a cache's enables or way masks that is accepted stores them and leaves every cache as it is. At
the maintenance boundary a cache that is enabled comes on with the masks asked for, and one that is no longer enabled
queues its disable flush; when that ends the cache is off, its L1s with it, and when a drain ends its ways are empty
and the engine goes on to the next job. R211, R212: a GO that is accepted and may start makes its operation, as
RNG_CTL, RNG_BASE and RNG_LEN stand, the one in progress, with BUSY = 1, OWNER = 1 and DONE = 0; one that may not
start records its RESULT and starts nothing. ABORT marks a software operation to stop and leaves a flush or drain
alone. The completion sets DONE and RESULT: 2 after an abort, else 1, or 5 where a line was poisoned. R207, R208: the
rebuild of a dirty tag counts it in TAGPE; where the shadow tag is lost too, every logical core of the position is
given an asynchronous Machine Check with DETAIL 0x4. A way that fails sets its WAY_FAIL bit and BLK_ERR.WAYFAIL; where
its cache is on and keeps two ways, the way is queued to be drained, and an L3 that keeps fewer is queued to be
disabled. The model's choices it rests on: log entries 2, 22, 26. -/
def Obligations.CacheCommandsComplete : Prop :=
  ((∀ (src : Src) (unit : Fin 44) (ways : Bool) (v : Word) (s : State), s.powered = true →
     s.mayAccess src (cacheReg unit ways) = true →
     s.accepts src (if unit.val < 40 then posPage unit.val else l3Page (unit.val - 40))
       (if unit.val < 40 then (if ways then 0x108 else 0x100) else (if ways then 0x048 else 0x040)) v = true →
     ∃ t, exec (.cacheEnableChange src unit ways v) s = .next t ∧
       (unit.val < 40 → ways = false → t.fld (bPos unit.val) F.CACHE_CTL_L2_EN = bits v 2 1 ∧
         t.fld (bPos unit.val) F.CACHE_CTL_L1I_EN = bits v 0 1 ∧ t.fld (bPos unit.val) F.CACHE_CTL_L1D_EN = bits v 1 1) ∧
       (unit.val < 40 → ways = true → t.fld (bPos unit.val) F.L2_WAYS_WAYS_A = bits v 0 16 ∧
         t.fld (bPos unit.val) F.L2_WAYS_WAYS_B = bits v 16 16) ∧
       (40 ≤ unit.val → ways = false → t.fld (bL3 (unit.val - 40)) F.L3_CTL_EN = bits v 0 1) ∧
       (40 ≤ unit.val → ways = true → t.fld (bL3 (unit.val - 40)) F.L3_WAYS_WAYS = bits v 0 16) ∧
       (∀ x, x ≠ cacheReg unit ways → t.reg x = s.reg x) ∧ t.tiles = s.tiles ∧ t.mem = s.mem ∧ t.cores = s.cores) ∧
   (∀ (t : Fin 4) (c : Fin 11) (s : State), s.powered = true → s.uncoreUp = true → s.missOut t c = false →
     (∀ j ∈ (s.tile t).jobs, j.owner ≠ 1 ∧ j.cache ≠ c.val) →
     (s.cacheEnabled t c = true → s.cacheOn t c = false → ∃ u, exec (.maintenanceBoundary t c) s = .next u ∧
       u.cacheOn t c = true ∧ u.waysInEffect t c = s.waysAsked t c ∧ u.mem = s.mem) ∧
     (s.cacheEnabled t c = false → s.cacheOn t c = true → (c.val = 10 ∨ s.pstate (10 * t + c) ≠ 3) → ∃ u,
       exec (.maintenanceBoundary t c) s = .next u ∧ u.cacheOn t c = true ∧ u.cacheClosing t c = true ∧
       u.cacheFlushing t c = true ∧ u.flag (bL3 t) F.RNG_STAT_BUSY = true ∧ u.mem = s.mem) ∧
     (s.cacheEnabled t c = s.cacheOn t c → ∃ u, exec (.maintenanceBoundary t c) s = .next u ∧
       u.waysInEffect t c = s.waysAsked t c ∧ u.cacheOn t c = s.cacheOn t c ∧ u.mem = s.mem)) ∧
   (∀ (t : Fin 4) (c : Fin 11) (j : RangeJob) (rest : List RangeJob) (s : State), s.powered = true →
     (s.tile t).jobs = j :: rest → j.cache = c.val →
     (j.owner = 2 → ∃ u, exec (.disableFlushComplete t c) s = .next u ∧ u.cacheOn t c = false ∧
       (c.val < 10 → u.flag (bPos (10 * t + c)) F.CACHE_STAT_L1I_ON = false ∧
         u.flag (bPos (10 * t + c)) F.CACHE_STAT_L1D_ON = false)) ∧
     (j.owner = 3 → exec (.wayDrainComplete t c) s = .next ((s.emptyWays t c j.ways).endJob t)))) ∧
  ((∀ (src : Src) (t : Fin 4) (s : State), s.powered = true → s.mayAccess src (bL3 t + 0x098) = true →
     (s.accepts src (l3Page t) 0x098 1 = true →
       (s.rngStartFault (s.rngAsked t) = none → ∃ u, exec (.rngGo src t) s = .next u ∧ (u.tile t).jobs = [s.rngAsked t] ∧
         u.flag (bL3 t) F.RNG_STAT_BUSY = true ∧ u.fld (bL3 t) F.RNG_STAT_OWNER = 1 ∧ u.fld (bL3 t) F.RNG_STAT_DONE = 0 ∧
         u.mem = s.mem ∧ u.cores = s.cores) ∧
       (∀ r, s.rngStartFault (s.rngAsked t) = some r → ∃ u, exec (.rngGo src t) s = .next u ∧ u.tiles = s.tiles ∧
         u.fld (bL3 t) F.RNG_STAT_RESULT = r ∧ u.fld (bL3 t) F.RNG_STAT_DONE = 0 ∧ u.mem = s.mem ∧ u.cores = s.cores)) ∧
     (s.accepts src (l3Page t) 0x098 2 = true → ∃ u, exec (.rngAbort src t) s = .next u ∧
       (u.tile t).jobs = (s.tile t).jobs.map (fun j => if j.owner = 1 then { j with abort := true } else j) ∧
       u.mem = s.mem ∧ u.cores = s.cores)) ∧
   (∀ (t : Fin 4) (done : BitVec 40) (j : RangeJob) (rest : List RangeJob) (s : State), s.powered = true →
     (s.tile t).jobs = j :: rest → j.owner = 1 → (j.all = true ∨ done.toNat = j.lines ∨ (j.abort = true ∧ done.toNat ≤ j.lines)) →
     (∀ c, c < 11 → s.flushAsked t c = true → s.missOut t c = false) →
     ∃ u, exec (.rangeOperationComplete t done) s = .next u ∧ u.fld (bL3 t) F.RNG_STAT_DONE = done.toNat ∧
       u.fld (bL3 t) F.RNG_STAT_RESULT = (if j.abort then 2 else if j.op = 3 then 1
         else if (s.rngPoisoned t j done.toNat).isEmpty then 1 else 5))) ∧
  ((∀ (p : Fin 40) (l3 rebuilt : Bool) (set : BitVec 16) (way : Fin 16) (e : CheckEvent) (s : State), s.powered = true →
     ((s.pos p).event0 = some e ∨ (s.pos p).event1 = some e) → e.source = 7 → e.frozen = true →
     ∃ t, exec (.tagRebuildComplete p l3 rebuilt set way) s = .next t ∧
       (rebuilt = true → l3 = false → t.fld (bPos p) F.CACHE_ERRCNT_TAGPE = satAdd 16 (s.fld (bPos p) F.CACHE_ERRCNT_TAGPE) 1) ∧
       (rebuilt = true → l3 = true →
         t.fld (bL3 (p / 10)) F.L3_ERRCNT_TAGPE = satAdd 16 (s.fld (bL3 (p / 10)) F.L3_ERRCNT_TAGPE) 1) ∧
       (rebuilt = true → t.cores = s.cores ∧ t.tiles = s.tiles ∧ t.mem = s.mem) ∧
       (rebuilt = false → ∀ n ∈ s.coresAt p, ∃ l, (t.core n).mc = l ++ [(4, 0)])) ∧
   (∀ (t : Fin 4) (c : Fin 11) (way : Fin 16) (s : State), s.powered = true → s.uncoreUp = true → s.mode ≠ 9 →
     (s.waysFailed t c).testBit way = false → (c.val < 10 →
       (s.setFld (bPos (10 * t + c)) F.CACHE_STAT_WAY_FAIL (s.waysFailed t c ||| 2 ^ way.val)).waysLeft t c = true) →
     ∃ u, exec (.wayFail t c way) s = .next u ∧ u.waysFailed t c = s.waysFailed t c ||| 2 ^ way.val ∧
       bit (u.reg ((if c.val < 10 then posPage (10 * t + c) else l3Page t).base + 0x020)) 9 = true ∧
       (s.cacheOn t c = true → ∃ j, (u.tile t).jobs = (s.tile t).jobs ++ [j] ∧ j.cache = c.val ∧
         (j.owner = 3 ∨ (j.owner = 2 ∧ c.val = 10))) ∧
       (s.cacheOn t c = false → u.tiles = s.tiles) ∧ u.mem = s.mem))

/-! ## Coherence and fabric (R213 to R244) -/

/-- R226, R227: requests of another member for a line that no agent holds. RD_S, RD_O and UPG enter the requester as owner
and send DATA with the line, state E and no ACKs to expect; OWN_Z enters it and sends CMP; RD_ONCE sends DATA_NC and
enters nothing; WR_LINE and WR_PART write memory and send CMP; CAS_NC sends the old line and writes where the compare
holds. The mark of a transactional request (R228) and the reservation of an escalated one (R229) are entered. R226,
R227: a line that member `k` owns, requested by another member. RD_S forwards FWD_S to `k`, makes the requester the
Forwarder and keeps `k` as a sharer; RD_O and UPG forward FWD_O and enter the requester as owner; RD_ONCE forwards
FWD_ONCE; WR_LINE invalidates the owner and WR_PART recalls its data. The line is busy with the request, memory stays.
The model's choices it rests on: log entries 2, 24. -/
def Obligations.RequestsAreServed : Prop :=
  ((∀ (h : Hdr) (f : Nat) (s : State), ∀ code < 4, s.reaches (hdrMsg h 0 code s.moduleId) f →
     s.dirEntry h.line.toNat = none →
     let m := hdrMsg h 0 code s.moduleId
     ∃ t, (code = 0 → exec (.rdS h) s = .next t) ∧ (code = 1 → exec (.rdO h) s = .next t) ∧
       (code = 2 → exec (.upg h) s = .next t) ∧ (code = 3 → exec (.ownZ h) s = .next t) ∧
       t.ownedBy m ∧ t.mem = s.mem ∧ t.tiles = s.tiles ∧ t.cores = s.cores ∧ t.regs = s.regs ∧
       s.sent t f (m.grantTo (if code = 3 then none else some (s.memLine m.line))
         (decide (code ≠ 3) && s.memPoisoned (lineAddr m.line)) .e 0) ∧
       (h.tx = true → ∃ k ∈ t.home.marks, k.line = m.line ∧ k.core = markCore m.src m.txn ∧
         k.epoch = SMap.get 0 s.home.epochs k.core)) ∧
   (∀ (h : Hdr) (f : Nat) (s : State), s.reaches (hdrMsg h 0 4 s.moduleId) f → s.dirEntry h.line.toNat = none →
     let m := hdrMsg h 0 4 s.moduleId
     ∃ t, exec (.rdOnce h) s = .next t ∧ t.mem = s.mem ∧ t.tiles = s.tiles ∧ t.cores = s.cores ∧ t.regs = s.regs ∧
       (h.esc = false → t.home.dir = s.home.dir) ∧ s.sent t f (m.answerOnce (s.memLine m.line) (s.memPoisoned (lineAddr m.line)))) ∧
   (∀ (h : Hdr) (f : Nat) (data : BitVec 1024) (mask : BitVec 128) (s : State), s.reaches (hdrMsg h 0 5 s.moduleId) f →
     s.reaches (hdrMsg h 0 6 s.moduleId) f →
     s.dirEntry h.line.toNat = none → s.groupOffline (s.groupOf (lineAddr h.line.toNat)) = false →
     (∃ t, exec (.wrLine h data) s = .next t ∧ t.memLine h.line.toNat = leBytes 128 data.toNat ∧
       t.memPoisoned (lineAddr h.line.toNat) = h.poison ∧
       (∀ a, a < lineAddr h.line.toNat ∨ lineAddr h.line.toNat + 128 ≤ a → t.byte a = s.byte a) ∧
       (h.esc = false → t.home.dir = s.home.dir) ∧ t.tiles = s.tiles ∧ t.cores = s.cores ∧ t.regs = s.regs ∧
       s.sent t f ((hdrMsg h 0 5 s.moduleId).grantTo none false .i 0)) ∧
     (∃ t, exec (.wrPart h data mask) s = .next t ∧
       t.memLine h.line.toNat = maskMerge (s.memLine h.line.toNat) (leBytes 128 data.toNat) mask.toNat ∧
       t.memPoisoned (lineAddr h.line.toNat) = s.memPoisoned (lineAddr h.line.toNat) ∧
       (∀ a, a < lineAddr h.line.toNat ∨ lineAddr h.line.toNat + 128 ≤ a → t.byte a = s.byte a) ∧
       (h.esc = false → t.home.dir = s.home.dir) ∧ t.tiles = s.tiles ∧ t.cores = s.cores ∧ t.regs = s.regs ∧
       s.sent t f ((hdrMsg h 0 6 s.moduleId).grantTo none false .i 0))) ∧
   (∀ (h : Hdr) (f : Nat) (off : Fin 128) (size : Fin 5) (ops : Option (BitVec 128 × BitVec 128)) (s : State),
     let m := { hdrMsg h 0 7 s.moduleId with cas := ops.map (fun x => (off.val, 2 ^ size.val, x.1.toNat, x.2.toNat)) }
     s.reaches m f → s.dirEntry h.line.toNat = none →
     s.memPoisoned (lineAddr m.line) = false → off.val % 2 ^ size.val = 0 →
     ∃ t, exec (.casNc h off size ops) s = .next t ∧ s.sent t f (m.answerOnce (s.memLine m.line) false) ∧
       t.memLine m.line = (match m.cas with
         | some c => casApply (s.memLine m.line) c
         | none => s.memLine m.line) ∧
       (∀ a, a < lineAddr m.line ∨ lineAddr m.line + 128 ≤ a → t.byte a = s.byte a) ∧
       (h.esc = false → t.home.dir = s.home.dir) ∧ t.tiles = s.tiles ∧ t.cores = s.cores ∧ t.regs = s.regs)) ∧
  (∀ (h : Hdr) (f g k : Nat) (data : BitVec 1024) (mask : BitVec 128) (s : State) (e : DirEntry), ∀ code < 7, code ≠ 3 →
     s.reaches (hdrMsg h 0 code s.moduleId) f → s.dirEntry h.line.toNat = some e → e.st = 3 → e.who = k → k < 32 →
     k ≠ memberOf h.src.toNat → h.esc = false → s.portFor (s.memberModule k) = some g → s.memberModule k ≠ s.moduleId →
     let m := { hdrMsg h 0 code s.moduleId with
       data := if code < 5 then [] else leBytes 128 data.toNat, mask := if code = 6 then mask.toNat else 0 }
     ∃ t, (code = 0 → exec (.rdS h) s = .next t) ∧ (code = 1 → exec (.rdO h) s = .next t) ∧
       (code = 2 → exec (.upg h) s = .next t) ∧ (code = 4 → exec (.rdOnce h) s = .next t) ∧
       (code = 5 → exec (.wrLine h data) s = .next t) ∧ (code = 6 → exec (.wrPart h data mask) s = .next t) ∧
       t.mem = s.mem ∧ t.tiles = s.tiles ∧ t.cores = s.cores ∧ t.regs = s.regs ∧
       (∃ b, t.lineBusy m.line = some b ∧ b.req = m) ∧
       s.sent t g (if code < 5 then m.forward (if code = 0 then 0 else if code = 4 then 2 else 1) (s.memberModule k) none 0
         else { m with src := s.moduleId, agent := 9 }.forward (if code = 5 then 4 else 5) (s.memberModule k) none 0) ∧
       (code = 0 → ∃ x, t.dirEntry m.line = some x ∧ x.st = 2 ∧ x.who = memberOf m.src ∧
         x.sharers = 2 ^ k ||| 2 ^ memberOf m.src) ∧
       ((code = 1 ∨ code = 2) → ∃ x, t.dirEntry m.line = some x ∧ x.st = 3 ∧ x.who = memberOf m.src) ∧
       (4 ≤ code → t.home.dir = s.home.dir))

/-- R232 and Table 10.7: what a tile does with a forward for a line of another home that it holds without a hold, no
transaction being open. FWD_S keeps S and sends F; FWD_O becomes I and sends M or E; FWD_ONCE sends a copy and keeps
its state; INV and INV_Z become I in every tile and acknowledge; RECALL becomes I and returns dirty data, or
acknowledges. Where no tile holds the line, a forward that asks for data is answered as ABSENT. R223: what reaches a
requester. An ACK counts toward those expected; CMP completes a write; DATA_NC gives its bytes; REFUSED is noted; DATA
or CMP of a caching request records the state granted and the ACKs to expect while some are outstanding, and with none
outstanding the line is entered in the cache it was asked for and its hold begins. WB_ACK frees the eviction buffer
entry. The model's choices it rests on: log entries 2, 24. -/
def Obligations.ForwardsAreAnswered : Prop :=
  (∀ (h : Hdr) (k f g : Nat) (x : TileLine) (s : State) (code : Fin 6),
     let m := hdrMsg h 1 code.val s.moduleId
     let cmd : Instr := if code = 0 then .fwdS h else if code = 1 then .fwdO h else if code = 2 then .fwdOnce h
       else if code = 3 then .inv h else if code = 4 then .invZ h else .recall h
     s.powered = true → s.uncoreUp = true → h.reissue = false → h.src.toNat ≠ s.moduleId → lineHome m.line ≠ s.moduleId →
     (∀ y ∈ s.cores, y.2.tx = none) →
     (s.holderTile m.line = some k → SMap.find? (s.tile k).lines m.line = some x →
       (∀ j, j < 4 → s.holdOn j m.line = none) → s.portFor h.src.toNat = some f →
       s.portFor (lineHome m.line) = some g → ∃ t, exec cmd s = .next t ∧ t.mem = s.mem ∧ t.cores = s.cores ∧ t.home = s.home ∧
         (∃ q, (q, if code = 0 then m.grantTo (some x.data) x.poison .f m.ext
           else if code = 1 then m.grantTo (some x.data) x.poison (if x.st = .m then .m else .e) m.ext
           else if code = 2 then m.answerOnce x.data x.poison
           else if code = 5 ∧ x.st = .m then m.datWb x.data x.poison
           else m.toReq 2 0) ∈ (t.fport (if code = 5 ∧ x.st = .m then g else f)).replay) ∧
         (code.val < 3 → ∃ q, (q, m.fwdDone false) ∈ (t.fport g).replay) ∧
         (code = 0 → SMap.find? (t.tile k).lines m.line = some { x with st := .s }) ∧
         (code = 2 → SMap.find? (t.tile k).lines m.line = some x) ∧
         (code = 1 → SMap.find? (t.tile k).lines m.line = none) ∧
         (3 ≤ code.val → ∀ j, j < 4 → SMap.find? (t.tile j).lines m.line = none) ∧
         (∀ l, l ≠ m.line → ∀ j, SMap.find? (t.tile j).lines l = SMap.find? (s.tile j).lines l)) ∧
     (s.holderTile m.line = none → s.portFor (lineHome m.line) = some f → code.val < 3 →
       (∀ j, j < 4 → (s.tile j).line? m.line = none) →
       ∃ t, exec cmd s = .next t ∧ s.sent t f (m.fwdDone true) ∧ t.tiles = s.tiles ∧ t.mem = s.mem ∧ t.cores = s.cores)) ∧
  (∀ (h : Hdr) (q : Outstanding) (d : BitVec 1024) (s : State), s.powered = true → s.uncoreUp = true → h.reissue = false →
     ¬ (h.src.toNat = s.moduleId ∧ h.agent = 9) → s.findRequest h.agent.toNat h.txn.toNat = some q →
     (¬ (q.won = true ∧ q.acksDue ≤ q.acks + 1 ∧ q.req.code < 4) → ∃ t, exec (.ack h) s = .next t ∧
       t.findRequest h.agent.toNat h.txn.toNat = some { q with acks := q.acks + 1 } ∧ t.tiles = s.tiles ∧ t.mem = s.mem) ∧
     (4 ≤ q.req.code → ∃ t, exec (.cmp h) s = .next t ∧
       t.findRequest h.agent.toNat h.txn.toNat = some { q with won := true, result := some [] } ∧ t.tiles = s.tiles ∧
       t.mem = s.mem) ∧
     (q.req.code < 4 → q.acks < h.ext.toNat % 64 → ∃ t u, exec (.cmp h) s = .next t ∧ exec (.data h d) s = .next u ∧
       t.findRequest h.agent.toNat h.txn.toNat = some { q with
         won := true, state := grantState (h.ext.toNat / 64), acksDue := h.ext.toNat % 64 } ∧
       u.findRequest h.agent.toNat h.txn.toNat = some { q with
         won := true, state := grantState (h.ext.toNat / 64), acksDue := h.ext.toNat % 64,
         data := leBytes 128 d.toNat, poison := h.poison } ∧
       t.tiles = s.tiles ∧ u.tiles = s.tiles ∧ t.mem = s.mem ∧ u.mem = s.mem) ∧
     (∃ t, exec (.refused h) s = .next t ∧ t.findRequest h.agent.toNat h.txn.toNat = some { q with refused := 1 } ∧
       t.tiles = s.tiles ∧ t.mem = s.mem) ∧
     (∃ t, exec (.dataNc h d) s = .next t ∧ t.findRequest h.agent.toNat h.txn.toNat =
       some { q with won := true, result := some (leBytes 128 d.toNat), poison := h.poison } ∧
       t.tiles = s.tiles ∧ t.mem = s.mem) ∧
     (q.req.code < 3 → q.req.agent < 4 → h.ext.toNat % 64 ≤ q.acks → (s.tile q.req.agent).line? q.req.line = none →
       q.cache < 10 → s.cacheOn q.req.agent q.cache = true → s.cacheClosing q.req.agent q.cache = false →
       ∀ w, s.chooseWay q.req.agent q.cache (s.corePipe q.core) q.req.line = some (w, none, false) →
       ∃ t, exec (.data h d) s = .next t ∧ SMap.find? (t.tile q.req.agent).lines q.req.line =
           some { st := if grantState (h.ext.toNat / 64) = .i then .e else grantState (h.ext.toNat / 64),
                  data := leBytes 128 d.toNat, poison := h.poison, places := [(q.cache, w)] } ∧
         (t.holdOn q.req.agent q.req.line).isSome = true ∧ t.mem = s.mem) ∧
     (h.agent.toNat < 4 → ∃ t, exec (.wbAck h) s = .next t ∧
       (t.tile h.agent.toNat).evicting = SMap.erase (s.tile h.agent.toNat).evicting h.line.toNat ∧
       (t.tile h.agent.toNat).lines = (s.tile h.agent.toNat).lines ∧ t.mem = s.mem))

/-- R216, R228, R229, R230, R232: what reaches the home. FWD_DONE ends the line's busy time; DAT_WB and a WB of the agent
that the directory designates write the line to memory; WB and EVN release the sender's share and are acknowledged;
RLS ends the core's reservations; TXEND advances its epoch; a freed eviction buffer is gone; an expired reservation is
none. R224, R231: a hold that ends with no forward waiting is gone; a set recall of another home takes every line of
that home and set out of every tile; a recall of the home's own set begins with the bad entry recorded, and ends, once
every answer is in, with no entry of the set valid, the recall counted and BLK_ERR.RAS_UNCORR set. The model's choices
it rests on: log entries 2, 24, 25. -/
def Obligations.HomeWorkCompletes : Prop :=
  ((∀ (h : Hdr) (s : State), s.powered = true → s.uncoreUp = true → h.reissue = false → s.home.queue = [] →
     (∃ t, exec (.rls h) s = .next t ∧
       (∀ x ∈ t.home.dir, x.2.resv ≠ some (markCore h.src.toNat h.txn.toNat)) ∧ t.mem = s.mem ∧ t.tiles = s.tiles) ∧
     (∃ t, exec (.txend h) s = .next t ∧ SMap.get 0 t.home.epochs (markCore h.src.toNat h.txn.toNat) =
         (SMap.get 0 s.home.epochs (markCore h.src.toNat h.txn.toNat) + 1) % 16 ∧ t.home.dir = s.home.dir ∧
       t.mem = s.mem ∧ t.tiles = s.tiles)) ∧
   ∀ (h : Hdr) (d : BitVec 1024) (f : Nat) (s : State), s.powered = true → s.uncoreUp = true → h.reissue = false →
     lineHome h.line.toNat = s.moduleId → h.src.toNat ≠ s.moduleId → s.home.queue = [] →
     (∀ b, s.lineBusy h.line.toNat = some b → h.ext.toNat % 2 = 0 → ∃ t, exec (.fwdDone h) s = .next t ∧
       t.lineBusy h.line.toNat = none ∧ (b.conflict = false → t.home.dir = s.home.dir) ∧
       (b.conflict = true → ∀ e, t.dirEntry h.line.toNat = some e →
         e.resv = none ∨ e.resv = some (markCore b.req.src b.req.txn)) ∧ t.mem = s.mem ∧ t.tiles = s.tiles) ∧
     (s.groupOffline (s.groupOf (lineAddr h.line.toNat)) = false → s.lineBusy h.line.toNat = none → ∃ t,
       exec (.datWb h d) s = .next t ∧ t.memLine h.line.toNat = leBytes 128 d.toNat ∧
       t.memPoisoned (lineAddr h.line.toNat) = h.poison ∧ t.home.dir = s.home.dir ∧ t.tiles = s.tiles) ∧
     (s.portFor h.src.toNat = some f →
       (s.designates (hdrMsg h 4 0 s.moduleId) = true → s.groupOffline (s.groupOf (lineAddr h.line.toNat)) = false →
         ∃ t, exec (.wb h d) s = .next t ∧ t.memLine h.line.toNat = leBytes 128 d.toNat ∧
           t.memPoisoned (lineAddr h.line.toNat) = h.poison ∧ t.designates (hdrMsg h 4 0 s.moduleId) = false ∧
           s.sent t f ((hdrMsg h 4 0 s.moduleId).toReq 2 3) ∧ t.tiles = s.tiles) ∧
       (s.designates (hdrMsg h 4 0 s.moduleId) = false → ∃ t, exec (.wb h d) s = .next t ∧ t.mem = s.mem ∧
         t.home.dir = s.home.dir ∧ s.sent t f ((hdrMsg h 4 0 s.moduleId).toReq 2 3) ∧ t.tiles = s.tiles) ∧
       (∃ t, exec (.evn h) s = .next t ∧ t.designates (hdrMsg h 4 1 s.moduleId) = false ∧ t.mem = s.mem ∧
         s.sent t f ((hdrMsg h 4 1 s.moduleId).toReq 2 3) ∧ t.tiles = s.tiles)) ∧
     ((∃ x ∈ s.home.evicting, x.1 = h.line.toNat ∧ x.2 = 0) → ∃ t, exec (.directoryEvictionBufferFree h.line) s = .next t ∧
       (∀ x ∈ t.home.evicting, x.1 ≠ h.line.toNat) ∧ t.home.dir = s.home.dir ∧ t.mem = s.mem ∧ t.tiles = s.tiles) ∧
     (∀ e c, s.dirEntry h.line.toNat = some e → e.resv = some c → ∃ t, exec (.reservationExpiry h.line) s = .next t ∧
       (∀ x, t.dirEntry h.line.toNat = some x → x.resv = none ∧ x.st = e.st ∧ x.sharers = e.sharers) ∧ t.mem = s.mem ∧
       t.tiles = s.tiles)) ∧
  ((∀ (k : Fin 4) (line : BitVec 53) (x : Hold) (s : State), s.powered = true → s.uncoreUp = true →
     s.holdOn k line.toNat = some x → x.waiting = [] → ∃ t, exec (.holdEnd k line) s = .next t ∧
       t.holdOn k line.toNat = none ∧ (t.tile k).lines = (s.tile k).lines ∧ t.mem = s.mem ∧ t.cores = s.cores) ∧
   (∀ (home : BitVec 16) (set : BitVec 19) (way : Fin 16) (s : State), s.powered = true → s.uncoreUp = true →
     home.toNat ≠ s.moduleId → ∃ t, exec (.setRecall home set way) s = .next t ∧
       t.mem = s.mem ∧ ∀ j, j < 4 → (∀ l x, SMap.find? (t.tile j).lines l = some x →
         SMap.find? (s.tile j).lines l = some x ∧ ¬ (lineHome l = home.toNat ∧ l % 2 ^ 19 = set.toNat))) ∧
   (∀ (set : BitVec 19) (s : State), s.powered = true → (∃ x ∈ s.home.recalls, x.1 = set.toNat ∧ x.2 = 0) → s.home.queue = [] →
     ∃ t, exec (.setRecallComplete set) s = .next t ∧ (∀ x ∈ t.home.dir, x.1 % 2 ^ 19 ≠ set.toNat) ∧
       (∀ x ∈ t.home.recalls, x.1 ≠ set.toNat) ∧ bit (t.reg (bHome + 0x020)) 8 = true ∧
       t.fld bHome F.DIR_CNT_SETRECALL = satAdd F.DIR_CNT_SETRECALL.width (s.fld bHome F.DIR_CNT_SETRECALL) 1 ∧
       t.mem = s.mem ∧ t.tiles = s.tiles))

/-- R234 to R236: a fabric port. A frame with a bad CRC is counted and NAKed; a frame in sequence without messages is
taken, its ACK empties the replay buffer up to it and its credits are added. The identity frame ends training at the
width of the good lanes; a lost lane retrains the port narrower or, below MIN_WIDTH, loses it; the end of retraining
resumes the port. R236, R239, R240, R244: a lost port, by its own failure, by an ACK that does not come or by
FP_CMD.DOWN, enters state failed with FAULT set, every valid route whose primary it is uses its alternative, and a
recovery runs until routing resumes; RETRAIN of a running port trains it again; a lost member is entered in
MEMBER_DOWN and, by the home, in no entry; MEMBER_DOWN takes what firmware writes, a cleared bit only where a route to
the member is up. The model's choices it rests on: log entries 2, 24. -/
def Obligations.FabricLinksComplete : Prop :=
  ((∀ (f : Fin 12) (frame : BitVec 2048) (s : State), s.powered = true → s.uncoreUp = true → s.fportUp f = true →
     let bs := leBytes 256 frame.toNat
     let h := leNat (bs.take 8)
     let x := s.fport f
     (leNat (bs.drop 252) ≠ crc32c (bs.take 252) → ∃ t, exec (.fabricFrame f frame) s = .next t ∧
       t.fport f = { x with nakDue := true } ∧
       t.fld (bFport f) F.FP_CNT_LINK_CRC = satAdd F.FP_CNT_LINK_CRC.width (s.fld (bFport f) F.FP_CNT_LINK_CRC) 1 ∧
       t.mem = s.mem ∧ t.tiles = s.tiles) ∧
     (leNat (bs.drop 252) = crc32c (bs.take 252) → bits (BitVec.ofNat 64 h) 24 1 = 0 → bits (BitVec.ofNat 64 h) 40 1 = 1 →
       bits (BitVec.ofNat 64 h) 0 12 = (x.lastRx + 1) % 4096 → x.partialRx = [] → ∃ t, exec (.fabricFrame f frame) s = .next t ∧
         (t.fport f).lastRx = bits (BitVec.ofNat 64 h) 0 12 ∧ (t.fport f).nakDue = false ∧
         (t.fport f).replay = ackFrames (bits (BitVec.ofNat 64 h) 12 12) x.replay ∧
         (t.fport f).credit (2 * bits (BitVec.ofNat 64 h) 25 3 + bits (BitVec.ofNat 64 h) 28 1) =
           x.credit (2 * bits (BitVec.ofNat 64 h) 25 3 + bits (BitVec.ofNat 64 h) 28 1) + bits (BitVec.ofNat 64 h) 29 7 ∧
         t.regs = s.regs ∧ t.mem = s.mem ∧ t.tiles = s.tiles)) ∧
   (∀ (f : Fin 12) (peer : BitVec 16) (port : BitVec 4) (kind : BitVec 2) (lanes : BitVec 8) (w : Nat) (s : State),
     s.powered = true → s.uncoreUp = true → s.fld (bFport f) F.FP_STAT_STATE = 1 →
     lanes &&& BitVec.ofNat 8 (s.fld (bFport f) F.FP_CFG_LANE_EN) = lanes → laneWidth lanes = some w →
     s.fld (bFport f) F.FP_CFG_MIN_WIDTH ≤ w →
     (s.fld (bFport f) F.FP_CFG_KIND = 1 → domainOf peer.toNat = domainOf s.moduleId) →
     ∃ t, exec (.fabricIdentityFrame f peer port kind lanes) s = .next t ∧
       t.fld (bFport f) F.FP_STAT_PEER_MODULE = peer.toNat ∧ t.fld (bFport f) F.FP_STAT_PEER_PORT = port.toNat ∧
       t.fld (bFport f) F.FP_STAT_PEER_KIND = kind.toNat ∧ t.fld (bFport f) F.FP_STAT_LANES_GOOD = lanes.toNat ∧
       t.fld (bFport f) F.FP_STAT_WIDTH = w ∧ t.fld (bFport f) F.FP_STAT_STATE = (if w = 3 then 2 else 3) ∧
       t.mem = s.mem ∧ t.tiles = s.tiles ∧ t.fports = s.fports) ∧
   (∀ (f : Fin 12) (lane : Fin 8) (s : State), s.powered = true → s.uncoreUp = true → s.fportUp f = true →
     (s.fld (bFport f) F.FP_STAT_LANES_GOOD).testBit lane = true →
     let left := s.fld (bFport f) F.FP_STAT_LANES_GOOD - 2 ^ lane.val
     ∃ t, exec (.fabricLaneFailure f lane) s = .next t ∧ t.fld (bFport f) F.FP_STAT_LANES_GOOD = left ∧
       (∀ w, laneWidth (BitVec.ofNat 8 left) = some w → s.fld (bFport f) F.FP_CFG_MIN_WIDTH ≤ w →
         t.fld (bFport f) F.FP_STAT_STATE = 1 ∧ t.fld (bFport f) F.FP_STAT_WIDTH = w ∧
         bit (t.reg (bFport f + 0x020)) 9 = true ∧ t.fport f = s.fport f) ∧
       ((∀ w, laneWidth (BitVec.ofNat 8 left) = some w → w < s.fld (bFport f) F.FP_CFG_MIN_WIDTH) →
         t.fld (bFport f) F.FP_STAT_STATE = 4 ∧ t.flag (bFport f) F.FAULT = true)) ∧
   (∀ (f : Fin 12) (s : State), s.powered = true → s.uncoreUp = true → s.fld (bFport f) F.FP_STAT_STATE = 1 →
     s.fld (bFport f) F.FP_STAT_LANES_GOOD ≠ 0 → ∃ t, exec (.fabricRetrainComplete f) s = .next t ∧
       t.fld (bFport f) F.FP_STAT_STATE = (if s.fld (bFport f) F.FP_STAT_WIDTH = 3 then 2 else 3) ∧
       t.fports = s.fports ∧ t.mem = s.mem ∧ t.tiles = s.tiles)) ∧
  ((∀ (f : Fin 12) (src : Src) (s : State) (c : Instr), s.powered = true →
     ((c = .fabricPortLoss f ∧ s.uncoreUp = true ∧ (s.fportUp f = true ∨ s.fld (bFport f) F.FP_STAT_STATE = 1)) ∨
      (c = .fabricAckTimeout f ∧ s.uncoreUp = true ∧ s.fportUp f = true ∧ (s.fport f).replay ≠ []) ∨
      (c = .fpCmdDown src f ∧ s.mayAccess src (bFport f + 0x060) = true ∧ s.accepts src (fportPage f) 0x060 2 = true)) →
     ∃ t, exec c s = .next t ∧ t.fld (bFport f) F.FP_STAT_STATE = 4 ∧ t.flag (bFport f) F.FAULT = true ∧
       (∀ m, m < 32 → s.flag (bHome + 8 * m) F.ROUTE_VALID = true → s.fld (bHome + 8 * m) F.ROUTE_PRIMARY = f →
         t.flag (bHome + 8 * m) F.ROUTE_USING_ALT = true) ∧
       t.fld (bFport f) F.FP_CNT_LINK_DOWN = satAdd F.FP_CNT_LINK_DOWN.width (s.fld (bFport f) F.FP_CNT_LINK_DOWN) 1 ∧
       t.ese.recoveries = s.ese.recoveries ++ [.reroute f] ∧ t.mem = s.mem ∧ t.tiles = s.tiles ∧ t.cores = s.cores) ∧
   (∀ (f : Fin 12) (s : State), s.powered = true → Recovery.reroute f ∈ s.ese.recoveries →
     ∃ t, exec (.routingResume f) s = .next t ∧ Recovery.reroute f ∉ t.ese.recoveries ∧ t.mem = s.mem ∧ t.tiles = s.tiles ∧
       t.fports = s.fports) ∧
   (∀ (f : Fin 12) (src : Src) (s : State), s.powered = true → s.mayAccess src (bFport f + 0x060) = true →
     s.accepts src (fportPage f) 0x060 1 = true → ∃ t, exec (.fpCmdRetrain src f) s = .next t ∧
       t.fld (bFport f) F.FP_STAT_STATE = 1 ∧ t.flag (bFport f) F.FAULT = false ∧ t.fports = s.fports ∧ t.mem = s.mem ∧
       t.tiles = s.tiles) ∧
   (∀ (k : Fin 32) (s : State), s.powered = true → s.uncoreUp = true → (s.fld bHome F.DOM_CTL_MEMBERS).testBit k = true →
     k.val ≠ memberOf s.moduleId → (s.fld bHome F.MEMBER_DOWN_DOWN).testBit k = false →
     (∀ b ∈ s.home.busy, memberOf b.req.src ≠ k.val) → s.home.dir.Pairwise (fun a b => a.1 < b.1) →
     ∃ t, exec (.memberLoss k) s = .next t ∧
       t.fld bHome F.MEMBER_DOWN_DOWN = (s.fld bHome F.MEMBER_DOWN_DOWN ||| 2 ^ k.val) ∧
       (∀ x ∈ s.home.dir, x.2.st = 3 → x.2.who = k.val → t.memPoisoned (lineAddr x.1) = true ∧
         (∀ e, t.dirEntry x.1 = some e → e.st ≠ 3)) ∧
       bit (t.reg (bHome + 0x020)) 9 = true ∧ t.mem = s.mem ∧ t.tiles = s.tiles ∧ t.cores = s.cores) ∧
   (∀ (src : Src) (v : Word) (s : State), s.powered = true → s.mayAccess src (bHome + 0x050) = true →
     s.accepts src homePage 0x050 v = true →
     (∀ k, k < 32 → bit v k = true → (s.fld bHome F.MEMBER_DOWN_DOWN).testBit k = true) →
     ∃ t, exec (.memberDownWrite src v) s = .next t ∧ t.fld bHome F.MEMBER_DOWN_DOWN = bits v 0 32 ∧
       t.home.dir = s.home.dir ∧ t.mem = s.mem ∧ t.tiles = s.tiles))

/-! ## Checked cores, retry and sparing (R246 to R269, R528) -/

/-- R251, R254, R269: a check that fires with no event open opens one and starts its first retry: the core returns to its
Wafer, stores it has committed stay, CHK_LAST and CHK_CNT record the event, and RETRYING is set. A firing in the open
event, but for a checker fault, starts the second retry. A trailing record that is late fires code 0x8; an armed
injection fires as its code, with INJECTED set, and disarms unless PERSIST. R252, R254, R255: at the restart the core
runs again from its Wafer with its event open; a lost Wafer stops the core: it is no longer valid, BLK_ERR.STOPPED is
set and its core-event source is raised with STOPPED. An event that 256 clean groups follow ends: RETRYING clears,
OUTCOME is 1, and a benign mismatch is counted. The model's choices it rests on: log entry 2. -/
def Obligations.CheckEventsComplete : Prop :=
  (∀ (n : Fin 64) (code : BitVec 4) (self : Option (Fin 2)) (injected : Bool) (c : Instr) (s : State),
     let p := s.posOf n
     let pipe := if s.split then s.pipeOf n else 0
     s.powered = true → s.canFire p n code.toNat (self.map (·.val)) = true → (s.core n).tx = none → (s.split = true → pipe < 2) →
     ((c = .checkFiring n code self ∧ injected = false) ∨
      (c = .trailingRecordTimeout n ∧ code = 8 ∧ self = none ∧ injected = false) ∨
      (c = .chkInjectArm n ∧ injected = true ∧ s.flag (bPos p) F.CHK_INJECT_ARM = true ∧
        s.fld (bPos p) F.CHK_INJECT_SOURCE = code.toNat ∧ s.split = false ∧
        s.fld (bPos p) F.CHK_INJECT_PIPE = (match self with
          | some k => 2 ^ k.val
          | none => 0))) →
     (s.checkEvent p pipe = none → ∃ t, exec c s = .next t ∧
       t.checkEvent p pipe = some
         { source := code.toNat, selfLead := decide (self = some 0), selfTrail := decide (self = some 1),
           retries := 1, clean := 0, frozen := true, injected := injected, lost := false } ∧
       t.core n = (s.core n).rolledBack ∧ (∀ m, m ≠ n.val → t.core m = s.core m) ∧
       t.fld (bPos p) F.CHK_CNT_RETRY = satAdd F.CHK_CNT_RETRY.width (s.fld (bPos p) F.CHK_CNT_RETRY) 1 ∧
       t.fld (bPos p) F.CHK_LAST_SOURCE = code.toNat ∧ t.fld (bPos p) F.CHK_LAST_RETRIES = 1 ∧
       t.fld (bPos p) F.CHK_LAST_OUTCOME = 6 ∧ t.flag (bPos p) F.CHK_LAST_INJECTED = injected ∧
       t.fld (bPos p) F.CHK_LAST_TIME = s.timebase.toNat % 2 ^ 32 ∧ t.flag (bPos p) F.CORE_STAT_RETRYING = true ∧
       (injected = true → t.flag (bPos p) F.CHK_INJECT_ARM = s.flag (bPos p) F.CHK_INJECT_PERSIST) ∧
       t.sparings = s.sparings ∧ t.mem = s.mem ∧ t.tiles = s.tiles) ∧
     (∀ e, s.checkEvent p pipe = some e → e.clean < 256 → e.retries = 1 → code ≠ 2 → ∃ t, exec c s = .next t ∧
       (∃ f, t.checkEvent p pipe = some f ∧ f.source = e.source ∧ f.retries = 2 ∧ f.frozen = true ∧ f.clean = 0 ∧
         f.selfLead = (e.selfLead || decide (self = some 0)) ∧ f.selfTrail = (e.selfTrail || decide (self = some 1))) ∧
       t.core n = (s.core n).rolledBack ∧ (∀ m, m ≠ n.val → t.core m = s.core m) ∧
       t.fld (bPos p) F.CHK_CNT_RETRY = s.fld (bPos p) F.CHK_CNT_RETRY ∧ t.fld (bPos p) F.CHK_LAST_RETRIES = 2 ∧
       t.fld (bPos p) F.CHK_LAST_OUTCOME = 6 ∧ t.sparings = s.sparings ∧ t.mem = s.mem ∧ t.tiles = s.tiles)) ∧
  (∀ (n : Fin 64) (e : CheckEvent) (s : State), let p := s.posOf n
     s.powered = true → s.split = false → p < 40 → s.coreValid n = true → s.checkEvent p 0 = some e →
     (e.frozen = true → s.beingSpared n = false → s.mode ≠ 10 →
       ((s.core n).haltDue = false → ∃ t, exec (.retryRestart n false) s = .next t ∧ t.core n = (s.core n).rolledBack ∧
         t.checkEvent p 0 = some { e with frozen := false, clean := 0 } ∧ (∀ m, m ≠ n.val → t.core m = s.core m) ∧
         t.mem = s.mem ∧ t.tiles = s.tiles) ∧
       ∃ t, exec (.retryRestart n true) s = .next t ∧ (t.core n).stopped = true ∧ t.coreValid n = false ∧
         bit (t.reg (bPos p + 0x020)) 11 = true ∧ t.fld (bPos p) F.CHK_LAST_OUTCOME = 3 ∧ t.checkEvent p 0 = none ∧
         (t.source (0x1E00 + n)).pend = true ∧ (t.source (0x1E00 + n)).evkind &&& 2 = 2 ∧
         (∀ m, m ≠ n.val → t.core m = s.core m) ∧ t.mem = s.mem) ∧
     (256 ≤ e.clean → ∃ t, exec (.checkEventEnd n) s = .next t ∧ t.checkEvent p 0 = none ∧
       t.fld (bPos p) F.CHK_LAST_OUTCOME = 1 ∧ ((s.pos p).event1 = none → t.flag (bPos p) F.CORE_STAT_RETRYING = false) ∧
       (e.source = 1 → e.retries = 1 → e.selfLead = false → e.selfTrail = false →
         t.fld (bPos p) F.CHK_CNT_BENIGN = satAdd F.CHK_CNT_BENIGN.width (s.fld (bPos p) F.CHK_CNT_BENIGN) 1) ∧
       t.cores = s.cores ∧ t.mem = s.mem ∧ t.tiles = s.tiles))

/-- R257, R11, Table 11.5 step 1: a checked core that fails its second retry, or meets a repeated checker fault, or whose
position is forced by SPARE_NOW, is spared where the pool holds a spare: the core rolls back, the spare that R11
chooses leaves the pool, ROLE becomes 4 in the failed position and 5 in the spare. R258 to R262 in checked mode: the
spare's wake and the drain are noted as they end; when both have and the line move is done, the logical core stands on
the spare, with its committed state, ROLE is 1 in the spare and 3 in the failed position; its first instruction writes
SPARE_INFO in both pages, sets BLK_ERR.SPARED, and raises the core-event source with SPARED. The model's choices it
rests on: log entries 2, 32. -/
def Obligations.SparingRuns : Prop :=
  (∀ (n : Fin 64) (p : Fin 40) (q : Nat) (src : Src) (code : BitVec 4) (self : Option (Fin 2)) (c : Instr) (s : State),
     s.powered = true → s.split = false → s.posOf n = p → s.coreOn p 0 = some n.val → (s.core n).tx = none → s.sparings = [] →
     s.chooseSpare p = some (q, 0) → q < 40 → q ≠ p.val →
     ((∃ e, c = .checkFiring n code self ∧ s.canFire p n code.toNat (self.map (·.val)) = true ∧
         s.checkEvent p 0 = some e ∧ e.clean < 256 ∧ s.flag (bPos p) F.CORE_STAT_UNCHECKED = false ∧
         (e.retries = 2 ∨ code = 2)) ∨
      (c = .spareNow src p ∧ code ≠ 2 ∧ s.coreOn p 1 = none ∧ s.mayAccess src (bPos p + 0x040) = true ∧
         s.accepts src (posPage p) 0x040 (s.withBit (bPos p + 0x040) 0) = true)) →
     ∃ t, exec c s = .next t ∧
       t.sparings = [{ position := p, pipe := 0, core := n, since := s.timebase, checker := decide (code = 2),
                       spare := some (q, 0), woken := false, drained := false, moved := false }] ∧
       t.role p = 4 ∧ t.role q = 5 ∧ t.inPool q 0 = false ∧ t.inPool q 1 = false ∧ (t.core n).group = 0 ∧ (t.core n).fresh = [] ∧
       (t.core n).stores = (s.core n).stores ∧ (t.arch n).pc = (s.core n).wafer.pc ∧
       (∀ m, m ≠ n.val → t.core m = s.core m) ∧ t.ese.recoveries = s.ese.recoveries ++ [.sparing p] ∧
       (code = 2 → bit (t.reg (bPos p + 0x020)) 12 = true) ∧ t.mem = s.mem ∧ t.tiles = s.tiles) ∧
  (∀ (x : Sparing) (q : Nat) (s : State), s.powered = true → s.split = false → s.mode ≠ 10 → s.sparings = [x] →
     x.spare = some (q, 0) → q < 40 → x.position < 40 → q ≠ x.position → x.core < 64 → x.pipe = 0 →
     (x.woken = false → ∃ t, exec .spareWakeComplete s = .next t ∧ t.sparings = [{ x with woken := true }] ∧ t.pstate q = 0 ∧
       t.cores = s.cores ∧ t.mem = s.mem ∧ t.tiles = s.tiles) ∧
     (x.drained = false → (s.core x.core).stores = [] → s.noneOrdered x.core = true → (s.core x.core).devLoad = none →
       ∃ t, exec .storeBufferDrainComplete s = .next t ∧ t.sparings = [{ x with drained := true }] ∧
         t.cores = s.cores ∧ t.regs = s.regs ∧ t.mem = s.mem ∧ t.tiles = s.tiles) ∧
     (x.woken = true → x.drained = true → x.moved = false → s.cacheOn (q / 10) (q % 10) = true →
       s.linesIn (x.position / 10) (x.position % 10) 0xFFFF = [] →
       ∃ t, exec .lineMoveComplete s = .next t ∧ t.sparings = [{ x with moved := true }] ∧ t.posOf x.core = q ∧
         t.pipeOf x.core = 0 ∧ t.core x.core = { (s.core x.core).rolledBack with tlb := [] } ∧
         (∀ m, m ≠ x.core → t.core m = s.core m) ∧ t.role q = 1 ∧ t.role x.position = 3 ∧
         t.pstate x.position = 4 ∧ t.mem = s.mem) ∧
     (x.moved = true → (s.core x.core).haltDue = false → ∃ t, exec .spareRestart s = .next t ∧ t.sparings = [] ∧
       t.fld (bPos x.position) F.SPARE_INFO_PARTNER = q ∧ t.fld (bPos q) F.SPARE_INFO_PARTNER = x.position ∧
       t.flag (bPos x.position) F.SPARE_INFO_VALID = true ∧ t.flag (bPos q) F.SPARE_INFO_VALID = true ∧
       t.flag (bPos q) F.SPARE_INFO_CROSS_TILE = decide (q / 10 ≠ x.position / 10) ∧
       ((s.timebase - x.since).toNat < 2 ^ 16 → t.fld (bPos q) F.SPARE_INFO_DURATION = (s.timebase - x.since).toNat) ∧
       bit (t.reg (bPos x.position + 0x020)) 10 = true ∧ (t.source (0x1E00 + x.core)).pend = true ∧
       (t.source (0x1E00 + x.core)).evkind &&& 1 = 1 ∧ t.cores = s.cores ∧ t.mem = s.mem ∧ t.tiles = s.tiles))

/-- R266, R475: a debug halt of a running checked core halts it at its boundary, with LOCKSTEP_LOST, BLK_ERR.LOCKSTEP and
its bit of DBG_STAT set and its open transaction aborted; RESUME lets it run again and clears both. DBG_DATA reads and
writes the register that DBG_SEL selects in a halted core. The model's choices it rests on: log entries 2, 15, 21. -/
def Obligations.DebugHaltsComplete : Prop :=
  (∀ (n : Fin 64) (s : State), let p := s.posOf n
    s.powered = true → s.split = false → p < 40 →
    (s.mayAccess .svc (bEse + 0x0B0) = true → s.accepts .svc esePage 0x0B0 (BitVec.ofNat 64 (n.val + 0x100)) = true →
      s.coreIssues n = true → (s.core n).halted = false →
      ∃ t, exec (.debugHalt n) s = .next t ∧ (t.core n).halted = true ∧ (t.core n).tx = none ∧
        ((s.core n).tx = none → t.arch n = s.arch n) ∧
        t.flag (bPos p) F.CORE_STAT_LOCKSTEP_LOST = true ∧ bit (t.reg (bPos p + 0x020)) 13 = true ∧
        bit (t.reg (bEse + F.DBG_STAT_HALTED.off)) n = true ∧ (∀ m, m ≠ n.val → t.core m = s.core m) ∧ t.mem = s.mem) ∧
    (s.mayAccess .svc (bEse + 0x0B0) = true → s.accepts .svc esePage 0x0B0 (BitVec.ofNat 64 (n.val + 0x200)) = true →
      (s.core n).halted = true →
      ∃ t, exec (.debugResume n) s = .next t ∧ (t.core n).halted = false ∧ t.arch n = s.arch n ∧
        t.flag (bPos p) F.CORE_STAT_LOCKSTEP_LOST = false ∧ bit (t.reg (bEse + F.DBG_STAT_HALTED.off)) n = false ∧
        (∀ m, m ≠ n.val → t.core m = s.core m) ∧ t.mem = s.mem)) ∧
  (∀ (v : Word) (s : State), let n := s.fld bEse F.DBG_SEL_CORE
    s.powered = true → (s.core n).halted = true →
    (s.accepts .svc esePage 0x0C8 v = true → ∃ t, exec (.dbgDataAccess (some v)) s = .next t ∧
      t.arch n = debugPut (s.arch n) (s.fld bEse F.DBG_SEL_FILE) (s.fld bEse F.DBG_SEL_NUM) v ∧
      (t.core n).wafer = t.arch n ∧ (∀ m, m ≠ n → t.core m = s.core m) ∧ t.regs = s.regs ∧ t.mem = s.mem) ∧
    (s.present esePage = true → exec (.dbgDataAccess none) s = .next (s.drive (leBytes 8
      (s.debugRead n (s.fld bEse F.DBG_SEL_FILE) (s.fld bEse F.DBG_SEL_NUM)).toNat))))

/-! ## Microcode (R270 to R286) -/

/-- R272, R274, R275, R277: a copy's sequencer executes the microword at its µPC. A nano-word goes on to µPC + 1; JMP, JT,
JF, CALL, RET, DISP and END go where Table 12.3 says; CALL and RET work in a micro-stack sequencer with room or an
entry, the stack being empty at the rest point. A WAIT whose line is false holds the sequencer; when it ends the
microword acts, TIMED_OUT is set where the line is still false, and JT and JF branch on the line as it then is. R276,
R279, R280: a microword that R276 calls illegal stops the copy's sequencer and sets BLK_ERR.UCFAULT of its window,
with the µPC and the copy in UC_STAT; in the stores of the home agent and the interrupt controller the module enters
Check-Stop. A corrected error of a word is counted. The model's choices it rests on: log entries 2, 33. -/
def Obligations.MicrowordsRunOrFault : Prop :=
  (∀ (u : Fin 8) (copy : Fin 80) (cond : Bool) (dv : BitVec 8) (s : State),
     let q := s.seqOf u copy
     let w := SMap.get 0 (s.imageOf u copy).micro q.upc
     let line := s.condLine u copy (w / 2 ^ 16 % 64) cond
     let tmo := SMap.get 0 (s.imageOf u copy).nano 0 / 2 ^ (16 * (w / 2 ^ 24 % 8)) % 2 ^ 16
     let stack := if q.upc = 0 then [] else q.stack
     let bop := w / 2 ^ 28
     let goes := fun (t : State) (timed : Bool) (upc : Nat) (st : List Nat) =>
       t.seqOf u copy = { q with upc := upc, stack := st, waiting := false, timedOut := timed } ∧ t.regs = s.regs ∧
         t.mem = s.mem ∧ t.cores = s.cores
     let runs := fun (t : State) (timed : Bool) =>
       (bop = 0 → w % 4096 ≠ 0 → w % 4096 < ucNanos u → t.regs = s.regs ∧ t.mem = s.mem ∧ t.cores = s.cores ∧ (t.seqOf u copy).upc = (q.upc + 1) % ucWords u ∧
         (t.seqOf u copy).control = nanoControl (SMap.get 0 (s.imageOf u copy).nano (w % 4096)) (w / 2 ^ 12 % 16)) ∧
       (bop = 8 → w % 65536 < ucWords u → goes t timed (w % 65536) stack) ∧
       (bop = 9 → w % 65536 < ucWords u → goes t timed (if line then w % 65536 else (q.upc + 1) % ucWords u) stack) ∧
       (bop = 10 → w % 65536 < ucWords u → goes t timed (if line then (q.upc + 1) % ucWords u else w % 65536) stack) ∧
       (bop = 11 → w % 65536 < ucWords u → u.val ≤ 1 → stack.length < 8 →
         goes t timed (w % 65536) ((q.upc + 1) % ucWords u :: stack)) ∧
       (∀ top rest, bop = 12 → u.val ≤ 1 → stack = top :: rest → goes t timed top rest) ∧
       (bop = 13 → w % 65536 + dv.toNat < ucWords u → goes t timed (w % 65536 + dv.toNat) stack) ∧
       (bop = 14 → goes t timed 0 stack)
     s.powered = true → s.ucSteps u copy = true → w / 2 ^ 22 % 4 = 0 → w < 2 ^ 32 →
     (q.waiting = false → w.testBit 27 = false →
       ∃ t, exec (.microword u copy cond dv 0) s = .next t ∧ runs t q.timedOut) ∧
     (q.waiting = false → w.testBit 27 = true → mwLegal u w = true → line = false → tmo ≠ 0 →
       ∃ t, exec (.microword u copy cond dv 0) s = .next t ∧ t.seqOf u copy = { q with waiting := true } ∧ t.regs = s.regs ∧
         t.mem = s.mem ∧ t.cores = s.cores) ∧
     (q.waiting = true → w.testBit 27 = true → ∃ t, exec (.microwordWaitEnd u copy cond dv) s = .next t ∧ runs t (!line))) ∧
  (∀ (u : Fin 8) (copy : Fin 80) (cond : Bool) (dv : BitVec 8) (s : State),
     let q := s.seqOf u copy
     let w := SMap.get 0 (s.imageOf u copy).micro q.upc
     s.powered = true → s.ucSteps u copy = true →
     (u = 3 ∨ u = 7) → q.waiting = false → mwLegal u w = false → ∃ t, exec (.microword u copy cond dv 0) s = .next t ∧
       (t.seqOf u copy).stopped = true ∧ bit (t.reg (bUcode u + 0x020)) 8 = true ∧
       t.fld (bUcode u) F.UC_STAT_FAULT_UPC = q.upc % 2 ^ 16 ∧ t.fld (bUcode u) F.UC_STAT_FAULT_COPY = copy ∧ t.mode = 10)

/-- R281, R282: the commands of a store's window, where Table 12.8 accepts them. OPEN empties the staging buffer and
starts receiving; UC_DATA stores 8 bytes at UC_COUNT; COMMIT starts the check; ABORT ends the load with RESULT 0xA.
R284, R285: an image whose check fails leaves every word as it was, with its RESULT and BLK_ERR.LOADFAIL; one that
passes is applied: while running copies have not switched PENDING counts them, and when the last has, the new words,
UCODE_VER, UC_DIGEST, RESULT 1 and STATE 0 stand. The model's choices it rests on: log entries 2, 31, 33. -/
def Obligations.MicrocodeImagesAreApplied : Prop :=
  (∀ (src : Src) (u : Fin 8) (v : Word) (s : State), s.powered = true → s.mayAccess src (bUcode u + 0x040) = true →
     s.mayAccess src (bUcode u + 0x048) = true →
     (s.accepts src (ucodePage u) 0x040 1 = true → ∃ t, exec (.ucOpen src u) s = .next t ∧ t.ucState u = 1 ∧
       t.fld (bUcode u) F.UC_COUNT_BYTES = 0 ∧ t.flag (bUcode u) F.UC_STAT_OVF = false ∧
       t.fld (bUcode u) F.UC_STAT_RESULT = 0 ∧ t.staging = [] ∧ t.ucode = s.ucode ∧ t.mem = s.mem ∧ t.cores = s.cores) ∧
     (s.accepts src (ucodePage u) 0x048 v = true → ∃ t, exec (.ucData src u v) s = .next t ∧ t.ucState u = 1 ∧
       t.staging = s.staging ++ leBytes 8 v.toNat ∧
       t.fld (bUcode u) F.UC_COUNT_BYTES = s.fld (bUcode u) F.UC_COUNT_BYTES + 8 ∧ t.ucode = s.ucode ∧ t.mem = s.mem ∧
       t.cores = s.cores) ∧
     (s.accepts src (ucodePage u) 0x040 2 = true → ∃ t, exec (.ucCommit src u) s = .next t ∧ t.ucState u = 2 ∧
       t.staging = s.staging ∧ t.ucode = s.ucode ∧ t.mem = s.mem ∧ t.cores = s.cores) ∧
     (s.accepts src (ucodePage u) 0x040 4 = true → ∃ t, exec (.ucAbort src u) s = .next t ∧ t.ucState u = 0 ∧
       t.fld (bUcode u) F.UC_STAT_RESULT = 10 ∧ t.ucode = s.ucode ∧ t.mem = s.mem ∧ t.cores = s.cores)) ∧
  (∀ (u : Fin 8) (copy : Fin 80) (s : State), let b := bUcode u
     let img := s.staging
     let check := imageCheck u img (s.fld b F.UC_COUNT_BYTES) (s.flag b F.UC_STAT_OVF) (s.reg (b + 0x060)) (s.store u).image
     let digest := leadingDigest (imageDigest img (imgNat img 0x14 4))
     s.powered = true → s.mode ≠ 10 →
     (s.ucState u = 2 → ∃ t, exec (.imageCheckComplete u) s = .next t ∧ t.mem = s.mem ∧ t.cores = s.cores ∧
       match check with
       | .error r => t.ucState u = 0 ∧ t.fld b F.UC_STAT_RESULT = r ∧ bit (t.reg (b + 0x020)) 9 = true ∧ t.ucode = s.ucode ∧
           t.reg (b + 0x060) = s.reg (b + 0x060)
       | .ok m =>
         let running := (s.ucCopies u).filter (fun c => s.ucRuns u c)
         (running ≠ [] → t.ucState u = 3 ∧ t.fld b F.UC_STAT_PENDING = running.length ∧ (t.store u).image = (s.store u).image ∧
           t.reg (b + 0x060) = s.reg (b + 0x060)) ∧
         (running = [] → t.ucState u = 0 ∧ t.fld b F.UC_STAT_RESULT = 1 ∧ (t.store u).image = m ∧
           t.reg (b + 0x060) = imageVersion img ∧ t.reg (b + 0x068) = digest)) ∧
     (s.ucState u = 3 → copy.val ∈ s.ucWaiting u → (∀ c ∈ s.ucTogether u copy, s.ucCanSwitch u c = true) →
       ∃ t, exec (.copySwitch u copy) s = .next t ∧ t.mem = s.mem ∧ t.cores = s.cores ∧
         let left := (s.ucWaiting u).filter (fun c => !(s.ucTogether u copy).contains c)
         (left ≠ [] → t.ucState u = 3 ∧ t.fld b F.UC_STAT_PENDING = left.length ∧ t.imageOf u copy = (s.store u).next) ∧
         (left = [] → t.ucState u = 0 ∧ t.fld b F.UC_STAT_RESULT = 1 ∧ (t.store u).image = (s.store u).next ∧
           t.reg (b + 0x060) = (s.store u).version ∧ t.reg (b + 0x068) = (s.store u).digest)))

/-! ## Channel stations, rings and scripts (R287 to R316) -/

/-- R292, R294: a doorbell of a ring that the engines serve, whose control record reads, is acted on. A value within the
ring's entries becomes the producer index and a stopped ring goes on; one out of range puts the ring in error with
cause 0x1; a ring in error whose RESET_GEN has not moved stays in error. The firmware ring's doorbell acts alike.
R295, Table 13.4: an entry that a ring gives, with a completion slot, is taken and accepted. START of an idle station
with no transforms makes it PENDING with its request; HALT, CANCEL of an idle station complete NOT_FOUND; CANCEL of a
pending one ends the START as CANCELED and completes; QUERY completes with the station's state; MODIFY sets the EN
bits and completes. The model's choices it rests on: log entries 2, 34. -/
def Obligations.ChannelRingsAreServed : Prop :=
  (∀ (src : Src) (z : Fin 256) (n : Fin 16) (pi : BitVec 32) (g off : Nat) (pg : Page) (p : RingPlace) (c : Instr) (s : State),
     let s0 := s.setReg (pg.base + off) (storeFields (s.reg (pg.base + off)) (pi.setWidth 64) [] ((pageFields pg off).getD []))
     let r := s0.zoneRead p.zone (p.control + 0x80) 32
     let x := r.s.ring g
     let e := leNat ((r.data.drop 16).take 4)
     s.powered = true → s.mayAccess src (pg.base + off) = true → s.accepts src pg off (pi.setWidth 64) = true →
     ((c = .cssDb src z n pi ∧ pg = ⟨.door, z⟩ ∧ off = 0x080 + 8 * n.val ∧ g = zrtFirst (s0.zrt z) + n.val) ∨
      (c = .cssFwrDb src pi ∧ pg = cssPage ∧ off = 0x060 ∧ g = 1024)) →
     s0.flag bCss F.CSS_STAT_ESE_DRAIN = false → s0.enginesServe = true → s0.ringPlace g = some p → r.err = none →
     r.poison = false → s0.unsolFor g = [] →
     (x.error = false → (pi.toNat + 2 ^ 32 - x.cons) % 2 ^ 32 ≤ 2 ^ p.e →
       ∃ t, exec c s = .next t ∧ (t.ring g).target = pi.toNat ∧ (t.ring g).cons = x.cons ∧ (t.ring g).stalled = false ∧
         (t.ring g).error = false ∧ (t.ring g).cmpCons = leNat (r.data.take 4)) ∧
     (x.error = true → e = x.resetSeen →
       ∃ t, exec c s = .next t ∧ (t.ring g).error = true ∧ (t.ring g).cons = x.cons ∧ (t.ring g).resetGen = e)) ∧
  (∀ (g : Fin 1025) (p : RingPlace) (e : Entry) (s s1 : State), s.powered = true → s.ringReady g = true →
     s.headEntry g = (s1, some (p, e)) → (s1.ring g).error = false → (s1.ring g).hasSlot p.e = true →
     let t := (s1.setRing g { s1.ring g with reserved := (s1.ring g).reserved + 1 }).takeEntry g p
     let x := t.station e.station
     (e.malformed = true → (e.op ≤ 1 ∨ 6 ≤ e.op) → (e.op = 1 → s1.outOfIdle < 4096) →
       exec (.start g) s = .next (t.endEntry g e 0x10 0)) ∧
     (e.malformed = false → (p.zone = none ∨ t.stationOwner e.station = p.zone) →
       (e.op = 1 → s1.outOfIdle < 4096 →
         (x.state = 0 → e.xcount = 0 → ∃ u, exec (.start g) s = .next u ∧ (u.station e.station).state = 1 ∧
           (∃ r, (u.station e.station).req = some r ∧ r.ring = g ∧ r.tag = e.tag ∧ r.script = e.script ∧ r.intr = e.intr ∧
             r.tmo = (if e.tmo = 0 then t.fld bCss F.CSS_CTL_DEF_TMO else e.tmo)) ∧
           u.fld bCss F.CSS_CNT_STARTS = satAdd F.CSS_CNT_STARTS.width (t.fld bCss F.CSS_CNT_STARTS) 1 ∧
           u.mem = t.mem ∧ u.tiles = t.tiles) ∧
         (x.state ≠ 0 → exec (.start g) s = .next (t.endEntry g e 0x07 0))) ∧
       (e.op = 2 → x.state = 0 → exec (.halt g) s = .next (t.endEntry g e 0x11 1)) ∧
       (e.op = 2 → x.state = 2 → x.closing = false → ∃ u, exec (.halt g) s = .next u ∧
         (u.station e.station).state = 3 ∧ (u.station e.station).halts = x.halts ++ [{ ring := g, tag := e.tag, intr := e.intr }]) ∧
       (e.op = 3 → (x.state = 0 → exec (.cancel g) s = .next (t.endEntry g e 0x11 1)) ∧
         (2 ≤ x.state → exec (.cancel g) s = .next (t.endEntry g e 0x11 2)) ∧
         (x.state = 1 → x.closing = false →
           exec (.cancel g) s = .next ((t.endRequest e.station 0x0B 0 0).endEntry g e 0x01 0))) ∧
       (e.op = 4 → exec (.query g) s = .next (t.endEntry g e 0x01 0 (t.pathsWord e.station) x.state)) ∧
       (e.op = 5 → 2 ^ (t.portsOf e.station).length ≤ e.arg → exec (.modify g) s = .next (t.endEntry g e 0x10 0)) ∧
       (e.op = 5 → e.arg < 2 ^ (t.portsOf e.station).length → ∃ v : State, exec (.modify g) s = .next (v.endEntry g e 0x01 0).repath ∧
         v = { t with css := { t.css with paths := v.css.paths } } ∧
         (∀ i q, (t.portsOf e.station)[i]? = some q → v.path q e.station = putBit (t.path q e.station) 48 (e.arg.testBit i)) ∧
         (∀ q j, q < 16 → j < 65536 → (j = e.station → q ∉ t.portsOf e.station) → v.path q j = t.path q j))))

/-- R308, R310, Table 13.9: a pending request whose path is selected and whose first entry, an input command without
transform or list, reads and passes its checks has its command sent and the station becomes ACTIVE; a later entry that
a BARRIER held back is started in its turn; PATHWAIT without a usable path ends a pending request with NO_PATH; the
time limit ends a pending one and takes an active one to HALTING with TIMEOUT; 1 ms of HALTING ends the request as its
cause says. The model's choices it rests on: log entries 2, 34. -/
def Obligations.StationEventsComplete : Prop :=
  ∀ (st : BitVec 16) (r : Request) (s : State), let n := st.toNat
    s.powered = true → s.enginesServe = true → (s.station n).req = some r → r.closing = false →
    (∀ p q se w d, (s.station n).state = 1 → r.waits = false → s.selectPath n [] = some p →
      let s1 := s.modReq n (fun x => { x with port := some p, lastPort := p })
      s1.fetchSe { r with port := some p, lastPort := p } r.script true = { s := q, res := .ok (se, w, d) } →
      (q.station n) = s1.station n → (w % 2 ^ 8 / 2 ^ 5 = 2 ∨ w % 2 ^ 8 / 2 ^ 5 = 4) → w.testBit 10 = false →
      w.testBit 11 = false → ∃ t, exec (.stationCommandSent st) s = .next t ∧ (t.station n).state = 2 ∧
        ∃ x, (t.station n).req = some x ∧ x.port = some p ∧ x.se = se ∧ x.word = w ∧ x.commands = r.commands + 1 ∧
          x.places = [(d, w / 2 ^ 16 % 2 ^ 24)]) ∧
    (∀ q se w d, (s.station n).state = 2 → r.due = true →
      let s1 := s.modReq n (fun x => { x with due := false })
      s1.fetchSe { r with due := false } (r.se + 16) false = { s := q, res := .ok (se, w, d) } →
      (q.station n) = s1.station n → (w % 2 ^ 8 / 2 ^ 5 = 2 ∨ w % 2 ^ 8 / 2 ^ 5 = 4) → w.testBit 10 = false →
      w.testBit 11 = false → ∃ t, exec (.barrierSeFetch st) s = .next t ∧ (t.station n).state = 2 ∧
        ∃ x, (t.station n).req = some x ∧ x.se = se ∧ x.word = w ∧ x.commands = r.commands + 1 ∧ x.due = false ∧
          x.places = [(d, w / 2 ^ 16 % 2 ^ 24)]) ∧
    ((s.station n).state = 1 → s.selectPath n r.lost = none → r.commands = 0 →
      exec (.pathwaitExpiry st) s = .next (s.endRequest n 0x08 0 0)) ∧
    (r.tmo ≠ 0 → (s.station n).state = 1 → exec (.timeLimitExpiry st) s = .next (s.endRequest n 0x0C 0 0)) ∧
    (r.tmo ≠ 0 → (s.station n).state = 2 → ∃ t, exec (.timeLimitExpiry st) s = .next t ∧ (t.station n).state = 3 ∧
      (∃ x, (t.station n).req = some x ∧ x.ending = some (0x0C, 0, 0)) ∧ t.mem = s.mem ∧ t.tiles = s.tiles) ∧
    (∀ status info a, (s.station n).state = 3 → r.ending = some (status, info, a) →
      exec (.haltingTimeout st) s = .next (s.endRequest n status info a))

/-- R293, R305: the retry of a stopped ring lets it go on. An accepted PT_DATA write stores the entry of the station that
PT_SEL names, with EN equal to VALID, and moves PT_SEL on; an accepted CSS_ZRT write stores the zone's range. The
model's choices it rests on: log entries 2, 34. -/
def Obligations.ChannelTablesComplete : Prop :=
  (∀ (g : Fin 1025) (s : State), s.powered = true → (s.ring g).stalled = true → s.unsolFor g = [] → s.enginesServe = true →
    exec (.ringSlotRetry g) s = .next (s.setRing g { s.ring g with stalled := false })) ∧
  (∀ (src : Src) (p : Fin 16) (v : Word) (s : State), s.powered = true → s.mayAccess src (bCport p + 0x408) = true →
    s.accepts src (cportPage p) 0x408 v = true → s.cpUp p = false → ∃ t, exec (.ptDataWrite src p v) s = .next t ∧
      (let e := t.path p (s.fld (bCport p) F.PT_SEL_STATION)
       pePartner e = pePartner v ∧ peUnit e = peUnit v ∧ pePref e = pePref v ∧ peValid e = peValid v ∧ peEn e = peValid v ∧
       peAring e = peAring v) ∧
      (∀ q st, q < 16 → st < 65536 → ¬ (q = p.val ∧ st = s.fld (bCport p) F.PT_SEL_STATION) → t.path q st = s.path q st) ∧
      t.fld (bCport p) F.PT_SEL_STATION = (s.fld (bCport p) F.PT_SEL_STATION + 1) % 65536 ∧
      t.mem = s.mem ∧ t.cores = s.cores) ∧
  (∀ (src : Src) (z : Fin 256) (v : Word) (s : State), s.powered = true → s.mayAccess src (bCss + 0x800 + 8 * z) = true →
    s.accepts src cssPage (0x800 + 8 * z.val) v = true → ∃ t, exec (.cssZrtWrite src z v) s = .next t ∧
      zrtFirst (t.zrt z) = zrtFirst v ∧ zrtCount (t.zrt z) = zrtCount v ∧ zrtE (t.zrt z) = zrtE v ∧
      zrtBase (t.zrt z) = zrtBase v ∧ (∀ y, y < 256 → y ≠ z.val → t.zrt y = s.zrt y) ∧ t.mem = s.mem ∧ t.cores = s.cores)

/-! ## The channel link (R317 to R337) -/

/-- R317, R318, R322, R325 to R330, Table 14.3: a link starts, carries frames and is lost. PCS lock sends INIT with SEQ 1;
INIT is answered with INIT_ACK, and the link is up once both sides have acknowledged; each lost lane, silence, a frame
sent RTX_MAX + 1 times and an INIT while up lose the link, after which nothing is kept, the paths are lost and the
port retrains, or fails after 16 starts; a frame with a bad CRC is counted, a frame in order delivered; a frame that
the map shows missing or whose timer passes is sent again with RTX; an unanswered LOGIN is sent again, three times.
The model's choices it rests on: log entries 2, 34. -/
def Obligations.ChannelLinkComplete : Prop :=
  ∀ (p : Fin 16) (s : State), let b := bCport p; let x := s.cport p
    let st := s.fld b F.CP_STAT_STATE
    s.powered = true → s.mode ≠ 10 →
    (x.lossDue = false →
      (s.flag b F.RUN = true → (st = 1 ∨ st = 5) → ∃ t, exec (.pcsLock p) s = .next t ∧ t.fld b F.CP_STAT_STATE = 2 ∧
        t.fld b F.CP_STAT_LANES = x.lanes % 4 ∧ (t.cport p).nextSeq = 1 ∧ (t.cport p).ack = 0 ∧ (t.cport p).unacked = [] ∧
        (t.cport p).held = [] ∧ (t.cport p).sentAck = false ∧ (t.cport p).gotAck = false ∧
        (t.cport p).sent = some { typ := 1, seq := 1, crlim := 256, payload := s.initPayload p } ∧ t.mem = s.mem) ∧
      (2 ≤ st → st ≤ 4 →
        (∀ l : Fin 2, (s.fld b F.CP_STAT_LANES).testBit l = true → ∃ t, exec (.channelLaneLoss p l) s = .next t ∧
          (t.cport p).lossDue = true ∧ t.regs = s.regs ∧ t.mem = s.mem ∧
          (t.cport p).lanes = (if s.fld b F.CP_LANE_PORT_SPEED = 0 ∧ s.fld b F.CP_STAT_LANES = 3 then 2 - l.val
            else if s.fld b F.CP_LANE_PORT_SPEED = 0 then s.fld b F.CP_STAT_LANES
            else if s.fld b F.CP_LANE_PORT_SPEED = 2 then 1 else 3)) ∧
        (∃ t, exec (.linkSilenceTimeout p) s = .next t ∧ (t.cport p).lossDue = true ∧ t.regs = s.regs ∧ t.mem = s.mem) ∧
        (∀ bytes : List Byte, 36 ≤ bytes.length →
          let body := bytes.take (bytes.length - 4)
          let f := parseFrame bytes
          (crc32c body ≠ leNat (bytes.drop (bytes.length - 4)) → ∃ t, exec (.channelFrameReceive p bytes false) s = .next t ∧
            t.cport p = x ∧ t.mem = s.mem ∧
            t.fld b F.CP_CNT_LINK_CRC = satAdd F.CP_CNT_LINK_CRC.width (s.fld b F.CP_CNT_LINK_CRC) 1) ∧
          (crc32c body = leNat (bytes.drop (bytes.length - 4)) → 3 ≤ st → 0x10 ≤ f.typ → x.ack < 2 ^ 32 →
            f.seq = (x.ack + 1) % 2 ^ 32 → x.held = [] → f.flags.testBit 2 = false → headerReserved bytes = false →
            frameLength bytes = bytes.length - 36 → f.wellFormed (s.linkMaxpay p) = true →
            ∃ t, exec (.channelFrameReceive p bytes false) s = .next t ∧ (t.cport p).inbox = x.inbox ++ [f] ∧
              (t.cport p).ack = f.seq ∧ (t.cport p).held = [] ∧ (t.cport p).ackDue = true ∧ t.regs = s.regs ∧ t.mem = s.mem))) ∧
      (st = 2 → x.gotAck = false → ∃ t, exec (.initResend p) s = .next t ∧ t.regs = s.regs ∧
        ∃ f, (t.cport p).sent = some f ∧ f.typ = 1 ∧ f.payload = s.initPayload p) ∧
      (∀ f l, x.now = f :: l →
        (f.typ = 1 → 3 ≤ st → st ≤ 4 → ∃ t, exec (.init p) s = .next t ∧ (t.cport p).lossDue = true ∧ (t.cport p).now = l ∧
          t.regs = s.regs) ∧
        (f.typ = 1 → st = 2 → f.num 0 1 = 1 → f.num 1 1 ≠ 0 → x.gotAck = false → ∃ t, exec (.init p) s = .next t ∧
          t.fld b F.CP_STAT_STATE = 2 ∧ t.fld b F.CP_STAT_PEER_MAXPAY = f.num 2 1 % 4 ∧
          t.reg (b + 0x050) = BitVec.ofNat 64 (f.num 8 8) ∧ (t.cport p).limit = f.num 0x10 4 ∧ (t.cport p).sentAck = true ∧
          ∃ g, (t.cport p).sent = some g ∧ g.typ = 2 ∧ g.payload = s.initPayload p) ∧
        (f.typ = 2 → st = 2 → f.num 0 1 = 1 → f.num 1 1 ≠ 0 → x.sentAck = true → s.pathsOn p = [] →
          ∃ t, exec (.initAck p) s = .next t ∧ t.fld b F.CP_STAT_STATE = (if x.lanes = 3 then 3 else 4) ∧
            (t.cport p).limit = f.num 0x10 4 ∧ (t.cport p).starts = 0 ∧
            t.fld b F.CP_CNT_LINK_INITS = satAdd F.CP_CNT_LINK_INITS.width (s.fld b F.CP_CNT_LINK_INITS) 1) ∧
        (f.typ = 3 → ∀ q k, x.unacked = [(q, k)] → k < s.fld b F.CP_CFG_RTX_MAX + 1 → q.seq = (f.ack + 1) % 2 ^ 32 →
          (f.num 0 32).testBit 0 = false → 2 ≤ f.num 0 32 → ∃ t, exec (.lstat p) s = .next t ∧ (t.cport p).now = l ∧
            ∃ g, (t.cport p).unacked = [(g, k + 1)] ∧ g.seq = q.seq ∧ g.typ = q.typ ∧ g.payload = q.payload ∧
              g.flags.testBit 3 = true ∧ (t.cport p).sent = some g)) ∧
      ((st = 3 ∨ st = 4) →
        (∃ t, exec (.lstatSend p) s = .next t ∧ t.regs = s.regs ∧ (t.cport p).ackDue = false ∧
          (t.cport p).sent = some (Frame.mk 3 0 0 0 x.nextSeq x.ack 0 ((x.ack + 256) % 2 ^ 32) 0 0
           (leBytes 32 x.map))) ∧
        (∀ (q : Frame) (k : Nat) (r : BitVec 32), x.unacked.find? (fun u => u.1.seq == r.toNat) = some (q, k) →
          (k < s.fld b F.CP_CFG_RTX_MAX + 1 → ∃ t g, exec (.retransmissionTimer p r) s = .next t ∧
            (t.cport p).sent = some g ∧ g.seq = q.seq ∧ g.payload = q.payload ∧ g.flags.testBit 3 = true ∧
            t.fld b F.CP_CNT_LINK_RTX = satAdd F.CP_CNT_LINK_RTX.width (s.fld b F.CP_CNT_LINK_RTX) 1) ∧
          (s.fld b F.CP_CFG_RTX_MAX + 1 ≤ k → ∃ t, exec (.retransmissionTimer p r) s = .next t ∧
            (t.cport p).lossDue = true ∧ t.regs = s.regs)) ∧
        (∀ (a : BitVec 12) (l : Login), SMap.find? x.logins a.toNat = some l → l.state = 1 → ∃ (t : State) (u : Login),
          exec (.loginTimeout p a) s = .next t ∧ SMap.find? (t.cport p).logins a.toNat = some u ∧
          (l.tries < 4 → u.state = 1 ∧ u.tries = l.tries + 1) ∧
          (4 ≤ l.tries → u.state = 4 ∧ bit (t.reg (b + 0x020)) 10 = true)))) ∧
    (x.lossDue = true →
      let starts := if st = 3 ∨ st = 4 then 0 else x.starts + 1
      ∃ u : State, exec (.channelLinkLoss p) s = .next (if s.enginesServe then u.repath else u) ∧
        u.fld b F.CP_STAT_STATE = (if s.flag b F.RUN = false ∨ x.down = true then 0 else if 16 ≤ starts then 6 else 5) ∧
        u.fld b F.CP_STAT_LANES = 0 ∧ (u.cport p).unacked = [] ∧ (u.cport p).outq = [] ∧ (u.cport p).held = [] ∧
        (u.cport p).inbox = [] ∧ (u.cport p).logins = [] ∧ (u.cport p).lossDue = false ∧
        bit (u.reg (b + 0x020)) 8 = true ∧
        u.fld b F.CP_CNT_LINK_DOWN = satAdd F.CP_CNT_LINK_DOWN.width (s.fld b F.CP_CNT_LINK_DOWN) 1 ∧
        (∀ y ∈ u.css.stations, ∀ r, y.2.req = some r → r.closing = false → r.port ≠ some p.val) ∧ u.mem = s.mem)

/-- R330 to R337, Tables 14.4 and 14.6: the frames delivered. An accepted login makes its address usable; LOGOUT ends it;
DATA of an inbound command in order is taken, duplicates left out; RETRY_REQ sends the CMD again; XACK frees held
output; ABORT_ACK ends HALTING; RESUME_ACK continues at the partner's RXOFF or sends the command again; RESUME repeats
three times; UNSOL without a station is refused with reason 3 and with one held with reason 2; REJECT 4 logs in again.
CP_CMD takes the link down, or trains it on the lanes PORT_SPEED allows. The model's choices it rests on: log entries
2, 34. -/
def Obligations.ChannelFramesComplete : Prop :=
  (∀ (p : Fin 16) (f : Frame) (l : List Frame) (s : State), let b := bCport p
    let v := s.setCport p { s.cport p with inbox := l }
    s.powered = true → s.mode ≠ 10 → (s.cport p).lossDue = false → (s.cport p).inbox = f :: l →
    (∀ q, SMap.find? (s.cport p).logins f.partner = some q →
      (f.typ = 0x11 → q.state = 1 →
        (f.num 0 1 = 0 → ∃ u : State, exec (.loginAck p) s =
            .next (if s.enginesServe then (u.abortAbandoned p f.partner).repath else u) ∧
          SMap.find? (u.cport p).logins f.partner = some
            (Login.mk 2 0 0 (min (s.linkMaxpay p) (f.num 1 1 % 4)) (BitVec.ofNat 64 (f.num 8 8))) ∧
          (u.cport p).inbox = l ∧ u.regs = s.regs) ∧
        (f.num 0 1 ≠ 0 → ∃ (t : State) (u : Login), exec (.loginAck p) s = .next t ∧ SMap.find? (t.cport p).logins f.partner = some u ∧
          u.state = 3 ∧ u.result = f.num 0 1 ∧ bit (t.reg (b + 0x020)) 10 = true)) ∧
      (f.typ = 0x12 → q.state = 2 → s.enginesServe = true → s.openWith p f.partner = [] →
        ∃ (t : State) (u : Login), exec (.logout p) s = .next t ∧ SMap.find? (t.cport p).logins f.partner = some u ∧ u.state = 1 ∧
          (t.cport p).inbox = l ∧ t.regs = s.regs ∧ t.mem = s.mem)) ∧
    (∀ n r, s.enginesServe = true → s.stationOfX p f = some n → (s.station n).req = some r → r.closing = false →
      ((s.station n).state = 2 → r.resume = none →
        (f.typ = 0x21 → r.outbound = false → f.cidx = r.cidx → f.xoff ≤ r.rxoff → r.ended = false →
          (f.xoff + f.payload.length ≤ r.rxoff → exec (.channelData p false) s =
            .next (v.modReq n (fun q => { q with heard := true }))) ∧
          (r.rxoff < f.xoff + f.payload.length → ∃ u : State, exec (.channelData p false) s = .next (u.feedInbound n) ∧
            (u.station n).req = some { r with heard := true
                                              rxoff := f.xoff + f.payload.length
                                              rxbuf := r.rxbuf ++ f.payload.drop (r.rxoff - f.xoff)
                                              ended := f.flags.testBit 0 })) ∧
        (f.typ = 0x22 → f.cidx = r.cidx → r.status = none → r.due = false →
          (f.num 0 1 = 0x20 → r.retries < 4 → ∃ (u : State) (w : Request), exec (.dstat p) s = .next ((u.sendCmd n).pump1 n) ∧
            (u.station n).req = some w ∧ w.retries = r.retries + 1 ∧ w.sent = 0 ∧ w.acked = 0 ∧ w.ended = false) ∧
          (f.num 0 1 = 1 → r.outbound = true → ∃ (u : State) (w : Request), exec (.dstat p) s = .next (u.settleStatus n) ∧
            (u.station n).req = some w ∧ w.status = some (1, f.xoff) ∧ w.ended = true ∧
            w.acked = max r.acked (min f.xoff r.sent))) ∧
        (f.typ = 0x2A → f.cidx = r.cidx → r.outbound = true → ∃ (u : State) (w : Request), exec (.xack p) s = .next (u.pumpPort p) ∧
          (u.station n).req = some w ∧ w.acked = max r.acked (min f.xoff r.sent))) ∧
      (f.typ = 0x25 → (s.station n).state = 3 → exec (.abortAck p) s = .next (v.haltingEnds n)) ∧
      (f.typ = 0x27 → (s.station n).state = 2 → r.resume ≠ none → r.outbound = true → f.num 0 1 = 0 →
        (f.cidx = r.cidx → (f.num 1 1).testBit 0 = false → ∃ (u : State) (w : Request), exec (.resumeAck p) s = .next (u.pump1 n) ∧
          (u.station n).req = some w ∧ w.resume = none ∧ w.sent = min (f.num 8 4) r.sent ∧
          w.acked = min (f.num 8 4) r.sent) ∧
        (f.cidx + 1 = r.cidx → (f.num 1 1).testBit 0 = true → ∃ (u : State) (w : Request), exec (.resumeAck p) s = .next ((u.sendCmd n).pump1 n) ∧
          (u.station n).req = some w ∧ w.resume = none ∧ w.sent = 0 ∧ w.acked = 0))) ∧
    (f.typ = 0x28 → s.enginesServe = true →
      ((∀ y ∈ s.pathsOn p, pePartner y.2 = f.partner → peUnit y.2 ≠ f.station) →
        exec (.unsol p) s = .next (v.reject p f 3)) ∧
      (∀ n e, (s.pathsOn p).find? (fun y => pePartner y.2 == f.partner && peUnit y.2 == f.station) = some (n, e) →
        ((s.station n).unsol ≠ none → exec (.unsol p) s = .next (v.reject p f 2)) ∧
        ((s.station n).unsol = none → peAringEn e = true → s.stationOwner n ≠ none →
          s.ringZone (peAring e) = s.stationOwner n →
          exec (.unsol p) s = .next ((v.setStation n { s.station n with unsol := some (f.num 0 1, p.val) }).deliverUnsol n)))) ∧
    (f.typ = 0x29 → s.enginesServe = true → f.num 0 1 ≠ 1 → ∃ t, exec (.reject p) s = .next t ∧
      t.fld b F.CP_CNT_PROTO_REJ_RX = satAdd F.CP_CNT_PROTO_REJ_RX.width (s.fld b F.CP_CNT_PROTO_REJ_RX) 1 ∧
      (f.num 0 1 = 4 → s.loggedIn p f.partner = true → ∃ u, SMap.find? (t.cport p).logins f.partner = some u ∧
        u.state = 1 ∧ u.tries = 1))) ∧
  (∀ (st : BitVec 16) (r : Request) (k p : Nat) (s : State), let n := st.toNat
    s.powered = true → s.enginesServe = true → (s.station n).state = 2 → (s.station n).req = some r → r.closing = false →
    r.resume = some k → r.port = some p →
    (k < 3 → exec (.resumeTimeout st) s = .next ((s.modReq n (fun q => { q with resume := some (k + 1) })).sendResume n)) ∧
    (3 ≤ k → exec (.resumeTimeout st) s = .next (s.pathLost n p))) ∧
  (∀ (src : Src) (p : Fin 16) (s : State), let b := bCport p
    s.powered = true → s.mayAccess src (b + 0x058) = true →
    (s.accepts src (cportPage p) 0x058 1 = true →
      ((s.fld b F.CP_STAT_STATE = 0 ∨ s.fld b F.CP_STAT_STATE = 6) → ∃ t, exec (.cpCmdRetrain src p) s = .next t ∧
        t.fld b F.CP_STAT_STATE = 1 ∧ (t.cport p).lanes = s.allLanes p ∧ (t.cport p).starts = 0 ∧ (t.cport p).down = false) ∧
      (s.fld b F.CP_STAT_STATE ≠ 0 → s.fld b F.CP_STAT_STATE ≠ 6 → ∃ t, exec (.cpCmdRetrain src p) s = .next t ∧
        (t.cport p).lossDue = true ∧ (t.cport p).lanes = s.allLanes p ∧ (t.cport p).down = false)) ∧
    (s.accepts src (cportPage p) 0x058 2 = true → ∃ t, exec (.cpCmdDown src p) s = .next t ∧ (t.cport p).down = true ∧
      (s.fld b F.CP_STAT_STATE ≠ 0 → s.fld b F.CP_STAT_STATE ≠ 6 → (t.cport p).lossDue = true) ∧
      ((s.fld b F.CP_STAT_STATE = 0 ∨ s.fld b F.CP_STAT_STATE = 6) → t.fld b F.CP_STAT_STATE = 0)))

/-! ## The channel engine pair (R340 to R360, R529) -/

/-- R341, R343 to R346, R351, Table 15.1, R529: a cycle without an event commits; a self-check opens an event of its cycle
and is counted; of an output in order, the second equal copy delivers it once, a different one delivers nothing and
opens an event, a repeat is discarded; a window that expires on the holder's copy delivers it and fails the other
engine; the first retry notice discards the cycle's copies and runs it again, and after a second event on it the
engine whose self-checks fired fails; a silent engine fails at once; an armed output mismatch acts in duplex and,
without PERSIST, disarms. The model's choices it rests on: log entries 2, 35. -/
def Obligations.EnginePairRuns : Prop :=
  ∀ (s : State), let n := s.pair.cycle
    let failed := fun (x cause recv : Nat) (t : State) => t.engRole x = 5 ∧ t.flag (bEng x) F.FAULT = true ∧ t.pairMode = 1 ∧
      t.flag (bEng x) F.RUNNING = false ∧ bit (t.reg (bEng x + 0x020)) 9 = true ∧ bit (t.reg (bCss + 0x020)) 10 = true ∧
      bits (t.reg (bCss + 0x120)) 0 5 = cause + 16 * x ∧ bits (t.reg (bCss + 0x120)) 8 8 = recv + 2 ^ 5 * 2 ∧
      t.pair.event = none ∧ (s.holder = x → s.pair.pass = none → t.pair.pass = some (1 - x, t.receiverList))
    s.powered = true → s.mode ≠ 10 →
    (1 ≤ s.pairMode → s.pairMode ≤ 3 →
      (s.cycleMayRun = true → ∃ t, exec (.engineCycle false false 0 false) s = .next t ∧ t.pair.cycle = n + 1 ∧
        t.pair.receivers = s.pair.receivers ∧ t.mem = s.mem ∧ t.css = s.css ∧
        (∀ e, s.pair.event = some e → e.cycle = n → t.fld bCss F.CSS_PAIR_LAST_OUTCOME = 1)) ∧
      (s.cycleMayRun = true → (s.pair.event = none ∨ ∃ e, s.pair.event = some e ∧ e.cycle < n) → s.executes 0 = true →
        ∃ t, exec (.engineCycle true false 3 false) s = .next t ∧ t.pair.cycle = n ∧
          t.pair.event = some { cause := 3, receiver := 31, cycle := n, selfA := true } ∧
          t.fld (bEng 0) F.ENG_CHKINFO_UNIT = 3 ∧ bit (t.reg (bEng 0 + 0x020)) 8 = true ∧
          t.fld bCss F.CSS_PAIR_CNT_SELFCHK = satAdd F.CSS_PAIR_CNT_SELFCHK.width (s.fld bCss F.CSS_PAIR_CNT_SELFCHK) 1 ∧
          t.fld (bEng 0) F.ENG_CNT_SELFCHK = satAdd F.ENG_CNT_SELFCHK.width (s.fld (bEng 0) F.ENG_CNT_SELFCHK) 1) ∧
      (∀ (e : Fin 2) (r : Fin 18) (q : BitVec 32) (d : Word), s.executes e = true → r.val ∈ s.receiverList →
        let x := s.receiver r
        (seqBefore q.toNat x.next = true → exec (.outputCopyArrival e r q d) s = .next s) ∧
        (∀ c, x.held = [c] → c.oseq = q.toNat → x.next = q.toNat → c.engine = 1 - e.val → s.pairMode = 3 →
          (c.data = d → x.lease = true → n < c.cycle + 16 → ∃ t, exec (.outputCopyArrival e r q d) s = .next t ∧
            (t.receiver r).delivered = d ∧ (t.receiver r).next = (q.toNat + 1) % 2 ^ 32 ∧ (t.receiver r).held = [] ∧
            t.regs = s.regs ∧ t.pair.event = s.pair.event) ∧
          (c.data ≠ d → (s.pair.event = none ∨ ∃ y, s.pair.event = some y ∧ y.cycle < n) →
            ∃ t, exec (.outputCopyArrival e r q d) s = .next t ∧ (t.receiver r).delivered = x.delivered ∧
            (t.receiver r).next = x.next ∧ (t.receiver r).held = [] ∧
            t.pair.event = some { cause := 1, receiver := r.val, cycle := n } ∧
            t.fld bCss F.CSS_PAIR_CNT_MISMATCH =
              satAdd F.CSS_PAIR_CNT_MISMATCH.width (s.fld bCss F.CSS_PAIR_CNT_MISMATCH) 1)))) ∧
    (∀ (r : Fin 18) (c : Copy), let x := s.receiver r
      s.pairMode = 3 → s.paired = true → x.lease = true → x.revoked = false → s.pair.event = none → s.pair.pass = none →
      x.held = [c] → c.oseq = x.next → c.engine < 2 → c.engine = x.holder → s.holder = x.holder →
      ∃ t, exec (.receiverWindowExpiry r) s = .next t ∧ (t.receiver r).delivered = c.data ∧
        (t.receiver r).next = (c.oseq + 1) % 2 ^ 32 ∧ failed (1 - c.engine) 4 r t) ∧
    (∀ e, s.pair.event = some e →
      (e.retried = false → e.second = false → ∃ t, exec .retryNotice s = .next t ∧
        t.pair.event = some { e with retried := true } ∧ t.pair.cycle = n ∧
        t.fld bCss F.CSS_PAIR_CNT_RETRIES = satAdd F.CSS_PAIR_CNT_RETRIES.width (s.fld bCss F.CSS_PAIR_CNT_RETRIES) 1 ∧
        (∀ r, ∀ c ∈ (t.receiver r).held, c.cycle ≠ e.cycle) ∧ t.mem = s.mem ∧ t.css = s.css) ∧
      (e.second = true → e.selfA = true → e.selfB = false → e.receiver < 32 → s.pairMode = 3 → s.paired = true →
        ∃ t, exec .retryNotice s = .next t ∧ failed 0 5 e.receiver t)) ∧
    (∀ (e : Fin 2) (r : Fin 32), s.pairMode = 3 → s.paired = true → s.executes e = true →
      (r.val < 18 ∨ (r.val = 18 ∧ s.holder = e)) → ∃ t, exec (.engineSilence e r) s = .next t ∧ failed e 4 r t ∧
        t.fld bCss F.CSS_PAIR_CNT_SILENCE = satAdd F.CSS_PAIR_CNT_SILENCE.width (s.fld bCss F.CSS_PAIR_CNT_SILENCE) 1) ∧
    (∀ (r : Fin 18) (u : BitVec 4), s.flag bCss F.CSS_PAIR_INJECT_ARM = true → s.fld bCss F.CSS_PAIR_INJECT_KIND = 1 →
      s.pairMode = 3 → r.val ∈ s.receiverList → s.pair.event = none → ∃ t, exec (.cssPairInject r u) s = .next t ∧
        t.flag bCss F.CSS_PAIR_INJECT_ARM = s.flag bCss F.CSS_PAIR_INJECT_PERSIST ∧
        t.pair.event = some { cause := 1, receiver := r.val, cycle := n, injected := true } ∧ t.mem = s.mem)

/-- R348 to R350, R353 to R356, R358: a pass revokes, collects the acknowledgements and grants the next epoch; a receiver
that has not acknowledged keeps its holder until its lease expires; leases are renewed; a return passes to the home
engine; the sweep ends in duplex, the gap in simplex under the loading engine, or with no engine where the store is
unreadable; SPLIT, REPAIR, RESYNC and their completions; the E12's recovery restarts its engine. The model's choices
it rests on: log entries 2, 35. -/
def Obligations.BiscuitAndPairCommands : Prop :=
  (∀ (s : State), s.powered = true → s.mode ≠ 10 →
    (∀ e due, s.pair.pass = some (e, due) → e < 2 →
      (s.passing = false → ∃ t, exec .revoke s = .next t ∧ t.passing = true ∧ t.pair = s.pair ∧ t.mem = s.mem) ∧
      (s.passing = true →
        (∀ r : Fin 18, r.val ∈ due → ∃ t, exec (.revokeAck r) s = .next t ∧
          t.receiver r = { s.receiver r with revoked := true } ∧ (∀ q, q ≠ r.val → t.receiver q = s.receiver q) ∧
          t.pair.pass = some (e, due.filter (fun q => q != r.val)) ∧ t.regs = s.regs) ∧
        (due = [] → s.pairMode ≠ 4 → ∃ u : State, exec .grant s = .next u.resumeService ∧ u.pair.pass = none ∧
          u.epoch = (s.epoch + 1) % 2 ^ 16 ∧ u.holder = e ∧ u.engRole e = 1 ∧
          u.fld bCss F.CSS_PAIR_CNT_PASSES = satAdd F.CSS_PAIR_CNT_PASSES.width (s.fld bCss F.CSS_PAIR_CNT_PASSES) 1 ∧
          (∀ r ∈ s.receiverList, (s.receiver r).revoked = true → (u.receiver r).holder = e ∧
            (u.receiver r).epoch = (s.epoch + 1) % 2 ^ 16 ∧ (u.receiver r).lease = true ∧ (u.receiver r).revoked = false)) ∧
        (due ≠ [] → s.pairMode ≠ 4 → ∃ u : State, exec .revokeAckTimeout s = .next u.resumeService ∧
          bit (u.reg (bCss + 0x020)) 11 = true ∧ u.fld bCss F.CSS_PAIR_LAST_CAUSE = 6 ∧
          u.fld bCss F.CSS_PAIR_LAST_OUTCOME = 5 ∧ u.holder = e ∧ u.epoch = (s.epoch + 1) % 2 ^ 16 ∧
          (∀ r ∈ s.receiverList, (s.receiver r).revoked = false → (s.receiver r).lease = true →
            (u.receiver r).holder = (s.receiver r).holder ∧ (u.receiver r).grant = some (e, (s.epoch + 1) % 2 ^ 16))))) ∧
    (1 ≤ s.pairMode → s.pairMode ≤ 3 → s.engRole s.holder = 1 → s.pair.pass = none → ∃ t, exec .leaseRenewal s = .next t ∧
      (∀ r ∈ s.receiverList, (s.receiver r).lease = true → (s.receiver r).grant = none →
        t.receiver r = { s.receiver r with renewed := s.timebase }) ∧
      (∀ r, (s.receiver r).lease = false → t.receiver r = s.receiver r) ∧ t.regs = s.regs) ∧
    (∀ r : Fin 18, (s.receiver r).lease = true → 100 ≤ (s.timebase - (s.receiver r).renewed).toNat →
      ((s.receiver r).grant = none → ∃ t, exec (.leaseExpiry r) s = .next t ∧
        t.receiver r = { s.receiver r with lease := false } ∧ t.regs = s.regs) ∧
      (∀ e ep, (s.receiver r).grant = some (e, ep) → ∃ u : State, exec (.leaseExpiry r) s = .next u.resumeService ∧
        (u.receiver r).holder = e ∧ (u.receiver r).epoch = ep ∧ (u.receiver r).lease = true ∧ (u.receiver r).grant = none)) ∧
    (s.pairClean = true → ∃ t, exec .autoReturn s = .next t ∧
      t.pair.pass = some (s.fld bCss F.CSS_HOME_ENGINE, s.receiverList) ∧ t.regs = s.regs) ∧
    (s.pairMode = 2 → ∃ t, exec .resyncSweepComplete s = .next t ∧ t.pairMode = 3 ∧ t.engRole (1 - s.holder) = 2 ∧
      t.fld bCss F.CSS_PAIR_STAT_RESYNC_DONE = 4096 ∧ t.pair = s.pair ∧ t.css = s.css) ∧
    (s.pairMode = 4 → s.paired = true →
      (∃ u : State, exec (.gapCopyComplete false) s = .next (u.resumeService.recoveryEnds .engineGap) ∧ u.pairMode = 1 ∧
        u.holder = 1 - s.holder ∧ u.engRole (1 - s.holder) = 1 ∧ u.epoch = (s.epoch + 1) % 2 ^ 16) ∧
      (∃ u : State, exec (.gapCopyComplete true) s = .next u.drainIfLost ∧
        u.pairMode = 6 ∧ u.engRole (1 - s.holder) = 5 ∧ u.flag (bEng (1 - s.holder)) F.FAULT = true ∧
        u.fld bCss F.CSS_PAIR_LAST_CAUSE = 7)) ∧
    (∀ x, s.pair.repairing = some x → x < 2 →
      (∃ t, exec (.repairComplete false) s = .next t ∧ t.engRole x = 5 ∧ t.pairMode = s.pairMode ∧ t.pair.repairing = none) ∧
      (s.pairMode = 1 → x ≠ s.holder → ∃ t, exec (.repairComplete true) s = .next t ∧ t.engRole x = 3 ∧ t.pairMode = 2 ∧
        t.flag (bEng x) F.FAULT = false ∧ t.fld bCss F.CSS_PAIR_STAT_RESYNC_DONE = 0 ∧ t.pair.repairing = none)) ∧
    (s.pairMode = 5 → ∃ u : State, exec (.e12EngineRecovery true false) s =
        .next (u.resumeService.recoveryEnds .engineRecovery) ∧ u.pairMode = 1 ∧ u.engRole 0 = 1 ∧
      u.flag (bEng 0) F.BUSY = false ∧ u.epoch = (s.epoch + 1) % 2 ^ 16 ∧
      u.fld bCss F.CSS_PAIR_CNT_PASSES = s.fld bCss F.CSS_PAIR_CNT_PASSES)) ∧
  (∀ (src : Src) (s : State), s.powered = true → s.mayAccess src (bCss + 0x110) = true → s.pair.pass = none →
    (s.accepts src cssPage 0x110 1 = true → ∃ t, exec (.split src) s = .next t ∧ t.pairMode = 1 ∧
      t.engRole (1 - s.holder) = 4 ∧ t.holder = s.holder ∧ t.epoch = s.epoch ∧ t.css = s.css) ∧
    (∀ e : Fin 2, s.accepts src cssPage 0x110 (BitVec.ofNat 64 (2 + 0x100 * e.val)) = true →
      ∃ t, exec (.repair src e) s = .next t ∧ t.engRole e = 6 ∧ t.flag (bEng e) F.BUSY = true ∧
        t.pair.repairing = some e.val ∧ t.pairMode = s.pairMode ∧ t.css = s.css) ∧
    (s.accepts src cssPage 0x110 4 = true → ∃ t, exec (.resync src) s = .next t ∧ t.pairMode = 2 ∧
      t.engRole (1 - s.holder) = 3 ∧ t.fld bCss F.CSS_PAIR_STAT_RESYNC_DONE = 0 ∧ t.holder = s.holder ∧ t.css = s.css))

/-! ## The cipher engine and the descriptor rings (R361 to R385, R400) -/

/-- R363 to R369, R384: the key registers of a zone and of the global page. An accepted KEY_SEL opens a load of no words;
KEY_DATA adds one; COMMIT fails on too few words, on equal XTS halves and on a slot in use, and installs the key,
raising GEN, otherwise; ERASE empties a slot that is not in use; ABORT closes an open load. Every outcome zeroizes the
load buffer, and no other slot changes. CIPH_ZEROIZE empties every slot and sets its GEN to 0. The model's choices it
rests on: log entries 2, 33, 36. -/
def Obligations.KeysAreLoaded : Prop :=
  (∀ (src : Src) (z : Option (Fin 256)) (v : Word) (s : State),
    let l := match z with | some k => k.val | none => 256
    let pg : Page := match z with | some k => ⟨.door, k⟩ | none => cipherPage
    let o := match z with | some _ => 0x200 | none => 0x068
    let k := s.selSlot l
    let len := s.selLen l
    let ws := (s.keyLoad l).words
    let slots := if isXts len then [k, k + 1] else [k]
    let gone := s.keyPair k
    s.powered = true → s.mayAccess src (pg.base + o) = true → s.mayAccess src (pg.base + o + 8) = true →
    s.mayAccess src (pg.base + o + 0x10) = true →
    (s.accepts src pg o v = true → ∃ t, exec (.keySel src z v) s = .next t ∧
      t.keyLoad l = { words := [], selected := true } ∧ t.keyStat l 0 3 = 1 ∧ t.keyStat l 8 4 = 0 ∧
      t.keyStat l 16 12 = bits v 0 12 ∧ t.selSlot l = bits v 0 12 ∧ t.selLen l = bits v 12 3 ∧ t.selUse l = bits v 16 2 ∧
      t.keys = s.keys ∧ t.mem = s.mem) ∧
    (s.accepts src pg (o + 8) v = true → ∃ t, exec (.keyData src z v) s = .next t ∧ (t.keyLoad l).words = ws ++ [v] ∧
      t.keyStat l 8 4 = s.keyStat l 8 4 + 1 ∧ t.keyStat l 0 3 = 1 ∧ t.keys = s.keys ∧ t.mem = s.mem) ∧
    (s.accepts src pg (o + 0x10) 1 = true → ∃ t, exec (.keyCommit src z) s = .next t ∧ (t.keyLoad l).words = [] ∧
      t.mem = s.mem ∧ (∀ j, j ∉ slots → t.slot j = s.slot j) ∧
      (if ws.length < keyWords len then t.keyStat l 0 3 = 3 ∧ t.keyStat l 4 4 = 3 ∧ t.keys = s.keys
       else if isXts len ∧ ws.take (keyWords len / 2) = ws.drop (keyWords len / 2) then
         t.keyStat l 0 3 = 3 ∧ t.keyStat l 4 4 = 5 ∧ t.keys = s.keys
       else if ∃ j ∈ slots, (s.slot j).uses ≠ 0 then t.keyStat l 0 3 = 3 ∧ t.keyStat l 4 4 = 6 ∧ t.keys = s.keys
       else t.keyStat l 0 3 = 2 ∧ t.keyStat l 4 4 = 1 ∧ t.keyStat l 32 16 = ((s.slot k).gen + 1) % 2 ^ 16 ∧
         (∀ j ∈ slots, (t.slot j).len = len ∧ (t.slot j).use = s.selUse l ∧ (t.slot j).upper = decide (j ≠ k) ∧
           (t.slot j).gen = ((s.slot j).gen + 1) % 2 ^ 16) ∧
         (t.slot k).words = (if isXts len then ws.take (keyWords len / 2) else ws) ∧
         (isXts len = true → (t.slot (k + 1)).words = ws.drop (keyWords len / 2)))) ∧
    (s.accepts src pg (o + 0x10) 2 = true → ∃ t, exec (.keyErase src z) s = .next t ∧ (t.keyLoad l).words = [] ∧
      t.mem = s.mem ∧ (∀ j, j ∉ gone → t.slot j = s.slot j) ∧
      (if ∃ j ∈ gone, (s.slot j).uses ≠ 0 then t.keyStat l 0 3 = 3 ∧ t.keyStat l 4 4 = 6 ∧ t.keys = s.keys
       else t.keyStat l 0 3 = 2 ∧ t.keyStat l 4 4 = 2 ∧ t.keyStat l 32 16 = (t.slot k).gen % 2 ^ 16 ∧
         ∀ j ∈ gone, (t.slot j).loaded = false ∧
           (gone.Nodup → (t.slot j).gen = ((s.slot j).gen + 1) % 2 ^ 16))) ∧
    (s.accepts src pg (o + 0x10) 4 = true → ∃ t, exec (.keyAbort src z) s = .next t ∧ t.keys = s.keys ∧ t.mem = s.mem ∧
      (s.keyStat l 0 3 = 1 → t.keyStat l 0 3 = 0 ∧ t.keyStat l 4 4 = 7 ∧ (t.keyLoad l).words = []) ∧
      (s.keyStat l 0 3 ≠ 1 → t.keyStat l 0 3 = s.keyStat l 0 3 ∧ t.keyLoad l = s.keyLoad l))) ∧
  (∀ (src : Src) (s : State), s.powered = true → s.mayAccess src (bCipher + 0x098) = true →
    s.accepts src cipherPage 0x098 1 = true → ∃ t, exec (.ciphZeroize src) s = .next t ∧
      (∀ k, (t.slot k).loaded = false ∧ (t.slot k).gen = 0) ∧ (∀ l, (t.keyLoad l).words = []) ∧
      (∀ n, (t.pipe n).plain = []))

/-- R375, R400: a doorbell of a cipher or compression ring whose control record reads. A value within the ring's entries
becomes the producer index; one out of range puts the ring in error with cause 0x1; a ring in error stays so while
RESET_GEN has not moved, and is reset to the doorbell's value once it has. The model's choices it rests on: log
entries 2, 36. -/
def Obligations.DescriptorDoorbells : Prop :=
  ∀ (comp : Bool) (src : Src) (z : Option (Fin 256)) (n : Fin 8) (pi : BitVec 32) (p : DPlace) (s : State),
    let pg : Page := match z with | some k => ⟨.door, k⟩ | none => dPage comp
    let off := match z with | some _ => (if comp then 0x140 else 0x100) + 8 * n.val | none => 0x060
    let r := match z with | some k => 8 * k.val + n.val | none => 2048
    let c : Instr := if comp then .compDb src z n pi else .cipherDb src z n pi
    let s0 := s.setReg (pg.base + off) (storeFields (s.reg (pg.base + off)) (pi.setWidth 64) [] ((pageFields pg off).getD []))
    let q := s0.zoneRead p.zone (p.control + 0x20) 16
    let num := fun (i k : Nat) => leNat ((q.data.drop i).take k)
    let x := { q.s.dRing comp r with irq := num 0 2 % 2 ^ 13, irqEn := (num 0 2).testBit 15, resetGen := num 8 4 }
    s.powered = true → s.mayAccess src (pg.base + off) = true → s.accepts src pg off (pi.setWidth 64) = true →
    s0.present (dPage comp) = true → s0.dPlace comp r = some p → q.err = none → q.poison = false →
    (x.error = false → (pi.toNat + 2 ^ 32 - x.cons) % 2 ^ 32 ≤ 2 ^ p.e → ∃ t, exec c s = .next t ∧
      t.dRing comp r = { x with target := pi.toNat } ∧ t.dRing (!comp) r = q.s.dRing (!comp) r ∧ t.mem = q.s.mem) ∧
    (x.error = false → 2 ^ p.e < (pi.toNat + 2 ^ 32 - x.cons) % 2 ^ 32 →
      ∃ u : State, exec c s = .next (u.dError comp r p 1 pi.toNat) ∧ u.dRing comp r = x ∧ u.mem = q.s.mem) ∧
    (x.error = true → x.resetGen = x.resetSeen → ∃ t, exec c s = .next t ∧ t.dRing comp r = x ∧ t.mem = q.s.mem) ∧
    (x.error = true → x.resetGen ≠ x.resetSeen → ∃ u : State, exec c s = .next (u.dReset comp r p pi.toNat) ∧
      u.dRing comp r = x ∧ u.mem = q.s.mem)

/-- R371 to R374, R377 to R382: cipher jobs. A descriptor that passes its checks becomes a job with its first unit
waiting, one that fails holds its STATUS; a pipeline that decrypts a sealed segment writes it into its release buffer
and nowhere else; a wrong tag zeroizes the buffer and writes nothing; a right one releases the plaintext to DST; the
verify pass of a two-pass job writes nothing; completion writes the descriptor and frees its slots; a failed pipeline
gives its unit back; an uncorrectable slot is emptied. The model's choices it rests on: log entries 2, 31, 36. -/
def Obligations.CipherWorkComplete : Prop :=
  (∀ (r : Fin 2049) (p : DPlace) (s : State), s.powered = true → s.dReady false r = true → s.dPlace false r = some p →
    s.cJobs.any (fun k => k.ring == r.val) = false →
    let x := s.dRing false r
    let d := s.zoneRead p.zone (p.desc x.taken) 64
    let j : CJob := { ring := r.val, index := x.taken, zone := p.zone,
                      words := (List.range 6).map (fun i => leNat ((d.data.drop (8 * i)).take 8)) }
    let c := ((d.s.setDRing false r { x with taken := (x.taken + 1) % 2 ^ 32 }).useSlots (d.s.slotsOf j.slot) true).checkCJob j
    d.err = none → d.poison = false →
    (∀ st e, c.res = .error (st, e) → ∃ t, exec (.cipherDescriptorTaken r) s = .next t ∧ t.cUnits = c.s.cUnits ∧
      t.cJobs = c.s.cJobs ++ [{ j with status := st, result := e }] ∧ t.mem = c.s.mem) ∧
    (∀ k, c.res = .ok k → k.unitCount ≠ 0 → ∃ t, exec (.cipherDescriptorTaken r) s = .next t ∧
      t.cJobs = c.s.cJobs ++ [{ k with units := k.unitCount }] ∧ t.cUnits = c.s.cUnits ++ [k.unitAt 0] ∧ t.mem = c.s.mem)) ∧
  (∀ (n : Fin 16) (u : CUnit) (j : CJob) (s : State), s.powered = true → s.mode ≠ 10 → s.pipeOk n = true →
    (u.inline = false → s.cJob u.owner u.job = some j →
      (s.flag (bCpipe n) F.RUN = true → s.running cipherPage = true → s.flag bCipher F.FAULT = false → (s.pipe n).unit = none →
        (s.pipe n).zeroizing = false → s.nextUnit = some u → j.cmode = 1 → j.isSealed = true → j.decrypts = true →
        let r := (s.takeCUnit u).zoneRead j.zone (j.src + u.index * j.piece) (min j.piece (j.len - u.index * j.piece))
        r.err = none → r.poison = false → ∃ t, exec (.cipherWorkUnit n) s = .next t ∧ t.mem = r.s.mem ∧
          (t.pipe n).unit = some u ∧ (t.pipe n).plain = gcmData (r.s.keyBytes j.slot) (segmentIv j.iv u.index)
            (r.data.take (r.data.length - j.taglen)) ∧
          ((t.pipe n).tagOk = true ↔ j.taglen ≤ r.data.length ∧ (r.data.length = j.taglen → u.index = 0) ∧
            (gcmTag (r.s.keyBytes j.slot) (segmentIv j.iv u.index) [if u.last then 1 else 0]
              (r.data.take (r.data.length - j.taglen))).take j.taglen = r.data.drop (r.data.length - j.taglen))) ∧
      ((s.pipe n).unit = some u →
        ((s.pipe n).verify = none →
          ((s.pipe n).tagOk = false → ∃ t, exec (.tagCompare n) s = .next t ∧ t.mem = s.mem ∧ t.tiles = s.tiles ∧
            (t.pipe n).plain = [] ∧ (t.pipe n).zeroizing = true ∧
            t.fld bCipher F.CIPH_CNT_TAGFAIL = satAdd F.CIPH_CNT_TAGFAIL.width (s.fld bCipher F.CIPH_CNT_TAGFAIL) 1 ∧
            ∀ k ∈ t.cJobs, k.ring = j.ring → k.index = j.index →
              k.status = 2 ∧ k.result = (if j.isSealed then u.index else j.completed 0)) ∧
          ((s.pipe n).tagOk = true → exec (.tagCompare n) s =
            .next ((s.clearPipe n false).putUnit j (if j.isSealed then u.index * 2 ^ j.seglog else 0) (s.pipe n).plain))) ∧
        (∀ first, (s.pipe n).verify = some first →
          ((s.pipe n).tagOk = true → exec (.twopassVerifyComplete n) s = .next ((s.clearPipe n false).secondPass j first)) ∧
          ((s.pipe n).tagOk = false → ∃ t, exec (.twopassVerifyComplete n) s = .next t ∧ t.mem = s.mem ∧ t.tiles = s.tiles ∧
            ∀ k ∈ t.cJobs, k.ring = j.ring → k.index = j.index → k.status = 2)))) ∧
    ((s.pipe n).unit = some u → (∃ k : Fin 16, k ≠ n ∧ s.pipeOk k = true) → ∃ t, exec (.pipelineCheckFire n) s = .next t ∧
      t.flag (bCpipe n) F.FAULT = true ∧ (t.pipe n).unit = none ∧ (t.pipe n).plain = [] ∧ t.cUnits = u :: s.cUnits ∧
      bit (t.reg (bCipher + 0x020)) 9 = true ∧ bit (t.reg (bCpipe n + 0x020)) 8 = true ∧ t.mem = s.mem ∧ t.cJobs = s.cJobs)) ∧
  (∀ (n : Fin 16) (s : State), s.powered = true → (s.pipe n).zeroizing = true → ∃ t, exec (.releaseBufferZeroized n) s = .next t ∧
    (t.pipe n).zeroizing = false ∧ t.regs = s.regs ∧ t.mem = s.mem) ∧
  (∀ (r : Fin 2049) (j : CJob) (s : State), s.powered = true → s.mode ≠ 10 → (s.dRing false r).error = false →
    s.cJobs.find? (fun k => k.ring == r.val) = some j → j.status ≠ 0 →
    let v := match j.next with
      | some iv => (s.zoneWrite 5 j.zone (j.word 4 + 0x30) iv).s
      | none => s
    let w := v.dComplete false r j.index (1 + 2 ^ 8 * j.status + 2 ^ 32 * j.written) j.result j.intr j.orphan
    w.2 = true → ∃ t, exec (.cipherJobComplete r) s = .next t ∧ t.mem = w.1.mem ∧
      (∀ k, k ∈ t.cJobs ↔ k ∈ w.1.cJobs ∧ ¬ (k.ring = j.ring ∧ k.index = j.index))) ∧
  (∀ (k : BitVec 12) (s : State), s.powered = true → s.mode ≠ 10 → (s.slot k.toNat).loaded = true →
    ∃ u : State, exec (.keySlotUncorrectable k) s = .next (u.endCipherWork (fun t => (s.slotsOf t.slot).contains k.toNat)
        (fun j => (s.slotsOf j.slot).contains k.toNat)) ∧
      (u.slot k.toNat).loaded = false ∧ (∀ i, i ≠ k.toNat → u.slot i = s.slot i) ∧ bit (u.reg (bCipher + 0x020)) 10 = true ∧
      u.mem = s.mem)

/-! ## The compression engine (R386 to R405) -/

/-- R393 to R398, R400 to R405: compression jobs. A descriptor that passes its checks becomes a job, at once on the free
unit where it names no state block; one that fails is done with its STATUS. A job's output goes to DST, and STATUS
tells how the stream stands; a restore that does not fit ends with STATE_UNUSABLE; a save writes the state block;
completion removes the job. A stream is parked and resumed, and the job of a failed unit will run again. The model's
choices it rests on: log entries 2, 31, 36. -/
def Obligations.CompressionWorkComplete : Prop :=
  (∀ (r : Fin 2049) (p : DPlace) (s : State), s.powered = true → s.dReady true r = true → s.dPlace true r = some p →
    s.zJobs.any (fun k => k.ring == r.val) = false →
    let x := s.dRing true r
    let d := s.zoneRead p.zone (p.desc x.taken) 64
    let j : ZJob := { ring := r.val, index := x.taken, zone := p.zone,
                      words := (List.range 6).map (fun i => leNat ((d.data.drop (8 * i)).take 8)) }
    let c := (d.s.setDRing true r { x with taken := (x.taken + 1) % 2 ^ 32 }).checkZJob j
    d.err = none → d.poison = false → ∀ u, s.unitForJob j.compress = some u →
    (∀ st a, c.res = .error (st, a) → ∃ t, exec (.compDescriptorTaken r) s = .next t ∧ t.mem = c.s.mem ∧
      ∃ k, t.zJobs = c.s.zJobs ++ [k] ∧ k.ring = r.val ∧ k.index = x.taken ∧ k.phase = 3 ∧ k.status = st ∧
        (st = 6 → k.result = BitVec.ofNat 64 a)) ∧
    (∀ k, c.res = .ok k → k.zstate = 0 → k.zpa = none → exec (.compDescriptorTaken r) s =
      .next ((({ c.s with zJobs := c.s.zJobs ++ [k] }).modZJob k.ring k.index (fun y => { y with unit := some u })).runZJob k u
        (ZState.new k.compress k.zparm k.tables)))) ∧
  (∀ (u : Fin 16) (j : ZJob) (s : State), s.powered = true → s.mode ≠ 10 → s.zUnitOk u = true → s.zJobOf u = some j →
    (j.phase = 1 →
      let h := s.zoneRead j.zone j.zstate 64
      let b := h.s.zoneRead j.zone j.zstate 40960
      let go := fun (v : State) (z : ZState) => (v.modZJob j.ring j.index (fun y => { y with phase := 4 })).runZJob j u z
      h.err = none → h.poison = false →
      (leNat (h.data.take 4) = 0 → exec (.streamStateRestoreComplete u) s =
        .next (go h.s (ZState.new j.compress j.zparm j.tables))) ∧
      (leNat (h.data.take 4) ≠ 0 → b.err = none → b.poison = false →
        match zRestore j.compress j.zparm b.data with
        | some z => exec (.streamStateRestoreComplete u) s = .next (go b.s z)
        | none => ∃ t, exec (.streamStateRestoreComplete u) s = .next t ∧ t.mem = b.s.mem ∧
            ∀ k ∈ t.zJobs, k.ring = j.ring → k.index = j.index → k.phase = 3 ∧ k.status = 7)) ∧
    (j.phase = 2 → ∀ blk, j.save = some blk →
      let w := s.zoneWrite 6 j.zone j.zstate blk
      w.err = none → ∃ t, exec (.streamSaveComplete u) s = .next t ∧ t.mem = w.s.mem ∧
        ∀ k ∈ t.zJobs, k.ring = j.ring → k.index = j.index → k.phase = 3) ∧
    (j.phase ≠ 3 → s.present (zPage u) = true → s.zStation u = none →
      (∃ k : Fin 16, k ≠ u ∧ (k.val < 8 ↔ u.val < 8) ∧ s.present (zPage k) = true ∧ s.zUnitOk k = true) →
      ∃ t, exec (.unitSelfcheck u) s = .next t ∧ t.flag (zPage u).base F.FAULT = true ∧ bit (t.reg (bComp + 0x020)) 9 = true ∧
        bit (t.reg ((zPage u).base + 0x020)) 8 = true ∧ t.mem = s.mem ∧
        ∀ k ∈ t.zJobs, k.ring = j.ring → k.index = j.index → k.phase = 4 ∧ k.unit = none ∧ k.status = 0)) ∧
  (∀ (j : ZJob) (u : Nat) (z : ZState) (s : State),
    let r := s.zoneRead j.zone j.src j.len
    r.err = none → r.poison = false →
    (j.compress = true →
      let d := zCompress { z with zparm := j.zparm, tables := j.tables } j.table r.data (zCont j.zparm) (zSync j.zparm)
      let w := (r.s.count (zPage u).base F.ZU_CNT_BYTES r.data.length).zoneWrite 6 j.zone j.dst (d.out.take j.cap)
      w.err = none → (s.runZJob j u z).mem = w.s.mem ∧
        ∀ k ∈ (s.runZJob j u z).zJobs, k.ring = j.ring → k.index = j.index →
          if j.cap < d.out.length then k.phase = 3 ∧ k.status = 2 ∧ k.outLen = j.cap
          else k.status = 1 ∧ k.outLen = d.out.length ∧
            k.save = (if j.zstate = 0 then none else if zCont j.zparm then some d.z.block else some (leBytes 4 0))) ∧
    (j.compress = false →
      let d := zDecompress { z with zparm := j.zparm } r.data j.cap
      let w := (r.s.count (zPage u).base F.ZU_CNT_BYTES d.out.length).zoneWrite 6 j.zone j.dst d.out
      w.err = none → (s.runZJob j u z).mem = w.s.mem ∧
        ∀ k ∈ (s.runZJob j u z).zJobs, k.ring = j.ring → k.index = j.index → k.outLen = d.out.length ∧
          k.status = (match d.stop with
            | .ended => 1
            | .need => if zCont j.zparm then 1 else 0x0A
            | .full => 2
            | .format => 4
            | .mismatch => 5))) ∧
  (∀ (r : Fin 2049) (s : State), s.powered = true → s.mode ≠ 10 →
    (∀ j u, s.zJobs.find? (fun k => k.ring == r.val && k.phase == 0 && k.unit.isNone &&
        k.zpa.all (fun a => !s.zpasRunning.contains a)) = some j → s.unitForJob j.compress = some u →
      s.running compPage = true → j.zstate ≠ 0 → ∃ t, exec (.zstateRelease false (BitVec.ofNat 16 r)) s = .next t ∧
        t.mem = s.mem ∧ ∀ k ∈ t.zJobs, k.ring = j.ring → k.index = j.index → k.phase = 1 ∧ k.unit = some u) ∧
    (∀ j, s.zJobs.find? (fun k => k.ring == r.val) = some j → j.phase = 3 → (s.dRing true r).error = false →
      let w := s.dComplete true r j.index (1 + 2 ^ 8 * j.status + 2 ^ 16 * j.flags + 2 ^ 32 * j.outLen) j.result.toNat
        ((j.word 0).testBit 5) j.orphan
      w.2 = true → ∃ t, exec (.compJobComplete r) s = .next t ∧ t.mem = w.1.mem ∧
        (∀ k, k ∈ t.zJobs ↔ k ∈ w.1.zJobs ∧ ¬ (k.ring = r.val ∧ k.index = j.index)))) ∧
  (∀ (n : BitVec 16) (r : Request) (s : State), s.powered = true → (s.station n.toNat).req = some r → r.closing = false →
    r.waits = true → (∀ a ∈ r.zpas, a ∉ s.zpasRunning) → exec (.zstateRelease true n) s =
      .next (s.modReq n.toNat (fun q => { q with waits := false }))) ∧
  (∀ (u : Fin 16) (n : BitVec 16) (r : Request) (s : State), s.powered = true → s.mode ≠ 10 → s.zUnitOk u = true →
    (s.zStation u = some (n.toNat, r) → r.rxbuf = [] → s.parkedOn r.lastPort < 4 → s.zWorkWaits (decide (u.val < 8)) = true →
      ∃ t, exec (.streamPark u) s = .next t ∧ t.mem = s.mem ∧
        t.fld bComp F.COMP_CNT_PARKS = satAdd F.COMP_CNT_PARKS.width (s.fld bComp F.COMP_CNT_PARKS) 1 ∧
        ∀ q, (t.station n.toNat).req = some q → ∀ x ∈ q.xforms, x.unit ≠ some u.val ∨ x.parked = true) ∧
    ((s.station n.toNat).req = some r → r.closing = false → s.present (zPage u) = true → s.zUnitBusy u = false →
      s.enginesServe = true → (∃ x ∈ r.xforms, x.parked = true ∧ (x.kind % 2 = 1 ↔ u.val < 8)) →
      ∃ v : State, exec (.streamResume u n) s = .next (((v.feedInbound n.toNat).pump1 n.toNat).settleStatus n.toNat) ∧
        v.mem = s.mem ∧ ∃ q, (v.station n.toNat).req = some q ∧
          ∃ x ∈ q.xforms, x.parked = false ∧ x.unit = some u.val ∧ (x.kind % 2 = 1 ↔ u.val < 8)))

/-! ## The interrupt controller (R409 to R424) -/

/-- R411 to R415, R418, R420, R423, R480, Table 18.5: an event makes its source Pending, or Active-and-pending, and adds 1
to EVENTS; the end of a holdoff makes it offerable; a permitted write triggers it, discards its pending event or sets
word 0; EOI of the top of the stack pops it and ends Active, to Pending and offerable at once where an event waits;
clearing COREEVT clears EVKIND; a valid MSI-X write raises its source, another is counted, recorded and reported; a
delivery to the ESE makes the source Idle, and a read of EVQ_DATA takes one entry. The model's choices it rests on:
log entry 2. -/
def Obligations.InterruptsComplete : Prop :=
  (∀ (n : BitVec 13) (s t : State), let e := s.source n.toNat
    s.powered = true → t = s.sourceEvent n.toNat →
    (n.toNat < 0x1E44 → exec (.sourceEvent n) s = .next t) ∧
    (t.source n.toNat).pend = true ∧ (t.source n.toNat).active = e.active ∧ (t.source n.toNat).word0 = e.word0 ∧
    (t.source n.toNat).events = satAdd 8 e.events 1 ∧ (t.source n.toNat).evkind = e.evkind ∧
    (e.active = false → e.holdoff = 0 → (t.source n.toNat).offerable = true) ∧
    (∀ i, i ≠ n.toNat → t.source i = s.source i) ∧ t.regs = s.regs ∧ t.mem = s.mem) ∧
  (∀ (n : BitVec 13) (s : State), let e := s.source n.toNat
    s.powered = true → e.pend = true → e.active = false → e.offerable = false → ∃ t, exec (.holdoffExpiry n) s = .next t ∧
    t.source n.toNat = { e with offerable := true, order := s.icOrder } ∧ (∀ i, i ≠ n.toNat → t.source i = s.source i) ∧
    t.regs = s.regs ∧ t.mem = s.mem) ∧
  (∀ (src : Src) (n : BitVec 13) (v : Word) (s : State), let w := 0x680000 + 16 * n.toNat
    let e := s.source n.toNat
    s.powered = true → s.mode ≠ 10 →
    (s.mayAccess src (w + 8) = true →
      ((srcLevel src = 3 ∨ s.sourceWriteOwned (s.srcZone src) n.toNat true 4 = true) →
        ∃ t, exec (.trigger src n) s = .next t ∧ (t.source n.toNat).pend = true ∧ (t.source n.toNat).active = e.active ∧
          (t.source n.toNat).events = satAdd 8 e.events 1 ∧ (∀ i, i ≠ n.toNat → t.source i = s.source i) ∧ t.regs = s.regs) ∧
      ((srcLevel src = 3 ∨ s.sourceWriteOwned (s.srcZone src) n.toNat true 1 = true) →
        ∃ t, exec (.pendDiscard src n) s = .next t ∧ (t.source n.toNat).pend = false ∧ (t.source n.toNat).active = e.active ∧
          (t.source n.toNat).events = e.events ∧ (∀ i, i ≠ n.toNat → t.source i = s.source i) ∧ t.regs = s.regs)) ∧
    (s.mayAccess src w = true →
      (srcLevel src = 3 ∨ s.sourceWriteOwned (s.srcZone src) n.toNat false v = true) → ∃ t,
        exec (.sourceEntryWrite src n v) s = .next t ∧ (t.source n.toNat).target = bits v 0 6 ∧
        (t.source n.toNat).toEse = bit v 6 ∧ (t.source n.toNat).enabled = bit v 7 ∧ (t.source n.toNat).prio = bits v 8 8 ∧
        (t.source n.toNat).holdoff = bits v 16 12 ∧ (t.source n.toNat).countField = bits v 32 8 ∧
        (t.source n.toNat).pend = e.pend ∧ (t.source n.toNat).active = e.active ∧ (t.source n.toNat).events = e.events ∧
        (∀ i, i ≠ n.toNat → t.source i = s.source i) ∧ t.regs = s.regs)) ∧
  (∀ (src : Src) (c : Fin 64) (n : BitVec 13) (p : Nat) (st : List (Nat × Nat)) (s : State),
    s.powered = true → s.mayAccess src (bIface c + 0x048) = true →
    s.accepts src ⟨.icIface, c⟩ 0x048 (n.setWidth 64) = true → (s.core c).icStack = st ++ [(n.toNat, p)] →
    ∃ t, exec (.icEoi src c n) s = .next t ∧ (t.core c).icStack = st ∧ (t.source n.toNat).active = false ∧
      (t.source n.toNat).pend = (s.source n.toNat).pend ∧ (t.source n.toNat).events = (s.source n.toNat).events ∧
      ((s.source n.toNat).pend = true → (t.source n.toNat).offerable = true) ∧
      t.runningPrio c = (match st.getLast? with
        | some (_, q) => q
        | none => 0) ∧ t.arch c = s.arch c ∧ t.mem = s.mem) ∧
  (∀ (src : Src) (c : Fin 64) (m : BitVec 3) (s : State), s.powered = true → s.mayAccess src (bIface c + 0x060) = true →
    s.accepts src ⟨.icIface, c⟩ 0x060 (m.setWidth 64) = true → ∃ t, exec (.icCoreevtClear src c m) s = .next t ∧
      (∀ i, i < 3 → m.getLsbD i = true → (t.source (0x1E00 + c)).evkind.testBit i = false) ∧
      (∀ i, i < 3 → m.getLsbD i = false → (t.source (0x1E00 + c)).evkind.testBit i = (s.source (0x1E00 + c)).evkind.testBit i) ∧
      (t.source (0x1E00 + c)).pend = (s.source (0x1E00 + c)).pend ∧ t.cores = s.cores ∧ t.mem = s.mem) ∧
  (∀ (port : Fin 2) (rid : BitVec 16) (addr : Word) (data : List Byte) (s : State), s.powered = true → s.uncoreUp = true →
    s.present (rportPage port) = true → 0xFFFFFF000000 ≤ addr.toNat → addr.toNat ≤ 0xFFFFFFFFFFFF →
    (∀ z, s.fld bIc F.IC_CTL_MSI_EN = 1 → data.length = 4 → addr.toNat % 4 = 0 → leNat data < 0x1C00 →
      s.requesterZone port rid.toNat = some z → s.irqOwner (leNat data) = some z →
      exec (.msiXWrite port rid addr data) s = .next (s.sourceEvent (leNat data))) ∧
    ((s.fld bIc F.IC_CTL_MSI_EN = 0 ∨ data.length ≠ 4 ∨ addr.toNat % 4 ≠ 0 ∨ 0x1C00 ≤ leNat data ∨
        s.requesterZone port rid.toNat = none ∨ s.requesterZone port rid.toNat ≠ s.irqOwner (leNat data)) →
      ∃ t, exec (.msiXWrite port rid addr data) s = .next t ∧ bit (t.reg (bIc + 0x020)) 8 = true ∧
        t.fld bIc F.IC_CNT_MSI_BAD = satAdd F.IC_CNT_MSI_BAD.width (s.fld bIc F.IC_CNT_MSI_BAD) 1 ∧
        t.fld bIc F.IC_LAST_BAD_SRC = leNat data % 2 ^ 13 ∧ t.fld bIc F.IC_LAST_BAD_RID = rid.toNat ∧
        t.fld bIc F.IC_LAST_BAD_PORT = port ∧ 1 ≤ t.fld bIc F.IC_LAST_BAD_WHY ∧ t.fld bIc F.IC_LAST_BAD_WHY ≤ 4 ∧
        t.mem = s.mem)) ∧
  (∀ (n : Nat) (s : State), s.powered = true → s.icOffers = true → s.ese.queue.length < 64 → s.nextForEse = some n →
    ∃ t, exec .eseEventDelivery s = .next t ∧ (t.source n).pend = false ∧ (t.source n).events = 0 ∧
      (t.source n).offerable = false ∧ (∀ i, i ≠ n → t.source i = s.source i) ∧
      t.ese.queue = s.ese.queue ++ [(n, s.timebase.toNat % 2 ^ 32)] ∧ t.flag bEse F.SVC_ALERT_EVQ = true ∧ t.mem = s.mem) ∧
  (∀ (src : Src) (s : State), s.powered = true → s.mayAccess src (bEse + 0x080) = true → s.present esePage = true → ∃ t,
    exec (.evqDataRead src) s = .next t ∧ t.ese.queue = s.ese.queue.drop 1 ∧
    (t.flag bEse F.SVC_ALERT_EVQ = true ↔ s.ese.queue.drop 1 ≠ []) ∧
    (srcPort src = true → t.ese.spiOut = leBytes 8 s.evqData.toNat) ∧ t.mem = s.mem)

/-! ## Power states, tolerances and the forecast (R425 to R445) -/

/-- R425, R429 to R434, R439, R442, R443: a waiting core's position enters the state selected, Sleep losing its TLBs, and
runs again on a wake; a tile enters Tile Deep, where F is 12 A, and leaves it; accepted tolerances act at once; a
divider request starts stepping and each step moves it by one; LEVEL reports F; a reading at THR_TEMP throttles and
one above 110 °C stops the module; a throttled tile steps down and back, and so does the heaviest tile while the
package limit is exceeded. The model's choices it rests on: log entries 2, 30, 42. -/
def Obligations.PowerCommandsComplete : Prop :=
  (∀ (n : Fin 64) (s : State), let p := s.posOf n
    let c := s.core n
    s.powered = true → s.mode ≠ 10 → s.split = false → s.coreValid n = true → s.coresAt p = [n.val] → s.role p = 1 →
    c.waiting = true →
    (c.sel ≤ 3 → s.pstate p < c.sel → s.wakePending n = false → ∃ t, exec (.powerStateEntry n) s = .next t ∧
      t.pstate p = c.sel ∧ (c.sel = 3 → (t.core n).tlb = []) ∧ t.arch n = s.arch n ∧ t.mem = s.mem) ∧
    (0 < s.pstate p → s.wakePending n = true → s.tileDeep (p / 10) = false → ∃ t, exec (.powerStateWake n) s = .next t ∧
      t.pstate p = 0 ∧ (t.core n).sel = 0 ∧ t.arch n = s.arch n ∧ t.mem = s.mem)) ∧
  (∀ (k : Fin 4) (s : State), s.powered = true →
    (s.mode ≠ 10 → (∃ i, i < 10 ∧ s.role (10 * k + i) = 1) →
      (∀ i, i < 10 → s.role (10 * k + i) = 1 → s.pstate (10 * k + i) = 3) → s.fld bPwr F.PWR_CTL_DEEPEST = 4 →
      s.flag (bTilePwr k) F.TILE_DIV_STEPPING = false → s.tileDeep k = false →
      (∀ n, n < 64 → s.coreValid n = true → s.posOf n / 10 = k → fits 120000 (s.tolerance n) = true) →
      ∃ t, exec (.tileDeepEntry k) s = .next t ∧ t.tileDeep k = true ∧ t.forecast k = 12 ∧ t.cores = s.cores ∧ t.mem = s.mem) ∧
    (s.tileDeep k = true → (∃ n, n < 64 ∧ s.coreValid n = true ∧ s.posOf n / 10 = k ∧
        (s.wakePending n = true ∨ fits 120000 (s.tolerance n) = false)) →
      ∃ t, exec (.tileDeepExit k) s = .next t ∧ t.tileDeep k = false ∧ k.val ∉ t.power.raised ∧ t.cores = s.cores ∧
        t.mem = s.mem) ∧
    (s.tileDeep k = true → k.val ∈ s.power.raised → ∃ t, exec (.l3BankRetentionTimeout k) s = .next t ∧
      k.val ∉ t.power.raised ∧ t.regs = s.regs ∧ t.mem = s.mem) ∧
    (s.flag bPwr F.PWR_CTL_LFC_EN = true → s.power.linkFree ≤ s.nowNs → ∃ t, exec (.level k) s = .next t ∧
      t.power.sent = lfcMessage 3 k (s.forecast k) 0 (s.rail k).tag ∧ t.power.rails = s.power.rails ∧ t.regs = s.regs) ∧
    (s.mode ≠ 0 → s.mode ≠ 10 →
      (s.flag (bTilePwr k) F.TILE_DIV_STEPPING = true → ∃ t, exec (.dividerStep k) s = .next t ∧
        (s.fld (bTilePwr k) F.TILE_DIV_REQ < s.divider k → t.divider k = s.divider k - 1) ∧
        (s.divider k < s.fld (bTilePwr k) F.TILE_DIV_REQ → t.divider k = s.divider k + 1) ∧
        t.fld (bTilePwr k) F.TILE_DIV_REQ = s.fld (bTilePwr k) F.TILE_DIV_REQ ∧ t.cores = s.cores ∧ t.mem = s.mem) ∧
      (∀ tj : BitVec 8, ∃ t, exec (.thermalReading k tj) s = .next t ∧ t.fld (bTilePwr k) F.TILE_THERM_TJ = tj.toNat ∧
        (s.fld bPwr F.PWR_CTL_THR_TEMP ≤ tj.toNat → t.flag (bTilePwr k) F.TILE_STAT_THROTTLED = true) ∧
        (tj.toNat < s.fld bPwr F.PWR_CTL_THR_TEMP → t.flag (bTilePwr k) F.TILE_STAT_THROTTLED =
          s.flag (bTilePwr k) F.TILE_STAT_THROTTLED) ∧
        (tj.toNat ≤ 110 → t.divider k = s.divider k ∧ t.cores = s.cores ∧ t.mem = s.mem) ∧
        (110 < tj.toNat → t.mode = 10)) ∧
      (s.flag (bTilePwr k) F.TILE_STAT_THROTTLED = true →
        (s.fld bPwr F.PWR_CTL_THR_TEMP ≤ s.fld (bTilePwr k) F.TILE_THERM_TJ → ∃ t, exec (.throttleStep k) s = .next t ∧
          t.divider k = (if s.divider k < 4 then s.divider k + 1 else s.divider k) ∧ t.cores = s.cores ∧
          t.flag (bTilePwr k) F.TILE_STAT_THROTTLED = true) ∧
        (s.fld (bTilePwr k) F.TILE_THERM_TJ + 5 ≤ s.fld bPwr F.PWR_CTL_THR_TEMP → ∃ t, exec (.throttleStep k) s = .next t ∧
          t.divider k = (if s.fld (bTilePwr k) F.TILE_DIV_REQ < s.divider k ∧ s.capped k = false then s.divider k - 1
            else s.divider k) ∧
          (t.flag (bTilePwr k) F.TILE_STAT_THROTTLED = true ↔ s.fld (bTilePwr k) F.TILE_DIV_REQ < t.divider k) ∧
          t.cores = s.cores)))) ∧
  (∀ (w : BitVec 11) (s : State), s.powered = true → s.mode ≠ 0 → s.mode ≠ 10 → ∃ t,
    exec (.packageLimitStep w) s = .next t ∧ t.fld bPwr F.PWR_STAT_PKG_W = w.toNat ∧ t.cores = s.cores ∧ t.mem = s.mem ∧
    (s.fld bPwr F.PKG_LIMIT_WATTS < w.toNat → t.flag bPwr F.PWR_STAT_LIMITING = true ∧ bit (t.reg (bPwr + 0x020)) 9 = true ∧
      ∀ k, s.heaviest = some k → t.divider k = s.divider k + 1 ∧ ∀ j, j < 4 → j ≠ k → t.divider j = s.divider j) ∧
    (w.toNat ≤ s.fld bPwr F.PKG_LIMIT_WATTS → s.fld bPwr F.PKG_LIMIT_WATTS < w.toNat + 20 → ∀ j, j < 4 →
      t.divider j = s.divider j)) ∧
  (∀ (src : Src) (z : Fin 256) (n : Fin 64) (k : Fin 4) (v : Word) (s : State), s.powered = true →
    (s.mayAccess src (bDoor z + 0x300 + 8 * n) = true → s.accepts src ⟨.door, z⟩ (0x300 + 8 * n.val) v = true →
      ∃ u : State, exec (.ltCoreWrite src z n v) s = .next (u.reselect n) ∧
        toleranceNs ((u.reg (bDoor z + 0x300 + 8 * n)).toNat % 2 ^ 16) = toleranceNs (v.toNat % 2 ^ 16) ∧
        u.cores = s.cores ∧ u.mem = s.mem) ∧
    (s.mayAccess src (bPwr + 0x050) = true → s.accepts src pwrPage 0x050 v = true →
      ∃ u : State, exec (.ltSvcWrite src v) s = .next u.reselectAll ∧
        toleranceNs ((u.reg (bPwr + 0x050)).toNat % 2 ^ 16) = toleranceNs (v.toNat % 2 ^ 16) ∧ u.cores = s.cores ∧
        u.mem = s.mem) ∧
    (s.mayAccess src (bTilePwr k + 0x040) = true → s.accepts src ⟨.tilePwr, k⟩ 0x040 v = true →
      ∃ t, exec (.tileDivWrite src k v) s = .next t ∧ t.fld (bTilePwr k) F.TILE_DIV_REQ = bits v 0 3 ∧
        t.divider k = s.divider k ∧ (s.divider k < bits v 0 3 → t.flag (bTilePwr k) F.TILE_DIV_STEPPING = true) ∧
        (bits v 0 3 = s.divider k → t.flag (bTilePwr k) F.TILE_DIV_STEPPING = false) ∧ t.cores = s.cores ∧ t.mem = s.mem))

/-! ## The event recorder and the time of day (R446 to R459) -/

/-- R448, R449, R451: a new record goes to index KEPT_COUNT of the kept area while that is open, and otherwise to
REC_HEAD.NEXT, which advances from 65,535 to 4,096; it takes the next SEQ with REPEAT 1. In RECMODE 0 a submission
that equals the last record adds to its REPEAT, writes LAST_TB and takes no SEQ; in RECMODE 1 it spends a token or is
suppressed. The model's choices it rests on: log entries 2, 8, 39. -/
def Obligations.RecordsAreWritten : Prop :=
  (∀ (c : Crumb) (s : State),
    let t := s.writeRecord c
    let i := if s.keptOpen then s.fld bRec F.REC_STAT_KEPT_COUNT else s.fld bRec F.REC_HEAD_NEXT
    SMap.find? t.recorder.records i = some { crumb := c, seq := s.recorder.nextSeq, repeats := 1, lastTb := c.tb } ∧
    t.recorder.nextSeq = (s.recorder.nextSeq + 1) % 2 ^ 32 ∧ t.recorder.queue = s.recorder.queue ∧
    t.fld bRec F.REC_HEAD_LAST = i ∧ t.fld bRec F.REC_HEAD_LAST_SEQ = s.recorder.nextSeq % 2 ^ 32 ∧
    (s.keptOpen = true → t.fld bRec F.REC_STAT_KEPT_COUNT = i + 1 ∧ t.flag bRec F.REC_STAT_KEPT_READ = false ∧
      t.fld bRec F.REC_HEAD_NEXT = s.fld bRec F.REC_HEAD_NEXT) ∧
    (s.keptOpen = false → t.fld bRec F.REC_STAT_KEPT_COUNT = s.fld bRec F.REC_STAT_KEPT_COUNT ∧
      t.fld bRec F.REC_HEAD_NEXT = (if i = 65535 then 4096 else i + 1) ∧
      t.fld bRec F.REC_STAT_WRAPS = (if i = 65535 then satAdd 32 (s.fld bRec F.REC_STAT_WRAPS) 1 else
        s.fld bRec F.REC_STAT_WRAPS)) ∧
    t.mem = s.mem ∧ t.cores = s.cores ∧ t.tod = s.tod) ∧
  (∀ (c : Crumb) (rest : List Crumb) (s : State), s.powered = true → s.recorder.queue = c :: rest →
    s.flag bRec F.REC_STAT_FILLING = false →
    let u := { s with recorder := { s.recorder with queue := rest } }
    let last := SMap.find? s.recorder.records (s.fld bRec F.REC_HEAD_LAST)
    (s.fld bRec F.REC_CTL_RECMODE = 0 →
      ((∀ r, last = some r → r.mergeable c = false) → exec .crumbWrite s = .next (u.writeRecord c)) ∧
      (∀ r, last = some r → r.mergeable c = true → ∃ t, exec .crumbWrite s = .next t ∧
        SMap.find? t.recorder.records (s.fld bRec F.REC_HEAD_LAST) = some { r with repeats := r.repeats + 1, lastTb := c.tb } ∧
        t.recorder.nextSeq = s.recorder.nextSeq ∧ t.recorder.queue = rest ∧
        (s.fld bRec F.REC_HEAD_LAST < 4096 → t.flag bRec F.REC_STAT_KEPT_READ = false) ∧ t.mem = s.mem ∧ t.cores = s.cores)) ∧
    (s.fld bRec F.REC_CTL_RECMODE = 1 →
      (c.code / 256 = 0x01 ∨ c.code / 256 = 0x0D ∨ c.code / 256 = 0x0E ∨ c.sev = 5 →
        exec .crumbWrite s = .next (u.writeRecord c)) ∧
      (c.code / 256 ≠ 0x01 → c.code / 256 ≠ 0x0D → c.code / 256 ≠ 0x0E → c.sev ≠ 5 →
        ∀ b, s.recorder.buckets.find? (fun x => x.code == c.code) = some b →
        let others := s.recorder.buckets.filter (fun x => x.code != c.code)
        let v (x : Bucket) : State := { u with recorder := { u.recorder with buckets := others ++ [x] } }
        (0 < b.tokens → exec .crumbWrite s = .next ((v { b with tokens := b.tokens - 1 }).writeRecord c)) ∧
        (b.tokens = 0 → exec .crumbWrite s =
          .next ((v { b with suppressed := b.suppressed + 1 }).count bRec F.REC_CNT_SUPPRESSED))))) ∧
  (∀ s : State, s.powered = true →
    (s.recorder.queue = [] → 0 < s.recorder.drops → s.flag bRec F.REC_STAT_FILLING = false → ∃ c, exec .dropReport s =
      .next ({ s with recorder := { s.recorder with drops := 0 } }.writeRecord c) ∧ c.code = 0x0E02 ∧ c.sev = 3 ∧
      c.payload = [BitVec.ofNat 64 s.recorder.drops, BitVec.ofNat 64 s.recorder.dropSeq]) ∧
    (s.flag bRec F.REC_STAT_FILLING = true → ∃ (u : State) (c : Crumb),
      exec .recorderFillComplete s = .next (u.writeRecord c) ∧ u.recorder.records = [] ∧ u.recorder.nextSeq = 1 ∧
      u.recorder.queue = s.recorder.queue ∧ u.flag bRec F.REC_STAT_FILLING = false ∧ c.code = 0x0100 ∧ c.sev = 0 ∧
      c.payload = [s.reg (bEse + F.RST_STAT_KIND.off)]) ∧
    (∀ (code : BitVec 16) (b : Bucket), s.recorder.buckets.find? (fun x => x.code == code.toNat) = some b → 
      let k := if b.tokens < s.fld bRec F.REC_RATE_BURST then b.tokens + 1 else b.tokens
      ∃ u : State, u.recorder.buckets.find? (fun x => x.code == code.toNat) = some ⟨b.code, k, 0⟩ ∧
      u.recorder.records = s.recorder.records ∧ u.regs = s.regs ∧
      (b.suppressed = 0 → exec (.tokenGain code) s = .next u) ∧
      (0 < b.suppressed → ∃ c, exec (.tokenGain code) s = .next (u.writeRecord c) ∧ c.code = 0x0E01 ∧ c.sev = 2 ∧
        c.payload = [BitVec.ofNat 64 b.code, BitVec.ofNat 64 b.suppressed])) ∧
    (∀ (page code : BitVec 16) (sev : Fin 6) (zone : Option (BitVec 8)) (injected : Bool) (payload : List Word) (p : Page),
      pageAt page.toNat = some p → s.present p = true → 1 ≤ code.toNat / 256 → code.toNat / 256 ≤ 16 → payload.length ≤ 9 →
      ∃ t, exec (.crumbSubmission page code sev zone injected payload) s = .next t ∧
        (s.recorder.queue.length < 256 →
          t.recorder.queue = s.recorder.queue ++ [s.stamp p code.toNat sev.val payload (zone.map (·.toNat)) injected]) ∧
        (s.recorder.queue.length = 256 → t.recorder.queue.length = 256 ∧
          t.fld bRec F.REC_CNT_DROPPED = satAdd 16 (s.fld bRec F.REC_CNT_DROPPED) 1 ∧ bit (t.reg (bRec + 0x020)) 8 = true ∧
          (sev.val < 5 → t.recorder.queue = s.recorder.queue) ∧
          (sev.val = 5 → (∀ q ∈ s.recorder.queue, 5 ≤ q.sev) → t.recorder.queue = s.recorder.queue)) ∧
        t.recorder.records = s.recorder.records ∧ t.mem = s.mem ∧ t.cores = s.cores))

/-- R453 to R455, R457, R458: the readout returns the snapshot's words in order and passes to the next record after the
last; a set gives the TOD the values set, sets SET, clears STEERED and writes Crumb 0x0D01; SET_AT_PPS waits for an
edge; a leap second is armed, disarmed and taken at the end of the UTC day; an edge steps the TOD or corrects its
rate; REARM empties the kept area. The model's choices it rests on: log entries 2, 39. -/
def Obligations.TimeAndReadoutComplete : Prop :=
  (∀ (src : Src) (index : BitVec 16) (s : State), s.powered = true → s.mayAccess src (bRec + 0x068) = true →
    ∃ t, exec (.recRdSelWrite src index none) s = .next t ∧ t.fld bRec F.REC_RD_SEL_INDEX = index.toNat ∧
      t.fld bRec F.REC_RD_SEL_WORD = 0 ∧ t.flag bRec F.REC_RD_SEL_BAD = false ∧
      t.recorder.snapshot = s.recordWords index.toNat ∧ t.recorder.records = s.recorder.records ∧ t.mem = s.mem ∧
      t.cores = s.cores) ∧
  (∀ (n : Fin 64) (l : Fin 4) (s : State), s.powered = true → s.mayAccess (.core n l) (bRec + 0x070) = true →
    s.present recPage = true →
    let w := s.fld bRec F.REC_RD_SEL_WORD
    let i := s.fld bRec F.REC_RD_SEL_INDEX
    ∃ t, exec (.recRdDataRead (.core n l) none) s = .next t ∧ t.recorder.records = s.recorder.records ∧ t.mem = s.mem ∧
      (w < 15 → t.fld bRec F.REC_RD_SEL_WORD = w + 1 ∧ t.fld bRec F.REC_RD_SEL_INDEX = i ∧
        t.recorder.snapshot = s.recorder.snapshot) ∧
      (w = 15 → t.fld bRec F.REC_RD_SEL_WORD = 0 ∧ t.fld bRec F.REC_RD_SEL_INDEX = (i + 1) % 65536 ∧
        t.recorder.snapshot = s.recordWords ((i + 1) % 65536) ∧
        (i + 1 = s.fld bRec F.REC_STAT_KEPT_COUNT → t.flag bRec F.REC_STAT_KEPT_READ = true))) ∧
  (∀ (n : Fin 64) (l : Fin 4) (s : State), s.powered = true → s.mayAccess (.core n l) (bRec + 0x080) = true →
    s.present recPage = true →
    ∃ t, exec (.todSecRead (.core n l)) s = .next t ∧ t.reg (bRec + 0x080) = BitVec.ofNat 64 s.tod.seconds ∧
      t.reg (bRec + 0x088) = timeWord s.tod.nanos s.tod.leap (s.flag bRec F.TOD_STAT_STEERED) ∧ t.tod = s.tod ∧ t.mem = s.mem) ∧
  (∀ (src : Src) (s : State), s.powered = true →
    (s.mayAccess src (bRec + 0x060) = true → s.accepts src recPage 0x060 1 = true → ∃ u : State,
      exec (.rearm src) s = .next (u.crumb recPage 0x0E03 1 []) ∧ u.fld bRec F.REC_STAT_KEPT_COUNT = 0 ∧
      u.flag bRec F.REC_STAT_KEPT_READ = false ∧ u.flag bRec F.REC_STAT_KEPT_CLOSED = false ∧
      u.recorder.records = s.recorder.records ∧ u.mem = s.mem) ∧
    (s.mayAccess src (bRec + 0x0A0) = true → s.tod.setAtPps = false → ∀ v : Word,
      (v = 1 ∨ v = 2) → s.accepts src recPage 0x0A0 v = true →
      (v = 1 → ∃ (u : State) (ws : List Word), exec (.setNow src) s = .next (u.crumb recPage 0x0D01 1 (s.todWords ++ ws)) ∧
        u.tod.seconds = s.fld bRec F.TOD_SET_SEC_SECONDS ∧ u.tod.nanos = s.fld bRec F.TOD_SET_NS_NANOS ∧
        ws = u.todWords ∧ u.flag bRec F.TOD_STAT_SET = true ∧ u.flag bRec F.TOD_STAT_STEERED = false ∧ u.mem = s.mem) ∧
      (v = 2 → ∃ t, exec (.setAtPps src) s = .next t ∧ t.tod = { s.tod with setAtPps := true } ∧ t.mem = s.mem ∧
        t.cores = s.cores)) ∧
    (s.mayAccess src (bRec + 0x0A0) = true → ∀ (v : Word) (k : Option Bool) (c : Instr),
      ((v = 4 ∧ k = some true ∧ c = .leapIns src) ∨ (v = 8 ∧ k = some false ∧ c = .leapDel src) ∨
       (v = 16 ∧ k = none ∧ c = .leapCancel src)) → s.accepts src recPage 0x0A0 v = true →
      ∃ t, exec c s = .next t ∧ t.tod = { s.tod with leapArmed := k } ∧
        t.flag bRec F.TOD_STAT_LEAP_PENDING = k.isSome ∧ t.mem = s.mem ∧ t.cores = s.cores)) ∧
  (∀ s : State, s.powered = true →
    (s.tod.leap = false → s.tod.leapArmed = some true → s.tod.seconds % 86400 = 86399 → ∃ t, exec .leapSecond s = .next t ∧
      t.tod.seconds = s.tod.seconds ∧ t.tod.nanos = 0 ∧ t.tod.leap = true ∧ t.tod.leapArmed = none ∧ t.tod.nextSecond.leap = false ∧
      t.tod.nextSecond.seconds = s.tod.seconds + 1 ∧ t.flag bRec F.TOD_STAT_LEAP_PENDING = false ∧ t.mem = s.mem) ∧
    (s.tod.leap = false → s.tod.leapArmed = some false → s.tod.seconds % 86400 = 86398 → ∃ t, exec .leapSecond s = .next t ∧
      t.tod.seconds = s.tod.seconds + 2 ∧ t.tod.nanos = 0 ∧ t.tod.leap = false ∧ t.tod.leapArmed = none ∧
      t.flag bRec F.TOD_STAT_LEAP_PENDING = false ∧ t.mem = s.mem) ∧
    (s.flag bRec F.TOD_STAT_HOLDOVER = false → ∃ u : State, exec .ppsHoldover s = .next (u.crumb recPage 0x0D03 2 []) ∧
      u.flag bRec F.TOD_STAT_HOLDOVER = true ∧ u.flag bRec F.TOD_STAT_STEERED = false ∧ u.tod.rate = s.tod.rate ∧
      (s.flag bRec F.TOD_STAT_STEERED = true → bit (u.reg (bRec + 0x020)) 9 = true) ∧ u.mem = s.mem) ∧
    (s.tod.setAtPps = true → ∃ (u : State) (ws : List Word), exec .ppsEdge s = .next (u.crumb recPage 0x0D01 1 ws) ∧
      u.tod.seconds = s.fld bRec F.TOD_SET_SEC_SECONDS ∧ u.tod.nanos = s.fld bRec F.TOD_SET_NS_NANOS ∧
      u.tod.setAtPps = false ∧ u.flag bRec F.TOD_STAT_SET = true ∧ u.flag bRec F.TOD_STAT_STEERED = false) ∧
    (s.tod.setAtPps = false → 100000 ≤ s.tod.offset.natAbs → ∃ u : State,
      exec .ppsEdge s = .next (u.crumb recPage 0x0D02 3 [wordOfInt s.tod.offset]) ∧ u.tod.nanos = 0 ∧
      (s.tod.nanos < 500000000 → u.tod.seconds = s.tod.seconds) ∧ u.flag bRec F.TOD_STAT_STEERED = false) ∧
    (s.tod.setAtPps = false → s.tod.offset.natAbs < 100000 → ∃ t, exec .ppsEdge s = .next t ∧
      t.tod.rate = clampRate (s.tod.rate - s.tod.offset) ∧ t.tod.seconds = s.tod.seconds ∧ t.tod.nanos = s.tod.nanos ∧
      t.flag bRec F.TOD_STAT_PPS_SEEN = true ∧
      (s.tod.offset.natAbs ≤ 50 → 2 ≤ s.tod.goodEdges → s.flag bRec F.TOD_STAT_BACKUP_OSC = false →
        t.flag bRec F.TOD_STAT_STEERED = true) ∧ t.mem = s.mem))

/-! ## Power, resets and boot (R456, R463 to R470, R516) -/

/-- R456, R463, R464, R469, R516: POWER_ON starts in Service Standby with nothing kept but what is fused; the ESE answers
with the reference or after 100 ms without it; loss of VDD_SVC takes all; a cold reset keeps the recorder, SEQ and the
TOD and loses memory; a boot failure notes FAIL, sets the alert and returns to mode 0; each boot event moves
BOOT_STAT.PHASE on or ends the boot. The model's choices it rests on: log entries 2, 4, 31, 37. -/
def Obligations.ResetsAndBootComplete : Prop :=
  (∀ (s : State), s.powered = false →
    (∀ r l : Bool, s.ese.vdd = false → ∃ t, exec (.powerOn r l) s = .next t ∧ t.powered = r ∧ t.mode = 0 ∧ t.mem = [] ∧
      t.cores = [] ∧ t.recorder.records = [] ∧ t.timebase = 0 ∧ t.flag bRec F.REC_STAT_FILLING = true ∧ t.glazed = false ∧
      t.ese.resetLow = l ∧ t.flash = s.flash ∧ t.pending = s.pending) ∧
    (s.ese.vdd = true → (∃ t, exec .referenceInTolerance s = .next t ∧ t.powered = true ∧ t.ese.reference = true ∧
        t.regs = s.regs ∧ t.mem = s.mem) ∧
      (s.flag bRec F.TOD_STAT_BACKUP_OSC = false → ∃ u : State,
        exec .referenceTimeout s = .next (u.crumb recPage 0x0D03 2 []) ∧ u.powered = true ∧
        u.flag bRec F.TOD_STAT_BACKUP_OSC = true ∧ u.flag bRec F.TOD_STAT_HOLDOVER = true ∧
        u.flag bRec F.TOD_STAT_STEERED = false ∧ u.mem = s.mem))) ∧
  (∀ s : State, s.ese.vdd = true → ∃ t, exec .vddSvcLoss s = .next t ∧ t.powered = false ∧ t.ese.vdd = false ∧ t.mem = [] ∧
    t.cores = [] ∧ t.recorder.records = [] ∧ t.flash = s.flash) ∧
  (∀ (cause : Nat) (boot : Bool) (s : State), cause < 16 →
    let t := s.coldReset cause boot
    t.mode = 0 ∧ t.mem = [] ∧ t.timebase = 0 ∧ t.tod = s.tod ∧ t.recorder.records = s.recorder.records ∧
    t.recorder.nextSeq = s.recorder.nextSeq ∧ t.fld bEse F.RST_STAT_KIND = 1 ∧ t.fld bEse F.RST_STAT_BY = cause ∧
    t.fld bEse F.RST_STAT_COUNT = satAdd 32 (s.fld bEse F.RST_STAT_COUNT) 1 ∧ t.glazed = false ∧
    (s.flag bRec F.REC_STAT_KEPT_READ = true → t.fld bRec F.REC_STAT_KEPT_COUNT = 0 ∧
      t.flag bRec F.REC_STAT_KEPT_CLOSED = false) ∧
    (s.flag bRec F.REC_STAT_KEPT_READ = false → t.flag bRec F.REC_STAT_KEPT_CLOSED = true ∧
      t.fld bRec F.REC_STAT_KEPT_COUNT = s.fld bRec F.REC_STAT_KEPT_COUNT) ∧
    t.ese.resetting = true ∧ t.ese.bootNext = boot ∧ t.ese.resetLow = s.ese.resetLow ∧ t.flash = s.flash) ∧
  (∀ (code : Nat) (extra : List Word) (s : State), code < 256 →
    let t := s.bootFails code extra
    t.mode = 0 ∧ t.fld bEse F.BOOT_STAT_FAIL = code ∧ t.flag bEse F.SVC_ALERT_BOOTFAIL = true ∧ t.phase = s.phase ∧
    t.ese.rails = 0 ∧ t.mem = [] ∧ t.tod = s.tod ∧ t.recorder.records = s.recorder.records) ∧
  (∀ s : State, s.powered = true →
    (s.ese.resetLow = false → exec .sysRstNAssert s =
      .next ((s.coldReset 3 (s.mode != 11)).modEse (fun e => { e with resetLow := true }))) ∧
    (s.ese.resetLow = true → (s.ese.bootNext = true → s.ese.resetting = false → ∃ t, exec .sysRstNDeassert s = .next t ∧
        t.ese.resetLow = false ∧ t.mode = 1 ∧ t.phase = (if s.ese.warm then 4 else 1) ∧ t.mem = s.mem) ∧
      ((s.ese.bootNext = false ∨ s.ese.resetting = true) →
        exec .sysRstNDeassert s = .next (s.modEse (fun e => { e with resetLow := false })))) ∧
    (s.ese.resetting = true → s.mode ≠ 10 →
      (∃ u : State, exec (.resetSequenceComplete true) s = .next (u.bootFails 0x0D []) ∧ u.ese.resetting = false) ∧
      (s.ese.bootNext = true → s.ese.resetLow = false → ∃ t, exec (.resetSequenceComplete false) s = .next t ∧
        t.ese.resetting = false ∧ t.mode = 1 ∧ t.phase = (if s.ese.warm then 4 else 1) ∧ t.fld bEse F.BOOT_STAT_FAIL = 0 ∧
        t.mem = s.mem ∧ t.cores = s.cores) ∧
      (s.ese.bootNext = false ∨ s.ese.resetLow = true → exec (.resetSequenceComplete false) s =
        .next ((s.modEse (fun e => { e with resetting := false })).crumb esePage (0x0100 + s.fld bEse F.RST_STAT_KIND) 1
          [s.reg (bEse + 0x070)]))) ∧
    (s.accepts .svc esePage 0x048 1 = true → ∃ t, exec .boot s = .next t ∧ t.mode = 1 ∧
      t.phase = (if s.ese.warm then 4 else 1) ∧ t.fld bEse F.BOOT_STAT_FAIL = 0 ∧ t.mem = s.mem ∧ t.cores = s.cores) ∧
    (s.mode = 1 →
      (s.phase = 1 → (∃ t, exec .railPowerGood s = .next t ∧ t.ese.rails = s.ese.rails + 1 ∧
          t.phase = (if 8 ≤ s.ese.rails then 2 else 1) ∧ t.mode = 1 ∧ t.mem = s.mem ∧ t.cores = s.cores) ∧
        exec .railPowerGoodTimeout s = .next (s.bootFails 0x0A [])) ∧
      (s.phase = 2 → (s.ese.reference = true → ∃ t, exec .rootPllLock s = .next t ∧ t.ese.pllLocked = true ∧ t.phase = 3 ∧
          t.mode = 1 ∧ t.mem = s.mem ∧ t.cores = s.cores) ∧
        exec .pllLockTimeout s = .next (s.bootFails 0x0B [])) ∧
      (s.phase = 3 → ∀ failed : BitVec 40,
        (∃ u : State, exec (.selfTestComplete failed false) s = .next (u.bootFails 8 [])) ∧
        ((∃ p, p < 40 ∧ s.healthy p = true ∧ failed.getLsbD p = false) → ∃ t, exec (.selfTestComplete failed true) s = .next t ∧
          t.phase = 4 ∧ t.mode = 1 ∧ t.mem = s.mem ∧ ∀ p, p < 40 →
            ((t.pos p).failed = true ↔ (s.pos p).failed = true ∨ (s.presentPos p = true ∧ failed.getLsbD p = true)))) ∧
      (s.phase = 4 →
        let m := s.manifest
        let opt := BitVec.ofNat 64 (imgNat m 0x10 8)
        exec (.manifestCheckComplete false) s = .next (s.bootFails 1 []) ∧
        ∃ t, exec (.manifestCheckComplete true) s = .next t ∧
          (if s.manifestFail m ≠ 0 then t = s.bootFails (s.manifestFail m) []
           else if s.ese.warm = true ∧ s.reg (bEse + 0x050) ≠ opt then t = s.bootFails 0x0C []
           else t.mode = (if s.ese.warm then 3 else 2) ∧ t.phase = (if s.ese.warm then 7 else 5) ∧ t.reg (bEse + 0x050) = opt ∧
             t.fld bEse F.FW_ENTRY_ADDR = imgNat m 0x18 8 % 2 ^ 44 ∧ t.fld bEse F.BOOT_STAT_SVN = imgNat m 8 2 ∧
             t.mem = s.mem))) ∧
    (s.mode = 2 → s.phase = 5 →
      let r := State.loadSections (manifestSections s.manifest).zipIdx s
      ∃ t, exec .microcodeLoadComplete s = .next t ∧
        match r.fail with
        | some (code, i) => t = r.s.bootFails code [BitVec.ofNat 64 i]
        | none => t.mode = 3 ∧ t.phase = 6 ∧ t.mem = r.s.mem ∧ t.ucode = r.s.ucode) ∧
    (s.mode = 3 → ∀ (gib : BitVec 64) (two slow : BitVec 4) (trained : BitVec 20),
      let up (g : Nat) : Prop := s.present (groupPage g) = true ∧ slow.getLsbD g = false ∧ bits gib (16 * g) 16 ≠ 0
      (s.phase = 6 → (∀ g, g < 4 → up g → (trainedIn trained g).length < 4) → ∃ u : State,
        exec (.memoryBringUpComplete gib two slow trained) s = .next (u.bootFails 9 [])) ∧
      (s.phase = 6 → (∃ g, g < 4 ∧ up g ∧ 4 ≤ (trainedIn trained g).length) → ∃ u : State,
        exec (.memoryBringUpComplete gib two slow trained) s = .next ((u.assignRoles.setPhase 7).startFirmware) ∧
        u.mem = [] ∧ ∀ g, g < 4 → up g → u.fld (bGroup g) F.GRP_STAT_STATE = (if (trainedIn trained g).length = 5 then 2
          else if (trainedIn trained g).length = 4 then 4 else 5)) ∧
      (s.phase = 7 → ∃ u : State, exec (.memoryBringUpComplete gib two slow trained) s = .next u.startFirmware ∧
        u.mem = s.mem ∧ u.cores = s.cores))) ∧
  (∀ (x : Section) (i : Nat) (s : State), ((manifestSections s.manifest).zipIdx).find? (fun y => y.1.typ == 2) = some (x, i) →
    if Config.sha384 (s.flashBytes x.off x.len) ≠ x.digest then s.startFirmware = (s.setPhase 7).bootFails 6 [BitVec.ofNat 64 i]
    else ∃ u : State, s.startFirmware = (u.startCore 0).setPhase 8) ∧
  (∀ (n : Nat) (s : State), s.coreValid n = true → (s.core n).started = false →
    let t := s.startCore n
    (t.core n).started = true ∧ (t.core n).arch = { pc := BitVec.ofNat 64 (s.fld bEse F.FW_ENTRY_ADDR) } ∧
    (∀ k, k ≠ n → t.core k = s.core k) ∧ t.regs = s.regs ∧ t.mem = s.mem)

/-! ## The modes in service, the rails, the service port (R471 to R479, R513, R519, R520) -/

/-- R463, R464, R472 to R474, R476, R20, R513: commands of MODE_CMD and CORE_START that are accepted act as the table of
modes says; Check-Stop puts MODE 10 with its cause; Quiesce waits for recoveries and stations, then holds the cores; a
warm reset keeps memory and the Glaze; the loss of the root PLL, of the reference and of a rail act as their rules
say. The model's choices it rests on: log entries 2, 29, 37, 38. -/
def Obligations.ModeCommandsComplete : Prop :=
  (∀ (src : Src) (v : Word) (s : State), s.powered = true → s.mayAccess src (bEse + 0x048) = true →
    s.accepts src esePage 0x048 v = true →
    let u := s.setReg (bEse + 0x048) (storeFields (s.reg (bEse + 0x048)) v [] ((pageFields esePage 0x048).getD []))
    (v = 2 → exec (.operate src) s = .next u.operate) ∧ (v = 3 → exec (.quiesce src) s = .next u.quiesce) ∧
    (v = 4 → exec (.modeResume src) s = .next u.modeResume) ∧
    (v = 5 → exec (.warmReset src) s = .next (u.warmReset (if srcPort src then 1 else 2))) ∧
    (v = 7 → exec (.checkstop src) s = .next (u.checkStop 0x0B [])) ∧
    (∀ reboot, v = BitVec.ofNat 64 (6 + 16 * b2n reboot) → exec (.coldReset src reboot) s =
      .next (u.coldReset (if srcPort src then 1 else 2) (reboot && s.mode != 11))) ∧
    u.mem = s.mem ∧ u.cores = s.cores ∧ u.ese = s.ese ∧ ∀ w, u.reg w = s.reg w) ∧
  (∀ (src : Src) (mask : Word) (s : State), s.powered = true → s.mayAccess src (bEse + 0x068) = true →
    s.accepts src esePage 0x068 mask = true → ∃ u : State, exec (.coreStart src mask) s = .next (u.coreStart mask) ∧
      u.mem = s.mem ∧ u.cores = s.cores ∧ ∀ w, u.reg w = s.reg w) ∧
  (∀ (mask : Word) (s : State) (n : Nat), n < 64 → s.coreValid n = true →
    let t := s.coreStart mask
    (bit mask n = true → (t.core n).started = true) ∧ (bit mask n = false → t.core n = s.core n) ∧ t.regs = s.regs ∧
    t.mem = s.mem) ∧
  (∀ s : State, let t := s.operate
    t.phase = 9 ∧ t.modeBase = (if t.degraded then 6 else if t.split then 5 else 4) ∧ t.mem = s.mem ∧
    (s.mode ≠ 10 → s.ese.inQuiesce = false → s.ese.recoveries = [] → s.reg (bEse + 0x0B8) = 0 → t.mode = t.modeBase) ∧
    ∀ n, n < 64 → s.coreValid n = true → (t.core n).started = true) ∧
  (∀ s : State, let e : Ese := { s.ese with quiescing := true }
    (s.mode ≠ 10 → s.ese.quiesceBegan = false → s.ese.recoveries ≠ [] → s.quiesce = { s with ese := e }) ∧
    (s.mode ≠ 10 → s.ese.quiesceBegan = false → s.ese.recoveries = [] → s.outOfIdle ≠ 0 →
      (∀ b, b ∈ [bCss, bCipher, bComp] → bit (s.reg (b + 8)) 63 = true → s.quiesce.flag b F.QUIESCE = true) ∧
      s.quiesce.ese.quiesceBegan = true ∧ s.quiesce.ese.inQuiesce = s.ese.inQuiesce ∧ s.quiesce.mem = s.mem) ∧
    (s.mode ≠ 10 → s.ese.quiesceBegan = false → s.ese.recoveries = [] → s.outOfIdle = 0 → ∃ v : State,
      v.ese.inQuiesce = true ∧ v.ese.quiescing = false ∧ s.quiesce = v.refreshMode) ∧
    (s.mode ≠ 10 → s.ese.inQuiesce = true → s.modeBase ≠ 0 → s.refreshMode.mode = 9)) ∧
  (∀ (station : BitVec 16) (s : State), s.powered = true → s.ese.quiescing = true → s.ese.quiesceBegan = true →
    (s.openReq station.toNat).isSome = true → s.mode ≠ 10 →
    exec (.quiesceStationTimeout station) s = .next ((s.failRequest station.toNat 0x0A 0 0).quiesceGo)) ∧
  (∀ s : State, let t := s.modeResume
    t.ese.inQuiesce = false ∧ (∀ n, (t.core n).held = false ∧ (t.core n).arch = s.arch n) ∧
    (∀ b, b ∈ [bCss, bCipher, bComp] → t.flag b F.QUIESCE = false) ∧ t.mem = s.mem) ∧
  (∀ (cause : Nat) (s : State), cause < 16 → let t := s.warmReset cause
    t.mem = s.mem ∧ t.home = s.home ∧ t.glazed = s.glazed ∧ t.mode = s.mode ∧ t.fld bEse F.RST_STAT_KIND = 2 ∧
    t.fld bEse F.RST_STAT_BY = cause ∧ t.ese.resetting = true ∧ t.ese.warm = true ∧ t.tod = s.tod ∧
    t.recorder.records = s.recorder.records ∧ (∀ n, (t.core n).started = false ∧ (t.core n).stores = []) ∧
    (∀ n, n < 64 → t.reg (bIdent + 0x100 + 8 * n) = s.reg (bIdent + 0x100 + 8 * n)) ∧ ∀ k, (t.slot k).words = []) ∧
  (∀ (cause : Nat) (extra : List Word) (s : State), cause < 256 → let t := s.checkStop cause extra
    t.mode = 10 ∧ t.mem = s.mem ∧ (s.mode = 10 → t.fld bEse F.MODE_STAT_CAUSE = s.fld bEse F.MODE_STAT_CAUSE) ∧
    (s.mode ≠ 10 → t.fld bEse F.MODE_STAT_CAUSE = cause ∧ t.flag bEse F.SVC_ALERT_CHECKSTOP = true ∧
      (∀ k, (t.slot k).words = []) ∧ ∀ n, (t.core n).stores = [] ∧ (t.core n).arch = (s.core n).wafer)) ∧
  (∀ s : State, s.powered = true →
    ((s.modEse (fun e => { e with testEn := true })).accepts .svc esePage 0x048 8 = true → ∃ t, exec (.mfgTest true) s = .next t ∧ t.mode = 11 ∧ t.mem = s.mem ∧
        ∀ k, (t.slot k).words = []) ∧
    exec .eseSelfCheck s = .next (s.checkStop 0x0A []) ∧
    (s.ese.pllLocked = true → s.mode ≠ 0 → ∃ u : State, exec .rootPllLockLoss s = .next (u.checkStop 1 []) ∧
      u.ese.pllLocked = false ∧ u.regs = s.regs ∧ u.mem = s.mem) ∧
    (s.ese.reference = true → s.flag bRec F.TOD_STAT_BACKUP_OSC = false → ∃ u : State,
      exec .referenceLoss s = .next (u.crumb recPage 0x0D03 2 []) ∧ u.flag bRec F.TOD_STAT_BACKUP_OSC = true ∧
      u.flag bRec F.TOD_STAT_HOLDOVER = true ∧ u.ese.reference = false ∧ u.mem = s.mem) ∧
    (s.ese.vdd = true → exec .thermtrip s = .next (s.modEse (fun e => { e with thermtrip := true }))) ∧
    (∀ ir : BitVec 8, ∃ t, exec (.ieee11491Instruction ir) s = .next t ∧ t.regs = s.regs ∧ t.mem = s.mem ∧
      (s.mode ≠ 11 → t.ese.jtag = if ir = 1 then 1 else 0xFF)) ∧
    (s.uncoreUp = true → 9 ≤ s.ese.rails → ∀ rail : Fin 9, ∃ u : State, u.mem = s.mem ∧ u.cores = s.cores ∧
      (rail.val < 4 → exec (.railFault rail) s = .next (u.loseTile rail.val)) ∧
      (rail = 4 ∨ rail = 5 → exec (.railFault rail) s = .next (u.checkStop 2 [])) ∧
      (rail = 6 ∨ rail = 7 → exec (.railFault rail) s = .next u.loseLinks)) ∧
    (s.uncoreUp = true → 9 ≤ s.ese.rails → ∃ (u : State) (w : Word), exec (.railFault 8) s = .next (u.checkStop 7 [w])))

/-- R477 to R479: STATUS returns the mode, the alert and the event queue; WRITE and QWRITE write each word to the offset
in turn; a word of READ or QREAD is accessed once, a word not ready is not, and a word whose transaction ended early
is held and replayed with status 9; SMBus reaches offset 8c; an access of the service window ends with LAST. The
model's choices it rests on: log entries 2, 13, 14, 40. -/
def Obligations.ServicePortComplete : Prop :=
  ∀ s : State, s.powered = true →
    (∃ t, exec .spiStatus s = .next t ∧ t.regs = s.regs ∧ t.mem = s.mem ∧ t.ese.spiOut =
      [BitVec.ofNat 8 (s.mode + 16 * b2n s.alertAsserted + 32 * b2n (!s.ese.queue.isEmpty))]) ∧
    (∀ (off : BitVec 16) (ws : List Word), (off.toNat % 8 ≠ 0 ∨ 0x1000 ≤ off.toNat →
        exec (.spiWrite off ws) s = .next s ∧ exec (.spiQwrite off ws) s = .next s) ∧
      (off.toNat % 8 = 0 → off.toNat < 0x1000 →
        exec (.spiWrite off ws) s = .next (ws.foldl (fun st v => eseWrite off.toNat v st) s) ∧
        exec (.spiQwrite off ws) s = .next (ws.foldl (fun st v => eseWrite off.toNat v st) s))) ∧
    (∀ (off : BitVec 16) (c : Instr) (ready whole : Bool), off.toNat % 8 = 0 → off.toNat < 0x1000 →
      c = .spiRead off [ready] whole ∨ c = .spiQread off [ready] whole →
      let gap := s.fld bEse F.SVC_PORT_CFG_GAP
      (∀ v st, SMap.find? s.ese.spiHeld off.toNat = some (v, st) → ∃ t, exec c s = .next t ∧ t.regs = s.regs ∧ t.mem = s.mem ∧
        (whole = true → SMap.find? t.ese.spiHeld off.toNat = none ∧ t.ese.spiOut = List.replicate gap 0xFF ++
          BitVec.ofNat 8 (if st = 1 then 9 else st) :: leBytes 8 v.toNat) ∧
        (whole = false → t.ese.spiHeld = s.ese.spiHeld ∧ t.ese.spiOut = [])) ∧
      (SMap.find? s.ese.spiHeld off.toNat = none →
        (ready = false → ∃ t, exec c s = .next t ∧ t.regs = s.regs ∧ t.mem = s.mem ∧ t.ese.spiHeld = s.ese.spiHeld ∧
          t.ese.spiOut = List.replicate gap 0xFF ++ 2 :: leBytes 8 0) ∧
        (ready = true → let r := eseRead off.toNat s
          (whole = true → exec c s = .next (r.1.drive (List.replicate gap 0xFF ++
            (if r.2.2 then 4 else 1) :: leBytes 8 r.2.1.toNat))) ∧
          (whole = false → ∃ t, exec c s = .next t ∧ t.ese.spiOut = [] ∧ t.mem = r.1.mem ∧ t.regs = r.1.regs ∧
            SMap.find? t.ese.spiHeld off.toNat = some (r.2.1, if r.2.2 then 4 else 1))))) ∧
    (∀ (code : BitVec 8), (∀ v : Word, exec (.smbusAccess code (some v)) s = .next (eseWrite (8 * code.toNat) v s)) ∧
      (let r := eseRead (8 * code.toNat) s
       exec (.smbusAccess code none) s = .next (r.1.drive (leBytes 8 r.2.1.toNat)))) ∧
    (∀ (d : Option Word) (lost : Bool), let a := s.winAddr
      let n := s.fld bEse F.SVC_WIN_ADDR_ADDR
      (regWindowBase ≤ a → lost = true → ∃ t, exec (.svcWinDataAccess d lost) s = .next t ∧
        t.fld bEse F.SVC_WIN_STAT_LAST = 2 ∧ t.mem = s.mem ∧ t.fld bEse F.SVC_WIN_ADDR_ADDR = n) ∧
      (regWindowBase ≤ a → lost = false → s.pageAnswers (a - regWindowBase) = true → a - regWindowBase ≠ bEse + 0x0A0 →
        (∀ v, d = some v → exec (.svcWinDataAccess d lost) s = .next ((regWrite .svc 8 (a - regWindowBase) v s).winEnd 0)) ∧
        (d = none → let r := regRead .svc 8 (a - regWindowBase) none s
          exec (.svcWinDataAccess d lost) s = .next ((r.1.winEnd 0).drive (leBytes 8 r.2.toNat)))) ∧
      (flashWindowBase ≤ a → a < regWindowBase → d = none → lost = false → ∃ t, exec (.svcWinDataAccess d lost) s = .next t ∧
        t.ese.spiOut = leBytes 8 (leNat (s.flashBytes (a - flashWindowBase) 8)) ∧ t.fld bEse F.SVC_WIN_STAT_LAST = 0 ∧
        t.fld bEse F.SVC_WIN_ADDR_ADDR = (if s.flag bEse F.SVC_WIN_ADDR_AUTOINC then (n + 1) % 2 ^ 41 else n) ∧ t.mem = s.mem) ∧
      (a < flashWindowBase → s.winMemory a = false → ∃ t, exec (.svcWinDataAccess d lost) s = .next t ∧
        t.fld bEse F.SVC_WIN_STAT_LAST = 1 ∧ t.mem = s.mem ∧ t.fld bEse F.SVC_WIN_ADDR_ADDR = n ∧
        t.fld bEse F.SVC_WIN_STAT_ERRORS = satAdd 16 (s.fld bEse F.SVC_WIN_STAT_ERRORS) 1) ∧
      (a < flashWindowBase → s.winMemory a = true → s.uncoreUp = true → lost = false → ∀ v, d = some v →
        exec (.svcWinDataAccess d lost) s = .next
          ((s.writePa 2 9 (s.moduleId * 2 ^ 44 + a) (leBytes 8 v.toNat) false false 0).winEnd 0)))

/-! ## Main memory and the root ports (R482 to R502) -/

/-- R485 to R491, R493: a line whose pieces are correct or corrected is served and counted; one uncorrectable piece of a
protected group is rebuilt and counted; a line that cannot be rebuilt is served poisoned and recorded; a whole-line
write clears or sets the poison pattern; scrub, rebuild, the loss of a channel and the poll of its counters act on the
registers as the rules say. The model's choices it rests on: log entries 2, 8, 27. -/
def Obligations.MemoryUnitComplete : Prop :=
  (∀ (line : BitVec 36) (fixed bad : BitVec 5) (s : State),
    let a := 128 * line.toNat
    let g := s.groupOf a
    let stripe := s.groupAddr a / 256
    let h := s.groupAddr a / 128 % 2
    let n := s.localLine a
    s.powered = true → s.uncoreUp = true → a < s.usable → fixed &&& bad = 0 → g < 4 →
    (s.groupState g = 5 → exec (.memoryRead line fixed bad) s = .next s) ∧
    (2 ≤ s.groupState g → s.groupState g ≤ 4 → SMap.get false s.poison (n % 2 ^ 37) = false →
      (fixed = 0 → bad = 0 → (s.groupState g = 2 → (s.pieceChannel g (2 * h) stripe).isSome = true →
          (s.pieceChannel g (2 * h + 1) stripe).isSome = true → exec (.memoryRead line fixed bad) s = .next s)) ∧
      (fixed = 0 → s.groupState g = 2 → ∀ q c, (q = 2 * h ∨ q = 2 * h + 1) → bad = BitVec.ofNat 5 (2 ^ q) →
        (∀ k, k < 4 → (s.pieceChannel g k stripe).isSome = true) → s.pieceChannel g q stripe = some c →
        exec (.memoryRead line fixed bad) s = .next (s.count (bChan c) F.CH_CNT_UE_FIXED)) ∧
      (fixed = 0 → s.groupState g ≠ 2 → ∀ q c, (q = 2 * h ∨ q = 2 * h + 1) → bad = BitVec.ofNat 5 (2 ^ q) →
        (∀ k, k < 4 → (s.pieceChannel g k stripe).isSome = true) → s.pieceChannel g q stripe = some c →
        ∃ u : State, exec (.memoryRead line fixed bad) s = .next
          (u.crumb (chanPage c) 0x0600 (Config.crumbSev 0x0600 (chanPage c).typ.code).val [BitVec.ofNat 64 (128 * n)]) ∧
        SMap.get false u.poison (n % 2 ^ 37) = true ∧ bit (u.reg (bChan c + 0x020)) 9 = true ∧
        u.fld (bChan c) F.CH_CNT_POISONED = satAdd 16 (s.fld (bChan c) F.CH_CNT_POISONED) 1 ∧
        u.fld (bChan c) F.CH_ERRADDR_ADDR = n % 2 ^ 53 ∧ u.flag (bChan c) F.CH_ERRADDR_UE = true ∧ u.mem = s.mem))) ∧
  (∀ (line : BitVec 36) (data : BitVec 1024) (poison : Bool) (s : State), let n := s.localLine (128 * line.toNat)
    s.powered = true → s.uncoreUp = true → 128 * line.toNat < s.usable →
    (s.groupOffline (s.groupOf (lineAddr n)) = false → ∃ t, exec (.memoryWrite line data poison) s = .next t ∧
      t.memLine n = leBytes 128 data.toNat ∧ SMap.get false t.poison (n % 2 ^ 37) = poison ∧
      (∀ x, (x < lineAddr n ∨ lineAddr n + 128 ≤ x) → t.byte x = s.byte x) ∧ t.regs = s.regs ∧
      (∀ l, l ∈ t.home.partnerWait ↔ l ∈ s.home.partnerWait ∧ l / 2 ≠ n / 2)) ∧
    (s.groupOffline (s.groupOf (lineAddr n)) = true → ∃ t, exec (.memoryWrite line data poison) s = .next t ∧ t.mem = s.mem ∧
      t.poison = s.poison) ∧
    (n ∈ s.home.partnerWait → ∃ t, exec (.stripePartnerWaitExpiry line) s = .next t ∧ t.mem = s.mem ∧ t.regs = s.regs ∧
      ∀ l, l ∈ t.home.partnerWait ↔ l ∈ s.home.partnerWait ∧ l ≠ n)) ∧
  (∀ (g : Fin 4) (s : State), s.powered = true → s.uncoreUp = true →
    let stripe := SMap.get 0 s.scrub g.val
    (s.groupState g = 2 → stripe < s.stripes g → (∀ k, k < 4 → (s.pieceChannel g k stripe).isSome = true) →
      ∀ wrong : Bool, ∃ t, exec (.scrubStripe g 0 0 wrong) s = .next t ∧ t.mem = s.mem ∧ t.poison = s.poison ∧
        SMap.get 0 t.scrub g.val = (if s.stripes g ≤ stripe + 1 then 0 else stripe + 1) ∧
        t.fld (bGroup g) F.GRP_CNT_PASSES = (if s.stripes g ≤ stripe + 1 then
          satAdd 16 (s.fld (bGroup g) F.GRP_CNT_PASSES) 1 else s.fld (bGroup g) F.GRP_CNT_PASSES) ∧
        t.fld (bGroup g) F.GRP_CNT_PAR_FIX = (if wrong then satAdd 32 (s.fld (bGroup g) F.GRP_CNT_PAR_FIX) 1 else
          s.fld (bGroup g) F.GRP_CNT_PAR_FIX)) ∧
    (s.groupState g = 3 → let ptr := s.fld (bGroup g) F.GRP_REBUILD_PTR
      (ptr < s.stripes g → ptr + 1 < 2 ^ 40 → ∃ t, exec (.rebuildStripe g) s = .next t ∧
        t.fld (bGroup g) F.GRP_REBUILD_PTR = ptr + 1 ∧ t.groupState g = 3 ∧ t.mem = s.mem ∧ t.cores = s.cores) ∧
      (ptr = s.stripes g → ∀ p, s.fld (bGroup g) F.GRP_STAT_PARITY_CH = p → p < 20 → p / 5 = g →
        s.fld (bGroup g) F.GRP_STAT_LOST_CH ≠ p → s.fld (bGroup g) F.GRP_STAT_LOST_CH < 20 →
        ∃ u : State, exec (.rebuildComplete g) s = .next (u.recoveryEnds (.rebuild g)) ∧ u.groupState g = 4 ∧
          u.fld (bGroup g) F.GRP_STAT_PARITY_CH = 31 ∧ u.chanState p = 2 ∧
          u.fld (bChan p) F.CH_STAT_POS = s.fld (bChan (s.fld (bGroup g) F.GRP_STAT_LOST_CH)) F.CH_STAT_POS ∧
          bit (u.reg (bGroup g + 0x020)) 10 = true ∧ u.mem = s.mem))) ∧
  (∀ (c : Fin 20) (cause : Nat) (s : State), cause < 16 → let g := c.val / 5
    (s.groupState g = 2 → s.chanState c ≠ 3 → ∃ u : State, s.loseChannel c cause = u.recoveryBegins (.rebuild g) ∧
      u.chanState c = 4 ∧ u.fld (bChan c) F.CH_STAT_CAUSE = cause ∧ u.groupState g = 3 ∧
      u.fld (bGroup g) F.GRP_STAT_LOST_CH = c ∧ u.fld (bGroup g) F.GRP_REBUILD_PTR = 0 ∧
      bit (u.reg (bChan c + 0x020)) 8 = true ∧ u.mem = s.mem ∧ u.cores = s.cores) ∧
    (s.groupState g = 2 → s.chanState c = 3 → let t := s.loseChannel c cause
      t.chanState c = 4 ∧ t.groupState g = 4 ∧ t.fld (bGroup g) F.GRP_STAT_PARITY_CH = 31 ∧
      t.fld (bGroup g) F.GRP_STAT_LOST_CH = c ∧ bit (t.reg (bGroup g + 0x020)) 8 = true ∧ t.mem = s.mem) ∧
    (3 ≤ s.groupState g → s.groupState g ≤ 4 → s.otherGroupServes g = false → ∃ (u : State) (w : Word),
      s.loseChannel c cause = u.checkStop 7 [w]) ∧
    (3 ≤ s.groupState g → s.groupState g ≤ 4 → s.otherGroupServes g = true → ∃ u : State,
      s.loseChannel c cause = u.refreshMode ∧ u.groupState g = 5 ∧ bit (u.reg (bGroup g + 0x020)) 9 = true)) ∧
  (∀ (c : Fin 20) (s : State), s.powered = true → s.uncoreUp = true →
    (∀ cause : BitVec 4, cause = 1 ∨ cause = 2 ∨ cause = 5 → s.chanWorks c = true →
      exec (.channelLoss c cause) s = .next (s.loseChannel c cause.toNat)) ∧
    (∀ src : Src, s.mayAccess src (bChan c + 0x058) = true → s.accepts src (chanPage c) 0x058 1 = true → s.chanWorks c = true →
      s.groupState (c.val / 5) = 2 → ∃ u : State, exec (.chCmdFail src c) s = .next (u.loseChannel c 4) ∧ u.mem = s.mem ∧
        ∀ w, u.reg w = s.reg w) ∧
    (s.chanWorks c = true → ∀ temp : BitVec 8, ∃ u : State,
      u.fld (bChan c) F.CH_STAT_TEMP = temp.toNat ∧ u.mem = s.mem ∧ u.cores = s.cores ∧
      (temp.toNat ≤ 95 → exec (.memoryCounterPoll c temp false false) s = .next u ∧
        exec (.memoryCounterPoll c temp false true) s = .next (u.loseChannel c 3) ∧
        exec (.memoryCounterPoll c temp true false) s = .next (u.crumb (chanPage c) 0x0500 2 [BitVec.ofNat 64 c]))))

/-- R428, R497 to R501: a device load completes with data, with all ones and an AER record, or poisoned, and after CTO as
a timeout; configuration reads and writes reach the root port function; a link comes up, goes down and retrains; LTR,
error and INTx messages are recorded or discarded; an inbound request that its check refuses is recorded and makes no
access. The model's choices it rests on: log entries 2, 28. -/
def Obligations.RootPortsComplete : Prop :=
  (∀ (n : Fin 64) (a size : Nat) (kind : Nat) (s : State), s.powered = true → s.uncoreUp = true → size ≤ 16 →
    (s.core n).devLoad = some (a, size, kind) →
    (∀ (port k : Nat) (data : BitVec 64), s.windowLink a = some (port, k) →
      (s.linkState port k = 3 →
        (∃ t, exec (.deviceLoad n 0 data) s = .next t ∧ (t.core n).devLoad = none ∧ (t.core n).replay = (s.core n).replay ++
          [⟨a, size, kind, some (data.toNat % 2 ^ (8 * size))⟩] ∧ t.regs = s.regs ∧ t.mem = s.mem) ∧
        (∃ t, exec (.deviceLoad n 3 data) s = .next t ∧ (t.core n).devLoad = none ∧ (t.core n).replay = (s.core n).replay ++
          [⟨a, size, kind, none⟩] ∧ t.regs = s.regs ∧ t.mem = s.mem) ∧
        (∀ o : Fin 4, o = 1 ∨ o = 2 → ∃ u : State, exec (.deviceLoad n o data) s =
            .next (u.aerLog port k (if o = 1 then 20 else 15)) ∧ (u.core n).devLoad = none ∧
          (u.core n).replay = (s.core n).replay ++ [⟨a, size, kind, some (2 ^ (8 * size) - 1)⟩] ∧ u.regs = s.regs ∧
          u.mem = s.mem)) ∧
      (ecamPort a = none → ∃ u : State, exec (.deviceCompletionTimeout n) s = .next (u.aerLog port k 14) ∧
        (u.core n).devLoad = none ∧
        (u.core n).replay = (s.core n).replay ++ [⟨a, size, kind, some (2 ^ (8 * size) - 1)⟩] ∧
        bit (u.reg (bRport port + 0x020)) 10 = true ∧ u.mem = s.mem)) ∧
    ((ecamPort a).isSome = true → ∀ reply : BitVec 64, ∃ t, exec (.configAccess n reply) s = .next t ∧
      (t.core n).devLoad = none ∧ (t.core n).replay = (s.core n).replay ++
        [⟨a, size, kind, some (s.configRead a size reply).toNat⟩] ∧ t.regs = s.regs ∧ t.mem = s.mem)) ∧
  (∀ (n : Fin 64) (st : Store) (rest : List Store) (reply : BitVec 64) (s : State), s.powered = true → s.uncoreUp = true →
    (s.core n).devLoad = none → (s.core n).stores = st :: rest → st.kind = .window → (ecamPort st.addr).isSome = true →
    ∃ u : State, exec (.configAccess n reply) s = .next (u.configWrite st.addr st.data) ∧ (u.core n).stores = rest ∧
      u.pcie = s.pcie ∧ u.regs = s.regs ∧ u.mem = s.mem) ∧
  (∀ (port : Fin 2) (k : Fin 4) (s : State), s.powered = true → s.uncoreUp = true → let b := bRport port + 8 * k
    (∀ (width rate : BitVec 3) (flit : Bool), s.running (rportPage port) = true → s.linkState port k = 2 →
      width.toNat ≤ 2 → rate.toNat ≤ s.fld (bRport port) F.RP_CFG_MAX_RATE → (flit = true ∨ rate ≠ 5) →
      ∃ t, exec (.pcieLinkUp port k width rate flit) s = .next t ∧ t.linkState port k = 3 ∧
        t.fld b F.RP_LINK_WIDTH = width.toNat ∧ t.fld b F.RP_LINK_RATE = rate.toNat ∧ t.flag b F.RP_LINK_FLIT = flit ∧
        t.cores = s.cores ∧ t.mem = s.mem) ∧
    (s.linkState port k = 3 →
      (∃ u : State, exec (.pcieLinkDown port k) s = .next (u.noteLtr port) ∧ u.fld b F.RP_LINK_LTR = 0 ∧
        u.linkState port k = (if s.flag (bRport port) F.RUN then 2 else 1) ∧ bit (u.reg (bRport port + 0x020)) 9 = true) ∧
      (∀ snoop noSnoop : BitVec 16, (toleranceNs noSnoop.toNat).isNone = true → (toleranceNs snoop.toNat).isSome = true →
        ∃ u : State, exec (.ltrMessage port k snoop noSnoop) s = .next (u.noteLtr port) ∧
          u.fld b F.RP_LINK_LTR = snoop.toNat ∧ u.cores = s.cores ∧ u.mem = s.mem) ∧
      exec (.pcieErrorMessage port k 3) s = .next s ∧
      (∃ t, exec (.pcieErrorMessage port k 0) s = .next t ∧ t.regs = s.regs ∧ t.mem = s.mem ∧
        (t.configByte port k 0x130).getLsbD 0 = true) ∧
      (∃ t, exec (.pcieErrorMessage port k 2) s = .next t ∧ (t.configByte port k 0x130).getLsbD 2 = true ∧
        (t.configByte port k 0x130).getLsbD 6 = true ∧ bit (t.reg (bRport port + 0x020)) 11 = true ∧ t.mem = s.mem) ∧
      (∀ (rid : BitVec 16) (kind : Fin 3) (addr : BitVec 64) (len : BitVec 13) (data : List (BitVec 8)) (poisoned : Bool),
        let m := if kind.val = 0 then len.toNat else data.length
        0 < m → addr.toNat % 4096 + m ≤ 4096 →
        (kind = 1 → msiRange addr = true → exec (.inboundRequest port k rid kind addr len data poisoned) s =
          .next (s.msiOn port (some k) rid.toNat addr data)) ∧
        (kind ≠ 1 ∨ msiRange addr = false →
          (s.requesterZone port rid.toNat = none → ∃ t,
            exec (.inboundRequest port k rid kind addr len data poisoned) s = .next t ∧
            t.fld (bRport port) F.RP_FAULT_CAUSE = 1 ∧ t.fld (bRport port) F.RP_FAULT_RID = rid.toNat ∧
            t.reg (bRport port + 0x070) = addr ∧ bit (t.reg (bRport port + 0x020)) 8 = true ∧ t.mem = s.mem) ∧
          (∀ z, s.requesterZone port rid.toNat = some z →
            (bits addr 48 16 ≠ 0 → exec (.inboundRequest port k rid kind addr len data poisoned) s =
              .next (s.inboundRefused port k rid.toNat 2 z (kind != 0) addr)) ∧
            (bits addr 48 16 = 0 → kind = 0 → ∀ r, s.ioRead z addr.toNat m = r →
              exec (.inboundRequest port k rid kind addr len data poisoned) s = .next (match r.err with
                | some (e, _) => r.s.inboundRefused port k rid.toNat e.cause z false addr
                | none => r.s)) ∧
            (bits addr 48 16 = 0 → kind ≠ 0 → ∀ r e, s.ioTranslate z addr.toNat true = r → r.res = .error e →
              exec (.inboundRequest port k rid kind addr len data poisoned) s =
                .next (r.s.inboundRefused port k rid.toNat e.cause z true addr)) ∧
            (bits addr 48 16 = 0 → ∀ r x, s.ioTranslate z addr.toNat true = r → r.res = .ok x →
              (kind = 2 → exec (.inboundRequest port k rid kind addr len data poisoned) s =
                .next (r.s.inboundRefused port k rid.toNat 7 z true addr)) ∧
              (kind = 1 → poisoned = true → exec (.inboundRequest port k rid kind addr len data poisoned) s =
                .next (r.s.inboundRefused port k rid.toNat 8 z true addr)) ∧
              (kind = 1 → poisoned = false → exec (.inboundRequest port k rid kind addr len data poisoned) s =
                .next (r.s.ioWrite (7 + port) z addr.toNat data).s)))))))

/-! ## The instruction encodings and the reset state -/

/-- R60 to R68: an instruction whose operands its encoding admits is decoded from its encoding, with every operand at
every value: no bit of an encoding is dropped. -/
def Obligations.PuldoDecodesItsEncoding : Prop :=
  ∀ op : POp, op.wellFormed = true → decodePuldo (encodePuldo op) = some op

/-- R60 to R68: the words of the manual's worked listing decode to the instructions it gives, and so do words written out
from Tables 3.4 and 3.5; the parcels that the manual calls illegal decode to none. -/
def Obligations.PuldoWordsDecode : Prop :=
  decodePuldo 0x00004202 = some (.load 3 true 4 31 16) ∧ decodePuldo 0x0000250C = some (.aluImm .add false 5 5 12) ∧
  decodePuldo 0x00A4E1A0 = some (.alu .add false 20 4 5) ∧ decodePuldo 0x0020F630 = some (.mfs 6 0x002) ∧
  decodePuldo 0x000097FC = some (.branch .ne 3 0 (-8)) ∧ decodePuldo 0x0000C100 = some .ret ∧
  decodePuldo 0x0000C200 = some .nop ∧ decodePuldo 0x0000C405 = some (.svc 5) ∧ decodePuldo 0x0000B004 = some (.call 8) ∧
  decodePuldo 0x000000A4 = none ∧ decodePuldo 0xFFFFFFFF = none ∧ decodePuldo 0 = none

/-- R456, R460, R464, R525: at reset the module is in Service Standby, with no command waiting, TIMEBASE and the TOD at 0,
no record, no key and no Glaze, the circulating area's write position at 4,096 and KEPT_COUNT at 0; main memory and
the registers have their canonical form. Memory that reads 0 where nothing was written is the model's choice (log
entry 6). The model's choices it rests on: log entries 3, 4, 6. -/
def Obligations.ResetState : Prop :=
  let s := State.reset
  s.mode = 0 ∧ s.modeBase = 0 ∧ s.pending = [] ∧ s.timebase = 0 ∧ s.tod = {} ∧ s.recorder.records = [] ∧ s.recorder.nextSeq = 1 ∧
  s.keys = [] ∧ s.glazed = false ∧ s.fld bRec F.REC_HEAD_NEXT = 4096 ∧ s.fld bRec F.REC_STAT_KEPT_COUNT = 0 ∧
  s.fld bEse F.QSC_TMO_MS = 1000 ∧ s.fld bEse F.SVC_PORT_CFG_GAP = 4 ∧ (∀ n, (s.core n).started = false) ∧
  (∀ n, n < 64 → s.coreValid n = false) ∧ (∀ a, s.byte a = 0) ∧ Memory.wf s.mem ∧ Regs.wf s.regs

/-- Main memory is one canonical list of bytes (addresses strictly rising, no listed byte equal to what an unlisted
address reads as), so that equal memories are equal data; every step of the block keeps it so, whatever command it
takes (that form, and the value an unlisted address reads as, are the model's choice, log entry 6). The model's
choices it rests on: log entry 6. -/
def Obligations.MemoryStaysCanonical : Prop :=
  ∀ s t : State, Memory.wf s.mem → step s = .next t → Memory.wf t.mem
end

