-- ==== Sys2Proof/Laws/Bits.lean ====
section
/-!
SUPPORT. The laws of bit fields: what a field reads as after it is written, and that other fields stay.
-/

namespace Sys2Proof.Machine

theorem testBit_bits (v : Word) (lo w i : Nat) :
    (bits v lo w).testBit i = (decide (i < w) && v.getLsbD (lo + i)) := by
  simp [bits, Nat.testBit_mod_two_pow, Nat.testBit_shiftRight, BitVec.getLsbD]

theorem bits_lt (v : Word) (lo w : Nat) : bits v lo w < 2 ^ w := Nat.mod_lt _ (Nat.two_pow_pos w)

theorem getLsbD_putBits (v : Word) (lo w n i : Nat) (hi : i < 64) :
    (putBits v lo w n).getLsbD i =
      if lo ≤ i ∧ i < lo + w then n.testBit (i - lo) else v.getLsbD i := by
  have hm : (BitVec.ofNat 64 (2 ^ w - 1) <<< lo).getLsbD i = decide (lo ≤ i ∧ i < lo + w) := by
    rw [BitVec.getLsbD_shiftLeft]
    by_cases h : i < lo
    · simp [h, Nat.not_le.2 h]
    · have h' : lo ≤ i := Nat.le_of_not_lt h
      have h64 : i - lo < 64 := by omega
      simp only [hi, decide_true, h, decide_false, Bool.not_false, Bool.true_and, BitVec.getLsbD_ofNat, h64,
        Nat.testBit_two_pow_sub_one, h', true_and, Bool.and_true]
      congr 1
      simp only [eq_iff_iff]
      omega
  have hn : (BitVec.ofNat 64 (n % 2 ^ w) <<< lo).getLsbD i =
      (decide (lo ≤ i ∧ i < lo + w) && n.testBit (i - lo)) := by
    rw [BitVec.getLsbD_shiftLeft]
    by_cases h : i < lo
    · simp [h, Nat.not_le.2 h]
    · have h' : lo ≤ i := Nat.le_of_not_lt h
      have h64 : i - lo < 64 := by omega
      simp only [hi, decide_true, h, decide_false, Bool.not_false, Bool.true_and, BitVec.getLsbD_ofNat, h64,
        Nat.testBit_mod_two_pow, h', true_and]
      congr 1
      simp only [decide_eq_decide]
      omega
  unfold putBits
  simp only [BitVec.getLsbD_or, BitVec.getLsbD_and, BitVec.getLsbD_not, hi, decide_true, Bool.true_and, hm, hn]
  by_cases h : lo ≤ i ∧ i < lo + w <;> simp [h]

/-- A field reads as what was written to it. -/
theorem bits_putBits_self (v : Word) {lo w : Nat} (n : Nat) (h : lo + w ≤ 64) :
    bits (putBits v lo w n) lo w = n % 2 ^ w := by
  apply Nat.eq_of_testBit_eq
  intro i
  rw [testBit_bits, Nat.testBit_mod_two_pow]
  by_cases hi : i < w
  · rw [getLsbD_putBits _ _ _ _ _ (by omega)]
    simp [hi]
  · simp [hi]

/-- A field that does not meet the one written stays. -/
theorem bits_putBits_of_disjoint (v : Word) {lo w lo' w' : Nat} (n : Nat) (h64 : lo' + w' ≤ 64)
    (h : lo' + w' ≤ lo ∨ lo + w ≤ lo') : bits (putBits v lo w n) lo' w' = bits v lo' w' := by
  apply Nat.eq_of_testBit_eq
  intro i
  rw [testBit_bits, testBit_bits]
  by_cases hi : i < w'
  · rw [getLsbD_putBits _ _ _ _ _ (by omega)]
    have : ¬ (lo ≤ lo' + i ∧ lo' + i < lo + w) := by omega
    simp [this]
  · simp [hi]

theorem bit_eq_getLsbD (v : Word) (i : Nat) : bit v i = v.getLsbD i := rfl

/-- One bit reads as what was written to it. -/
theorem bit_putBit_self (v : Word) {i : Nat} (b : Bool) (h : i < 64) : bit (putBit v i b) i = b := by
  rw [bit_eq_getLsbD, putBit, getLsbD_putBits _ _ _ _ _ h]
  cases b <;> simp

/-- The other bits stay. -/
theorem bit_putBit_of_ne (v : Word) {i j : Nat} (b : Bool) (hj : j < 64) (h : j ≠ i) :
    bit (putBit v i b) j = bit v j := by
  rw [bit_eq_getLsbD, putBit, getLsbD_putBits _ _ _ _ _ hj, bit_eq_getLsbD]
  rw [if_neg (by omega)]

/-- A write of the value that a field holds changes nothing. -/
theorem putBits_bits (v : Word) (lo w : Nat) : putBits v lo w (bits v lo w) = v := by
  apply BitVec.eq_of_getLsbD_eq
  intro i hi
  rw [getLsbD_putBits _ _ _ _ _ hi, testBit_bits]
  by_cases hr : lo ≤ i ∧ i < lo + w
  · have h1 : i - lo < w := by omega
    have h2 : lo + (i - lo) = i := by omega
    simp [hr, h1, h2]
  · simp [hr]

end Sys2Proof.Machine
end

