-- ==== Sys2Proof/Laws/SMap.lean ====
section
/-!
SUPPORT. The laws of sparse tables: what a read gives after a write, and that a write keeps the canonical form.
-/

namespace Sys2Proof.Machine

variable {α : Type}

@[simp] theorem SMap.find?_nil (k : Nat) : SMap.find? ([] : SMap α) k = none := rfl

theorem SMap.find?_put_self (m : SMap α) (k : Nat) (v : α) : SMap.find? (SMap.put m k v) k = some v := by
  induction m with
  | nil => simp [SMap.put, SMap.find?]
  | cons e rest ih =>
    obtain ⟨j, w⟩ := e
    by_cases h1 : k < j
    · simp [SMap.put, h1, SMap.find?]
    · by_cases h2 : j = k
      · simp [SMap.put, h2, SMap.find?]
      · simp [SMap.put, h1, h2, SMap.find?, ih]

theorem SMap.find?_put_of_ne (m : SMap α) {k i : Nat} (v : α) (h : i ≠ k) :
    SMap.find? (SMap.put m k v) i = SMap.find? m i := by
  induction m with
  | nil => simp [SMap.put, SMap.find?, Ne.symm h]
  | cons e rest ih =>
    obtain ⟨j, w⟩ := e
    by_cases h1 : k < j
    · simp [SMap.put, h1, SMap.find?, Ne.symm h]
    · by_cases h2 : j = k
      · subst h2; simp [SMap.put, SMap.find?, Ne.symm h]
      · simp [SMap.put, h1, h2, SMap.find?, ih]

theorem SMap.find?_erase_self (m : SMap α) (k : Nat) : SMap.find? (SMap.erase m k) k = none := by
  induction m with
  | nil => rfl
  | cons e rest ih =>
    obtain ⟨j, w⟩ := e
    by_cases h : j = k
    · subst h; simpa [SMap.erase] using ih
    · simpa [SMap.erase, h, SMap.find?] using ih

theorem SMap.find?_erase_of_ne (m : SMap α) {k i : Nat} (h : i ≠ k) :
    SMap.find? (SMap.erase m k) i = SMap.find? m i := by
  induction m with
  | nil => rfl
  | cons e rest ih =>
    obtain ⟨j, w⟩ := e
    by_cases hj : j = k
    · subst hj; simpa [SMap.erase, SMap.find?, Ne.symm h] using ih
    · simp only [SMap.erase, List.filter_cons, bne_iff_ne, ne_eq, hj, not_false_eq_true, if_true,
        SMap.find?] at ih ⊢
      by_cases hi : j = i
      · simp [hi]
      · simpa [hi] using ih

/-- A read at the key written gives the value written. -/
theorem SMap.get_set_self [DecidableEq α] (d : α) (m : SMap α) (k : Nat) (v : α) :
    SMap.get d (SMap.set d m k v) k = v := by
  by_cases h : v = d
  · simp [SMap.set, h, SMap.get, SMap.find?_erase_self]
  · simp [SMap.set, h, SMap.get, SMap.find?_put_self]

/-- A write leaves every other key alone. -/
theorem SMap.get_set_of_ne [DecidableEq α] (d e : α) (m : SMap α) {k i : Nat} (v : α) (h : i ≠ k) :
    SMap.get e (SMap.set d m k v) i = SMap.get e m i := by
  by_cases hv : v = d
  · simp [SMap.set, hv, SMap.get, SMap.find?_erase_of_ne m h]
  · simp [SMap.set, hv, SMap.get, SMap.find?_put_of_ne m v h]

/-! ## The canonical form -/

variable [DecidableEq α]

/-- The canonical form as a pairwise order and a condition on every entry. -/
theorem SMap.canonical_iff (d : Nat → α) (m : SMap α) :
    SMap.canonical d m = true ↔ m.Pairwise (fun a b => a.1 < b.1) ∧ ∀ e ∈ m, e.2 ≠ d e.1 := by
  induction m with
  | nil => simp [SMap.canonical]
  | cons e rest ih =>
    obtain ⟨k, v⟩ := e
    cases rest with
    | nil => simp [SMap.canonical]
    | cons f rest =>
      obtain ⟨j, w⟩ := f
      simp only [SMap.canonical, Bool.and_eq_true, decide_eq_true_eq, ih, List.pairwise_cons, List.mem_cons,
        forall_eq_or_imp]
      constructor
      · rintro ⟨⟨hv, hk⟩, ⟨hw, hp⟩, hd⟩
        exact ⟨⟨⟨hk, fun x hx => lt_trans hk (hw x hx)⟩, hw, hp⟩, hv, hd⟩
      · rintro ⟨⟨⟨hk, _⟩, hw, hp⟩, hv, hd⟩
        exact ⟨⟨hv, hk⟩, ⟨hw, hp⟩, hd⟩

theorem SMap.canonical_erase (d : Nat → α) {m : SMap α} (k : Nat) (h : SMap.canonical d m = true) :
    SMap.canonical d (SMap.erase m k) = true := by
  rw [SMap.canonical_iff] at h ⊢
  exact ⟨h.1.filter _, fun e he => h.2 e (List.mem_filter.1 he).1⟩

omit [DecidableEq α] in
theorem SMap.mem_put {m : SMap α} {k : Nat} {v : α} {e : Nat × α} (h : e ∈ SMap.put m k v) :
    e = (k, v) ∨ e ∈ m := by
  induction m with
  | nil => simpa [SMap.put] using h
  | cons f rest ih =>
    obtain ⟨j, w⟩ := f
    by_cases h1 : k < j
    · simpa [SMap.put, h1] using h
    · by_cases h2 : j = k
      · subst h2
        simp only [SMap.put, lt_self_iff_false, if_false, if_true, List.mem_cons] at h
        exact h.imp id (fun x => List.mem_cons_of_mem _ x)
      · simp only [SMap.put, h1, h2, if_false, List.mem_cons] at h
        rcases h with h | h
        · exact Or.inr (h ▸ List.mem_cons_self)
        · exact (ih h).imp id (fun x => List.mem_cons_of_mem _ x)

omit [DecidableEq α] in
theorem SMap.pairwise_put {m : SMap α} (k : Nat) (v : α) (h : m.Pairwise (fun a b => a.1 < b.1)) :
    (SMap.put m k v).Pairwise (fun a b => a.1 < b.1) := by
  induction m with
  | nil => simp [SMap.put]
  | cons f rest ih =>
    obtain ⟨j, w⟩ := f
    obtain ⟨hj, hr⟩ := List.pairwise_cons.1 h
    by_cases h1 : k < j
    · simp only [SMap.put, h1, if_true]
      refine List.pairwise_cons.2 ⟨fun e he => ?_, h⟩
      rcases List.mem_cons.1 he with rfl | he
      · exact h1
      · exact lt_trans h1 (hj e he)
    · by_cases h2 : j = k
      · subst h2
        simp only [SMap.put, lt_self_iff_false, if_false, if_true]
        exact List.pairwise_cons.2 ⟨hj, hr⟩
      · simp only [SMap.put, h1, h2, if_false]
        refine List.pairwise_cons.2 ⟨fun e he => ?_, ih hr⟩
        rcases SMap.mem_put he with rfl | he
        · exact lt_of_le_of_ne (not_lt.1 h1) h2
        · exact hj e he

/-- A write keeps the canonical form, where the default it is given is that of its key. -/
theorem SMap.canonical_set (d : Nat → α) {m : SMap α} (k : Nat) (v : α) (h : SMap.canonical d m = true) :
    SMap.canonical d (SMap.set (d k) m k v) = true := by
  by_cases hv : v = d k
  · simpa [SMap.set, hv] using SMap.canonical_erase d k h
  · simp only [SMap.set, hv, if_false]
    rw [SMap.canonical_iff] at h ⊢
    refine ⟨SMap.pairwise_put k v h.1, fun e he => ?_⟩
    rcases SMap.mem_put he with rfl | he
    · exact hv
    · exact h.2 e he

end Sys2Proof.Machine
end

