-- ==== Sys2Proof/Laws/State.lean ====
section
/-!
SUPPORT. One lemma per field of State per update: an update changes its own field and no other.
-/

namespace Sys2Proof.Machine

variable (s : State)

/-! ### setReg -/

@[simp] theorem State.setReg_powered (w : Nat) (v : Word) : (s.setReg w v).powered = s.powered := rfl
@[simp] theorem State.setReg_mem (w : Nat) (v : Word) : (s.setReg w v).mem = s.mem := rfl
@[simp] theorem State.setReg_timebase (w : Nat) (v : Word) : (s.setReg w v).timebase = s.timebase := rfl
@[simp] theorem State.setReg_recorder (w : Nat) (v : Word) : (s.setReg w v).recorder = s.recorder := rfl
@[simp] theorem State.setReg_tod (w : Nat) (v : Word) : (s.setReg w v).tod = s.tod := rfl
@[simp] theorem State.setReg_ic (w : Nat) (v : Word) : (s.setReg w v).ic = s.ic := rfl
@[simp] theorem State.setReg_cores (w : Nat) (v : Word) : (s.setReg w v).cores = s.cores := rfl
@[simp] theorem State.setReg_positions (w : Nat) (v : Word) : (s.setReg w v).positions = s.positions := rfl
@[simp] theorem State.setReg_sparings (w : Nat) (v : Word) : (s.setReg w v).sparings = s.sparings := rfl
@[simp] theorem State.setReg_power (w : Nat) (v : Word) : (s.setReg w v).power = s.power := rfl
@[simp] theorem State.setReg_tiles (w : Nat) (v : Word) : (s.setReg w v).tiles = s.tiles := rfl
@[simp] theorem State.setReg_home (w : Nat) (v : Word) : (s.setReg w v).home = s.home := rfl
@[simp] theorem State.setReg_fports (w : Nat) (v : Word) : (s.setReg w v).fports = s.fports := rfl
@[simp] theorem State.setReg_accepted (w : Nat) (v : Word) : (s.setReg w v).accepted = s.accepted := rfl
@[simp] theorem State.setReg_requests (w : Nat) (v : Word) : (s.setReg w v).requests = s.requests := rfl
@[simp] theorem State.setReg_txn (w : Nat) (v : Word) : (s.setReg w v).txn = s.txn := rfl
@[simp] theorem State.setReg_ioTlb (w : Nat) (v : Word) : (s.setReg w v).ioTlb = s.ioTlb := rfl
@[simp] theorem State.setReg_keys (w : Nat) (v : Word) : (s.setReg w v).keys = s.keys := rfl
@[simp] theorem State.setReg_keyLoads (w : Nat) (v : Word) : (s.setReg w v).keyLoads = s.keyLoads := rfl
@[simp] theorem State.setReg_poison (w : Nat) (v : Word) : (s.setReg w v).poison = s.poison := rfl
@[simp] theorem State.setReg_css (w : Nat) (v : Word) : (s.setReg w v).css = s.css := rfl
@[simp] theorem State.setReg_pair (w : Nat) (v : Word) : (s.setReg w v).pair = s.pair := rfl
@[simp] theorem State.setReg_cRings (w : Nat) (v : Word) : (s.setReg w v).cRings = s.cRings := rfl
@[simp] theorem State.setReg_cJobs (w : Nat) (v : Word) : (s.setReg w v).cJobs = s.cJobs := rfl
@[simp] theorem State.setReg_cUnits (w : Nat) (v : Word) : (s.setReg w v).cUnits = s.cUnits := rfl
@[simp] theorem State.setReg_cPipes (w : Nat) (v : Word) : (s.setReg w v).cPipes = s.cPipes := rfl
@[simp] theorem State.setReg_zRings (w : Nat) (v : Word) : (s.setReg w v).zRings = s.zRings := rfl
@[simp] theorem State.setReg_zJobs (w : Nat) (v : Word) : (s.setReg w v).zJobs = s.zJobs := rfl
@[simp] theorem State.setReg_ese (w : Nat) (v : Word) : (s.setReg w v).ese = s.ese := rfl
@[simp] theorem State.setReg_ucode (w : Nat) (v : Word) : (s.setReg w v).ucode = s.ucode := rfl
@[simp] theorem State.setReg_staging (w : Nat) (v : Word) : (s.setReg w v).staging = s.staging := rfl
@[simp] theorem State.setReg_flash (w : Nat) (v : Word) : (s.setReg w v).flash = s.flash := rfl
@[simp] theorem State.setReg_flashSize (w : Nat) (v : Word) : (s.setReg w v).flashSize = s.flashSize := rfl
@[simp] theorem State.setReg_scrub (w : Nat) (v : Word) : (s.setReg w v).scrub = s.scrub := rfl
@[simp] theorem State.setReg_pcie (w : Nat) (v : Word) : (s.setReg w v).pcie = s.pcie := rfl
@[simp] theorem State.setReg_icOrder (w : Nat) (v : Word) : (s.setReg w v).icOrder = s.icOrder := rfl
@[simp] theorem State.setReg_freeCtr (w : Nat) (v : Word) : (s.setReg w v).freeCtr = s.freeCtr := rfl
@[simp] theorem State.setReg_pending (w : Nat) (v : Word) : (s.setReg w v).pending = s.pending := rfl

/-! ### setByte -/

@[simp] theorem State.setByte_powered (a : Nat) (b : Byte) : (s.setByte a b).powered = s.powered := rfl
@[simp] theorem State.setByte_regs (a : Nat) (b : Byte) : (s.setByte a b).regs = s.regs := rfl
@[simp] theorem State.setByte_timebase (a : Nat) (b : Byte) : (s.setByte a b).timebase = s.timebase := rfl
@[simp] theorem State.setByte_recorder (a : Nat) (b : Byte) : (s.setByte a b).recorder = s.recorder := rfl
@[simp] theorem State.setByte_tod (a : Nat) (b : Byte) : (s.setByte a b).tod = s.tod := rfl
@[simp] theorem State.setByte_ic (a : Nat) (b : Byte) : (s.setByte a b).ic = s.ic := rfl
@[simp] theorem State.setByte_cores (a : Nat) (b : Byte) : (s.setByte a b).cores = s.cores := rfl
@[simp] theorem State.setByte_positions (a : Nat) (b : Byte) : (s.setByte a b).positions = s.positions := rfl
@[simp] theorem State.setByte_sparings (a : Nat) (b : Byte) : (s.setByte a b).sparings = s.sparings := rfl
@[simp] theorem State.setByte_power (a : Nat) (b : Byte) : (s.setByte a b).power = s.power := rfl
@[simp] theorem State.setByte_tiles (a : Nat) (b : Byte) : (s.setByte a b).tiles = s.tiles := rfl
@[simp] theorem State.setByte_home (a : Nat) (b : Byte) : (s.setByte a b).home = s.home := rfl
@[simp] theorem State.setByte_fports (a : Nat) (b : Byte) : (s.setByte a b).fports = s.fports := rfl
@[simp] theorem State.setByte_accepted (a : Nat) (b : Byte) : (s.setByte a b).accepted = s.accepted := rfl
@[simp] theorem State.setByte_requests (a : Nat) (b : Byte) : (s.setByte a b).requests = s.requests := rfl
@[simp] theorem State.setByte_txn (a : Nat) (b : Byte) : (s.setByte a b).txn = s.txn := rfl
@[simp] theorem State.setByte_ioTlb (a : Nat) (b : Byte) : (s.setByte a b).ioTlb = s.ioTlb := rfl
@[simp] theorem State.setByte_keys (a : Nat) (b : Byte) : (s.setByte a b).keys = s.keys := rfl
@[simp] theorem State.setByte_keyLoads (a : Nat) (b : Byte) : (s.setByte a b).keyLoads = s.keyLoads := rfl
@[simp] theorem State.setByte_poison (a : Nat) (b : Byte) : (s.setByte a b).poison = s.poison := rfl
@[simp] theorem State.setByte_css (a : Nat) (b : Byte) : (s.setByte a b).css = s.css := rfl
@[simp] theorem State.setByte_pair (a : Nat) (b : Byte) : (s.setByte a b).pair = s.pair := rfl
@[simp] theorem State.setByte_cRings (a : Nat) (b : Byte) : (s.setByte a b).cRings = s.cRings := rfl
@[simp] theorem State.setByte_cJobs (a : Nat) (b : Byte) : (s.setByte a b).cJobs = s.cJobs := rfl
@[simp] theorem State.setByte_cUnits (a : Nat) (b : Byte) : (s.setByte a b).cUnits = s.cUnits := rfl
@[simp] theorem State.setByte_cPipes (a : Nat) (b : Byte) : (s.setByte a b).cPipes = s.cPipes := rfl
@[simp] theorem State.setByte_zRings (a : Nat) (b : Byte) : (s.setByte a b).zRings = s.zRings := rfl
@[simp] theorem State.setByte_zJobs (a : Nat) (b : Byte) : (s.setByte a b).zJobs = s.zJobs := rfl
@[simp] theorem State.setByte_ese (a : Nat) (b : Byte) : (s.setByte a b).ese = s.ese := rfl
@[simp] theorem State.setByte_ucode (a : Nat) (b : Byte) : (s.setByte a b).ucode = s.ucode := rfl
@[simp] theorem State.setByte_staging (a : Nat) (b : Byte) : (s.setByte a b).staging = s.staging := rfl
@[simp] theorem State.setByte_flash (a : Nat) (b : Byte) : (s.setByte a b).flash = s.flash := rfl
@[simp] theorem State.setByte_flashSize (a : Nat) (b : Byte) : (s.setByte a b).flashSize = s.flashSize := rfl
@[simp] theorem State.setByte_scrub (a : Nat) (b : Byte) : (s.setByte a b).scrub = s.scrub := rfl
@[simp] theorem State.setByte_pcie (a : Nat) (b : Byte) : (s.setByte a b).pcie = s.pcie := rfl
@[simp] theorem State.setByte_icOrder (a : Nat) (b : Byte) : (s.setByte a b).icOrder = s.icOrder := rfl
@[simp] theorem State.setByte_freeCtr (a : Nat) (b : Byte) : (s.setByte a b).freeCtr = s.freeCtr := rfl
@[simp] theorem State.setByte_pending (a : Nat) (b : Byte) : (s.setByte a b).pending = s.pending := rfl

/-! ### drawn -/

@[simp] theorem State.drawn_powered : (s.drawn).powered = s.powered := rfl
@[simp] theorem State.drawn_regs : (s.drawn).regs = s.regs := rfl
@[simp] theorem State.drawn_mem : (s.drawn).mem = s.mem := rfl
@[simp] theorem State.drawn_timebase : (s.drawn).timebase = s.timebase := rfl
@[simp] theorem State.drawn_recorder : (s.drawn).recorder = s.recorder := rfl
@[simp] theorem State.drawn_tod : (s.drawn).tod = s.tod := rfl
@[simp] theorem State.drawn_ic : (s.drawn).ic = s.ic := rfl
@[simp] theorem State.drawn_cores : (s.drawn).cores = s.cores := rfl
@[simp] theorem State.drawn_positions : (s.drawn).positions = s.positions := rfl
@[simp] theorem State.drawn_sparings : (s.drawn).sparings = s.sparings := rfl
@[simp] theorem State.drawn_power : (s.drawn).power = s.power := rfl
@[simp] theorem State.drawn_tiles : (s.drawn).tiles = s.tiles := rfl
@[simp] theorem State.drawn_home : (s.drawn).home = s.home := rfl
@[simp] theorem State.drawn_fports : (s.drawn).fports = s.fports := rfl
@[simp] theorem State.drawn_accepted : (s.drawn).accepted = s.accepted := rfl
@[simp] theorem State.drawn_requests : (s.drawn).requests = s.requests := rfl
@[simp] theorem State.drawn_txn : (s.drawn).txn = s.txn := rfl
@[simp] theorem State.drawn_ioTlb : (s.drawn).ioTlb = s.ioTlb := rfl
@[simp] theorem State.drawn_keys : (s.drawn).keys = s.keys := rfl
@[simp] theorem State.drawn_keyLoads : (s.drawn).keyLoads = s.keyLoads := rfl
@[simp] theorem State.drawn_poison : (s.drawn).poison = s.poison := rfl
@[simp] theorem State.drawn_css : (s.drawn).css = s.css := rfl
@[simp] theorem State.drawn_pair : (s.drawn).pair = s.pair := rfl
@[simp] theorem State.drawn_cRings : (s.drawn).cRings = s.cRings := rfl
@[simp] theorem State.drawn_cJobs : (s.drawn).cJobs = s.cJobs := rfl
@[simp] theorem State.drawn_cUnits : (s.drawn).cUnits = s.cUnits := rfl
@[simp] theorem State.drawn_cPipes : (s.drawn).cPipes = s.cPipes := rfl
@[simp] theorem State.drawn_zRings : (s.drawn).zRings = s.zRings := rfl
@[simp] theorem State.drawn_zJobs : (s.drawn).zJobs = s.zJobs := rfl
@[simp] theorem State.drawn_ese : (s.drawn).ese = s.ese := rfl
@[simp] theorem State.drawn_ucode : (s.drawn).ucode = s.ucode := rfl
@[simp] theorem State.drawn_staging : (s.drawn).staging = s.staging := rfl
@[simp] theorem State.drawn_flash : (s.drawn).flash = s.flash := rfl
@[simp] theorem State.drawn_flashSize : (s.drawn).flashSize = s.flashSize := rfl
@[simp] theorem State.drawn_scrub : (s.drawn).scrub = s.scrub := rfl
@[simp] theorem State.drawn_pcie : (s.drawn).pcie = s.pcie := rfl
@[simp] theorem State.drawn_icOrder : (s.drawn).icOrder = s.icOrder := rfl
@[simp] theorem State.drawn_pending : (s.drawn).pending = s.pending := rfl

/-! ### setSource -/

@[simp] theorem State.setSource_powered (n : Nat) (e : IcSource) : (s.setSource n e).powered = s.powered := rfl
@[simp] theorem State.setSource_regs (n : Nat) (e : IcSource) : (s.setSource n e).regs = s.regs := rfl
@[simp] theorem State.setSource_mem (n : Nat) (e : IcSource) : (s.setSource n e).mem = s.mem := rfl
@[simp] theorem State.setSource_timebase (n : Nat) (e : IcSource) : (s.setSource n e).timebase = s.timebase := rfl
@[simp] theorem State.setSource_recorder (n : Nat) (e : IcSource) : (s.setSource n e).recorder = s.recorder := rfl
@[simp] theorem State.setSource_tod (n : Nat) (e : IcSource) : (s.setSource n e).tod = s.tod := rfl
@[simp] theorem State.setSource_cores (n : Nat) (e : IcSource) : (s.setSource n e).cores = s.cores := rfl
@[simp] theorem State.setSource_positions (n : Nat) (e : IcSource) : (s.setSource n e).positions = s.positions := rfl
@[simp] theorem State.setSource_sparings (n : Nat) (e : IcSource) : (s.setSource n e).sparings = s.sparings := rfl
@[simp] theorem State.setSource_power (n : Nat) (e : IcSource) : (s.setSource n e).power = s.power := rfl
@[simp] theorem State.setSource_tiles (n : Nat) (e : IcSource) : (s.setSource n e).tiles = s.tiles := rfl
@[simp] theorem State.setSource_home (n : Nat) (e : IcSource) : (s.setSource n e).home = s.home := rfl
@[simp] theorem State.setSource_fports (n : Nat) (e : IcSource) : (s.setSource n e).fports = s.fports := rfl
@[simp] theorem State.setSource_accepted (n : Nat) (e : IcSource) : (s.setSource n e).accepted = s.accepted := rfl
@[simp] theorem State.setSource_requests (n : Nat) (e : IcSource) : (s.setSource n e).requests = s.requests := rfl
@[simp] theorem State.setSource_txn (n : Nat) (e : IcSource) : (s.setSource n e).txn = s.txn := rfl
@[simp] theorem State.setSource_ioTlb (n : Nat) (e : IcSource) : (s.setSource n e).ioTlb = s.ioTlb := rfl
@[simp] theorem State.setSource_keys (n : Nat) (e : IcSource) : (s.setSource n e).keys = s.keys := rfl
@[simp] theorem State.setSource_keyLoads (n : Nat) (e : IcSource) : (s.setSource n e).keyLoads = s.keyLoads := rfl
@[simp] theorem State.setSource_poison (n : Nat) (e : IcSource) : (s.setSource n e).poison = s.poison := rfl
@[simp] theorem State.setSource_css (n : Nat) (e : IcSource) : (s.setSource n e).css = s.css := rfl
@[simp] theorem State.setSource_pair (n : Nat) (e : IcSource) : (s.setSource n e).pair = s.pair := rfl
@[simp] theorem State.setSource_cRings (n : Nat) (e : IcSource) : (s.setSource n e).cRings = s.cRings := rfl
@[simp] theorem State.setSource_cJobs (n : Nat) (e : IcSource) : (s.setSource n e).cJobs = s.cJobs := rfl
@[simp] theorem State.setSource_cUnits (n : Nat) (e : IcSource) : (s.setSource n e).cUnits = s.cUnits := rfl
@[simp] theorem State.setSource_cPipes (n : Nat) (e : IcSource) : (s.setSource n e).cPipes = s.cPipes := rfl
@[simp] theorem State.setSource_zRings (n : Nat) (e : IcSource) : (s.setSource n e).zRings = s.zRings := rfl
@[simp] theorem State.setSource_zJobs (n : Nat) (e : IcSource) : (s.setSource n e).zJobs = s.zJobs := rfl
@[simp] theorem State.setSource_ese (n : Nat) (e : IcSource) : (s.setSource n e).ese = s.ese := rfl
@[simp] theorem State.setSource_ucode (n : Nat) (e : IcSource) : (s.setSource n e).ucode = s.ucode := rfl
@[simp] theorem State.setSource_staging (n : Nat) (e : IcSource) : (s.setSource n e).staging = s.staging := rfl
@[simp] theorem State.setSource_flash (n : Nat) (e : IcSource) : (s.setSource n e).flash = s.flash := rfl
@[simp] theorem State.setSource_flashSize (n : Nat) (e : IcSource) : (s.setSource n e).flashSize = s.flashSize := rfl
@[simp] theorem State.setSource_scrub (n : Nat) (e : IcSource) : (s.setSource n e).scrub = s.scrub := rfl
@[simp] theorem State.setSource_pcie (n : Nat) (e : IcSource) : (s.setSource n e).pcie = s.pcie := rfl
@[simp] theorem State.setSource_icOrder (n : Nat) (e : IcSource) : (s.setSource n e).icOrder = s.icOrder := rfl
@[simp] theorem State.setSource_freeCtr (n : Nat) (e : IcSource) : (s.setSource n e).freeCtr = s.freeCtr := rfl
@[simp] theorem State.setSource_pending (n : Nat) (e : IcSource) : (s.setSource n e).pending = s.pending := rfl

/-! ### setCore -/

@[simp] theorem State.setCore_powered (n : Nat) (c : LCore) : (s.setCore n c).powered = s.powered := rfl
@[simp] theorem State.setCore_regs (n : Nat) (c : LCore) : (s.setCore n c).regs = s.regs := rfl
@[simp] theorem State.setCore_mem (n : Nat) (c : LCore) : (s.setCore n c).mem = s.mem := rfl
@[simp] theorem State.setCore_timebase (n : Nat) (c : LCore) : (s.setCore n c).timebase = s.timebase := rfl
@[simp] theorem State.setCore_recorder (n : Nat) (c : LCore) : (s.setCore n c).recorder = s.recorder := rfl
@[simp] theorem State.setCore_tod (n : Nat) (c : LCore) : (s.setCore n c).tod = s.tod := rfl
@[simp] theorem State.setCore_ic (n : Nat) (c : LCore) : (s.setCore n c).ic = s.ic := rfl
@[simp] theorem State.setCore_positions (n : Nat) (c : LCore) : (s.setCore n c).positions = s.positions := rfl
@[simp] theorem State.setCore_sparings (n : Nat) (c : LCore) : (s.setCore n c).sparings = s.sparings := rfl
@[simp] theorem State.setCore_power (n : Nat) (c : LCore) : (s.setCore n c).power = s.power := rfl
@[simp] theorem State.setCore_tiles (n : Nat) (c : LCore) : (s.setCore n c).tiles = s.tiles := rfl
@[simp] theorem State.setCore_home (n : Nat) (c : LCore) : (s.setCore n c).home = s.home := rfl
@[simp] theorem State.setCore_fports (n : Nat) (c : LCore) : (s.setCore n c).fports = s.fports := rfl
@[simp] theorem State.setCore_accepted (n : Nat) (c : LCore) : (s.setCore n c).accepted = s.accepted := rfl
@[simp] theorem State.setCore_requests (n : Nat) (c : LCore) : (s.setCore n c).requests = s.requests := rfl
@[simp] theorem State.setCore_txn (n : Nat) (c : LCore) : (s.setCore n c).txn = s.txn := rfl
@[simp] theorem State.setCore_ioTlb (n : Nat) (c : LCore) : (s.setCore n c).ioTlb = s.ioTlb := rfl
@[simp] theorem State.setCore_keys (n : Nat) (c : LCore) : (s.setCore n c).keys = s.keys := rfl
@[simp] theorem State.setCore_keyLoads (n : Nat) (c : LCore) : (s.setCore n c).keyLoads = s.keyLoads := rfl
@[simp] theorem State.setCore_poison (n : Nat) (c : LCore) : (s.setCore n c).poison = s.poison := rfl
@[simp] theorem State.setCore_css (n : Nat) (c : LCore) : (s.setCore n c).css = s.css := rfl
@[simp] theorem State.setCore_pair (n : Nat) (c : LCore) : (s.setCore n c).pair = s.pair := rfl
@[simp] theorem State.setCore_cRings (n : Nat) (c : LCore) : (s.setCore n c).cRings = s.cRings := rfl
@[simp] theorem State.setCore_cJobs (n : Nat) (c : LCore) : (s.setCore n c).cJobs = s.cJobs := rfl
@[simp] theorem State.setCore_cUnits (n : Nat) (c : LCore) : (s.setCore n c).cUnits = s.cUnits := rfl
@[simp] theorem State.setCore_cPipes (n : Nat) (c : LCore) : (s.setCore n c).cPipes = s.cPipes := rfl
@[simp] theorem State.setCore_zRings (n : Nat) (c : LCore) : (s.setCore n c).zRings = s.zRings := rfl
@[simp] theorem State.setCore_zJobs (n : Nat) (c : LCore) : (s.setCore n c).zJobs = s.zJobs := rfl
@[simp] theorem State.setCore_ese (n : Nat) (c : LCore) : (s.setCore n c).ese = s.ese := rfl
@[simp] theorem State.setCore_ucode (n : Nat) (c : LCore) : (s.setCore n c).ucode = s.ucode := rfl
@[simp] theorem State.setCore_staging (n : Nat) (c : LCore) : (s.setCore n c).staging = s.staging := rfl
@[simp] theorem State.setCore_flash (n : Nat) (c : LCore) : (s.setCore n c).flash = s.flash := rfl
@[simp] theorem State.setCore_flashSize (n : Nat) (c : LCore) : (s.setCore n c).flashSize = s.flashSize := rfl
@[simp] theorem State.setCore_scrub (n : Nat) (c : LCore) : (s.setCore n c).scrub = s.scrub := rfl
@[simp] theorem State.setCore_pcie (n : Nat) (c : LCore) : (s.setCore n c).pcie = s.pcie := rfl
@[simp] theorem State.setCore_icOrder (n : Nat) (c : LCore) : (s.setCore n c).icOrder = s.icOrder := rfl
@[simp] theorem State.setCore_freeCtr (n : Nat) (c : LCore) : (s.setCore n c).freeCtr = s.freeCtr := rfl
@[simp] theorem State.setCore_pending (n : Nat) (c : LCore) : (s.setCore n c).pending = s.pending := rfl

/-! ### setPos -/

@[simp] theorem State.setPos_powered (p : Nat) (x : Pos) : (s.setPos p x).powered = s.powered := rfl
@[simp] theorem State.setPos_regs (p : Nat) (x : Pos) : (s.setPos p x).regs = s.regs := rfl
@[simp] theorem State.setPos_mem (p : Nat) (x : Pos) : (s.setPos p x).mem = s.mem := rfl
@[simp] theorem State.setPos_timebase (p : Nat) (x : Pos) : (s.setPos p x).timebase = s.timebase := rfl
@[simp] theorem State.setPos_recorder (p : Nat) (x : Pos) : (s.setPos p x).recorder = s.recorder := rfl
@[simp] theorem State.setPos_tod (p : Nat) (x : Pos) : (s.setPos p x).tod = s.tod := rfl
@[simp] theorem State.setPos_ic (p : Nat) (x : Pos) : (s.setPos p x).ic = s.ic := rfl
@[simp] theorem State.setPos_cores (p : Nat) (x : Pos) : (s.setPos p x).cores = s.cores := rfl
@[simp] theorem State.setPos_sparings (p : Nat) (x : Pos) : (s.setPos p x).sparings = s.sparings := rfl
@[simp] theorem State.setPos_power (p : Nat) (x : Pos) : (s.setPos p x).power = s.power := rfl
@[simp] theorem State.setPos_tiles (p : Nat) (x : Pos) : (s.setPos p x).tiles = s.tiles := rfl
@[simp] theorem State.setPos_home (p : Nat) (x : Pos) : (s.setPos p x).home = s.home := rfl
@[simp] theorem State.setPos_fports (p : Nat) (x : Pos) : (s.setPos p x).fports = s.fports := rfl
@[simp] theorem State.setPos_accepted (p : Nat) (x : Pos) : (s.setPos p x).accepted = s.accepted := rfl
@[simp] theorem State.setPos_requests (p : Nat) (x : Pos) : (s.setPos p x).requests = s.requests := rfl
@[simp] theorem State.setPos_txn (p : Nat) (x : Pos) : (s.setPos p x).txn = s.txn := rfl
@[simp] theorem State.setPos_ioTlb (p : Nat) (x : Pos) : (s.setPos p x).ioTlb = s.ioTlb := rfl
@[simp] theorem State.setPos_keys (p : Nat) (x : Pos) : (s.setPos p x).keys = s.keys := rfl
@[simp] theorem State.setPos_keyLoads (p : Nat) (x : Pos) : (s.setPos p x).keyLoads = s.keyLoads := rfl
@[simp] theorem State.setPos_poison (p : Nat) (x : Pos) : (s.setPos p x).poison = s.poison := rfl
@[simp] theorem State.setPos_css (p : Nat) (x : Pos) : (s.setPos p x).css = s.css := rfl
@[simp] theorem State.setPos_pair (p : Nat) (x : Pos) : (s.setPos p x).pair = s.pair := rfl
@[simp] theorem State.setPos_cRings (p : Nat) (x : Pos) : (s.setPos p x).cRings = s.cRings := rfl
@[simp] theorem State.setPos_cJobs (p : Nat) (x : Pos) : (s.setPos p x).cJobs = s.cJobs := rfl
@[simp] theorem State.setPos_cUnits (p : Nat) (x : Pos) : (s.setPos p x).cUnits = s.cUnits := rfl
@[simp] theorem State.setPos_cPipes (p : Nat) (x : Pos) : (s.setPos p x).cPipes = s.cPipes := rfl
@[simp] theorem State.setPos_zRings (p : Nat) (x : Pos) : (s.setPos p x).zRings = s.zRings := rfl
@[simp] theorem State.setPos_zJobs (p : Nat) (x : Pos) : (s.setPos p x).zJobs = s.zJobs := rfl
@[simp] theorem State.setPos_ese (p : Nat) (x : Pos) : (s.setPos p x).ese = s.ese := rfl
@[simp] theorem State.setPos_ucode (p : Nat) (x : Pos) : (s.setPos p x).ucode = s.ucode := rfl
@[simp] theorem State.setPos_staging (p : Nat) (x : Pos) : (s.setPos p x).staging = s.staging := rfl
@[simp] theorem State.setPos_flash (p : Nat) (x : Pos) : (s.setPos p x).flash = s.flash := rfl
@[simp] theorem State.setPos_flashSize (p : Nat) (x : Pos) : (s.setPos p x).flashSize = s.flashSize := rfl
@[simp] theorem State.setPos_scrub (p : Nat) (x : Pos) : (s.setPos p x).scrub = s.scrub := rfl
@[simp] theorem State.setPos_pcie (p : Nat) (x : Pos) : (s.setPos p x).pcie = s.pcie := rfl
@[simp] theorem State.setPos_icOrder (p : Nat) (x : Pos) : (s.setPos p x).icOrder = s.icOrder := rfl
@[simp] theorem State.setPos_freeCtr (p : Nat) (x : Pos) : (s.setPos p x).freeCtr = s.freeCtr := rfl
@[simp] theorem State.setPos_pending (p : Nat) (x : Pos) : (s.setPos p x).pending = s.pending := rfl

/-! ### setTile -/

@[simp] theorem State.setTile_powered (t : Nat) (x : Tile) : (s.setTile t x).powered = s.powered := rfl
@[simp] theorem State.setTile_regs (t : Nat) (x : Tile) : (s.setTile t x).regs = s.regs := rfl
@[simp] theorem State.setTile_mem (t : Nat) (x : Tile) : (s.setTile t x).mem = s.mem := rfl
@[simp] theorem State.setTile_timebase (t : Nat) (x : Tile) : (s.setTile t x).timebase = s.timebase := rfl
@[simp] theorem State.setTile_recorder (t : Nat) (x : Tile) : (s.setTile t x).recorder = s.recorder := rfl
@[simp] theorem State.setTile_tod (t : Nat) (x : Tile) : (s.setTile t x).tod = s.tod := rfl
@[simp] theorem State.setTile_ic (t : Nat) (x : Tile) : (s.setTile t x).ic = s.ic := rfl
@[simp] theorem State.setTile_cores (t : Nat) (x : Tile) : (s.setTile t x).cores = s.cores := rfl
@[simp] theorem State.setTile_positions (t : Nat) (x : Tile) : (s.setTile t x).positions = s.positions := rfl
@[simp] theorem State.setTile_sparings (t : Nat) (x : Tile) : (s.setTile t x).sparings = s.sparings := rfl
@[simp] theorem State.setTile_power (t : Nat) (x : Tile) : (s.setTile t x).power = s.power := rfl
@[simp] theorem State.setTile_home (t : Nat) (x : Tile) : (s.setTile t x).home = s.home := rfl
@[simp] theorem State.setTile_fports (t : Nat) (x : Tile) : (s.setTile t x).fports = s.fports := rfl
@[simp] theorem State.setTile_accepted (t : Nat) (x : Tile) : (s.setTile t x).accepted = s.accepted := rfl
@[simp] theorem State.setTile_requests (t : Nat) (x : Tile) : (s.setTile t x).requests = s.requests := rfl
@[simp] theorem State.setTile_txn (t : Nat) (x : Tile) : (s.setTile t x).txn = s.txn := rfl
@[simp] theorem State.setTile_ioTlb (t : Nat) (x : Tile) : (s.setTile t x).ioTlb = s.ioTlb := rfl
@[simp] theorem State.setTile_keys (t : Nat) (x : Tile) : (s.setTile t x).keys = s.keys := rfl
@[simp] theorem State.setTile_keyLoads (t : Nat) (x : Tile) : (s.setTile t x).keyLoads = s.keyLoads := rfl
@[simp] theorem State.setTile_poison (t : Nat) (x : Tile) : (s.setTile t x).poison = s.poison := rfl
@[simp] theorem State.setTile_css (t : Nat) (x : Tile) : (s.setTile t x).css = s.css := rfl
@[simp] theorem State.setTile_pair (t : Nat) (x : Tile) : (s.setTile t x).pair = s.pair := rfl
@[simp] theorem State.setTile_cRings (t : Nat) (x : Tile) : (s.setTile t x).cRings = s.cRings := rfl
@[simp] theorem State.setTile_cJobs (t : Nat) (x : Tile) : (s.setTile t x).cJobs = s.cJobs := rfl
@[simp] theorem State.setTile_cUnits (t : Nat) (x : Tile) : (s.setTile t x).cUnits = s.cUnits := rfl
@[simp] theorem State.setTile_cPipes (t : Nat) (x : Tile) : (s.setTile t x).cPipes = s.cPipes := rfl
@[simp] theorem State.setTile_zRings (t : Nat) (x : Tile) : (s.setTile t x).zRings = s.zRings := rfl
@[simp] theorem State.setTile_zJobs (t : Nat) (x : Tile) : (s.setTile t x).zJobs = s.zJobs := rfl
@[simp] theorem State.setTile_ese (t : Nat) (x : Tile) : (s.setTile t x).ese = s.ese := rfl
@[simp] theorem State.setTile_ucode (t : Nat) (x : Tile) : (s.setTile t x).ucode = s.ucode := rfl
@[simp] theorem State.setTile_staging (t : Nat) (x : Tile) : (s.setTile t x).staging = s.staging := rfl
@[simp] theorem State.setTile_flash (t : Nat) (x : Tile) : (s.setTile t x).flash = s.flash := rfl
@[simp] theorem State.setTile_flashSize (t : Nat) (x : Tile) : (s.setTile t x).flashSize = s.flashSize := rfl
@[simp] theorem State.setTile_scrub (t : Nat) (x : Tile) : (s.setTile t x).scrub = s.scrub := rfl
@[simp] theorem State.setTile_pcie (t : Nat) (x : Tile) : (s.setTile t x).pcie = s.pcie := rfl
@[simp] theorem State.setTile_icOrder (t : Nat) (x : Tile) : (s.setTile t x).icOrder = s.icOrder := rfl
@[simp] theorem State.setTile_freeCtr (t : Nat) (x : Tile) : (s.setTile t x).freeCtr = s.freeCtr := rfl
@[simp] theorem State.setTile_pending (t : Nat) (x : Tile) : (s.setTile t x).pending = s.pending := rfl

/-! ### setFport -/

@[simp] theorem State.setFport_powered (f : Nat) (x : FabPort) : (s.setFport f x).powered = s.powered := rfl
@[simp] theorem State.setFport_regs (f : Nat) (x : FabPort) : (s.setFport f x).regs = s.regs := rfl
@[simp] theorem State.setFport_mem (f : Nat) (x : FabPort) : (s.setFport f x).mem = s.mem := rfl
@[simp] theorem State.setFport_timebase (f : Nat) (x : FabPort) : (s.setFport f x).timebase = s.timebase := rfl
@[simp] theorem State.setFport_recorder (f : Nat) (x : FabPort) : (s.setFport f x).recorder = s.recorder := rfl
@[simp] theorem State.setFport_tod (f : Nat) (x : FabPort) : (s.setFport f x).tod = s.tod := rfl
@[simp] theorem State.setFport_ic (f : Nat) (x : FabPort) : (s.setFport f x).ic = s.ic := rfl
@[simp] theorem State.setFport_cores (f : Nat) (x : FabPort) : (s.setFport f x).cores = s.cores := rfl
@[simp] theorem State.setFport_positions (f : Nat) (x : FabPort) : (s.setFport f x).positions = s.positions := rfl
@[simp] theorem State.setFport_sparings (f : Nat) (x : FabPort) : (s.setFport f x).sparings = s.sparings := rfl
@[simp] theorem State.setFport_power (f : Nat) (x : FabPort) : (s.setFport f x).power = s.power := rfl
@[simp] theorem State.setFport_tiles (f : Nat) (x : FabPort) : (s.setFport f x).tiles = s.tiles := rfl
@[simp] theorem State.setFport_home (f : Nat) (x : FabPort) : (s.setFport f x).home = s.home := rfl
@[simp] theorem State.setFport_accepted (f : Nat) (x : FabPort) : (s.setFport f x).accepted = s.accepted := rfl
@[simp] theorem State.setFport_requests (f : Nat) (x : FabPort) : (s.setFport f x).requests = s.requests := rfl
@[simp] theorem State.setFport_txn (f : Nat) (x : FabPort) : (s.setFport f x).txn = s.txn := rfl
@[simp] theorem State.setFport_ioTlb (f : Nat) (x : FabPort) : (s.setFport f x).ioTlb = s.ioTlb := rfl
@[simp] theorem State.setFport_keys (f : Nat) (x : FabPort) : (s.setFport f x).keys = s.keys := rfl
@[simp] theorem State.setFport_keyLoads (f : Nat) (x : FabPort) : (s.setFport f x).keyLoads = s.keyLoads := rfl
@[simp] theorem State.setFport_poison (f : Nat) (x : FabPort) : (s.setFport f x).poison = s.poison := rfl
@[simp] theorem State.setFport_css (f : Nat) (x : FabPort) : (s.setFport f x).css = s.css := rfl
@[simp] theorem State.setFport_pair (f : Nat) (x : FabPort) : (s.setFport f x).pair = s.pair := rfl
@[simp] theorem State.setFport_cRings (f : Nat) (x : FabPort) : (s.setFport f x).cRings = s.cRings := rfl
@[simp] theorem State.setFport_cJobs (f : Nat) (x : FabPort) : (s.setFport f x).cJobs = s.cJobs := rfl
@[simp] theorem State.setFport_cUnits (f : Nat) (x : FabPort) : (s.setFport f x).cUnits = s.cUnits := rfl
@[simp] theorem State.setFport_cPipes (f : Nat) (x : FabPort) : (s.setFport f x).cPipes = s.cPipes := rfl
@[simp] theorem State.setFport_zRings (f : Nat) (x : FabPort) : (s.setFport f x).zRings = s.zRings := rfl
@[simp] theorem State.setFport_zJobs (f : Nat) (x : FabPort) : (s.setFport f x).zJobs = s.zJobs := rfl
@[simp] theorem State.setFport_ese (f : Nat) (x : FabPort) : (s.setFport f x).ese = s.ese := rfl
@[simp] theorem State.setFport_ucode (f : Nat) (x : FabPort) : (s.setFport f x).ucode = s.ucode := rfl
@[simp] theorem State.setFport_staging (f : Nat) (x : FabPort) : (s.setFport f x).staging = s.staging := rfl
@[simp] theorem State.setFport_flash (f : Nat) (x : FabPort) : (s.setFport f x).flash = s.flash := rfl
@[simp] theorem State.setFport_flashSize (f : Nat) (x : FabPort) : (s.setFport f x).flashSize = s.flashSize := rfl
@[simp] theorem State.setFport_scrub (f : Nat) (x : FabPort) : (s.setFport f x).scrub = s.scrub := rfl
@[simp] theorem State.setFport_pcie (f : Nat) (x : FabPort) : (s.setFport f x).pcie = s.pcie := rfl
@[simp] theorem State.setFport_icOrder (f : Nat) (x : FabPort) : (s.setFport f x).icOrder = s.icOrder := rfl
@[simp] theorem State.setFport_freeCtr (f : Nat) (x : FabPort) : (s.setFport f x).freeCtr = s.freeCtr := rfl
@[simp] theorem State.setFport_pending (f : Nat) (x : FabPort) : (s.setFport f x).pending = s.pending := rfl

/-! ### setSlot -/

@[simp] theorem State.setSlot_powered (k : Nat) (x : KeySlot) : (s.setSlot k x).powered = s.powered := rfl
@[simp] theorem State.setSlot_regs (k : Nat) (x : KeySlot) : (s.setSlot k x).regs = s.regs := rfl
@[simp] theorem State.setSlot_mem (k : Nat) (x : KeySlot) : (s.setSlot k x).mem = s.mem := rfl
@[simp] theorem State.setSlot_timebase (k : Nat) (x : KeySlot) : (s.setSlot k x).timebase = s.timebase := rfl
@[simp] theorem State.setSlot_recorder (k : Nat) (x : KeySlot) : (s.setSlot k x).recorder = s.recorder := rfl
@[simp] theorem State.setSlot_tod (k : Nat) (x : KeySlot) : (s.setSlot k x).tod = s.tod := rfl
@[simp] theorem State.setSlot_ic (k : Nat) (x : KeySlot) : (s.setSlot k x).ic = s.ic := rfl
@[simp] theorem State.setSlot_cores (k : Nat) (x : KeySlot) : (s.setSlot k x).cores = s.cores := rfl
@[simp] theorem State.setSlot_positions (k : Nat) (x : KeySlot) : (s.setSlot k x).positions = s.positions := rfl
@[simp] theorem State.setSlot_sparings (k : Nat) (x : KeySlot) : (s.setSlot k x).sparings = s.sparings := rfl
@[simp] theorem State.setSlot_power (k : Nat) (x : KeySlot) : (s.setSlot k x).power = s.power := rfl
@[simp] theorem State.setSlot_tiles (k : Nat) (x : KeySlot) : (s.setSlot k x).tiles = s.tiles := rfl
@[simp] theorem State.setSlot_home (k : Nat) (x : KeySlot) : (s.setSlot k x).home = s.home := rfl
@[simp] theorem State.setSlot_fports (k : Nat) (x : KeySlot) : (s.setSlot k x).fports = s.fports := rfl
@[simp] theorem State.setSlot_accepted (k : Nat) (x : KeySlot) : (s.setSlot k x).accepted = s.accepted := rfl
@[simp] theorem State.setSlot_requests (k : Nat) (x : KeySlot) : (s.setSlot k x).requests = s.requests := rfl
@[simp] theorem State.setSlot_txn (k : Nat) (x : KeySlot) : (s.setSlot k x).txn = s.txn := rfl
@[simp] theorem State.setSlot_ioTlb (k : Nat) (x : KeySlot) : (s.setSlot k x).ioTlb = s.ioTlb := rfl
@[simp] theorem State.setSlot_keyLoads (k : Nat) (x : KeySlot) : (s.setSlot k x).keyLoads = s.keyLoads := rfl
@[simp] theorem State.setSlot_poison (k : Nat) (x : KeySlot) : (s.setSlot k x).poison = s.poison := rfl
@[simp] theorem State.setSlot_css (k : Nat) (x : KeySlot) : (s.setSlot k x).css = s.css := rfl
@[simp] theorem State.setSlot_pair (k : Nat) (x : KeySlot) : (s.setSlot k x).pair = s.pair := rfl
@[simp] theorem State.setSlot_cRings (k : Nat) (x : KeySlot) : (s.setSlot k x).cRings = s.cRings := rfl
@[simp] theorem State.setSlot_cJobs (k : Nat) (x : KeySlot) : (s.setSlot k x).cJobs = s.cJobs := rfl
@[simp] theorem State.setSlot_cUnits (k : Nat) (x : KeySlot) : (s.setSlot k x).cUnits = s.cUnits := rfl
@[simp] theorem State.setSlot_cPipes (k : Nat) (x : KeySlot) : (s.setSlot k x).cPipes = s.cPipes := rfl
@[simp] theorem State.setSlot_zRings (k : Nat) (x : KeySlot) : (s.setSlot k x).zRings = s.zRings := rfl
@[simp] theorem State.setSlot_zJobs (k : Nat) (x : KeySlot) : (s.setSlot k x).zJobs = s.zJobs := rfl
@[simp] theorem State.setSlot_ese (k : Nat) (x : KeySlot) : (s.setSlot k x).ese = s.ese := rfl
@[simp] theorem State.setSlot_ucode (k : Nat) (x : KeySlot) : (s.setSlot k x).ucode = s.ucode := rfl
@[simp] theorem State.setSlot_staging (k : Nat) (x : KeySlot) : (s.setSlot k x).staging = s.staging := rfl
@[simp] theorem State.setSlot_flash (k : Nat) (x : KeySlot) : (s.setSlot k x).flash = s.flash := rfl
@[simp] theorem State.setSlot_flashSize (k : Nat) (x : KeySlot) : (s.setSlot k x).flashSize = s.flashSize := rfl
@[simp] theorem State.setSlot_scrub (k : Nat) (x : KeySlot) : (s.setSlot k x).scrub = s.scrub := rfl
@[simp] theorem State.setSlot_pcie (k : Nat) (x : KeySlot) : (s.setSlot k x).pcie = s.pcie := rfl
@[simp] theorem State.setSlot_icOrder (k : Nat) (x : KeySlot) : (s.setSlot k x).icOrder = s.icOrder := rfl
@[simp] theorem State.setSlot_freeCtr (k : Nat) (x : KeySlot) : (s.setSlot k x).freeCtr = s.freeCtr := rfl
@[simp] theorem State.setSlot_pending (k : Nat) (x : KeySlot) : (s.setSlot k x).pending = s.pending := rfl

/-! ### setKeyLoad -/

@[simp] theorem State.setKeyLoad_powered (l : Nat) (x : KeyLoad) : (s.setKeyLoad l x).powered = s.powered := rfl
@[simp] theorem State.setKeyLoad_regs (l : Nat) (x : KeyLoad) : (s.setKeyLoad l x).regs = s.regs := rfl
@[simp] theorem State.setKeyLoad_mem (l : Nat) (x : KeyLoad) : (s.setKeyLoad l x).mem = s.mem := rfl
@[simp] theorem State.setKeyLoad_timebase (l : Nat) (x : KeyLoad) : (s.setKeyLoad l x).timebase = s.timebase := rfl
@[simp] theorem State.setKeyLoad_recorder (l : Nat) (x : KeyLoad) : (s.setKeyLoad l x).recorder = s.recorder := rfl
@[simp] theorem State.setKeyLoad_tod (l : Nat) (x : KeyLoad) : (s.setKeyLoad l x).tod = s.tod := rfl
@[simp] theorem State.setKeyLoad_ic (l : Nat) (x : KeyLoad) : (s.setKeyLoad l x).ic = s.ic := rfl
@[simp] theorem State.setKeyLoad_cores (l : Nat) (x : KeyLoad) : (s.setKeyLoad l x).cores = s.cores := rfl
@[simp] theorem State.setKeyLoad_positions (l : Nat) (x : KeyLoad) : (s.setKeyLoad l x).positions = s.positions := rfl
@[simp] theorem State.setKeyLoad_sparings (l : Nat) (x : KeyLoad) : (s.setKeyLoad l x).sparings = s.sparings := rfl
@[simp] theorem State.setKeyLoad_power (l : Nat) (x : KeyLoad) : (s.setKeyLoad l x).power = s.power := rfl
@[simp] theorem State.setKeyLoad_tiles (l : Nat) (x : KeyLoad) : (s.setKeyLoad l x).tiles = s.tiles := rfl
@[simp] theorem State.setKeyLoad_home (l : Nat) (x : KeyLoad) : (s.setKeyLoad l x).home = s.home := rfl
@[simp] theorem State.setKeyLoad_fports (l : Nat) (x : KeyLoad) : (s.setKeyLoad l x).fports = s.fports := rfl
@[simp] theorem State.setKeyLoad_accepted (l : Nat) (x : KeyLoad) : (s.setKeyLoad l x).accepted = s.accepted := rfl
@[simp] theorem State.setKeyLoad_requests (l : Nat) (x : KeyLoad) : (s.setKeyLoad l x).requests = s.requests := rfl
@[simp] theorem State.setKeyLoad_txn (l : Nat) (x : KeyLoad) : (s.setKeyLoad l x).txn = s.txn := rfl
@[simp] theorem State.setKeyLoad_ioTlb (l : Nat) (x : KeyLoad) : (s.setKeyLoad l x).ioTlb = s.ioTlb := rfl
@[simp] theorem State.setKeyLoad_keys (l : Nat) (x : KeyLoad) : (s.setKeyLoad l x).keys = s.keys := rfl
@[simp] theorem State.setKeyLoad_poison (l : Nat) (x : KeyLoad) : (s.setKeyLoad l x).poison = s.poison := rfl
@[simp] theorem State.setKeyLoad_css (l : Nat) (x : KeyLoad) : (s.setKeyLoad l x).css = s.css := rfl
@[simp] theorem State.setKeyLoad_pair (l : Nat) (x : KeyLoad) : (s.setKeyLoad l x).pair = s.pair := rfl
@[simp] theorem State.setKeyLoad_cRings (l : Nat) (x : KeyLoad) : (s.setKeyLoad l x).cRings = s.cRings := rfl
@[simp] theorem State.setKeyLoad_cJobs (l : Nat) (x : KeyLoad) : (s.setKeyLoad l x).cJobs = s.cJobs := rfl
@[simp] theorem State.setKeyLoad_cUnits (l : Nat) (x : KeyLoad) : (s.setKeyLoad l x).cUnits = s.cUnits := rfl
@[simp] theorem State.setKeyLoad_cPipes (l : Nat) (x : KeyLoad) : (s.setKeyLoad l x).cPipes = s.cPipes := rfl
@[simp] theorem State.setKeyLoad_zRings (l : Nat) (x : KeyLoad) : (s.setKeyLoad l x).zRings = s.zRings := rfl
@[simp] theorem State.setKeyLoad_zJobs (l : Nat) (x : KeyLoad) : (s.setKeyLoad l x).zJobs = s.zJobs := rfl
@[simp] theorem State.setKeyLoad_ese (l : Nat) (x : KeyLoad) : (s.setKeyLoad l x).ese = s.ese := rfl
@[simp] theorem State.setKeyLoad_ucode (l : Nat) (x : KeyLoad) : (s.setKeyLoad l x).ucode = s.ucode := rfl
@[simp] theorem State.setKeyLoad_staging (l : Nat) (x : KeyLoad) : (s.setKeyLoad l x).staging = s.staging := rfl
@[simp] theorem State.setKeyLoad_flash (l : Nat) (x : KeyLoad) : (s.setKeyLoad l x).flash = s.flash := rfl
@[simp] theorem State.setKeyLoad_flashSize (l : Nat) (x : KeyLoad) : (s.setKeyLoad l x).flashSize = s.flashSize := rfl
@[simp] theorem State.setKeyLoad_scrub (l : Nat) (x : KeyLoad) : (s.setKeyLoad l x).scrub = s.scrub := rfl
@[simp] theorem State.setKeyLoad_pcie (l : Nat) (x : KeyLoad) : (s.setKeyLoad l x).pcie = s.pcie := rfl
@[simp] theorem State.setKeyLoad_icOrder (l : Nat) (x : KeyLoad) : (s.setKeyLoad l x).icOrder = s.icOrder := rfl
@[simp] theorem State.setKeyLoad_freeCtr (l : Nat) (x : KeyLoad) : (s.setKeyLoad l x).freeCtr = s.freeCtr := rfl
@[simp] theorem State.setKeyLoad_pending (l : Nat) (x : KeyLoad) : (s.setKeyLoad l x).pending = s.pending := rfl

/-! ### setPipe -/

@[simp] theorem State.setPipe_powered (n : Nat) (x : CPipe) : (s.setPipe n x).powered = s.powered := rfl
@[simp] theorem State.setPipe_regs (n : Nat) (x : CPipe) : (s.setPipe n x).regs = s.regs := rfl
@[simp] theorem State.setPipe_mem (n : Nat) (x : CPipe) : (s.setPipe n x).mem = s.mem := rfl
@[simp] theorem State.setPipe_timebase (n : Nat) (x : CPipe) : (s.setPipe n x).timebase = s.timebase := rfl
@[simp] theorem State.setPipe_recorder (n : Nat) (x : CPipe) : (s.setPipe n x).recorder = s.recorder := rfl
@[simp] theorem State.setPipe_tod (n : Nat) (x : CPipe) : (s.setPipe n x).tod = s.tod := rfl
@[simp] theorem State.setPipe_ic (n : Nat) (x : CPipe) : (s.setPipe n x).ic = s.ic := rfl
@[simp] theorem State.setPipe_cores (n : Nat) (x : CPipe) : (s.setPipe n x).cores = s.cores := rfl
@[simp] theorem State.setPipe_positions (n : Nat) (x : CPipe) : (s.setPipe n x).positions = s.positions := rfl
@[simp] theorem State.setPipe_sparings (n : Nat) (x : CPipe) : (s.setPipe n x).sparings = s.sparings := rfl
@[simp] theorem State.setPipe_power (n : Nat) (x : CPipe) : (s.setPipe n x).power = s.power := rfl
@[simp] theorem State.setPipe_tiles (n : Nat) (x : CPipe) : (s.setPipe n x).tiles = s.tiles := rfl
@[simp] theorem State.setPipe_home (n : Nat) (x : CPipe) : (s.setPipe n x).home = s.home := rfl
@[simp] theorem State.setPipe_fports (n : Nat) (x : CPipe) : (s.setPipe n x).fports = s.fports := rfl
@[simp] theorem State.setPipe_accepted (n : Nat) (x : CPipe) : (s.setPipe n x).accepted = s.accepted := rfl
@[simp] theorem State.setPipe_requests (n : Nat) (x : CPipe) : (s.setPipe n x).requests = s.requests := rfl
@[simp] theorem State.setPipe_txn (n : Nat) (x : CPipe) : (s.setPipe n x).txn = s.txn := rfl
@[simp] theorem State.setPipe_ioTlb (n : Nat) (x : CPipe) : (s.setPipe n x).ioTlb = s.ioTlb := rfl
@[simp] theorem State.setPipe_keys (n : Nat) (x : CPipe) : (s.setPipe n x).keys = s.keys := rfl
@[simp] theorem State.setPipe_keyLoads (n : Nat) (x : CPipe) : (s.setPipe n x).keyLoads = s.keyLoads := rfl
@[simp] theorem State.setPipe_poison (n : Nat) (x : CPipe) : (s.setPipe n x).poison = s.poison := rfl
@[simp] theorem State.setPipe_css (n : Nat) (x : CPipe) : (s.setPipe n x).css = s.css := rfl
@[simp] theorem State.setPipe_pair (n : Nat) (x : CPipe) : (s.setPipe n x).pair = s.pair := rfl
@[simp] theorem State.setPipe_cRings (n : Nat) (x : CPipe) : (s.setPipe n x).cRings = s.cRings := rfl
@[simp] theorem State.setPipe_cJobs (n : Nat) (x : CPipe) : (s.setPipe n x).cJobs = s.cJobs := rfl
@[simp] theorem State.setPipe_cUnits (n : Nat) (x : CPipe) : (s.setPipe n x).cUnits = s.cUnits := rfl
@[simp] theorem State.setPipe_zRings (n : Nat) (x : CPipe) : (s.setPipe n x).zRings = s.zRings := rfl
@[simp] theorem State.setPipe_zJobs (n : Nat) (x : CPipe) : (s.setPipe n x).zJobs = s.zJobs := rfl
@[simp] theorem State.setPipe_ese (n : Nat) (x : CPipe) : (s.setPipe n x).ese = s.ese := rfl
@[simp] theorem State.setPipe_ucode (n : Nat) (x : CPipe) : (s.setPipe n x).ucode = s.ucode := rfl
@[simp] theorem State.setPipe_staging (n : Nat) (x : CPipe) : (s.setPipe n x).staging = s.staging := rfl
@[simp] theorem State.setPipe_flash (n : Nat) (x : CPipe) : (s.setPipe n x).flash = s.flash := rfl
@[simp] theorem State.setPipe_flashSize (n : Nat) (x : CPipe) : (s.setPipe n x).flashSize = s.flashSize := rfl
@[simp] theorem State.setPipe_scrub (n : Nat) (x : CPipe) : (s.setPipe n x).scrub = s.scrub := rfl
@[simp] theorem State.setPipe_pcie (n : Nat) (x : CPipe) : (s.setPipe n x).pcie = s.pcie := rfl
@[simp] theorem State.setPipe_icOrder (n : Nat) (x : CPipe) : (s.setPipe n x).icOrder = s.icOrder := rfl
@[simp] theorem State.setPipe_freeCtr (n : Nat) (x : CPipe) : (s.setPipe n x).freeCtr = s.freeCtr := rfl
@[simp] theorem State.setPipe_pending (n : Nat) (x : CPipe) : (s.setPipe n x).pending = s.pending := rfl

/-! ### setStore -/

@[simp] theorem State.setStore_powered (u : Nat) (x : Ucode) : (s.setStore u x).powered = s.powered := rfl
@[simp] theorem State.setStore_regs (u : Nat) (x : Ucode) : (s.setStore u x).regs = s.regs := rfl
@[simp] theorem State.setStore_mem (u : Nat) (x : Ucode) : (s.setStore u x).mem = s.mem := rfl
@[simp] theorem State.setStore_timebase (u : Nat) (x : Ucode) : (s.setStore u x).timebase = s.timebase := rfl
@[simp] theorem State.setStore_recorder (u : Nat) (x : Ucode) : (s.setStore u x).recorder = s.recorder := rfl
@[simp] theorem State.setStore_tod (u : Nat) (x : Ucode) : (s.setStore u x).tod = s.tod := rfl
@[simp] theorem State.setStore_ic (u : Nat) (x : Ucode) : (s.setStore u x).ic = s.ic := rfl
@[simp] theorem State.setStore_cores (u : Nat) (x : Ucode) : (s.setStore u x).cores = s.cores := rfl
@[simp] theorem State.setStore_positions (u : Nat) (x : Ucode) : (s.setStore u x).positions = s.positions := rfl
@[simp] theorem State.setStore_sparings (u : Nat) (x : Ucode) : (s.setStore u x).sparings = s.sparings := rfl
@[simp] theorem State.setStore_power (u : Nat) (x : Ucode) : (s.setStore u x).power = s.power := rfl
@[simp] theorem State.setStore_tiles (u : Nat) (x : Ucode) : (s.setStore u x).tiles = s.tiles := rfl
@[simp] theorem State.setStore_home (u : Nat) (x : Ucode) : (s.setStore u x).home = s.home := rfl
@[simp] theorem State.setStore_fports (u : Nat) (x : Ucode) : (s.setStore u x).fports = s.fports := rfl
@[simp] theorem State.setStore_accepted (u : Nat) (x : Ucode) : (s.setStore u x).accepted = s.accepted := rfl
@[simp] theorem State.setStore_requests (u : Nat) (x : Ucode) : (s.setStore u x).requests = s.requests := rfl
@[simp] theorem State.setStore_txn (u : Nat) (x : Ucode) : (s.setStore u x).txn = s.txn := rfl
@[simp] theorem State.setStore_ioTlb (u : Nat) (x : Ucode) : (s.setStore u x).ioTlb = s.ioTlb := rfl
@[simp] theorem State.setStore_keys (u : Nat) (x : Ucode) : (s.setStore u x).keys = s.keys := rfl
@[simp] theorem State.setStore_keyLoads (u : Nat) (x : Ucode) : (s.setStore u x).keyLoads = s.keyLoads := rfl
@[simp] theorem State.setStore_poison (u : Nat) (x : Ucode) : (s.setStore u x).poison = s.poison := rfl
@[simp] theorem State.setStore_css (u : Nat) (x : Ucode) : (s.setStore u x).css = s.css := rfl
@[simp] theorem State.setStore_pair (u : Nat) (x : Ucode) : (s.setStore u x).pair = s.pair := rfl
@[simp] theorem State.setStore_cRings (u : Nat) (x : Ucode) : (s.setStore u x).cRings = s.cRings := rfl
@[simp] theorem State.setStore_cJobs (u : Nat) (x : Ucode) : (s.setStore u x).cJobs = s.cJobs := rfl
@[simp] theorem State.setStore_cUnits (u : Nat) (x : Ucode) : (s.setStore u x).cUnits = s.cUnits := rfl
@[simp] theorem State.setStore_cPipes (u : Nat) (x : Ucode) : (s.setStore u x).cPipes = s.cPipes := rfl
@[simp] theorem State.setStore_zRings (u : Nat) (x : Ucode) : (s.setStore u x).zRings = s.zRings := rfl
@[simp] theorem State.setStore_zJobs (u : Nat) (x : Ucode) : (s.setStore u x).zJobs = s.zJobs := rfl
@[simp] theorem State.setStore_ese (u : Nat) (x : Ucode) : (s.setStore u x).ese = s.ese := rfl
@[simp] theorem State.setStore_staging (u : Nat) (x : Ucode) : (s.setStore u x).staging = s.staging := rfl
@[simp] theorem State.setStore_flash (u : Nat) (x : Ucode) : (s.setStore u x).flash = s.flash := rfl
@[simp] theorem State.setStore_flashSize (u : Nat) (x : Ucode) : (s.setStore u x).flashSize = s.flashSize := rfl
@[simp] theorem State.setStore_scrub (u : Nat) (x : Ucode) : (s.setStore u x).scrub = s.scrub := rfl
@[simp] theorem State.setStore_pcie (u : Nat) (x : Ucode) : (s.setStore u x).pcie = s.pcie := rfl
@[simp] theorem State.setStore_icOrder (u : Nat) (x : Ucode) : (s.setStore u x).icOrder = s.icOrder := rfl
@[simp] theorem State.setStore_freeCtr (u : Nat) (x : Ucode) : (s.setStore u x).freeCtr = s.freeCtr := rfl
@[simp] theorem State.setStore_pending (u : Nat) (x : Ucode) : (s.setStore u x).pending = s.pending := rfl

/-! ### modEse -/

@[simp] theorem State.modEse_powered (f : Ese → Ese) : (s.modEse f).powered = s.powered := rfl
@[simp] theorem State.modEse_regs (f : Ese → Ese) : (s.modEse f).regs = s.regs := rfl
@[simp] theorem State.modEse_mem (f : Ese → Ese) : (s.modEse f).mem = s.mem := rfl
@[simp] theorem State.modEse_timebase (f : Ese → Ese) : (s.modEse f).timebase = s.timebase := rfl
@[simp] theorem State.modEse_recorder (f : Ese → Ese) : (s.modEse f).recorder = s.recorder := rfl
@[simp] theorem State.modEse_tod (f : Ese → Ese) : (s.modEse f).tod = s.tod := rfl
@[simp] theorem State.modEse_ic (f : Ese → Ese) : (s.modEse f).ic = s.ic := rfl
@[simp] theorem State.modEse_cores (f : Ese → Ese) : (s.modEse f).cores = s.cores := rfl
@[simp] theorem State.modEse_positions (f : Ese → Ese) : (s.modEse f).positions = s.positions := rfl
@[simp] theorem State.modEse_sparings (f : Ese → Ese) : (s.modEse f).sparings = s.sparings := rfl
@[simp] theorem State.modEse_power (f : Ese → Ese) : (s.modEse f).power = s.power := rfl
@[simp] theorem State.modEse_tiles (f : Ese → Ese) : (s.modEse f).tiles = s.tiles := rfl
@[simp] theorem State.modEse_home (f : Ese → Ese) : (s.modEse f).home = s.home := rfl
@[simp] theorem State.modEse_fports (f : Ese → Ese) : (s.modEse f).fports = s.fports := rfl
@[simp] theorem State.modEse_accepted (f : Ese → Ese) : (s.modEse f).accepted = s.accepted := rfl
@[simp] theorem State.modEse_requests (f : Ese → Ese) : (s.modEse f).requests = s.requests := rfl
@[simp] theorem State.modEse_txn (f : Ese → Ese) : (s.modEse f).txn = s.txn := rfl
@[simp] theorem State.modEse_ioTlb (f : Ese → Ese) : (s.modEse f).ioTlb = s.ioTlb := rfl
@[simp] theorem State.modEse_keys (f : Ese → Ese) : (s.modEse f).keys = s.keys := rfl
@[simp] theorem State.modEse_keyLoads (f : Ese → Ese) : (s.modEse f).keyLoads = s.keyLoads := rfl
@[simp] theorem State.modEse_poison (f : Ese → Ese) : (s.modEse f).poison = s.poison := rfl
@[simp] theorem State.modEse_css (f : Ese → Ese) : (s.modEse f).css = s.css := rfl
@[simp] theorem State.modEse_pair (f : Ese → Ese) : (s.modEse f).pair = s.pair := rfl
@[simp] theorem State.modEse_cRings (f : Ese → Ese) : (s.modEse f).cRings = s.cRings := rfl
@[simp] theorem State.modEse_cJobs (f : Ese → Ese) : (s.modEse f).cJobs = s.cJobs := rfl
@[simp] theorem State.modEse_cUnits (f : Ese → Ese) : (s.modEse f).cUnits = s.cUnits := rfl
@[simp] theorem State.modEse_cPipes (f : Ese → Ese) : (s.modEse f).cPipes = s.cPipes := rfl
@[simp] theorem State.modEse_zRings (f : Ese → Ese) : (s.modEse f).zRings = s.zRings := rfl
@[simp] theorem State.modEse_zJobs (f : Ese → Ese) : (s.modEse f).zJobs = s.zJobs := rfl
@[simp] theorem State.modEse_ucode (f : Ese → Ese) : (s.modEse f).ucode = s.ucode := rfl
@[simp] theorem State.modEse_staging (f : Ese → Ese) : (s.modEse f).staging = s.staging := rfl
@[simp] theorem State.modEse_flash (f : Ese → Ese) : (s.modEse f).flash = s.flash := rfl
@[simp] theorem State.modEse_flashSize (f : Ese → Ese) : (s.modEse f).flashSize = s.flashSize := rfl
@[simp] theorem State.modEse_scrub (f : Ese → Ese) : (s.modEse f).scrub = s.scrub := rfl
@[simp] theorem State.modEse_pcie (f : Ese → Ese) : (s.modEse f).pcie = s.pcie := rfl
@[simp] theorem State.modEse_icOrder (f : Ese → Ese) : (s.modEse f).icOrder = s.icOrder := rfl
@[simp] theorem State.modEse_freeCtr (f : Ese → Ese) : (s.modEse f).freeCtr = s.freeCtr := rfl
@[simp] theorem State.modEse_pending (f : Ese → Ese) : (s.modEse f).pending = s.pending := rfl

/-! ### setSparing -/

@[simp] theorem State.setSparing_powered (x : Sparing) : (s.setSparing x).powered = s.powered := rfl
@[simp] theorem State.setSparing_regs (x : Sparing) : (s.setSparing x).regs = s.regs := rfl
@[simp] theorem State.setSparing_mem (x : Sparing) : (s.setSparing x).mem = s.mem := rfl
@[simp] theorem State.setSparing_timebase (x : Sparing) : (s.setSparing x).timebase = s.timebase := rfl
@[simp] theorem State.setSparing_recorder (x : Sparing) : (s.setSparing x).recorder = s.recorder := rfl
@[simp] theorem State.setSparing_tod (x : Sparing) : (s.setSparing x).tod = s.tod := rfl
@[simp] theorem State.setSparing_ic (x : Sparing) : (s.setSparing x).ic = s.ic := rfl
@[simp] theorem State.setSparing_cores (x : Sparing) : (s.setSparing x).cores = s.cores := rfl
@[simp] theorem State.setSparing_positions (x : Sparing) : (s.setSparing x).positions = s.positions := rfl
@[simp] theorem State.setSparing_power (x : Sparing) : (s.setSparing x).power = s.power := rfl
@[simp] theorem State.setSparing_tiles (x : Sparing) : (s.setSparing x).tiles = s.tiles := rfl
@[simp] theorem State.setSparing_home (x : Sparing) : (s.setSparing x).home = s.home := rfl
@[simp] theorem State.setSparing_fports (x : Sparing) : (s.setSparing x).fports = s.fports := rfl
@[simp] theorem State.setSparing_accepted (x : Sparing) : (s.setSparing x).accepted = s.accepted := rfl
@[simp] theorem State.setSparing_requests (x : Sparing) : (s.setSparing x).requests = s.requests := rfl
@[simp] theorem State.setSparing_txn (x : Sparing) : (s.setSparing x).txn = s.txn := rfl
@[simp] theorem State.setSparing_ioTlb (x : Sparing) : (s.setSparing x).ioTlb = s.ioTlb := rfl
@[simp] theorem State.setSparing_keys (x : Sparing) : (s.setSparing x).keys = s.keys := rfl
@[simp] theorem State.setSparing_keyLoads (x : Sparing) : (s.setSparing x).keyLoads = s.keyLoads := rfl
@[simp] theorem State.setSparing_poison (x : Sparing) : (s.setSparing x).poison = s.poison := rfl
@[simp] theorem State.setSparing_css (x : Sparing) : (s.setSparing x).css = s.css := rfl
@[simp] theorem State.setSparing_pair (x : Sparing) : (s.setSparing x).pair = s.pair := rfl
@[simp] theorem State.setSparing_cRings (x : Sparing) : (s.setSparing x).cRings = s.cRings := rfl
@[simp] theorem State.setSparing_cJobs (x : Sparing) : (s.setSparing x).cJobs = s.cJobs := rfl
@[simp] theorem State.setSparing_cUnits (x : Sparing) : (s.setSparing x).cUnits = s.cUnits := rfl
@[simp] theorem State.setSparing_cPipes (x : Sparing) : (s.setSparing x).cPipes = s.cPipes := rfl
@[simp] theorem State.setSparing_zRings (x : Sparing) : (s.setSparing x).zRings = s.zRings := rfl
@[simp] theorem State.setSparing_zJobs (x : Sparing) : (s.setSparing x).zJobs = s.zJobs := rfl
@[simp] theorem State.setSparing_ese (x : Sparing) : (s.setSparing x).ese = s.ese := rfl
@[simp] theorem State.setSparing_ucode (x : Sparing) : (s.setSparing x).ucode = s.ucode := rfl
@[simp] theorem State.setSparing_staging (x : Sparing) : (s.setSparing x).staging = s.staging := rfl
@[simp] theorem State.setSparing_flash (x : Sparing) : (s.setSparing x).flash = s.flash := rfl
@[simp] theorem State.setSparing_flashSize (x : Sparing) : (s.setSparing x).flashSize = s.flashSize := rfl
@[simp] theorem State.setSparing_scrub (x : Sparing) : (s.setSparing x).scrub = s.scrub := rfl
@[simp] theorem State.setSparing_pcie (x : Sparing) : (s.setSparing x).pcie = s.pcie := rfl
@[simp] theorem State.setSparing_icOrder (x : Sparing) : (s.setSparing x).icOrder = s.icOrder := rfl
@[simp] theorem State.setSparing_freeCtr (x : Sparing) : (s.setSparing x).freeCtr = s.freeCtr := rfl
@[simp] theorem State.setSparing_pending (x : Sparing) : (s.setSparing x).pending = s.pending := rfl

end Sys2Proof.Machine
end

