-- ==== Sys2Proof/Laws/Ops.lean ====
section
/-!
SUPPORT. What the shared operations of Machine/Ops.lean do: registers and fields, block errors, Crumbs, interrupt
sources, memory, and the outcome of a command.
-/

namespace Sys2Proof.Machine

variable (s t : State)

/-! ## Outcomes -/

theorem event_next {m : String} {ok : Bool} (hp : s.powered = true) (ho : ok = true) : event m ok s t = .next t := by
  simp [event, hp, ho]

/-- A command answers a next state exactly while the module has power and the event can occur. -/
theorem event_eq_next_iff {m : String} {ok : Bool} {u : State} :
    event m ok s t = .next u ↔ s.powered = true ∧ ok = true ∧ t = u := by
  unfold event
  cases s.powered <;> cases ok <;> simp

theorem event_unpowered {m : String} {ok : Bool} (hp : s.powered = false) : event m ok s t = .fault .unpowered := by
  simp [event, hp]

/-! ## Registers -/

@[simp] theorem State.reg_setReg_self (w : Nat) (v : Word) : (s.setReg w v).reg w = v :=
  SMap.get_set_self _ _ _ _

@[simp] theorem State.reg_setReg_of_ne {w x : Nat} (v : Word) (h : x ≠ w) : (s.setReg w v).reg x = s.reg x :=
  SMap.get_set_of_ne _ _ _ _ h

/-- A write of a register keeps the canonical form of the window. -/
theorem State.setReg_wf {w : Nat} {v : Word} (h : Regs.wf s.regs) : Regs.wf (s.setReg w v).regs :=
  SMap.canonical_set resetOf w v h

theorem State.setFld_eq (b : Nat) (f : Fld) (n : Nat) :
    s.setFld b f n = s.setReg (b + f.off) (putBits (s.reg (b + f.off)) f.lo f.width n) := rfl

/-- A field reads as what was written to it. -/
theorem State.fld_setFld_self (b : Nat) (f : Fld) (n : Nat) (h : f.lo + f.width ≤ 64) :
    (s.setFld b f n).fld b f = n % 2 ^ f.width := by
  simp [State.fld, State.setFld, bits_putBits_self _ _ h]

/-- A field of another register stays. -/
theorem State.fld_setFld_of_off (b c : Nat) (f g : Fld) (n : Nat) (h : c + g.off ≠ b + f.off) :
    (s.setFld b f n).fld c g = s.fld c g := by
  simp [State.fld, State.setFld, h]

/-- A field of the same register that does not meet the one written stays. -/
theorem State.fld_setFld_of_disjoint (b : Nat) (f g : Fld) (n : Nat) (ho : g.off = f.off)
    (h64 : g.lo + g.width ≤ 64) (h : g.lo + g.width ≤ f.lo ∨ f.lo + f.width ≤ g.lo) :
    (s.setFld b f n).fld b g = s.fld b g := by
  simp [State.fld, State.setFld, ho, bits_putBits_of_disjoint _ _ h64 h]

/-! ## Memory -/

@[simp] theorem State.byte_setByte_self (a : Nat) (v : Byte) : (s.setByte a v).byte a = v :=
  SMap.get_set_self _ _ _ _

@[simp] theorem State.byte_setByte_of_ne {a x : Nat} (v : Byte) (h : x ≠ a) : (s.setByte a v).byte x = s.byte x :=
  SMap.get_set_of_ne _ _ _ _ h

/-- A write of a byte keeps the canonical form of memory. -/
theorem State.setByte_wf {a : Nat} {v : Byte} (h : Memory.wf s.mem) : Memory.wf (s.setByte a v).mem :=
  SMap.canonical_set (fun _ => (0 : Byte)) a v h

/-- A write of bytes keeps the canonical form of memory. -/
theorem State.writeBytes_wf (a : Nat) (bs : List Byte) (h : Memory.wf s.mem) : Memory.wf (s.writeBytes a bs).mem := by
  induction bs generalizing s a with
  | nil => exact h
  | cons b rest ih => exact ih (s.setByte a b) (a + 1) (s.setByte_wf h)

/-- A write of bytes leaves every byte outside them alone. -/
theorem State.byte_writeBytes_of_outside (a : Nat) (bs : List Byte) (x : Nat) (h : x < a ∨ a + bs.length ≤ x) :
    (s.writeBytes a bs).byte x = s.byte x := by
  induction bs generalizing s a with
  | nil => rfl
  | cons b rest ih =>
    simp only [List.length_cons] at h
    rw [State.writeBytes, ih (s.setByte a b) (a + 1) (by omega), State.byte_setByte_of_ne _ _ (by omega)]

/-- A write of bytes is read back. -/
theorem State.byte_writeBytes (a : Nat) (bs : List Byte) (i : Nat) (h : i < bs.length) :
    (s.writeBytes a bs).byte (a + i) = bs[i] := by
  induction bs generalizing s a i with
  | nil => simp at h
  | cons b rest ih =>
    cases i with
    | zero =>
      rw [State.writeBytes, State.byte_writeBytes_of_outside _ _ _ _ (by omega)]
      simp
    | succ i =>
      rw [State.writeBytes, show a + (i + 1) = (a + 1) + i by omega,
        ih (s.setByte a b) (a + 1) i (by simpa using h)]
      simp

/-! ## Tables of units -/

@[simp] theorem State.source_setSource_self (n : Nat) (e : IcSource) : (s.setSource n e).source n = e :=
  SMap.get_set_self _ _ _ _
theorem State.source_setSource_of_ne {n m : Nat} (e : IcSource) (h : m ≠ n) : (s.setSource n e).source m = s.source m :=
  SMap.get_set_of_ne _ _ _ _ h

@[simp] theorem State.core_setCore_self (n : Nat) (c : LCore) : (s.setCore n c).core n = c := SMap.get_set_self _ _ _ _
theorem State.core_setCore_of_ne {n m : Nat} (c : LCore) (h : m ≠ n) : (s.setCore n c).core m = s.core m :=
  SMap.get_set_of_ne _ _ _ _ h

@[simp] theorem State.pos_setPos_self (p : Nat) (x : Pos) : (s.setPos p x).pos p = x := SMap.get_set_self _ _ _ _
theorem State.pos_setPos_of_ne {p q : Nat} (x : Pos) (h : q ≠ p) : (s.setPos p x).pos q = s.pos q :=
  SMap.get_set_of_ne _ _ _ _ h

@[simp] theorem State.tile_setTile_self (k : Nat) (x : Tile) : (s.setTile k x).tile k = x := SMap.get_set_self _ _ _ _
theorem State.tile_setTile_of_ne {k j : Nat} (x : Tile) (h : j ≠ k) : (s.setTile k x).tile j = s.tile j :=
  SMap.get_set_of_ne _ _ _ _ h

@[simp] theorem State.fport_setFport_self (f : Nat) (x : FabPort) : (s.setFport f x).fport f = x :=
  SMap.get_set_self _ _ _ _
theorem State.fport_setFport_of_ne {f g : Nat} (x : FabPort) (h : g ≠ f) : (s.setFport f x).fport g = s.fport g :=
  SMap.get_set_of_ne _ _ _ _ h

/-! ## Interrupt sources -/

/-- Making a source offerable changes nothing but the interrupt controller's table and its order. -/
theorem State.makeOfferable_frame (n : Nat) :
    (s.makeOfferable n).regs = s.regs ∧ (s.makeOfferable n).mem = s.mem ∧ (s.makeOfferable n).cores = s.cores ∧
      (s.makeOfferable n).recorder = s.recorder ∧ (s.makeOfferable n).powered = s.powered := by
  unfold State.makeOfferable
  simp only
  split <;> simp

theorem State.makeOfferable_pend (n m : Nat) : ((s.makeOfferable n).source m).pend = (s.source m).pend := by
  unfold State.makeOfferable
  simp only
  split
  · rfl
  · by_cases h : m = n
    · subst h; simp [State.source, State.setSource, SMap.get_set_self]
    · simp [State.source, State.setSource, SMap.get_set_of_ne _ _ _ _ h]

/-- An event leaves its source Pending. -/
theorem State.sourceEvent_pend (n : Nat) : ((s.sourceEvent n).source n).pend = true := by
  unfold State.sourceEvent State.checkModeration
  simp only
  split
  · rw [State.makeOfferable_pend]; simp
  · simp

/-- An event at a source changes nothing but the interrupt controller's table and its order. -/
theorem State.sourceEvent_frame (n : Nat) :
    (s.sourceEvent n).regs = s.regs ∧ (s.sourceEvent n).mem = s.mem ∧ (s.sourceEvent n).cores = s.cores ∧
      (s.sourceEvent n).recorder = s.recorder ∧ (s.sourceEvent n).powered = s.powered := by
  unfold State.sourceEvent State.checkModeration
  simp only
  split
  · simpa using State.makeOfferable_frame (s.setSource n _) n
  · simp

/-! ## Block errors (R36) -/

/-- A bit that is already set raises nothing further. -/
theorem State.raiseErr_of_set (p : Page) (i : Nat) (h : bit (s.reg (p.base + 0x020)) i = true) : s.raiseErr p i = s := by
  simp [State.raiseErr, h]

/-- Raising an error writes BLK_ERR of its page and no other register. -/
theorem State.raiseErr_reg (p : Page) (i w : Nat) :
    (s.raiseErr p i).reg w =
      if w = p.base + 0x020 then (if bit (s.reg w) i then s.reg w else putBit (s.reg w) i true) else s.reg w := by
  unfold State.raiseErr
  simp only
  by_cases h : bit (s.reg (p.base + 0x020)) i = true
  · by_cases hw : w = p.base + 0x020 <;> simp [h, hw]
  · have key : ∀ u : State, u.regs = (s.setReg (p.base + 0x020) (putBit (s.reg (p.base + 0x020)) i true)).regs →
        u.reg w = if w = p.base + 0x020 then (if bit (s.reg w) i then s.reg w else putBit (s.reg w) i true)
          else s.reg w := by
      intro u hu
      have : u.reg w = (s.setReg (p.base + 0x020) (putBit (s.reg (p.base + 0x020)) i true)).reg w := by
        simp [State.reg, hu]
      rw [this]
      by_cases hw : w = p.base + 0x020
      · subst hw; simp [h]
      · simp [hw]
    simp only [h, Bool.false_eq_true, if_false]
    split
    · exact key _ rfl
    · split
      · exact key _ (State.sourceEvent_frame _ _).1
      · exact key _ rfl

/-- Raising an error leaves memory, the cores, the recorder and the supply alone. -/
theorem State.raiseErr_frame (p : Page) (i : Nat) :
    (s.raiseErr p i).mem = s.mem ∧ (s.raiseErr p i).cores = s.cores ∧ (s.raiseErr p i).recorder = s.recorder ∧
      (s.raiseErr p i).powered = s.powered := by
  unfold State.raiseErr
  simp only
  split
  · simp
  · split
    · simp
    · split
      · exact ⟨(State.sourceEvent_frame _ _).2.1, (State.sourceEvent_frame _ _).2.2.1,
          (State.sourceEvent_frame _ _).2.2.2.1, (State.sourceEvent_frame _ _).2.2.2.2⟩
      · simp

/-! ## Crumbs (R446, R450) -/

/-- A Crumb leaves memory, the cores and the supply alone, and every register but REC_CNT and BLK_ERR of the recorder. -/
theorem State.crumb_frame (p : Page) (code sev : Nat) (payload : List Word) (zone : Option Nat) (injected : Bool) :
    (s.crumb p code sev payload zone injected).mem = s.mem ∧
      (s.crumb p code sev payload zone injected).cores = s.cores ∧
      (s.crumb p code sev payload zone injected).powered = s.powered := by
  unfold State.crumb
  simp only
  split
  · refine ⟨?_, ?_, ?_⟩
    · exact ((State.raiseErr_frame _ _ _).1).trans rfl
    · exact ((State.raiseErr_frame _ _ _).2.1).trans rfl
    · exact ((State.raiseErr_frame _ _ _).2.2.2).trans rfl
  · simp

end Sys2Proof.Machine
end

