-- ==== Sys2Proof/Laws/Coherence.lean ====
section
/-!
SUPPORT. Delivery of messages: what `deliver` does with none, and with one whose answers all go to other modules.
-/

namespace Sys2Proof.Machine

variable (s : State)

/-- Sending a message changes nothing but one port's link layer. -/
theorem State.enqueue_fports (m : Msg) : ∃ p, s.enqueue m = { s with fports := p } := by
  unfold State.enqueue
  split
  · exact ⟨_, rfl⟩
  · exact ⟨s.fports, rfl⟩

/-- Sending several messages changes nothing but the link layers. -/
theorem State.foldl_enqueue_fports (ms : List Msg) : ∃ p, ms.foldl State.enqueue s = { s with fports := p } := by
  induction ms generalizing s with
  | nil => exact ⟨s.fports, rfl⟩
  | cons m rest ih =>
    obtain ⟨p, hp⟩ := s.enqueue_fports m
    obtain ⟨q, hq⟩ := ih (s.enqueue m)
    exact ⟨q, by rw [List.foldl_cons, hq, hp]⟩

@[simp] theorem State.moduleId_enqueue (m : Msg) : (s.enqueue m).moduleId = s.moduleId := by
  obtain ⟨p, hp⟩ := s.enqueue_fports m
  rw [hp]; rfl

/-- A message that leaves by a port stands last in its replay buffer. -/
theorem State.enqueue_replay (m : Msg) (f : Nat) (h : s.portFor m.dest = some f) :
    ((s.enqueue m).fport f).replay = (s.fport f).replay ++ [((s.fport f).nextSeq, m)] := by
  simp [State.enqueue, h, FabPort.setCredit]

/-- What stands in a replay buffer stays there while messages are sent. -/
theorem State.mem_replay_enqueue (m : Msg) (f : Nat) {x : Nat × Msg} (h : x ∈ (s.fport f).replay) :
    x ∈ ((s.enqueue m).fport f).replay := by
  unfold State.enqueue
  split
  · rename_i g hg
    by_cases hf : f = g
    · subst hf; simp [FabPort.setCredit, h]
    · simpa [State.fport_setFport_of_ne s _ hf] using h
  · exact h

@[simp] theorem State.pump_nil (n : Nat) : s.pump n [] = s := by
  cases n <;> rfl

@[simp] theorem State.deliver_nil : s.deliver [] = s := s.pump_nil _

/-- Messages to other modules are sent, in order. -/
theorem State.pump_away (n : Nat) (ms : List Msg) (h : ∀ m ∈ ms, m.dest ≠ s.moduleId) (hl : ms.length ≤ n) :
    s.pump n ms = ms.foldl State.enqueue s := by
  induction ms generalizing s n with
  | nil => simp
  | cons m rest ih =>
    cases n with
    | zero => simp at hl
    | succ n =>
      rw [State.pump, if_neg (h m (by simp)), List.foldl_cons]
      refine ih (s.enqueue m) n (fun x hx => ?_) (by simpa using hl)
      simpa using h x (by simp [hx])

/-- One message to an agent of the module: the agent acts, and its answers to other modules are sent. -/
theorem State.deliver_one (m : Msg) (hd : m.dest = s.moduleId) (hs : (s.handle m).1.moduleId = s.moduleId)
    (h : ∀ x ∈ (s.handle m).2, x.dest ≠ s.moduleId) (hl : (s.handle m).2.length ≤ 65535) :
    s.deliver [m] = (s.handle m).2.foldl State.enqueue (s.handle m).1 := by
  rw [State.deliver, show (65536 : Nat) = 65535 + 1 from rfl, State.pump, if_pos hd]
  exact State.pump_away _ _ _ (by simpa [hs] using h) (by simpa using hl)

end Sys2Proof.Machine
end

