-- ==== Sys2Proof/Laws/Issue.lean ====
section
/-!
SUPPORT. What the issue of an instruction does beside its own effect: the commit of its group, its retirement, and the
command that an instruction row is at a boundary that admits it.
-/

namespace Sys2Proof.Machine

@[simp] theorem State.arch_setArch_self (s : State) (n : Nat) (a : Arch) : (s.setArch n a).arch n = a := by
  simp [State.arch, State.setArch]

@[simp] theorem State.arch_setCore_self (s : State) (n : Nat) (c : LCore) : (s.setCore n c).arch n = c.arch := by
  simp [State.arch]

@[simp] theorem State.coresOf_setArch (s : State) (n : Nat) (a : Arch) : (s.setArch n a).regs = s.regs := rfl

/-! ## Only a core -/

theorem State.onlyCore_refl (s : State) (n : Nat) : s.onlyCore n s :=
  ⟨rfl, fun _ _ => rfl, fun _ _ => rfl, fun _ _ => rfl, fun _ _ _ => rfl⟩

theorem State.onlyCore_setCore (s : State) (n : Nat) (c : LCore) : s.onlyCore n (s.setCore n c) :=
  ⟨rfl, fun _ h => State.core_setCore_of_ne s c h, fun _ _ => rfl, fun _ _ => rfl, fun _ _ _ => rfl⟩

theorem State.onlyCore_setArch (s : State) (n : Nat) (a : Arch) : s.onlyCore n (s.setArch n a) :=
  State.onlyCore_setCore _ _ _

/-- The register that gives the position of a core is no register of a position's page. -/
theorem posReg_ne (n p : Nat) (h : n < 64) : bIdent + 8 * n + 0x100 ≠ bPos p + 0x048 := by
  have e1 : bIdent = 0 := rfl
  have e2 : bPos p = Page.index ⟨.position, p⟩ * 0x1000 := rfl
  simp only [Page.index] at e2
  omega

theorem State.onlyCore_posOf {s t : State} {n : Nat} (hn : n < 64) (h : s.onlyCore n t) : t.posOf n = s.posOf n := by
  have := h.2.2.2.1 (bIdent + 8 * n + 0x100) (posReg_ne n _ hn)
  unfold State.posOf State.fld
  rw [show F.LCORE_MAP_POSITION.off = 0x100 from rfl, this]

theorem State.onlyCore_trans {s t u : State} {n : Nat} (hn : n < 64) (h : s.onlyCore n t) (k : t.onlyCore n u) :
    s.onlyCore n u := by
  have e := State.onlyCore_posOf hn h
  obtain ⟨h1, h2, h3, h4, h5⟩ := h
  obtain ⟨k1, k2, k3, k4, k5⟩ := k
  rw [e] at k3 k4 k5
  refine ⟨?_, fun m hm => (k2 m hm).trans (h2 m hm), fun q hq => (k3 q hq).trans (h3 q hq),
    fun x hx => (k4 x hx).trans (h4 x hx), fun i hi hi6 => (k5 i hi hi6).trans (h5 i hi hi6)⟩
  rw [k1, h1]

theorem State.onlyCore_setCheckEvent (s : State) (n q : Nat) (e : Option CheckEvent) :
    s.onlyCore n (s.setCheckEvent (s.posOf n) q e) := by
  unfold State.setCheckEvent
  refine ⟨rfl, fun _ _ => rfl, fun _ h => State.pos_setPos_of_ne s _ h, fun x hx => ?_, fun i hi h6 => ?_⟩
  · unfold State.setFlag State.setFld
    exact State.reg_setReg_of_ne _ _ hx
  · unfold State.setFlag State.setFld
    rw [show bPos (s.posOf n) + F.CORE_STAT_RETRYING.off = bPos (s.posOf n) + 0x048 from rfl, State.reg_setReg_self]
    rw [bit_eq_getLsbD, getLsbD_putBits _ _ _ _ _ hi]
    rw [if_neg (by simp only [show F.CORE_STAT_RETRYING.lo = 6 from rfl, show F.CORE_STAT_RETRYING.width = 1 from rfl]; omega)]
    rfl

/-! ## Commit and retirement -/

/-- The commit of a group changes only its core and the check event of its position, and no architected register. -/
theorem State.commitGroup_only (s : State) (n : Nat) (hn : n < 64) :
    s.onlyCore n (s.commitGroup n) ∧ (s.commitGroup n).arch n = s.arch n := by
  unfold State.commitGroup
  simp only
  split
  · exact ⟨State.onlyCore_refl _ _, rfl⟩
  · split
    · split
      · refine ⟨State.onlyCore_trans hn (State.onlyCore_setCore _ _ _) (State.onlyCore_setCheckEvent _ _ _ _), ?_⟩
        exact State.arch_setCore_self _ _ _
      · exact ⟨State.onlyCore_setCore _ _ _, by simp [State.arch]⟩
    · exact ⟨State.onlyCore_setCore _ _ _, by simp [State.arch]⟩

theorem State.dropKept_only (s : State) (n : Nat) : s.onlyCore n (s.dropKept n) ∧ (s.dropKept n).arch n = s.arch n := by
  unfold State.dropKept
  simp only
  split
  · exact ⟨State.onlyCore_setCore _ _ _, by simp [State.arch]⟩
  · exact ⟨State.onlyCore_refl _ _, rfl⟩

/-- Retirement gives the core the loop step and the next PC (R90), and changes nothing else beyond its group. -/
theorem State.retire_steps (s : State) (n : Nat) (old : Arch) (len : Nat) (d : Done) (hn : n < 64)
    (hd : d.wroteLc = false) :
    s.onlyCore n (s.retire n old len d) ∧ (s.retire n old len d).arch n = old.steps (s.arch n) len d.target := by
  unfold State.retire
  simp only
  generalize hx : LCore.mk _ _ _ _ _ _ _ _ _ _ _ _ _ _ _ _ _ _ _ _ _ _ _ _ = x
  have hx' : x.arch = old.steps (s.arch n) len d.target := by
    rw [← hx]; simp only [Arch.steps, Arch.nextPc, State.arch, hd]
    by_cases h1 : old.getS srLC = 0 <;> by_cases h2 : old.pc = old.getS srLE <;> simp [h1, h2]
  have k := State.dropKept_only (s.setCore n x) n
  have k1 : s.onlyCore n ((s.setCore n x).dropKept n) := State.onlyCore_trans hn (State.onlyCore_setCore _ _ _) k.1
  have k2 : ((s.setCore n x).dropKept n).arch n = old.steps (s.arch n) len d.target := by
    rw [k.2, ← hx', State.arch_setCore_self]
  have c := State.commitGroup_only ((s.setCore n x).dropKept n) n hn
  split
  · exact ⟨State.onlyCore_trans hn k1 c.1, c.2.trans k2⟩
  · exact ⟨k1, k2⟩

/-! ## An instruction row at a boundary that admits it -/

/-- At a boundary that admits an instruction, its row answers the retirement of what the instruction does. -/
theorem State.admits_runs {s u v : State} {n : Fin 64} {w : BitVec 32} {op : POp} {d : Done} {env : Env}
    (h : s.admits n w op u) (hp : u.perform n (insnLen w) env op = .ok v d) :
    insn op.row n w env s = .next (v.retire n (s.arch n) (insnLen w) d) := by
  obtain ⟨p, hdec, hr, hg, hw, ho, hh, hdue, hf, htx, -, hdf, hr2, hb⟩ := h
  have hi : s.issue n w env = v.retire n (s.arch n) (insnLen w) d := by
    unfold State.issue State.wakes
    simp only [hw, Bool.false_eq_true, if_false, ho, hh, hdec, Option.any_some, hdue]
    unfold State.runInsn
    simp only [hf, hdec]
    rw [if_neg (by simp [htx])]
    have : u.execute n w (some op) env = .ok v d := by
      unfold State.execute
      simp only [hdf, hr2, hp, hb, Bool.false_eq_true, if_false]
    simp [this]
  unfold insn
  simp only [hdec]
  rw [event_next _ _ p (by simp [hg, hr]), hi]

/-- An instruction that leaves the state `v` completes in the state its retirement makes of `v`. -/
theorem State.completes_next {s u v : State} {n : Fin 64} {w : BitVec 32} {op : POp} {d : Done} {env : Env} {c : Instr}
    (h : s.admits n w op u) (hc : exec c s = insn op.row n w env s) (hp : u.perform n (insnLen w) env op = .ok v d)
    (hd : d.wroteLc = false) :
    ∃ t, exec c s = .next t ∧ t.arch n = (s.arch n).steps (v.arch n) (insnLen w) d.target ∧ v.onlyCore n t := by
  have k := State.retire_steps v n (s.arch n) (insnLen w) d n.isLt hd
  exact ⟨_, hc.trans (State.admits_runs h hp), k.2, k.1⟩

/-- An instruction that writes only registers completes. -/
theorem State.completes_of_arch {s u : State} {n : Fin 64} {w : BitVec 32} {op : POp} {a : Arch} {d : Done} {env : Env}
    {c : Instr} (h : s.admits n w op u) (hc : exec c s = insn op.row n w env s)
    (hp : u.perform n (insnLen w) env op = .ok (u.setArch n a) d) (hd : d.wroteLc = false) :
    s.completes c n w u a d.target := by
  obtain ⟨t, h1, h2, h3⟩ := State.completes_next h hc hp hd
  exact ⟨t, h1, by simpa using h2, State.onlyCore_trans n.isLt (State.onlyCore_setArch _ _ _) h3⟩

end Sys2Proof.Machine
end

