-- ==== Sys2Proof/Laws/RegAccess.lean ====
section
/-!
SUPPORT. Writes of registers: a write that `State.accepts` is applied whole, and a command that is such a write answers that
state.
-/

namespace Sys2Proof.Machine

/-- A page that the window lists has its number below 2^16. -/
theorem pageAt_lt {i : Nat} {p : Page} (h : pageAt i = some p) : i < 0x10000 := by
  by_contra hi
  simp (disch := omega) only [pageAt, if_neg] at h
  cases h

/-- An accepted write of 8 bytes is applied with no field refused. -/
theorem regWrite_of_accepts {src : Src} {p : Page} {off : Nat} {v : Word} {s : State} (ho : off < 0x1000)
    (h : s.accepts src p off v = true) :
    ∃ fs, pageFields p off = some fs ∧ regWrite src 8 (p.base + off) v s = applyWrite src p off v [] fs s := by
  unfold State.accepts State.writesPage State.blockPage at h
  simp only [Bool.and_eq_true, decide_eq_true_eq, bne_iff_ne, ne_eq, Bool.or_eq_true] at h
  obtain ⟨⟨⟨⟨⟨⟨hp, ht⟩, ha⟩, hpr⟩, hm⟩, hf⟩, hb⟩ := h
  have hi := pageAt_lt hp
  split at hb
  · simp at hb
  · rename_i fs hfs
    simp only [Bool.and_eq_true, Bool.not_eq_true', List.isEmpty_iff] at hb
    obtain ⟨⟨⟨⟨h4, h2⟩, h3⟩, h5⟩, h1⟩ := hb
    refine ⟨fs, hfs, ?_⟩
    have hw : (p.base + off) % 2 ^ 28 = p.base + off := by unfold Page.base; omega
    have hq : (p.base + off) / 0x1000 = p.index := by unfold Page.base; omega
    have hr : (p.base + off) % 0x1000 = off := by unfold Page.base; omega
    have h3' : (if s.glazed = true then refused03 (s.liveReg p off) v fs else []) = [] := by
      cases hg : s.glazed
      · simp
      · simpa [hg] using h3
    have hfz : ¬ (s.mode = 10 ∧ p.typ ≠ .ese ∧ p.typ ≠ .recorder) := by
      rintro ⟨hm10, h6, h7⟩
      simp [hm10, h6, h7] at hf
    simp only [regWrite, hw, hq, hr, hp, hfz, if_false, ht, ha, hpr, not_true_eq_false, blockWrite, hfs, h4, h2,
      Bool.false_eq_true, h3', h5, h1, List.isEmpty_nil, Bool.not_true, if_true, List.append_nil]
    simp

/-- A command that is an accepted write answers the state that the write leaves. -/
theorem writeRow_of_accepts {m : String} {src : Src} {p : Page} {off : Nat} {v : Word} {s : State} (ho : off < 0x1000)
    (hp : s.powered = true) (hm : s.mayAccess src (p.base + off) = true) (h : s.accepts src p off v = true) :
    ∃ fs, pageFields p off = some fs ∧ writeRow m src (p.base + off) v s = .next (applyWrite src p off v [] fs s) := by
  obtain ⟨fs, hfs, hw⟩ := regWrite_of_accepts ho h
  exact ⟨fs, hfs, by rw [writeRow, event_next _ _ hp hm, hw]⟩

end Sys2Proof.Machine
end

