-- ==== Sys2Proof/Tests/Slice0.lean ====
section
/-!
SUPPORT. Tests: the checks of WellFormed on ill-formed terms, worked examples of the manual, and a
state and operands that meet the hypotheses of each statement, clause by clause.
-/

namespace Sys2Proof.Tests

set_option Elab.async false

open Sys2Proof Sys2Proof.Machine

/-- A module in Normal mode with 64 GiB of memory and logical core 0 running at M in position 0, its PC in the boot flash. -/
def up : State :=
  let a : Arch := ({ pc := 0xFFFE0001000 } : Arch).setS srPSW 3
  (((State.reset.putMode 4 4).setFld bMem F.MEM_MAP_USABLE 64).setFlag bIdent F.LCORE_MAP_VALID true).setCore 0 { started := true, arch := a, wafer := a }

/-- An instruction that spells each of a list of operations goes ahead at a boundary of a core. -/
def admitsAll (s : State) (n : Nat) (u : State) (ops : List POp) : Prop :=
  ∀ op ∈ ops, s.admits n (encodePuldo op) op u

/-- Core 0 changed. -/
def withCore (s : State) (f : LCore → LCore) : State := s.setCore 0 (f (s.core 0))

/-- Core 0's registers changed. -/
def withArch (s : State) (f : Arch → Arch) : State := withCore s (fun c => { c with arch := f c.arch })

/-- Line 8 of main memory (bytes 0x400 to 0x47F) stands in the L2 of position 0, its bytes the given ones and zeros. -/
def held (bytes : List Byte) : State :=
  up.setTile 0 { lines := [(8, { st := .e, data := bytes ++ List.replicate (128 - bytes.length) 0, poison := false, places := [(0, 0)] })] }

/-- Registers of core 0 for the tests of loads and stores: G1 in line 8, G2 a link, G31 a stack, G4 the lengths of a decimal instruction. -/
def heldRun (bytes : List Byte) : State :=
  withArch (held bytes) (fun a => ((((a.setG 1 0x400).setG 2 0xFFFE0002000).setG 31 0x410).setG 4 0).setG 5 0x440)

/-- Whether part of an instruction comes to a value. -/
def passes {α : Type} (r : Res α) : Bool :=
  match r with
  | .ok _ _ => true
  | _ => false

/-- The module with zone 0 valid, all of memory its region, open to I/O, core 0 in it, and lines 8 and 16 to 20 in the L2 of
position 0, each 8 bytes of them the number 0x2000. -/
def zoned : State :=
  let words := (List.range 16).flatMap (fun _ => leBytes 8 0x2000)
  let line : TileLine := { st := .e, data := words, poison := false, places := [(0, 0)] }
  (((up.setReg 0x31000 0x100).setReg 0x32000 1).setReg 0x33000 (BitVec.ofNat 64 (0x2F + 2 ^ 8 * 36))).setTile 0
    { lines := [(8, line), (16, line), (17, line), (18, line), (19, line), (20, line)] }

/-- Core 0 of it at a level, its PC in line 8, its vector blocks in lines 16 to 20, its stack in line 8. -/
def atLevel (level : Nat) : State :=
  withArch zoned (fun a =>
    { (((((a.setSf srPSW 0 2 level).setS (srVBAR 1) 0x800).setS (srVBAR 2) 0x800).setS (srVBAR 3) 0x800).setG 31 0x440) with
      pc := 0x400 })

/-- Whether the accesses of an entry for an exception pass, its handler being even and its stack pointer aligned. -/
def entryPasses (s : State) (n : Nat) (e : Exc) : Bool :=
  let s0 := s.commitGroup n
  let level := excLevel (s0.arch n).level e
  let lower := decide ((s0.arch n).level < level)
  decide (level ≤ 3) && (decide ((s0.arch n).level ≠ level) || (s0.arch n).sf srPSW 6 1 == 0) &&
  match s0.vectorReads n level e.vec lower with
  | .ok _ (h, sp, _) => !bit h 0 && (!lower || bits sp 0 3 == 0)
  | _ => false
/-! ## The machine as a whole, register pages -/

theorem witness_without_power :
    { up with powered := false }.powered = false ∧ (∀ r l, Instr.nop 0 0xC200 ≠ .powerOn r l) ∧
    Instr.nop 0 0xC200 ≠ .referenceInTolerance ∧ Instr.nop 0 0xC200 ≠ .referenceTimeout ∧
    Instr.nop 0 0xC200 ≠ .vddSvcLoss ∧ Instr.nop 0 0xC200 ≠ .thermtrip :=
  ⟨rfl, nofun, nofun, nofun, nofun, nofun⟩

theorem witness_block_error :
    homePage.slot = some 9 ∧ bit (up.reg (bHome + 0x020)) 63 = false ∧ bit (up.reg (bHome + 0x028)) 63 = false ∧
    bit ((up.setReg (bHome + 0x020) 1).reg (bHome + 0x020)) 0 = true ∧
    bit ((up.setReg (bHome + 0x028) 1).reg (bHome + 0x028)) 0 = true := by decide +kernel
theorem witness_unassigned_write :
    (up.writesPage .svc pwrPage 0xFF8 = true ∧ pageFields pwrPage 0xFF8 = none) ∧
    (up.writesPage (.core 0 2) ⟨.door, 0⟩ 0xFF8 = true ∧ pageFields ⟨.door, 0⟩ 0xFF8 = none) := by decide +kernel

theorem witness_reserved_value :
    up.writesPage .svc pwrPage 0x040 = true ∧ (pageFields pwrPage 0x040).any (fun fs =>
      !up.notOwned pwrPage 0x040 7 && up.reservedWrite pwrPage 0x040 7 fs) = true := by decide +kernel

/-- The module with a block stopped: RUN and RUNNING are 0. -/
def stopped (p : Page) : State := (up.setFlag p.base F.RUN false).setFlag p.base F.RUNNING false

theorem witness_header_commands :
    up.mayAccess .svc (0x0010040 - 0x0010040 % 8) = true ∧ up.writesPage .svc pwrPage 0x020 = true ∧
    ((stopped cipherPage).writesPage .svc cipherPage 0x010 = true ∧ cipherPage.typ.runFixed = false ∧
      (stopped cipherPage).flag bCipher F.RUN = false ∧ (stopped cipherPage).running cipherPage = false) ∧
    (let s := up.setFlag (bCport 15) F.RUN true
     s.writesPage .svc (cportPage 15) 0x010 = true ∧ (cportPage 15).typ.runFixed = false ∧
      s.flag (bCport 15) F.RUN = true ∧ s.glazed = false) ∧
    (let s := (up.setFlag bCipher F.RUN false).setFlag bCipher F.RUNNING true
     s.blockPage cipherPage = true ∧ s.running cipherPage = true ∧ s.atBoundary cipherPage = true) ∧
    (let s := up.setFlag bCipher F.QUIESCE true
     s.flag bCipher F.QUIESCE = true ∧ s.flag bCipher F.QUIESCED = false ∧ s.noWorkLeft cipherPage = true) ∧
    ((stopped cipherPage).setFlag bCipher F.BUSY true).flag bCipher F.BUSY = true := by decide +kernel

/-! ## Instructions on registers -/

theorem witness_register_instructions :
    admitsAll up 0 up [POp.alu .add false 31 31 0, .aluImm .add false 0 1 (-1024), .shift .sra true 1 2 3, .shiftImm .ror false 1 2 63,
        .lui 31 (-131072), .auipc 1 1, .mul .mul 3 4 5, .accz 3, .mfa true 1 0, .mta false 3 31, .ttest 31,
        .trapArith .addT false 1 2 3, .div .divz 30 2 3] := by
  unfold admitsAll State.admits; decide +kernel

theorem witness_arithmetic_cases :
    (5 : Nat) ≠ 0 ∧ (4 : Nat) ≠ 5 ∧ (63 : Word).toNat < 64 ∧ ¬ (0xFFFFFFFFFFFFFFFF : Word).toNat < 64 ∧
    (decodePuldo (encodePuldo (.shiftImm .sra false 1 2 63)) = some (.shiftImm .sra false 1 2 63)) ∧
    (let s := withArch up (fun a => (a.setG 1 0x8000000000000000).setG 2 0xFFFFFFFFFFFFFFFF)
     (s.gr 0 1 = 0x8000000000000000 ∧ s.gr 0 2 = 0xFFFFFFFFFFFFFFFF ∧ s.gr 0 2 ≠ 0 ∧ s.gr 0 3 = 0) ∧
     (s.gr 0 1).setWidth 32 = 0#32) ∧
    (let s := withArch up (fun a => (a.setG 1 0x80000000).setG 2 0xFFFFFFFF)
     (s.gr 0 1).setWidth 32 = 0x80000000#32 ∧ (s.gr 0 2).setWidth 32 = 0xFFFFFFFF#32) := by decide +kernel

theorem witness_floating_point :
    admitsAll up 0 up ([.farith .fsqrt true 31 1 0, .fma .fnmsub false 0 1 2 3, .fcvt .fmt true 1 2, .fcvt .toWU false 0 31,
        .fcvt .fromLU true 31 0, .fminmax true false 1 2 3, .fcmp 2 true 31 1 2, .ftype false 1 31, .fbit .signX true 0 1 2,
        .fbit .bitsG false 1 2 0, .fbit .bitsF true 31 2 0] : List POp) := by
  unfold admitsAll State.admits; decide +kernel

theorem witness_flags_arm_a_trap :
    let a : Arch := ({} : Arch).setSf srFPCR 4 5 1
    let b : Arch := a.setSf srFPSR 5 1 1
    (31 &&& a.sf srFPCR 4 5 ≠ 0 ∧ a.sf srFPSR 5 1 = 0) ∧ (1 &&& b.sf srFPCR 4 5 ≠ 0 ∧ b.sf srFPSR 5 1 = 1) ∧
    30 &&& a.sf srFPCR 4 5 = 0 := by decide +kernel

/-! ## Loads, stores, decimal, control transfers -/

theorem witness_held_line :
    let s := held [1, 2, 3]
    ((s.arch 0).level = 3 ∧ (s.core 0).tx = none ∧ (∀ x ∈ s.cores, x.2.tx = none) ∧ s.escHeld (s.coreTile 0) 8 0 = false ∧
      8 / 2 ^ 37 = s.moduleId ∧ 8 % 2 ^ 37 * 128 < s.usable) ∧
    (SMap.find? (s.tile (s.coreTile 0)).lines 8).any (fun x => x.inCache (s.coreCache 0) && !x.poison) = true ∧
    (0x47F : Word).toNat / 128 = 8 % 2 ^ 37 ∧ (0x47F : Word).toNat % 128 + 1 ≤ 128 := by decide +kernel

theorem witness_loads_and_stores :
    admitsAll (heldRun []) 0 (heldRun []) [POp.load 3 true 4 1 (-1), .load 0 false 31 1 127, .ldA 3 4 1, .ldQA 30 1, .fload false 4 1 0,
      .store 3 4 1 0, .fstore true 4 1 120, .stR 0 1 4, .cas 3 4 1 5, .casQ 6 1 4, .zeroL 1] := by
  unfold admitsAll State.admits; decide +kernel

theorem witness_accesses :
    let u := heldRun [0x01]
    passes (u.loadBytes 0 (u.acc 0 .load 8) 0x478) = true ∧ passes (u.loadBytes 0 (u.acc 0 .load 1 true) 0x47F) = true ∧
    passes (u.loadQ 0 (u.acc 0 .ldQ 16 true) 0x470) = true ∧ passes (u.storeBytes 0 (u.acc 0 .store 8) 0x478 (leBytes 8 5)) = true ∧
    passes (u.storeBytes 0 (u.acc 0 .store 4 true) 0x47C (leBytes 4 5)) = true ∧
    passes (u.casBytes 0 (u.acc 0 .cas 8 true) 0x400 (leBytes 8 1) (leBytes 8 5)) = true ∧
    passes (u.casBytes 0 (u.acc 0 .casQ 16 true) 0x400 (u.pair16 0 6) (u.pair16 0 4)) = true ∧
    passes (u.check 0 (u.acc 0 .zero 128) (0x400 &&& 0xFFFFFFFFFFFFFF80)) = true ∧
    passes (u.loadBytes 0 (u.acc 0 .macd 8) 0x400) = true ∧
    (match u.decOperands 0 .addp 1 1 0x400 0x400 with
     | .ok v (x, y, ps) => decValid x && decValid y && (match decCompute .addp 1 1 (decValue x) (decValue y) with
       | some (some bytes, _) => passes (v.storeParts 0 (u.acc 0 .decStore 1) 0x400 ps bytes)
       | _ => false)
     | _ => false) = true ∧
    (match u.checkSlot 0 true 0x408 with
     | .ok v ps => passes (v.storeParts 0 (u.acc 0 .push 8) 0x408 ps (leBytes 8 1))
     | _ => false) = true ∧
    (match u.checkSlot 0 false 0x410 with
     | .ok v ps => passes (v.loadParts 0 (u.acc 0 .pop 8) 0x410 ps true false)
     | _ => false) = true := by decide +kernel

theorem witness_control_transfers :
    let s := heldRun []
    admitsAll s 0 s [POp.branch .geu 1 2 (-1024), .b (-16777216), .jr 2 1023, .call 2, .callr 2 0, .ret, .loop 1 4094, .loop 0 4, .nop] ∧
    bit ((s.arch 0).getG 2 + BitVec.ofInt 64 0) 0 = false ∧ (s.arch 0).getG 1 ≠ 0 ∧ (s.arch 0).getG 0 = 0 ∧
    s.fetchParcel 0 (s.arch 0).level ((s.arch 0).pc + BitVec.ofNat 64 4) = .ok s () := by
  unfold admitsAll State.admits; decide +kernel

/-! ## System and transaction instructions -/

theorem witness_system_instructions :
    let s := heldRun []
    admitsAll s 0 s [POp.mfs 4 srPSW, .mts srLC 4, .mts (srEPC 1) 4, .rfe, .wait, .fsync, .isync, .fence .c, .fence .l, .fence .s,
      .tlbi .va 1 4, .tlbi .asid 0 4, .tlbi .s1all 0 0, .tlbi .gpa 1 0, .tlbi .vmid 0 0, .tlbi .all 0 0] ∧ srEPC 1 ≠ srLC ∧
    rfeRefused 3 0 3 = false ∧ bit ((s.arch 0).getS (srEPC 3)) 0 = false ∧ s.inTx 0 = false ∧
    (s.drainLocal 0).2 = true ∧ (s.drainAll 0).2 = true ∧ (s.drainZone (s.zoneOf 0)).2 = true := by
  unfold admitsAll State.admits; decide +kernel

/-- Core 0 in an open transaction of depth 2 that is not bounded. -/
def inTransaction (depth : Nat) : State :=
  let s := withArch (heldRun []) (fun a => (a.setSf srTXSTAT 0 1 1).setSf srTXSTAT 2 4 depth)
  s.setCore 0 { s.core 0 with tx := some { bounded := false, escal := false, handler := 0xFFFE0002000, begun := 0xFFFE0000F00,
                                           saved := (heldRun []).arch 0 } }

theorem witness_transactions :
    admitsAll (heldRun []) 0 (heldRun []) [POp.tbegin 2, .tbeginb 2, .tcommit, .tabort 1] ∧ ((heldRun []).core 0).tx = none ∧
    ((heldRun []).core 0).lastTb = none ∧ ((heldRun []).drainAll 0).2 = true := by
  unfold admitsAll State.admits; decide +kernel

theorem witness_open_transactions :
    admitsAll (inTransaction 14) 0 (inTransaction 14) [POp.tbegin 2, .tcommit, .tabort 1] ∧
    admitsAll (inTransaction 1) 0 (inTransaction 1) [POp.tcommit] ∧ ((inTransaction 1).drainAll 0).2 = true ∧
    ((inTransaction 1).drainAll 0).1.inTx 0 = true ∧ (inTransaction 1).trapArmed 0 = false := by
  unfold admitsAll State.admits; decide +kernel

/-! ## Exceptions and core events -/

theorem witness_calls :
    admitsAll (atLevel 1) 0 (atLevel 1) [POp.svc 255, .hvc 0, .brk 1] ∧ admitsAll (atLevel 2) 0 (atLevel 2) [POp.mcall 0] ∧
    (atLevel 1).inTx 0 = false ∧ (atLevel 1).trapArmed 0 = false ∧
    (∀ vec ∈ [0x10, 0x11, 0x13], entryPasses (atLevel 1) 0 { vec := vec } = true) ∧ entryPasses (atLevel 2) 0 { vec := 0x12 } = true := by
  unfold admitsAll State.admits; decide +kernel

/-- Core 0 at a level with EB = 0 and a saved status that RFE refuses: a level above its own. -/
def badReturn (level : Nat) : State := withArch (atLevel level) (fun a => a.setSf (srESTAT level) 32 7 3)

theorem witness_return_violation :
    let s := badReturn 2
    let a := s.arch 0
    admitsAll s 0 s [POp.rfe] ∧ s.inTx 0 = false ∧ s.trapArmed 0 = false ∧
    rfeRefused a.level (BitVec.ofNat 64 (bits (a.getS (srESTAT a.level)) 32 7)) (a.getS srPSW) = true ∧ a.sf srPSW 6 1 = 0 ∧
    (match ((s.dropKept 0).commitGroup 0).vectorReads 0 a.level 0x0F false with
     | .ok v (h, _, _) => !bit h 0 && decide (v.arch 0 = a)
     | _ => false) = true := by
  unfold admitsAll State.admits; decide +kernel

theorem witness_late_errors :
    let full := withArch up (fun a => (((a.setS srLSE_LOG 1).setS (srLSE_LOG + 1) 7).setS (srLSE_LOG + 2) 1).setS (srLSE_LOG + 3) 1)
    (up.arch 0).sf (srLSE_LOG + 0) 0 3 = 0 ∧
    ((∀ j, j < 3 → (full.arch 0).sf (srLSE_LOG + j) 0 3 ≠ 0) ∧ ((full.arch 0).setS (srLSE_LOG + 3) 0).sf (srLSE_LOG + 3) 0 3 = 0) ∧
    (∀ i, i < 4 → (full.arch 0).sf (srLSE_LOG + i) 0 3 ≠ 0) := by decide +kernel

/-- Core 0 below M with an event of each kind of Table 6.6 due. -/
def due (ev : BoundaryEvent) : State :=
  let s := atLevel 1
  match ev with
  | .fpTrap => withArch s (fun a => a.setSf srFPSR 5 1 1)
  | .machineCheck => (withArch s (fun a => a.setSf srPSW 4 1 1)).setCore 0 { (withArch s (fun a => a.setSf srPSW 4 1 1)).core 0 with mc := [(4, 0)] }
  | .storeError => s.setCore 0 { s.core 0 with ase := true }
  | .debugStep => s.setCore 0 { s.core 0 with stepPending := true }
  | .interrupt => ((s.setFlag bIc F.RUN true).setFlag bIc F.RUNNING true).setSource 5
      { word0 := 0x180, pend := true, events := 1, offerable := true }

theorem witness_boundary_events :
    ∀ ev ∈ [BoundaryEvent.fpTrap, .machineCheck, .storeError, .debugStep, .interrupt],
      (due ev).coreReady 0 = true ∧ ((due ev).core 0).owed = none ∧ ((due ev).core 0).haltDue = false ∧
      ((due ev).core 0).waiting = false ∧ (due ev).dueEvent 0 false = some ev ∧ (due ev).inTx 0 = false ∧
      entryPasses (due ev) 0 ((due ev).eventExc 0 ev) = true := by decide +kernel

/-- A request of core 0 (the oldest store's where k is 1) to another module, unanswered. -/
def askedRemote (k : Nat) : Outstanding :=
  { req := { cls := 0, code := 0, dest := 3, src := 0, agent := 0, txn := coreTxn 0 k, line := 3 * 2 ^ 37 }, core := some 0, cache := 0,
    won := false, state := .i, data := [], poison := false, acksDue := 0, acks := 0, result := none, refused := 0 }

theorem witness_core_events :
    (up.coreIssues 0 = true ∧ ((withCore up (fun c => { c with group := 8 })).core 0).group ≠ 0) ∧
    (let s := withArch (atLevel 3) (fun a => a.setG 1 0xFFFF0000000)
     admitsAll s 0 s [POp.load 3 true 4 1 8] ∧ s.loadsRegister 0 (.load 3 true 4 1 8) = true ∧
     (match s.perform 0 4 { silent := true } (.load 3 true 4 1 8) with
      | .exc v e => decide (e = ⟨0, 1, false, false, some 0xFFFF0000008⟩) && !v.inTx 0 && !v.trapArmed 0 &&
        entryPasses (v.dropKept 0) 0 e
      | _ => false) = true) := by
  unfold admitsAll State.admits; decide +kernel

theorem witness_core_timeouts :
    (let st : Store := ⟨.register, 0xFFFF0000008, [0], 3, 0⟩
     ((withCore up (fun c => { c with stores := [st] })).core 0).stores = st :: [] ∧ st.kind = .register ∧ up.mode ≠ 10 ∧
     (up.arch 0).sf srLSE_LOG 0 3 = 0) ∧
    (∀ k : Fin 4, let s := { up with requests := [askedRemote k] }
     s.findRequest (s.coreTile 0) (coreTxn 0 k) = some (askedRemote k) ∧ (askedRemote k).req.dest ≠ s.moduleId) ∧
    (let x : Tx := { bounded := true, escal := true, handler := 0, begun := 0, saved := {}, gather := [(8, true)] }
     let s := withCore up (fun c => { c with tx := some x })
     (s.core 0).tx = some x ∧ x.gather ≠ [] ∧ s.coreIssues 0 = true) ∧
    (let s := withCore (up.setFlag bEse F.BOOT_OPT_DEBUG_EN true) (fun c => { c with halted := true })
     s.mayAccess .svc (bEse + 0x0B0) = true ∧ s.accepts .svc ⟨.ese, 0⟩ 0x0B0 0x300 = true ∧ (s.core 0).halted = true) := by
  decide +kernel

/-! ## Zones and caches -/

/-- The zoned module in Initialization, or validating its tables. -/
def validating (busy : Bool) : State := (zoned.setFld bEse F.MODE_STAT_MODE 3).setFlag bZctl F.ZT_STAT_BUSY busy

theorem witness_zone_commands :
    (up.mode ≠ 10 ∧ up.mayAccess (.core 0 3) (0x31000 + 8 * 37886) = true ∧ (ztMask (0x31000 + 8 * 37886)).isSome = true ∧
      ztLegal (0x31000 + 8 * 37886) 0 = true ∧ up.glazed = false ∧ up.flag bZctl F.ZT_STAT_BUSY = false) ∧
    (up.setFlag bZctl F.ZT_STAT_GLAZED true).glazed = true ∧
    ((validating false).present zctlPage = true ∧ (validating false).mayAccess .svc (bZctl + 0x048) = true ∧
      (validating false).glazed = false ∧ (validating false).flag bZctl F.BUSY = false ∧ bits (0x6C7A : Word) 0 16 = 0x6C7A ∧
      (validating false).mode = 3 ∧ up.mode ≠ 3) ∧
    ((validating true).mode = 3 ∧ (validating true).flag bZctl F.ZT_STAT_BUSY = true ∧ (validating true).validation = none) ∧
    (((validating true).setReg 0x32000 0).validation).isSome = true := by decide +kernel
/-- A module whose L2 of position 1 or whose L3 of tile 0 has a line of main memory. -/
def cached (c : Nat) : State :=
  up.setTile 0 { lines := [(8, { st := .m, data := List.replicate 128 7, poison := false, places := [(c, 0)] })] }

/-- The same, tile 0's range engine at work on a job. -/
def working (c : Nat) (j : RangeJob) : State := (cached c).setJobs 0 [j]

/-- A software range operation over lines 0 to 15. -/
def ranged (op : Nat) (abort : Bool) : RangeJob :=
  { owner := 1, cache := 11, ways := 0, abort := abort, op := op, scope := 1, base := 0, lines := 16 }

/-- RNG_CTL, RNG_BASE and RNG_LEN ask for lines 0 to 15 in every tile, or for none. -/
def asked (lines : Word) : State := ((up.setReg (bL3 0 + 0x080) 0x10).setReg (bL3 0 + 0x088) 0).setReg (bL3 0 + 0x090) lines

/-- A check event at position 3 that lost a tag and froze it. -/
def tagLost : State :=
  up.setPos 0 { event0 := some { source := 7, selfLead := false, selfTrail := false, retries := 0, clean := 0, frozen := true, injected := false, lost := false } }

theorem witness_cache_enables :
    (up.powered = true ∧ up.mayAccess .ese (cacheReg 0 false) = true ∧ up.accepts .ese (posPage 0) 0x100 6 = true) ∧
    (up.mayAccess .ese (cacheReg 39 true) = true ∧ up.accepts .ese (posPage 39) 0x108 0x00030003 = true) ∧
    (up.mayAccess .ese (cacheReg 40 false) = true ∧ up.accepts .ese (l3Page 0) 0x040 1 = true) ∧
    (up.mayAccess .ese (cacheReg 43 true) = true ∧ up.accepts .ese (l3Page 3) 0x048 3 = true) := by decide +kernel

theorem witness_maintenance_boundary :
    (up.powered = true ∧ up.uncoreUp = true ∧ up.missOut 0 0 = false ∧ ((up.tile 0).jobs = [])) ∧
    ((up.setFlag (bPos 0) F.CACHE_CTL_L2_EN true).setFlag (bPos 0) F.CACHE_STAT_L2_ON false).cacheEnabled 0 0 = true ∧
    ((up.setFlag (bPos 0) F.CACHE_CTL_L2_EN true).setFlag (bPos 0) F.CACHE_STAT_L2_ON false).cacheOn 0 0 = false ∧
    ((up.setFlag (bL3 0) F.L3_CTL_EN false).setFlag (bL3 0) F.L3_STAT_ON true).cacheEnabled 0 10 = false ∧
    ((up.setFlag (bL3 0) F.L3_CTL_EN false).setFlag (bL3 0) F.L3_STAT_ON true).cacheOn 0 10 = true ∧
    up.cacheEnabled 3 9 = up.cacheOn 3 9 := by decide +kernel

theorem witness_flush_and_drain :
    (((working 1 { owner := 2, cache := 1, ways := 0xFFFF, abort := false }).tile 0).jobs =
      [{ owner := 2, cache := 1, ways := 0xFFFF, abort := false }]) ∧
    (((working 10 { owner := 3, cache := 10, ways := 1, abort := false }).tile 0).jobs =
      [{ owner := 3, cache := 10, ways := 1, abort := false }]) := by decide +kernel

theorem witness_range_engine :
    (up.mayAccess .ese (bL3 0 + 0x098) = true ∧ (asked 16).accepts .ese (l3Page 0) 0x098 1 = true ∧
      (asked 16).rngStartFault ((asked 16).rngAsked 0) = none ∧ (asked 0).rngStartFault ((asked 0).rngAsked 0) = some 3) ∧
    (working 0 (ranged 0 false)).accepts .ese (l3Page 0) 0x098 2 = true ∧
    (((working 0 (ranged 0 false)).tile 0).jobs = [ranged 0 false] ∧ (ranged 0 false).owner = 1 ∧
      (16 : BitVec 40).toNat = (ranged 0 false).lines ∧
      ∀ c, c < 11 → (working 0 (ranged 0 false)).flushAsked 0 c = true → (working 0 (ranged 0 false)).missOut 0 c = false) := by
  decide +kernel

theorem witness_array_errors :
    ((tagLost.pos 0).event0 = some { source := 7, selfLead := false, selfTrail := false, retries := 0, clean := 0, frozen := true, injected := false, lost := false } ∧
      0 ∈ tagLost.coresAt 0) ∧
    (up.uncoreUp = true ∧ up.mode ≠ 9 ∧ (up.waysFailed 0 0).testBit 15 = false ∧
      (up.setFld (bPos 0) F.CACHE_STAT_WAY_FAIL (up.waysFailed 0 0 ||| 2 ^ 15)).waysLeft 0 0 = true) ∧
    (up.waysFailed 3 10).testBit 0 = false := by decide +kernel

/-! ## Coherence and fabric -/

/-- The module as member 0 of a domain of three, member 1 by port 1 and member 2 by port 11, both up with every lane. -/
def domain : State :=
  (((((((up.setFlag bHome F.RUNNING true).setFlag bHome F.RUN true).setFld bHome F.DOM_CTL_MEMBERS 7).setReg (bHome + 0x108) 0x2F1).setReg
    (bHome + 0x110) 0x2FB).setReg (bFport 1 + 0x048) 0xFF32).setReg (bFport 11 + 0x048) 0xFF32)

/-- A message header from an agent of a member, about a line. -/
def hdr (src : BitVec 16) (agent : BitVec 4) (line : BitVec 53) (ext : BitVec 10 := 0) : Hdr :=
  { src := src, agent := agent, txn := 5, line := line, tx := false, esc := false, poison := false, reissue := false, ext := ext, dztv := false }

/-- The domain, with a directory entry for the last line of usable memory. -/
def entered (st who sharers : Nat) (resv : Option Nat) : State :=
  { domain with home := { dir := [(0x1FFFFFFF, { st := st, who := who, sharers := sharers, resv := resv, used := 0 })] } }

/-- The domain with a line of member 1's memory (line 2 ^ 37 + 3) held by tile 3. -/
def borrowed (st : LineState) : State :=
  domain.setTile 3 { lines := [(2 ^ 37 + 3, { st := st, data := List.replicate 128 9, poison := false, places := [(2, 1)] })] }

/-- An outstanding request of tile 0 for that line. -/
def awaiting (code cache acks : Nat) (won : Bool) : Outstanding :=
  { req := { cls := 0, code := code, dest := 1, src := 0, agent := 0, txn := 5, line := 2 ^ 37 + 3 }, core := some 0, cache := cache,
    won := won, state := .i, data := [], poison := false, acksDue := 0, acks := acks, result := none, refused := 0 }

/-- The domain with that request. -/
def requesting (q : Outstanding) : State := { domain.setFlag (bPos 0) F.CACHE_STAT_L2_ON true with requests := [q] }

theorem witness_reads_are_served :
    domain.reaches (hdrMsg (hdr 1 3 0x1FFFFFFF) 0 0 domain.moduleId) 1 ∧ domain.dirEntry 0x1FFFFFFF = none := by
  unfold State.reaches; decide +kernel

theorem witness_ownership_is_served :
    domain.reaches (hdrMsg (hdr 1 3 0x1FFFFFFF) 0 3 domain.moduleId) 1 := by unfold State.reaches; decide +kernel

theorem witness_snapshots_are_served :
    domain.reaches (hdrMsg (hdr 2 0 0) 0 4 domain.moduleId) 11 ∧ domain.dirEntry 0 = none := by unfold State.reaches; decide +kernel

theorem witness_writes_are_served :
    domain.reaches (hdrMsg (hdr 2 0 0) 0 5 domain.moduleId) 11 ∧ domain.reaches (hdrMsg (hdr 2 0 0) 0 6 domain.moduleId) 11 ∧
      domain.groupOffline (domain.groupOf (lineAddr 0)) = false := by unfold State.reaches; decide +kernel

/-- A CAS_NC of a quadword at the end of line 0. -/
def casMsg : Msg := { hdrMsg (hdr 2 0 0) 0 7 domain.moduleId with cas := some (112, 16, 0, 5) }

theorem witness_cas_is_served : domain.reaches casMsg 11 ∧ domain.memPoisoned (lineAddr 0) = false ∧ 112 % 2 ^ 4 = 0 := by
  unfold State.reaches; decide +kernel

theorem witness_requests_for_an_owned_line :
    (entered 3 2 4 none).reaches (hdrMsg (hdr 1 3 0x1FFFFFFF) 0 0 domain.moduleId) 1 ∧
    ((entered 3 2 4 none).dirEntry 0x1FFFFFFF).isSome = true ∧
    (entered 3 2 4 none).portFor ((entered 3 2 4 none).memberModule 2) = some 11 ∧ (entered 3 2 4 none).memberModule 2 ≠ 0 := by
  unfold State.reaches; decide +kernel

theorem witness_a_partial_write_of_an_owned_line :
    (entered 3 2 4 none).reaches (hdrMsg (hdr 1 3 0x1FFFFFFF) 0 6 domain.moduleId) 1 := by unfold State.reaches; decide +kernel

theorem witness_forwards :
    ((borrowed .m).powered = true ∧ (borrowed .m).uncoreUp = true ∧ lineHome (2 ^ 37 + 3) ≠ (borrowed .m).moduleId ∧
      (∀ y ∈ (borrowed .m).cores, y.2.tx = none) ∧ (borrowed .m).holderTile (2 ^ 37 + 3) = some 3 ∧
      (SMap.find? ((borrowed .m).tile 3).lines (2 ^ 37 + 3)).isSome = true ∧
      (∀ j, j < 4 → (borrowed .m).holdOn j (2 ^ 37 + 3) = none) ∧ (borrowed .m).portFor 2 = some 11 ∧
      (borrowed .m).portFor (lineHome (2 ^ 37 + 3)) = some 1) ∧
    (domain.holderTile (2 ^ 37 + 3) = none ∧ ∀ j, j < 4 → (domain.tile j).line? (2 ^ 37 + 3) = none) := by decide +kernel

theorem witness_answers :
    ((requesting (awaiting 0 0 0 false)).findRequest 0 5 = some (awaiting 0 0 0 false) ∧ (requesting (awaiting 7 0 0 false)).findRequest 0 5 = some (awaiting 7 0 0 false) ∧
      (awaiting 0 0 0 false).acks < (65 : BitVec 10).toNat % 64 ∧ (64 : BitVec 10).toNat % 64 ≤ (awaiting 0 0 0 false).acks) ∧
    ((requesting (awaiting 0 0 0 false)).cacheOn 0 0 = true ∧ (requesting (awaiting 0 0 0 false)).cacheClosing 0 0 = false ∧
      (requesting (awaiting 0 0 0 false)).chooseWay 0 0 0 (2 ^ 37 + 3) = some (0, none, false)) := by decide +kernel

theorem witness_home_work :
    (domain.powered = true ∧ domain.uncoreUp = true ∧ domain.home.queue = [] ∧ lineHome 0x1FFFFFFF = domain.moduleId) ∧
    (({ domain with home := { busy := [{ line := 3, req := hdrMsg (hdr 1 0 3) 0 1 0, due := 0, conflict := true }] } : State }.lineBusy 3).isSome = true) ∧
    ((entered 3 1 2 none).designates (hdrMsg (hdr 1 0 0x1FFFFFFF) 4 0 0) = true ∧ domain.designates (hdrMsg (hdr 1 0 0x1FFFFFFF) 4 0 0) = false ∧
      domain.portFor 1 = some 1 ∧ domain.lineBusy 0x1FFFFFFF = none) ∧
    (∃ x ∈ ({ domain with home := { evicting := [(7, 0)] } : State }).home.evicting, x.1 = 7 ∧ x.2 = 0) ∧
    ((entered 3 1 2 (some 69)).dirEntry 0x1FFFFFFF).map (·.resv) = some (some 69) := by decide +kernel

theorem witness_holds_and_recalls :
    ((domain.setTile 3 { holds := [{ line := 7, esc := false, waiting := [] }] }).holdOn 3 7 = some { line := 7, esc := false, waiting := [] }) ∧
    ((1 : BitVec 16).toNat ≠ domain.moduleId) ∧
    (∃ x ∈ ({ domain with home := { recalls := [(0x7FFFF, 0)] } : State }).home.recalls, x.1 = 0x7FFFF ∧ x.2 = 0) := by decide +kernel

/-- An idle frame of sequence number 0 with an ACK of 4095 and 96 credits of class 0, and the same with its CRC wrong. -/
def idleFrame (good : Bool) : BitVec 2048 :=
  let head := leBytes 252 (4095 * 2 ^ 12 + 96 * 2 ^ 29 + 2 ^ 40)
  BitVec.ofNat 2048 (leNat (head ++ leBytes 4 (crc32c head + (if good then 0 else 1))))

theorem witness_frames :
    (domain.fportUp 1 = true ∧ leNat ((leBytes 256 (idleFrame true).toNat).drop 252) = crc32c ((leBytes 256 (idleFrame true).toNat).take 252)) ∧
    (leNat ((leBytes 256 (idleFrame false).toNat).drop 252) ≠ crc32c ((leBytes 256 (idleFrame false).toNat).take 252)) ∧
    (let h := leNat ((leBytes 256 (idleFrame true).toNat).take 8)
     bits (BitVec.ofNat 64 h) 24 1 = 0 ∧ bits (BitVec.ofNat 64 h) 40 1 = 1 ∧
       bits (BitVec.ofNat 64 h) 0 12 = ((domain.fport 1).lastRx + 1) % 4096 ∧ (domain.fport 1).partialRx = []) := by decide +kernel

/-- Port 0 in training with every lane good, or up with the given lanes and the least width x1. -/
def port0 (state lanes : Nat) : State :=
  ((domain.setReg (bFport 0 + 0x048) (BitVec.ofNat 64 (0x30 + state + 256 * lanes))).setFld (bFport 0) F.FP_CFG_MIN_WIDTH 0)

theorem witness_links :
    ((port0 1 0).fld (bFport 0) F.FP_STAT_STATE = 1 ∧ (0x81 : BitVec 8) &&& BitVec.ofNat 8 ((port0 1 0).fld (bFport 0) F.FP_CFG_LANE_EN) = 0x81 ∧
      laneWidth 0x81 = some 0 ∧ laneWidth 0xFF = some 3 ∧ (port0 1 0).fld (bFport 0) F.FP_CFG_MIN_WIDTH ≤ 0 ∧
      (port0 1 0).fld (bFport 0) F.FP_CFG_KIND ≠ 1) ∧
    ((port0 2 0xFF).fportUp 0 = true ∧ ((port0 2 0xFF).fld (bFport 0) F.FP_STAT_LANES_GOOD).testBit 7 = true ∧
      laneWidth (BitVec.ofNat 8 ((port0 2 0xFF).fld (bFport 0) F.FP_STAT_LANES_GOOD - 2 ^ 7)) = some 2) ∧
    laneWidth (BitVec.ofNat 8 ((port0 2 0x80).fld (bFport 0) F.FP_STAT_LANES_GOOD - 2 ^ 7)) = none ∧
    (port0 1 0xFF).fld (bFport 0) F.FP_STAT_LANES_GOOD ≠ 0 := by decide +kernel

/-- A frame waits for its ACK at port 1. -/
def unacked : State := domain.setFport 1 { replay := [(0, hdrMsg (hdr 0 0 5) 0 0 1)], nextSeq := 1 }

theorem witness_losses :
    (domain.fportUp 1 = true ∧ unacked.fportUp 1 = true ∧ (unacked.fport 1).replay ≠ []) ∧
    (domain.mayAccess .ese (bFport 1 + 0x060) = true ∧ domain.accepts .ese (fportPage 1) 0x060 2 = true ∧
      (domain.setFlag (bFport 1) F.RUN true).accepts .ese (fportPage 1) 0x060 1 = true) ∧
    (Recovery.reroute 1 ∈ (domain.losePort 1).ese.recoveries) ∧
    ((entered 3 1 2 none).uncoreUp = true ∧ ((entered 3 1 2 none).fld bHome F.DOM_CTL_MEMBERS).testBit 1 = true ∧
      memberOf (entered 3 1 2 none).moduleId = 0 ∧ ((entered 3 1 2 none).fld bHome F.MEMBER_DOWN_DOWN).testBit 1 = false ∧
      (∀ b ∈ (entered 3 1 2 none).home.busy, memberOf b.req.src ≠ 1) ∧
      (entered 3 1 2 none).home.dir.Pairwise (fun a b => a.1 < b.1)) ∧
    (domain.setFld bHome F.MEMBER_DOWN_DOWN 2).mayAccess .ese (bHome + 0x050) = true ∧
    (domain.setFld bHome F.MEMBER_DOWN_DOWN 2).accepts .ese homePage 0x050 0 = true ∧
    (domain.setFld bHome F.MEMBER_DOWN_DOWN 2).accepts .ese homePage 0x050 2 = true := by decide +kernel

/-! ## Checked cores, retry, sparing and debug halts -/

/-- An open event, after some retries, frozen or with some clean groups. -/
def event1of (retries clean : Nat) (frozen : Bool) : CheckEvent :=
  { source := 1, selfLead := false, selfTrail := false, retries := retries, clean := clean, frozen := frozen, injected := false, lost := false }

/-- The module with that event open at position 0. -/
def retrying (retries clean : Nat) (frozen : Bool) : State := up.setPos 0 { event0 := some (event1of retries clean frozen) }

/-- An injection of a self-check of the leading pipeline is armed at position 0. -/
def armed : State := up.setReg (bPos 0 + 0x070) 0x95

theorem witness_first_retry :
    (up.powered = true ∧ up.canFire 0 0 1 none = true ∧ up.canFire 0 0 8 none = true ∧ (up.core 0).tx = none ∧
      up.checkEvent 0 0 = none ∧ up.posOf 0 = 0 ∧ up.split = false) ∧
    (armed.canFire 0 0 5 (some 0) = true ∧ armed.flag (bPos 0) F.CHK_INJECT_ARM = true ∧ armed.fld (bPos 0) F.CHK_INJECT_SOURCE = 5 ∧
      armed.fld (bPos 0) F.CHK_INJECT_PIPE = 1) := by decide +kernel

theorem witness_second_retry :
    (retrying 1 255 false).checkEvent 0 0 = some (event1of 1 255 false) ∧ (retrying 1 255 false).canFire 0 0 1 none = true := by decide +kernel

theorem witness_retry_restart :
    ((retrying 1 0 true).coreValid 0 = true ∧ (retrying 1 0 true).checkEvent 0 0 = some (event1of 1 0 true) ∧
      (retrying 1 0 true).beingSpared 0 = false ∧ (retrying 1 0 true).mode ≠ 10 ∧ ((retrying 1 0 true).core 0).haltDue = false) ∧
    (retrying 1 256 false).checkEvent 0 0 = some (event1of 1 256 false) ∧ ((retrying 1 256 false).pos 0).event1 = none := by decide +kernel

/-- The module with position 39 in the pool, and an open event at position 0. -/
def pooled (e : Option CheckEvent) : State :=
  ((((up.setPos 0 { event0 := e }).setPos 39 { pool0 := true }).setFld (bPos 0) F.CORE_STAT_ROLE 1).setFld (bPos 39) F.CORE_STAT_ROLE 2)

theorem witness_sparing_begins :
    ((pooled (some (event1of 2 0 false))).posOf 0 = 0 ∧ (pooled (some (event1of 2 0 false))).coreOn 0 0 = some 0 ∧
      (pooled (some (event1of 2 0 false))).sparings = [] ∧ (pooled (some (event1of 2 0 false))).chooseSpare 0 = some (39, 0) ∧
      (pooled (some (event1of 2 0 false))).canFire 0 0 1 none = true ∧ (pooled (some (event1of 1 0 false))).canFire 0 0 2 none = true ∧
      (pooled (some (event1of 2 0 false))).flag (bPos 0) F.CORE_STAT_UNCHECKED = false) ∧
    ((pooled none).coreOn 0 1 = none ∧ (pooled none).mayAccess .ese (bPos 0 + 0x040) = true ∧
      (pooled none).accepts .ese (posPage 0) 0x040 ((pooled none).withBit (bPos 0 + 0x040) 0) = true) := by decide +kernel

/-- A sparing of core 0 from position 0 to position 39. -/
def spareOf (woken drained moved : Bool) : Sparing :=
  { position := 0, pipe := 0, core := 0, since := 0, checker := false, spare := some (39, 0), woken := woken, drained := drained, moved := moved }

/-- The module with that sparing in progress, the spare's L2 on. -/
def sparing (x : Sparing) : State := { (pooled (some (event1of 2 0 true))).setFlag (bPos 39) F.CACHE_STAT_L2_ON true with sparings := [x] }

theorem witness_sparing_goes_on :
    ((sparing (spareOf false false false)).powered = true ∧ (sparing (spareOf false false false)).split = false ∧
      (sparing (spareOf false false false)).mode ≠ 10 ∧ ((sparing (spareOf false false false)).core 0).stores = [] ∧
      (sparing (spareOf false false false)).noneOrdered 0 = true ∧ ((sparing (spareOf false false false)).core 0).devLoad = none) ∧
    ((sparing (spareOf true true false)).cacheOn (39 / 10) (39 % 10) = true ∧ (sparing (spareOf true true false)).linesIn 0 0 0xFFFF = []) ∧
    ((sparing (spareOf true true true)).core 0).haltDue = false := by decide +kernel

/-- The module with the debug port enabled, core 0 running or halted. -/
def debugged (halted : Bool) : State :=
  let s := up.setFlag bEse F.BOOT_OPT_DEBUG_EN true
  if halted then s.park 0 else s

theorem witness_debug_halts :
    ((debugged false).mayAccess .svc (bEse + 0x0B0) = true ∧ (debugged false).accepts .svc esePage 0x0B0 0x100 = true ∧
      (debugged false).coreIssues 0 = true ∧ ((debugged false).core 0).halted = false ∧ ((debugged false).core 0).tx = none) ∧
    ((debugged true).accepts .svc esePage 0x0B0 0x200 = true ∧ ((debugged true).core 0).halted = true) ∧
    ((debugged true).fld bEse F.DBG_SEL_CORE = 0 ∧ (debugged true).accepts .svc esePage 0x0C8 0xFFFFFFFFFFFFFFFF = true ∧
      (debugged true).present esePage = true) := by decide +kernel

/-! ## Microcode -/

/-- Store `u` holds a microword at 0 and 5, nano-word 0 with a timeout of 3 for every TMO, and nano-word 1 with ARG in CONTROL nibble 1;
the copies of position 0 and the home agent run, at µPC 5. -/
def coded (u w : Nat) (waiting : Bool) : State :=
  let image : UcodeImage := { micro := [(0, w), (5, w)], nano := [(0, 0x30003), (1, 2 ^ 240 + 0xABCD)] }
  let seq : UcodeSeq := { upc := 5, stack := [9], waiting := waiting }
  ((((up.setFld (bPos 0) F.CORE_STAT_ROLE 1).setFlag (bPos 0) F.PRESENT true).setFlag bHome F.RUNNING true).setFlag (Page.base ⟨.icGlobal, 0⟩) F.RUNNING true).setStore u
    { image := image, seqs := [(0, seq)] }

/-- The microword at µPC of copy 0 of a store. -/
def wordAt (s : State) (u : Nat) : Nat := SMap.get 0 (s.imageOf u 0).micro (s.seqOf u 0).upc

theorem witness_microwords :
    ((coded 0 0x00003001 false).powered = true ∧ (coded 0 0x00003001 false).ucSteps 0 0 = true ∧ wordAt (coded 0 0x00003001 false) 0 = 0x00003001 ∧
      ((coded 0 0x00003001 false).seqOf 0 0).waiting = false ∧ (0x00003001).testBit 27 = false ∧ 0x00003001 / 2 ^ 22 % 4 = 0 ∧
      0x00003001 % 4096 < ucNanos 0) ∧
    (wordAt (coded 0 0x80000FFF false) 0 / 2 ^ 28 = 8 ∧ 0x80000FFF % 65536 < ucWords 0 ∧ wordAt (coded 0 0x90000FFF false) 0 / 2 ^ 28 = 9 ∧
      wordAt (coded 0 0xA0000FFF false) 0 / 2 ^ 28 = 10) ∧
    (wordAt (coded 0 0xB0000FFF false) 0 / 2 ^ 28 = 11 ∧ wordAt (coded 0 0xC0000000 false) 0 / 2 ^ 28 = 12 ∧
      ((coded 0 0xC0000000 false).seqOf 0 0).stack = [9]) ∧
    (wordAt (coded 0 0xD0000FF0 false) 0 / 2 ^ 28 = 13 ∧ 0xD0000FF0 % 65536 + (15 : BitVec 8).toNat < ucWords 0 ∧
      wordAt (coded 0 0xE0000000 false) 0 / 2 ^ 28 = 14) := by decide +kernel

theorem witness_microword_waits :
    (wordAt (coded 0 0x98050FFF false) 0 = 0x98050FFF ∧ (0x98050FFF).testBit 27 = true ∧ mwLegal 0 0x98050FFF = true ∧
      (coded 0 0x98050FFF false).condLine 0 0 (0x98050FFF / 2 ^ 16 % 64) false = false ∧
      SMap.get 0 ((coded 0 0x98050FFF false).imageOf 0 0).nano 0 / 2 ^ (16 * (0x98050FFF / 2 ^ 24 % 8)) % 2 ^ 16 ≠ 0) ∧
    ((coded 0 0x98050FFF true).ucSteps 0 0 = true ∧ ((coded 0 0x98050FFF true).seqOf 0 0).waiting = true) := by decide +kernel

theorem witness_microcode_faults :
    ((coded 3 0xF0000000 false).ucSteps 3 0 = true ∧ ((coded 3 0xF0000000 false).seqOf 3 0).waiting = false ∧
      mwLegal 3 (wordAt (coded 3 0xF0000000 false) 3) = false) ∧
    ((coded 7 0 false).ucSteps 7 0 = true ∧ mwLegal 7 (wordAt (coded 7 0 false) 7) = false) := by decide +kernel

/-- The module in Initialization, the window of a store running and in a state, with so many bytes received. -/
def window (u st : Nat) (count : Word) : State :=
  (((up.setFld bEse F.MODE_STAT_MODE 3).setFlag (bUcode u) F.RUN true).setFld (bUcode u) F.UC_STAT_STATE st).setReg (bUcode u + F.UC_COUNT_BYTES.off) count

theorem witness_microcode_window :
    ((window 7 0 0).mayAccess .ese (bUcode 7 + 0x040) = true ∧ (window 7 0 0).mayAccess .ese (bUcode 7 + 0x048) = true ∧
      (window 7 0 0).accepts .ese (ucodePage 7) 0x040 1 = true) ∧
    ((window 0 1 262136).accepts .ese (ucodePage 0) 0x048 0xFFFFFFFFFFFFFFFF = true ∧ (window 0 1 8).accepts .ese (ucodePage 0) 0x040 2 = true ∧
      (window 0 1 8).accepts .ese (ucodePage 0) 0x040 4 = true) := by decide +kernel

/-- The COMMIT of an empty buffer at store 3. -/
def committed : State := window 3 2 0

theorem witness_image_check :
    (committed.powered = true ∧ committed.mode ≠ 10 ∧ committed.ucState 3 = 2) ∧
    (match imageCheck 3 committed.staging (committed.fld (bUcode 3) F.UC_COUNT_BYTES) (committed.flag (bUcode 3) F.UC_STAT_OVF)
        (committed.reg (bUcode 3 + 0x060)) (committed.store 3).image with
      | .error r => decide (r = 2)
      | .ok _ => false) = true := by decide +kernel

/-- An image waits to be applied at a store; copy 0 is at its rest point, and no copy has switched. -/
def applying (u : Nat) : State :=
  (((coded u 0 false).setStore u { next := { micro := [(0, 0x80000000)] }, version := 5, digest := 6, seqs := [] }).setFld (bUcode u) F.UC_STAT_STATE 3)

theorem witness_copy_switch :
    ((applying 3).ucState 3 = 3 ∧ 0 ∈ (applying 3).ucWaiting 3 ∧ (∀ c ∈ (applying 3).ucTogether 3 0, (applying 3).ucCanSwitch 3 c = true) ∧
      (applying 3).mode ≠ 10) ∧
    (0 ∈ (applying 0).ucWaiting 0 ∧ (∀ c ∈ (applying 0).ucTogether 0 0, (applying 0).ucCanSwitch 0 c = true)) := by decide +kernel

/-! ## Channel stations, rings and scripts -/

/-- The zoned module with channel engines that serve, the firmware ring of 16 entries at 0x10000, and station 7 with an
entry on ports 3 and 15. -/
def channel : State :=
  let s := ((((zoned.setFlag bCss F.RUNNING true).setFlag bCss F.RUN true).setFlag bCss F.PRESENT true).setFld bCss F.CSS_PAIR_STAT_MODE 1).setReg (bCss + 0x058) 0x10041
  { s with pair := { receivers := [(16, { lease := true })] },
           css := { paths := [(65536 * 3 + 7, 0x1000000021005), (65536 * 15 + 7, 0x1000000021006)] } }

/-- The Glaze is set and zone 0 has the channel rings 5 and 6, at 0x20000. -/
def zoneRings : State :=
  (channel.setFlag bZctl F.ZT_STAT_GLAZED true).setReg (bCss + 0x800) (BitVec.ofNat 64 (5 + 2 * 2 ^ 10 + 4 * 2 ^ 16 + 0x20 * 2 ^ 24))

theorem witness_firmware_doorbell :
    (channel.powered = true ∧ channel.mayAccess .ese (bCss + 0x060) = true ∧ channel.accepts .ese cssPage 0x060 16 = true ∧
      (channel.setReg (bCss + 0x060) 16).flag bCss F.CSS_STAT_ESE_DRAIN = false ∧ (channel.setReg (bCss + 0x060) 16).enginesServe = true) ∧
    ((channel.setReg (bCss + 0x060) 16).ringPlace 1024).isSome = true ∧
    ((channel.setReg (bCss + 0x060) 16).zoneRead none (0x10000 + 0x80) 32).err = none ∧
    ((channel.setReg (bCss + 0x060) 16).zoneRead none (0x10000 + 0x80) 32).poison = false ∧
    (channel.setReg (bCss + 0x060) 16).unsolFor 1024 = [] ∧ ((16 : BitVec 32).toNat + 2 ^ 32 - (channel.ring 1024).cons) % 2 ^ 32 ≤ 2 ^ 4 ∧
    ((channel.setRing 1024 { error := true }).ring 1024).error = true := by decide +kernel

theorem witness_zone_doorbell :
    (zoneRings.mayAccess (.core 0 3) (Page.base ⟨.door, 0⟩ + 0x088) = true ∧ zoneRings.accepts (.core 0 3) ⟨.door, 0⟩ 0x088 0 = true) ∧
    ((zoneRings.ringPlace 6).map (fun p => p.index)) = some 1 ∧ (zoneRings.zoneRead (some 0) (0x20000 + 256 + 0x80) 32).err = none := by
  decide +kernel

/-- An entry stands at the head of the firmware ring, for station 7 in a state. -/
def submitted (op : Nat) (xcount arg : Nat) (station : Station) : State :=
  let words := leBytes 8 (op + 2 ^ 8 + 7 * 2 ^ 16 + xcount * 2 ^ 32) ++ leBytes 8 0xABCD ++ leBytes 8 (if op = 1 then 0x40000 else 0) ++ leBytes 8 arg
  ((channel.writeBytes 0x11000 words).setRing 1024 { target := 1 }).setStation 7 station

/-- Whether the head of the firmware ring is taken, and what it reads as. -/
def headIs (s : State) (f : Entry → Bool) : Bool :=
  s.ringReady 1024 && decide (s.outOfIdle < 4096) &&
  match s.headEntry 1024 with
  | (s1, some (p, e)) => !(s1.ring 1024).error && (s1.ring 1024).hasSlot p.e && p.zone.isNone && f e
  | _ => false

/-- A request of the firmware ring with a script at 0x40000. -/
def started : Request := { ring := 1024, zone := none, intr := false, tag := 5, tmo := 9, script := 0x40000 }

theorem witness_entries :
    headIs (submitted 1 0 0 {}) (fun e => decide (e.op = 1 ∧ e.station = 7 ∧ e.xcount = 0) && !e.malformed) = true ∧
    headIs (submitted 6 0 0 {}) (fun e => decide (e.op = 6) && e.malformed) = true ∧
    headIs (submitted 2 0 0 {}) (fun e => decide (e.op = 2) && !e.malformed) = true ∧
    headIs (submitted 3 0 0 { state := 1, req := some started }) (fun e => decide (e.op = 3) && !e.malformed) = true ∧
    headIs (submitted 4 0 0 {}) (fun e => decide (e.op = 4) && !e.malformed) = true ∧
    headIs (submitted 5 0 3 {}) (fun e => decide (e.op = 5 ∧ e.arg < 2 ^ (channel.portsOf 7).length) && !e.malformed) = true ∧
    headIs (submitted 5 0 4 {}) (fun e => decide (e.op = 5 ∧ 2 ^ (channel.portsOf 7).length ≤ e.arg) && !e.malformed) = true := by decide +kernel

/-- Station 7 in a state with a request, its path on port 3 usable; its script reads 1 byte into 0x50000, then 16 more. -/
def station7 (state : Nat) (r : Request) (path : Bool) : State :=
  let s := ((channel.writeBytes 0x40000 (leBytes 8 (2 * 32 + 2 ^ 9 + 2 ^ 16) ++ leBytes 8 0x50000)).writeBytes 0x40010
    (leBytes 8 (4 * 32 + 16 * 2 ^ 16) ++ leBytes 8 0x50000)).setStation 7 { state := state, req := some r }
  if path then (s.setFld (bCport 3) F.CP_STAT_STATE 3).setCport 3 { logins := [(5, { state := 2 })] } else s

/-- Whether the entry at the start or next in the script is read and is a plain input command. -/
def readsInput (s : State) (r : Request) (a : Nat) (first : Bool) : Bool :=
  let q := s.fetchSe r a first
  match q.res with
  | .ok (_, w, _) => decide (q.s.station 7 = s.station 7) && (w % 2 ^ 8 / 2 ^ 5 == 2 || w % 2 ^ 8 / 2 ^ 5 == 4) && !w.testBit 10 && !w.testBit 11
  | .error _ => false

theorem witness_station_events :
    ((station7 1 started true).enginesServe = true ∧ started.closing = false ∧ started.waits = false ∧ (station7 1 started true).selectPath 7 [] = some 3 ∧
      readsInput ((station7 1 started true).modReq 7 (fun x => { x with port := some 3, lastPort := 3 })) { started with port := some 3, lastPort := 3 } 0x40000 true = true) ∧
    (readsInput ((station7 2 { started with port := some 3, due := true, se := 0x40000 } true).modReq 7 (fun x => { x with due := false }))
      { started with port := some 3, se := 0x40000 } 0x40010 false = true) ∧
    (station7 1 started false).selectPath 7 started.lost = none ∧ started.tmo ≠ 0 := by decide +kernel

theorem witness_channel_tables :
    (((channel.setRing 5 { stalled := true }).ring 5).stalled = true ∧ (channel.setRing 5 { stalled := true }).unsolFor 5 = [] ∧
      (channel.setRing 5 { stalled := true }).enginesServe = true) ∧
    (channel.mayAccess .ese (bCport 15 + 0x408) = true ∧ channel.accepts .ese (cportPage 15) 0x408 0x0000040500021005 = true ∧ channel.cpUp 15 = false) ∧
    (channel.mayAccess .ese (bCss + 0x800 + 8 * 255) = true ∧
      channel.accepts .ese cssPage (0x800 + 8 * 255) (BitVec.ofNat 64 (5 + 2 * 2 ^ 10 + 4 * 2 ^ 16 + 0x20 * 2 ^ 24)) = true) := by decide +kernel

/-! ## The channel link -/

/-- Channel port 15 running, in a link state, with a link layer. -/
def linked (st : Nat) (x : CPort) : State :=
  ((channel.setFlag (bCport 15) F.RUN true).setReg (bCport 15 + 0x048) (BitVec.ofNat 64 st)).setFld (bCport 15) F.CP_STAT_STATE st |>.setCport 15 x

/-- The bytes of a frame with a TYPE, SEQ and payload, its CRC right or wrong. -/
def frameBytes (typ seq : Nat) (payload : List Byte) (good : Bool) : List Byte :=
  let body := leBytes 8 (typ + payload.length * 2 ^ 16 + 5 * 2 ^ 32 + 7 * 2 ^ 48) ++ leBytes 8 seq ++ leBytes 8 0 ++ leBytes 8 0 ++ payload
  body ++ leBytes 4 (crc32c body + (if good then 0 else 1))

theorem witness_link_starts :
    ((linked 1 {}).powered = true ∧ (linked 1 {}).mode ≠ 10 ∧ (linked 1 {}).flag (bCport 15) F.RUN = true ∧
      (linked 1 {}).fld (bCport 15) F.CP_STAT_STATE = 1 ∧ ((linked 1 {}).cport 15).lossDue = false ∧ (linked 5 {}).fld (bCport 15) F.CP_STAT_STATE = 5) ∧
    ((linked 2 {}).fld (bCport 15) F.CP_STAT_STATE = 2 ∧ ((linked 2 {}).cport 15).gotAck = false) ∧
    (((linked 3 {}).setFld (bCport 15) F.CP_STAT_LANES 3).fld (bCport 15) F.CP_STAT_LANES).testBit 1 = true := by decide +kernel

theorem witness_link_frames :
    (36 ≤ (frameBytes 0x22 1 (leBytes 8 0) true).length ∧
      crc32c ((frameBytes 0x22 1 (leBytes 8 0) false).take 40) ≠ leNat ((frameBytes 0x22 1 (leBytes 8 0) false).drop 40)) ∧
    (crc32c ((frameBytes 0x22 1 (leBytes 8 0) true).take 40) = leNat ((frameBytes 0x22 1 (leBytes 8 0) true).drop 40) ∧
      (parseFrame (frameBytes 0x22 1 (leBytes 8 0) true)).seq = (((linked 3 {}).cport 15).ack + 1) % 2 ^ 32 ∧
      (parseFrame (frameBytes 0x22 1 (leBytes 8 0) true)).flags.testBit 2 = false ∧ headerReserved (frameBytes 0x22 1 (leBytes 8 0) true) = false ∧
      frameLength (frameBytes 0x22 1 (leBytes 8 0) true) = 8 ∧
      (parseFrame (frameBytes 0x22 1 (leBytes 8 0) true)).wellFormed ((linked 3 {}).linkMaxpay 15) = true ∧
      0x10 ≤ (parseFrame (frameBytes 0x22 1 (leBytes 8 0) true)).typ) := by decide +kernel

/-- INIT of a peer unit with 16 credits, and INIT_ACK. -/
def initFrame (typ : Nat) : Frame := { typ := typ, payload := leBytes 16 (1 + 2 ^ 8 + 2 ^ 64 * 99) ++ leBytes 48 16 }

/-- LSTAT of a peer that lacks frame 5 and holds frame 6. -/
def lackFrame : Frame := { typ := 3, ack := 4, payload := leBytes 32 2 }

theorem witness_unsequenced_frames :
    (((linked 3 { now := [initFrame 1] }).cport 15).now = [initFrame 1] ∧ (initFrame 1).num 0 1 = 1 ∧ (initFrame 1).num 1 1 ≠ 0) ∧
    (((linked 2 { now := [initFrame 2], sentAck := true }).cport 15).sentAck = true ∧ ((channel.setCport 15 {}).pathsOn 14) = []) ∧
    (lackFrame.typ = 3 ∧ (lackFrame.num 0 32).testBit 0 = false ∧ 2 ≤ lackFrame.num 0 32 ∧
      ((linked 3 { unacked := [({ typ := 0x20, seq := 5 }, 1)], now := [lackFrame] }).cport 15).unacked = [({ typ := 0x20, seq := 5 }, 1)] ∧
      1 < (linked 3 {}).fld (bCport 15) F.CP_CFG_RTX_MAX + 1 ∧ 5 = (lackFrame.ack + 1) % 2 ^ 32) := by decide +kernel

theorem witness_link_timers :
    (((linked 4 { unacked := [({ typ := 0x20, seq := 5 }, 1)] }).cport 15).unacked.find? (fun u => u.1.seq == 5) = some ({ typ := 0x20, seq := 5 }, 1)) ∧
    ((linked 4 {}).fld (bCport 15) F.CP_CFG_RTX_MAX + 1 ≤ 100) ∧
    (SMap.find? ((linked 4 { logins := [(5, { tries := 4 })] }).cport 15).logins 5 = some { tries := 4 }) ∧
    ((linked 3 { lossDue := true, starts := 15 }).cport 15).lossDue = true := by decide +kernel

/-- Port 15 up with a frame delivered, the login of partner 6, and station 7 with a request whose path it is. -/
def delivered (f : Frame) (l : Login) (state : Nat) (r : Request) : State :=
  (linked 3 { inbox := [f], logins := [(6, l)] }).setStation 7 { state := state, req := some { r with port := some 15, xid := 9 } }

/-- Requests with an input command, four bytes of which have come, and an output command. -/
def inbound : Request := { started with rxoff := 4, word := 64 }
def outbound : Request := { started with word := 32 }

/-- A frame of that exchange. -/
def xframe (typ cidx xoff : Nat) (payload : List Byte) : Frame :=
  { typ := typ, partner := 6, station := 2, xid := 9, cidx := cidx, xoff := xoff, payload := payload, flags := 1 }

theorem witness_exchange_frames :
    ((delivered (xframe 0x21 0 2 (leBytes 8 5)) { state := 2 } 2 inbound).stationOfX 15 (xframe 0x21 0 2 (leBytes 8 5)) = some 7 ∧
      ((delivered (xframe 0x21 0 2 (leBytes 8 5)) { state := 2 } 2 inbound).station 7).state = 2 ∧
      inbound.outbound = false ∧ outbound.outbound = true) ∧
    ((xframe 0x22 0 0 (leBytes 8 0x20)).num 0 1 = 0x20 ∧ (xframe 0x22 0 0 (leBytes 8 1)).num 0 1 = 1) ∧
    ((xframe 0x27 0 0 (leBytes 16 0)).num 0 1 = 0 ∧ ((xframe 0x27 0 0 (leBytes 16 0)).num 1 1).testBit 0 = false ∧
      ((xframe 0x27 0 0 (leBytes 16 0x100)).num 1 1).testBit 0 = true) ∧
    (SMap.find? ((delivered (xframe 0x11 0 0 (leBytes 16 0)) { state := 1 } 0 started).cport 15).logins 6 = some { state := 1 } ∧
      (delivered (xframe 0x12 0 0 []) { state := 2 } 0 started).openWith 15 6 = []) := by decide +kernel

theorem witness_unsolicited_status :
    (∀ y ∈ channel.pathsOn 15, pePartner y.2 = 6 → peUnit y.2 ≠ 3) ∧
    ((channel.pathsOn 15).find? (fun y => pePartner y.2 == 6 && peUnit y.2 == 2)).map (·.1) = some 7 ∧
    (let s := ((zoneRings.setReg (0x43000 + 8 * (7 / 4)) 0x8000800080008000).setPath 15 7 0x0001_0405_0002_1006)
     ((s.pathsOn 15).find? (fun y => pePartner y.2 == 6 && peUnit y.2 == 2)).map (fun y => (peAringEn y.2, peAring y.2)) = some (true, 5) ∧
       s.ringZone 5 = some 0 ∧ s.stationOwner 7 = some 0) := by decide +kernel

theorem witness_channel_commands :
    ((linked 0 {}).mayAccess .ese (bCport 15 + 0x058) = true ∧ (linked 0 {}).accepts .ese (cportPage 15) 0x058 1 = true ∧
      (linked 3 {}).accepts .ese (cportPage 15) 0x058 2 = true) := by decide +kernel

/-! ## The channel engine pair -/

/-- A paired module in a mode of the pair, engine 0 the holder with role 1, engine 1 in a role. -/
def engines (mode role1 : Nat) (p : Pair) : State :=
  let s := (((((channel.setFlag (bEng 0) F.PRESENT true).setFlag (bEng 1) F.PRESENT true).setFld (bEng 0) F.ENG_STAT_ROLE 1).setFld (bEng 1)
    F.ENG_STAT_ROLE role1).setFld bCss F.CSS_PAIR_STAT_MODE mode).setFld bCss F.CSS_PAIR_STAT_HOLDER 0
  { s with pair := p }

/-- A receiver under engine 0's lease with a copy of output 4 held. -/
def holding (engine : Nat) : Receiver :=
  { next := 4, held := [{ engine := engine, oseq := 4, data := 7, cycle := 10 }], holder := 0, lease := true }

theorem witness_engine_cycles :
    ((engines 3 2 { cycle := 10 }).powered = true ∧ (engines 3 2 { cycle := 10 }).mode ≠ 10 ∧ (engines 3 2 { cycle := 10 }).pairMode = 3 ∧
      (engines 3 2 { cycle := 10 }).cycleMayRun = true ∧ (engines 3 2 { cycle := 10 }).executes 0 = true ∧
      17 ∈ (engines 3 2 { cycle := 10 }).receiverList) ∧
    (((engines 3 2 { cycle := 10, receivers := [(17, holding 1)] }).receiver 17).held = (holding 1).held ∧
      (engines 3 2 { cycle := 10 }).executes 1 = true ∧ seqBefore (3 : BitVec 32).toNat (holding 1).next = true ∧ 10 < 10 + 16) ∧
    ((engines 3 2 { cycle := 10, receivers := [(17, holding 0)] }).paired = true ∧
      (engines 3 2 { cycle := 10, receivers := [(17, holding 0)] }).holder = (holding 0).holder) := by decide +kernel

theorem witness_pair_events :
    (((engines 3 2 { cycle := 10, event := some { cause := 3, receiver := 31, cycle := 10 } }).pair.event =
      some { cause := 3, receiver := 31, cycle := 10 }) ∧
    ((engines 3 2 { cycle := 10, event := some { cause := 3, receiver := 31, cycle := 10, selfA := true, second := true, retried := true } }).pair.event =
      some { cause := 3, receiver := 31, cycle := 10, selfA := true, second := true, retried := true })) ∧
    (((engines 3 2 {}).setReg (bCss + F.CSS_PAIR_INJECT_ARM.off) 0xFFFFFFFFFFFFFFFF).setFld bCss F.CSS_PAIR_INJECT_KIND 1).flag bCss F.CSS_PAIR_INJECT_ARM = true ∧
    (((engines 3 2 {}).setReg (bCss + F.CSS_PAIR_INJECT_ARM.off) 0xFFFFFFFFFFFFFFFF).setFld bCss F.CSS_PAIR_INJECT_KIND 1).fld bCss F.CSS_PAIR_INJECT_KIND = 1 := by
  decide +kernel

/-- A pass to engine 1 with acknowledgements due, PASSING set. -/
def passingTo (due : List Nat) : State :=
  (engines 3 2 { pass := some (1, due), receivers := [(16, { lease := true, revoked := true }), (17, { lease := true })] }).setFlag bCss
    F.CSS_PAIR_STAT_PASSING true

theorem witness_passes :
    ((engines 3 2 { pass := some (1, [16]) }).pair.pass = some (1, [16]) ∧ (engines 3 2 { pass := some (1, [16]) }).passing = false) ∧
    ((passingTo [17]).passing = true ∧ (17 : Fin 18).val ∈ [17] ∧ (passingTo []).pairMode ≠ 4 ∧ 17 ∈ (passingTo []).receiverList) ∧
    ((engines 3 2 {}).engRole (engines 3 2 {}).holder = 1 ∧ (engines 3 2 {}).pair.pass = none) ∧
    (((engines 3 2 { receivers := [(17, { lease := true, renewed := 0 - 100 })] }).receiver 17).lease = true ∧
      100 ≤ ((engines 3 2 {}).timebase - (0 - 100)).toNat) ∧
    ((engines 3 2 {}).setReg (bCss + F.CSS_HOME_ENGINE.off) 0xFFFFFFFFFFFFFFFF).pairClean = true := by decide +kernel

theorem witness_pair_recovery :
    ((engines 2 3 {}).pairMode = 2 ∧ (engines 4 3 {}).pairMode = 4 ∧ (engines 4 3 {}).paired = true ∧ (engines 5 0 {}).pairMode = 5) ∧
    ((engines 1 6 { repairing := some 1 }).pair.repairing = some 1 ∧ (engines 1 6 {}).pairMode = 1 ∧ 1 ≠ (engines 1 6 {}).holder) ∧
    ((engines 3 2 {}).mayAccess .ese (bCss + 0x110) = true ∧ (engines 3 2 {}).accepts .ese cssPage 0x110 1 = true ∧
      (engines 1 5 {}).accepts .ese cssPage 0x110 0x102 = true ∧ (engines 1 4 {}).accepts .ese cssPage 0x110 4 = true) := by decide +kernel

/-! ## Keys, descriptor rings and cipher jobs -/

/-- The zoned module with the Glaze set and a cipher engine whose key slots 0 to 3 are zone 0's. -/
def ciphers : State :=
  ((((zoned.setFlag bZctl F.ZT_STAT_GLAZED true).setFlag bCipher F.PRESENT true).setFlag bCipher F.RUN true).setFlag bCipher F.RUNNING true).setReg
    0x63000 0x8000800080008000

/-- A load of LEN `len` into slot `k` open in buffer `l`, with key words received. -/
def loading (l k len : Nat) (ws : List Word) : State :=
  (((ciphers.setReg (keyBase l) (BitVec.ofNat 64 (k + 4096 * len))).setKeyStat l 0 3 1).setKeyStat l 8 4 ws.length).setKeyLoad l
    { words := ws, selected := true }

/-- A slot that holds a key and is in use. -/
def busySlot : KeySlot := { words := [1, 2], uses := 1 }

theorem witness_key_select :
    (ciphers.powered = true ∧ ciphers.mayAccess (.core 0 1) (Page.base ⟨.door, 0⟩ + 0x200) = true ∧
      ciphers.mayAccess (.core 0 1) (Page.base ⟨.door, 0⟩ + 0x208) = true ∧ ciphers.mayAccess (.core 0 1) (Page.base ⟨.door, 0⟩ + 0x210) = true) ∧
    ciphers.accepts (.core 0 1) ⟨.door, 0⟩ 0x200 0x24002 = true ∧
    (ciphers.mayAccess (.core 0 3) (cipherPage.base + 0x068) = true ∧ ciphers.mayAccess (.core 0 3) (cipherPage.base + 0x070) = true ∧
      ciphers.mayAccess (.core 0 3) (cipherPage.base + 0x078) = true ∧ ciphers.accepts (.core 0 3) cipherPage 0x068 0xFFF = true) := by decide +kernel

theorem witness_key_load :
    ((loading 0 2 4 []).accepts (.core 0 1) ⟨.door, 0⟩ 0x208 5 = true ∧ (loading 256 4095 0 [1]).accepts (.core 0 3) cipherPage 0x070 5 = true) ∧
    ((loading 0 2 4 []).accepts (.core 0 1) ⟨.door, 0⟩ 0x210 1 = true ∧ ([] : List Word).length < keyWords ((loading 0 2 4 []).selLen 0)) ∧
    ((loading 0 2 3 [1, 2, 1, 2]).accepts (.core 0 1) ⟨.door, 0⟩ 0x210 1 = true ∧ isXts ((loading 0 2 3 []).selLen 0) = true) ∧
    ((loading 0 2 3 [1, 2, 3, 4]).accepts (.core 0 1) ⟨.door, 0⟩ 0x210 1 = true) ∧
    (((loading 0 2 3 [1, 2, 3, 4]).setSlot 3 busySlot).accepts (.core 0 1) ⟨.door, 0⟩ 0x210 1 = true) ∧
    (loading 256 4095 2 [1, 2, 3, 4]).accepts (.core 0 3) cipherPage 0x078 1 = true := by decide +kernel

theorem witness_key_erase :
    ((loading 0 2 0 []).setSlot 2 busySlot).accepts (.core 0 1) ⟨.door, 0⟩ 0x210 2 = true ∧
    ((loading 0 2 0 []).setSlot 2 { words := [1, 2] }).accepts (.core 0 1) ⟨.door, 0⟩ 0x210 2 = true ∧
    (loading 0 2 0 [1]).accepts (.core 0 1) ⟨.door, 0⟩ 0x210 4 = true ∧ ciphers.accepts (.core 0 1) ⟨.door, 0⟩ 0x210 4 = true ∧
    (ciphers.mayAccess .ese (bCipher + 0x098) = true ∧ ciphers.accepts .ese cipherPage 0x098 1 = true) := by decide +kernel

/-- The cipher engine with zone 0's rings, 4 entries each, at 0x20000 and the firmware ring at 0x10000. -/
def cipherRings : State :=
  (ciphers.setReg (bCipher + 0x800) (BitVec.ofNat 64 (1 + 2 * 2 ^ 4 + 0x20 * 2 ^ 24))).setReg (bCipher + 0x058)
    (BitVec.ofNat 64 (1 + 4 * 2 ^ 4 + 0x10 * 2 ^ 12))

/-- What a doorbell write of a value needs, and whether the control record of its ring reads. -/
def doorReads (s : State) (comp : Bool) (src : Src) (pg : Page) (off r v : Nat) : Bool :=
  let s0 := s.setReg (pg.base + off) (storeFields (s.reg (pg.base + off)) (BitVec.ofNat 64 v) [] ((pageFields pg off).getD []))
  s.mayAccess src (pg.base + off) && s.accepts src pg off (BitVec.ofNat 64 v) && s0.present (dPage comp) &&
  match s0.dPlace comp r with
  | some p =>
    let q := s0.zoneRead p.zone (p.control + 0x20) 16
    q.err.isNone && !q.poison
  | none => false

theorem witness_descriptor_doorbells :
    doorReads cipherRings false (.core 0 1) ⟨.door, 0⟩ 0x100 0 4 = true ∧ doorReads cipherRings false (.core 0 1) ⟨.door, 0⟩ 0x100 0 5 = true ∧
    doorReads cipherRings false (.core 0 3) cipherPage 0x060 2048 16 = true ∧
    doorReads (cipherRings.setDRing false 0 { error := true }) false (.core 0 1) ⟨.door, 0⟩ 0x100 0 4 = true ∧
    doorReads ((cipherRings.setDRing false 0 { error := true }).writeBytes 0x20028 [1]) false (.core 0 1) ⟨.door, 0⟩ 0x100 0 4 = true := by
  decide +kernel

/-- A descriptor at the head of the firmware ring: AES-CTR of 16 bytes at 0x50000 to 0x60000 with slot 2, its parameters at 0x70000. -/
def ctrTaken (mode : Nat) : State :=
  (((cipherRings.writeBytes 0x11000 (leBytes 8 (mode + 2 * 2 ^ 16) ++ leBytes 8 0x50000 ++ leBytes 8 0x60000 ++ leBytes 8 16 ++ leBytes 8 0x70000)).setDRing
    false 2048 { target := 1 }).setSlot 2 { words := [1, 2] })

/-- The descriptor that a state's firmware ring holds next, as a job, and what its checks answer. -/
def takes (s : State) : Option (Except (Nat × Nat) CJob) :=
  match s.dPlace false 2048 with
  | some p =>
    let x := s.dRing false 2048
    let d := s.zoneRead p.zone (p.desc x.taken) 64
    let j : CJob := { ring := 2048, index := x.taken, zone := p.zone, words := (List.range 6).map (fun i => leNat ((d.data.drop (8 * i)).take 8)) }
    if s.dReady false 2048 && d.err.isNone && !d.poison then
      some (((d.s.setDRing false 2048 { x with taken := (x.taken + 1) % 2 ^ 32 }).useSlots (d.s.slotsOf j.slot) true).checkCJob j).res
    else none
  | none => none

theorem witness_cipher_descriptors :
    (match takes (ctrTaken 3) with | some (.ok k) => decide (k.unitCount = 1) | _ => false) = true ∧
    (match takes (ctrTaken 7) with | some (.error e) => decide (e = (3, 0)) | _ => false) = true ∧ (ctrTaken 3).cJobs = [] := by decide +kernel

/-- A job that opens a sealed segment, its unit, and a pipeline that holds one. -/
def sealedJob : CJob :=
  { ring := 2048, index := 0, zone := none, words := [1 + 16 + 32 + 2 * 2 ^ 16, 0x50000, 0x60000, 40, 0x70000], iv := List.replicate 16 0,
    taglen := 16, seglog := 9, units := 1 }
def sealedUnit : CUnit := { inline := false, owner := 2048, job := 0, index := 0, last := true }
def pipes (x : CPipe) (waiting : List CUnit) : State :=
  let on := fun (s : State) (n : Nat) => ((s.setFlag (bCpipe n) F.PRESENT true).setFlag (bCpipe n) F.RUN true).setFlag (bCpipe n) F.RUNNING true
  let s := (on (on cipherRings 0) 15).setSlot 2 { words := [1, 2] }
  { s with cJobs := [sealedJob], cUnits := waiting }.setPipe 15 x

theorem witness_cipher_units :
    ((pipes {} [sealedUnit]).powered = true ∧ (pipes {} [sealedUnit]).mode ≠ 10 ∧ (pipes {} [sealedUnit]).pipeOk 15 = true ∧
      (pipes {} [sealedUnit]).pipeOk 0 = true ∧ (pipes {} [sealedUnit]).cJob 2048 0 = some sealedJob ∧
      (pipes {} [sealedUnit]).flag (bCpipe 15) F.RUN = true ∧ (pipes {} [sealedUnit]).running cipherPage = true ∧
      (pipes {} [sealedUnit]).flag bCipher F.FAULT = false ∧ (pipes {} [sealedUnit]).nextUnit = some sealedUnit) ∧
    (sealedJob.cmode = 1 ∧ sealedJob.isSealed = true ∧ sealedJob.decrypts = true) ∧
    (((pipes {} [sealedUnit]).takeCUnit sealedUnit).zoneRead none 0x50000 40).err = none ∧
    (((pipes {} [sealedUnit]).takeCUnit sealedUnit).zoneRead none 0x50000 40).poison = false := by decide +kernel

theorem witness_tags :
    ((pipes { unit := some sealedUnit, plain := [1] } []).pipe 15).tagOk = false ∧
    ((pipes { unit := some sealedUnit, plain := [1], tagOk := true } []).pipe 15).tagOk = true ∧
    ((pipes { unit := some sealedUnit, tagOk := true, verify := some [1] } []).pipe 15).verify = some [1] ∧
    ((pipes { unit := some sealedUnit, verify := some [1] } []).pipe 15).tagOk = false ∧
    ((pipes { zeroizing := true } []).pipe 15).zeroizing = true ∧ ((pipes {} []).slot 2).loaded = true := by decide +kernel

/-- The completion of an ended job passes. -/
def completes (s : State) : Bool :=
  match s.cJobs.find? (fun k => k.ring == 2048) with
  | some j =>
    decide (j.status ≠ 0) && !(s.dRing false 2048).error &&
    (((match j.next with | some iv => (s.zoneWrite 5 j.zone (j.word 4 + 0x30) iv).s | none => s).dComplete false 2048 j.index
      (1 + 2 ^ 8 * j.status + 2 ^ 32 * j.written) j.result j.intr j.orphan).2)
  | none => false

theorem witness_cipher_completion :
    completes { pipes {} [] with cJobs := [{ sealedJob with status := 1 }] } = true ∧
    completes { pipes {} [] with cJobs := [{ sealedJob with status := 2, next := some (List.replicate 16 1) }] } = true := by decide +kernel

theorem test_wrong_tag_writes_nothing :
    (match execTagCompare 15 (pipes { unit := some sealedUnit, plain := [1] } []) with
     | .next t => decide ((t.pipe 15).plain = [] ∧ (t.cJobs.map (fun k => k.status)) = [2]) && decide (t.mem = (pipes {} []).mem)
     | _ => false) = true := by decide +kernel

/-! ## Compression jobs -/

/-- The zoned module with a compression engine whose units 0, 7, 8 and 15 serve, and its firmware ring at 0x10000. -/
def compressors : State :=
  let on := fun (s : State) (p : Page) => ((s.setFlag p.base F.PRESENT true).setFlag p.base F.RUN true).setFlag p.base F.RUNNING true
  ([compPage, zPage 0, zPage 7, zPage 8, zPage 15].foldl on zoned).setReg (bComp + 0x058) (BitVec.ofNat 64 (1 + 4 * 2 ^ 4 + 0x10 * 2 ^ 12))

/-- A compression descriptor at the head of the firmware ring: an OP, its ZSTATE, 16 bytes at 0x50000 to 0x60000. -/
def compressionTaken (op zstate : Nat) : State :=
  (compressors.writeBytes 0x11000 (leBytes 8 op ++ leBytes 8 0x50000 ++ leBytes 8 0x60000 ++ leBytes 8 (16 + 2 ^ 32 * 1000) ++ leBytes 8 zstate)).setDRing
    true 2048 { target := 1 }

/-- The descriptor that a state's firmware ring holds next, what its checks answer, and whether a unit is free for it. -/
def compresses (s : State) : Option (Except (Nat × Nat) ZJob) :=
  match s.dPlace true 2048 with
  | some p =>
    let x := s.dRing true 2048
    let d := s.zoneRead p.zone (p.desc x.taken) 64
    let j : ZJob := { ring := 2048, index := x.taken, zone := p.zone, words := (List.range 6).map (fun i => leNat ((d.data.drop (8 * i)).take 8)) }
    if s.dReady true 2048 && d.err.isNone && !d.poison && (s.unitForJob j.compress).isSome then
      some ((d.s.setDRing true 2048 { x with taken := (x.taken + 1) % 2 ^ 32 }).checkZJob j).res
    else none
  | none => none

theorem witness_compression_descriptors :
    (match compresses (compressionTaken 1 0) with | some (.ok k) => decide (k.zstate = 0 ∧ k.zpa = none) | _ => false) = true ∧
    (match compresses (compressionTaken 2 0) with | some (.ok k) => decide (k.zstate = 0 ∧ k.zpa = none) | _ => false) = true ∧
    (match compresses (compressionTaken 3 0) with | some (.error e) => decide (e = (3, 0)) | _ => false) = true ∧
    (match compresses (compressionTaken 1 0xFFFFFFFFFFFFFF80) with | some (.error e) => decide (e.1 = 6) | _ => false) = true ∧
    (compressionTaken 1 0).zJobs = [] := by decide +kernel

/-- A decompression job of the firmware ring with a state block at 0x90000, on unit 15, in a phase. -/
def restoring (phase : Nat) (save : Option (List Byte)) (bytes : List Byte) : State :=
  { compressors.writeBytes 0x90000 bytes with
    zJobs := [{ ring := 2048, index := 0, zone := none, words := [2, 0x50000, 0x60000, 16 + 2 ^ 32 * 1000, 0x90000], unit := some 15,
                phase := phase, save := save }] }

/-- A restore of the block of unit 15's job reads, and the block can not be used. -/
def restoreReads (s : State) : Bool :=
  let h := s.zoneRead none 0x90000 64
  let b := h.s.zoneRead none 0x90000 40960
  h.err.isNone && !h.poison && decide (leNat (h.data.take 4) ≠ 0) && b.err.isNone && !b.poison && (zRestore false 0 b.data).isNone

theorem witness_restore :
    ((restoring 1 none []).powered = true ∧ (restoring 1 none []).mode ≠ 10 ∧ (restoring 1 none []).zUnitOk 15 = true ∧
      (restoring 1 none []).zJobOf 15 = (restoring 1 none []).zJobs.head?) ∧
    (let h := (restoring 1 none []).zoneRead none 0x90000 64
     h.err = none ∧ h.poison = false ∧ leNat (h.data.take 4) = 0) ∧
    restoreReads (restoring 1 none [1]) = true := by decide +kernel

theorem witness_save :
    ((restoring 2 (some (leBytes 4 0)) []).zoneWrite 6 none 0x90000 (leBytes 4 0)).err = none ∧
    ((restoring 2 none []).present (zPage 15) = true ∧ (restoring 2 none []).zStation 15 = none ∧
      (restoring 2 none []).present (zPage 8) = true ∧ (restoring 2 none []).zUnitOk 8 = true) := by decide +kernel

/-- A job's source is read and its output written. -/
def runs (j : ZJob) (z : ZState) (s : State) (short : Bool) : Bool :=
  let r := s.zoneRead j.zone j.src j.len
  let c := zCompress { z with zparm := j.zparm, tables := j.tables } j.table r.data (zCont j.zparm) (zSync j.zparm)
  let d := zDecompress { z with zparm := j.zparm } r.data j.cap
  let w := if j.compress then (r.s.count (zPage 0).base F.ZU_CNT_BYTES r.data.length).zoneWrite 6 j.zone j.dst (c.out.take j.cap)
    else (r.s.count (zPage 0).base F.ZU_CNT_BYTES d.out.length).zoneWrite 6 j.zone j.dst d.out
  r.err.isNone && !r.poison && w.err.isNone && (!j.compress || decide (j.cap < c.out.length) == short)

/-- A job of the firmware ring with an OP over 4 bytes, and a place for some bytes of output. -/
def job (op cap : Nat) : ZJob :=
  { ring := 2048, index := 0, zone := none, words := [op, 0x50000, 0x60000, 4 + 2 ^ 32 * cap, 0] }

theorem witness_compression_runs :
    runs (job 1 1000) (ZState.new true 0 0) compressors false = true ∧ runs (job 1 1) (ZState.new true 0 0) compressors true = true ∧
    runs (job 2 1000) (ZState.new false 0 0) compressors false = true := by decide +kernel

/-- Jobs of the firmware ring that wait for their block, or are done. -/
def waiting (phase : Nat) : State :=
  { compressors with zJobs := [{ ring := 2048, index := 0, zone := none, words := [1, 0x50000, 0x60000, 4 + 2 ^ 32 * 1000, 0x90000], zpa := some 0x90000,
                                 phase := phase, status := 1 }] }

/-- A request whose START waits for the block, and one with a stream on unit 0 or parked. -/
def streaming (unit : Option Nat) (parked waits : Bool) : Request :=
  { ring := 1024, zone := none, intr := false, tag := 5, tmo := 9, script := 0x40000, lastPort := 15, waits := waits, zpas := if waits then [0x90000] else [],
    xforms := [{ kind := 1, slot := 0, cmode := 0, zparm := 0, cparam := 0, zstate := 0, unit := unit, parked := parked }] }
def streams (unit : Option Nat) (parked waits : Bool) : State :=
  let on := fun (s : State) (p : Page) => ((s.setFlag p.base F.PRESENT true).setFlag p.base F.RUN true).setFlag p.base F.RUNNING true
  { ([compPage, zPage 7].foldl on channel).setStation 7 { state := 2, req := some (streaming unit parked waits) } with zJobs := (waiting 0).zJobs }

theorem witness_compression_ends :
    ((waiting 0).zJobs.find? (fun k => k.ring == 2048 && k.phase == 0 && k.unit.isNone && k.zpa.all (fun a => !(waiting 0).zpasRunning.contains a)) =
      (waiting 0).zJobs.head? ∧ (waiting 0).unitForJob true = some 0 ∧ (waiting 0).running compPage = true) ∧
    ((waiting 3).dComplete true 2048 0 (1 + 2 ^ 8 * 1) 0 false false).2 = true ∧ ((waiting 3).dRing true 2048).error = false := by
  decide +kernel

theorem witness_streams :
    ((streams none false true).station 7).req = some (streaming none false true) ∧ (streams none false true).zpasRunning = [] ∧
    ((streams (some 7) false false).zStation 7 = some (7, streaming (some 7) false false) ∧ (streams (some 7) false false).parkedOn 15 < 4 ∧
      (streams (some 7) false false).zUnitOk 7 = true ∧ (streams (some 7) false false).zWorkWaits true = true) ∧
    ((streams none true false).present (zPage 7) = true ∧ (streams none true false).zUnitBusy 7 = false ∧
      (streams none true false).zUnitOk 7 = true ∧ (streams none true false).enginesServe = true) := by decide +kernel

/-! ## The interrupt controller -/

/-- The module with a source of core 0 (5) and one of the ESE (6) in zone 0, root port 1 and message writes on, requester 0x100 being zone 0's. -/
def irqs : State :=
  let s := ((((zoned.setFlag icPage.base F.PRESENT true).setFlag icPage.base F.RUNNING true).setFlag bIc F.RUN true).setFlag (rportPage 1).base F.PRESENT true).setFld
    bIc F.IC_CTL_MSI_EN 1
  (((s.setReg 0x65008 0x8000800080008000).setReg ztIorid 0xFFFF01000003).setSource 5 { word0 := 0x9080 }).setSource 6 { word0 := 0x90C0 }

theorem witness_sources :
    ((irqs.setSource 5 { word0 := 0x9080, pend := true }).source 5).offerable = false ∧ (irqs.source 5).active = false ∧ (irqs.source 5).holdoff = 0 ∧
    (irqs.mode ≠ 10 ∧ irqs.mayAccess .ese (0x680000 + 16 * 8191 + 8) = true ∧ irqs.mayAccess (.core 0 2) (0x680000 + 16 * 5 + 8) = true ∧
      irqs.mayAccess (.core 0 2) (0x680000 + 16 * 5) = true ∧ irqs.sourceWriteOwned (irqs.srcZone (.core 0 2)) 5 true 4 = true) := by decide +kernel

theorem witness_source_words :
    (irqs.setReg ztCoreZone 0x100).sourceWriteOwned 0 5 false 0x9080 = true ∧ (irqs.setReg ztCoreZone 0x100).srcZone (.core 0 2) = 0 ∧
    (irqs.setReg ztCoreZone 0x100).mayAccess (.core 0 2) (0x680000 + 16 * 5) = true := by decide +kernel

theorem witness_end_of_interrupt :
    ((withCore irqs (fun c => { c with icStack := [(5, 0x90)] })).mayAccess (.core 0 1) (bIface 0 + 0x048) = true ∧
      (withCore irqs (fun c => { c with icStack := [(5, 0x90)] })).accepts (.core 0 1) ⟨.icIface, 0⟩ 0x048 5 = true ∧
      ((withCore irqs (fun c => { c with icStack := [(5, 0x90)] })).core 0).icStack = [] ++ [(5, 0x90)]) ∧
    (irqs.mayAccess (.core 0 1) (bIface 0 + 0x060) = true ∧ irqs.accepts (.core 0 1) ⟨.icIface, 0⟩ 0x060 7 = true) := by decide +kernel

theorem witness_message_writes :
    (irqs.uncoreUp = true ∧ irqs.present (rportPage 1) = true ∧ irqs.fld bIc F.IC_CTL_MSI_EN = 1 ∧ irqs.requesterZone 1 0x100 = some 0 ∧
      irqs.irqOwner (leNat (leBytes 4 5)) = some 0) ∧
    irqs.requesterZone 0 0x100 = none ∧ (irqs.setFld bIc F.IC_CTL_MSI_EN 0).fld bIc F.IC_CTL_MSI_EN = 0 := by decide +kernel

theorem witness_ese_events :
    (irqs.icOffers = true ∧ irqs.ese.queue.length < 64 ∧
      (irqs.setSource 6 { word0 := 0x90C0, pend := true, offerable := true }).nextForEse = some 6) ∧
    irqs.mayAccess .svc (bEse + 0x080) = true ∧ irqs.present esePage = true := by decide +kernel

/-! ## Power -/

/-- Core 0 of the zoned module at position 0, active, with everything deep allowed, waiting with a selection. -/
def resting (pstate sel : Nat) : State :=
  let s := ((((zoned.setFld (bPos 0) F.CORE_STAT_ROLE 1).setFlag (bPos 0) F.PRESENT true).setFld bPwr F.PWR_CTL_DEEPEST 4).setFlag (bPos 0)
    F.CACHE_STAT_L2_ON true).setFld (bTilePwr 0) (pstateFld 0) pstate
  withCore s (fun c => { c with waiting := true, sel := sel })

/-- An interrupt waits for core 0 at its machine check. -/
def woken (pstate sel : Nat) : State := withCore (resting pstate sel) (fun c => { c with ase := true })

theorem witness_power_states :
    ((resting 0 3).mode ≠ 10 ∧ (resting 0 3).split = false ∧ (resting 0 3).coreValid 0 = true ∧ (resting 0 3).coresAt ((resting 0 3).posOf 0) = [0] ∧
      (resting 0 3).role ((resting 0 3).posOf 0) = 1 ∧ ((resting 0 3).core 0).waiting = true ∧ (resting 0 3).pstate 0 < 3 ∧
      (resting 0 3).wakePending 0 = false) ∧
    ((woken 3 3).coresAt ((woken 3 3).posOf 0) = [0] ∧ 0 < (woken 3 3).pstate 0 ∧ (woken 3 3).wakePending 0 = true ∧ (woken 3 3).tileDeep 0 = false) := by
  decide +kernel

theorem witness_tile_deep :
    ((∃ i, i < 10 ∧ (resting 3 3).role (10 * 0 + i) = 1) ∧ (∀ i, i < 10 → (resting 3 3).role (10 * 0 + i) = 1 → (resting 3 3).pstate (10 * 0 + i) = 3) ∧
      (resting 3 3).fld bPwr F.PWR_CTL_DEEPEST = 4 ∧ (resting 3 3).flag (bTilePwr 0) F.TILE_DIV_STEPPING = false ∧ (resting 3 3).tileDeep 0 = false ∧
      (∀ n, n < 64 → (resting 3 3).coreValid n = true → (resting 3 3).posOf n / 10 = 0 → fits 120000 ((resting 3 3).tolerance n) = true)) ∧
    (((woken 3 3).setFld (bTilePwr 0) F.TILE_STAT_TSTATE 2).tileDeep 0 = true ∧ ((woken 3 3).setFld (bTilePwr 0) F.TILE_STAT_TSTATE 2).wakePending 0 = true ∧
      (woken 3 3).posOf 0 / 10 = 0 ∧ (woken 3 3).coreValid 0 = true) ∧
    ((((resting 3 3).setFld (bTilePwr 0) F.TILE_STAT_TSTATE 2).raiseBank 0).power.raised = [0] ∧
      (((resting 3 3).setFld (bTilePwr 0) F.TILE_STAT_TSTATE 2).raiseBank 0).tileDeep 0 = true) := by decide +kernel

/-- A divider and its request in tile 3, a reading of its junction, and its throttle. -/
def tile3 (cur req tj : Nat) (stepping throttled : Bool) : State :=
  (((((zoned.setFld (bTilePwr 3) F.TILE_DIV_CUR cur).setFld (bTilePwr 3) F.TILE_DIV_REQ req).setFld (bTilePwr 3) F.TILE_THERM_TJ tj).setFlag (bTilePwr 3)
    F.TILE_DIV_STEPPING stepping).setFlag (bTilePwr 3) F.TILE_STAT_THROTTLED throttled).setFld bPwr F.PWR_CTL_THR_TEMP 100

theorem witness_dividers :
    (((zoned.setFlag bPwr F.PWR_CTL_LFC_EN true).flag bPwr F.PWR_CTL_LFC_EN = true) ∧ zoned.power.linkFree ≤ zoned.nowNs) ∧
    ((tile3 0 4 50 true false).mode ≠ 0 ∧ (tile3 0 4 50 true false).flag (bTilePwr 3) F.TILE_DIV_STEPPING = true ∧
      (tile3 0 4 50 true false).divider 3 < (tile3 0 4 50 true false).fld (bTilePwr 3) F.TILE_DIV_REQ) ∧
    ((tile3 4 0 50 true false).flag (bTilePwr 3) F.TILE_DIV_STEPPING = true ∧
      (tile3 4 0 50 true false).fld (bTilePwr 3) F.TILE_DIV_REQ < (tile3 4 0 50 true false).divider 3) ∧
    ((tile3 4 0 100 false true).flag (bTilePwr 3) F.TILE_STAT_THROTTLED = true ∧
      (tile3 4 0 100 false true).fld bPwr F.PWR_CTL_THR_TEMP ≤ (tile3 4 0 100 false true).fld (bTilePwr 3) F.TILE_THERM_TJ) ∧
    (tile3 4 0 95 false true).fld (bTilePwr 3) F.TILE_THERM_TJ + 5 ≤ (tile3 4 0 95 false true).fld bPwr F.PWR_CTL_THR_TEMP := by decide +kernel

theorem witness_package_limit :
    (((tile3 0 0 50 false false).setFld bPwr F.PKG_LIMIT_WATTS 600).fld bPwr F.PKG_LIMIT_WATTS = 600 ∧
      ((tile3 0 0 50 false false).setFld bPwr F.PKG_LIMIT_WATTS 600).heaviest = some 3) ∧
    (601 : BitVec 11).toNat > 600 ∧ (600 : BitVec 11).toNat < 600 + 20 := by decide +kernel

theorem witness_tolerances :
    ((zoned.setFlag bZctl F.ZT_STAT_GLAZED true).mayAccess (.core 0 2) (bDoor 0 + 0x300 + 8 * 0) = true ∧
      (zoned.setFlag bZctl F.ZT_STAT_GLAZED true).accepts (.core 0 2) ⟨.door, 0⟩ (0x300 + 8 * 0) 0x8000 = true) ∧
    (zoned.mayAccess .ese (bPwr + 0x050) = true ∧ zoned.accepts .ese pwrPage 0x050 0x97FF = true) ∧
    (zoned.mayAccess .ese (bTilePwr 3 + 0x040) = true ∧ zoned.accepts .ese ⟨.tilePwr, 3⟩ 0x040 4 = true) := by decide +kernel

/-! ## The recorder and the time of day -/

/-- A Crumb of the ESE's page. -/
def crumbOf (code sev : Nat) (payload : List Word) : Crumb := zoned.stamp esePage code sev payload none false

/-- The module with a recorder in a mode that is not being filled, its last record at `last` and its next at `next`, the kept area
closed, and a queue. -/
def recording (mode last next : Nat) (queue : List Crumb) (buckets : List Bucket) : State :=
  let s := (((((zoned.setFlag bRec F.PRESENT true).setFlag bRec F.REC_STAT_KEPT_CLOSED true).setFld bRec F.REC_CTL_RECMODE mode).setFld bRec
    F.REC_HEAD_LAST last).setFld bRec F.REC_HEAD_NEXT next).setFlag bRec F.REC_STAT_FILLING false
  { s with recorder := { s.recorder with
      records := [(last, { crumb := crumbOf 0x0A03 4 [1, 2], seq := 7, repeats := 1, lastTb := 0 })], queue := queue, buckets := buckets } }

theorem witness_record_areas :
    ((recording 0 9000 65535 [] []).keptOpen = false ∧ (recording 0 9000 65535 [] []).fld bRec F.REC_HEAD_NEXT = 65535) ∧
    ((recording 0 9000 65535 [] []).setFlag bRec F.REC_STAT_KEPT_CLOSED false).keptOpen = true := by decide +kernel

theorem witness_crumb_writes :
    ((recording 0 9000 9001 [crumbOf 0x0A03 4 [1, 2]] []).powered = true ∧ (recording 0 9000 9001 [crumbOf 0x0A03 4 [1, 2]] []).flag bRec F.REC_STAT_FILLING = false ∧
      (recording 0 9000 9001 [crumbOf 0x0A03 4 [1, 2]] []).fld bRec F.REC_CTL_RECMODE = 0 ∧
      (match SMap.find? (recording 0 9000 9001 [crumbOf 0x0A03 4 [1, 2]] []).recorder.records 9000 with
       | some r => r.mergeable (crumbOf 0x0A03 4 [1, 2]) && !r.mergeable (crumbOf 0x0A03 4 [1, 3])
       | none => false) = true) ∧
    ((recording 1 9000 9001 [crumbOf 0x0A03 4 []] [⟨0x0A03, 1, 0⟩]).fld bRec F.REC_CTL_RECMODE = 1 ∧ (crumbOf 0x0A03 4 []).code / 256 = 0x0A ∧
      (crumbOf 0x0A03 4 []).sev = 4 ∧
      (recording 1 9000 9001 [crumbOf 0x0A03 4 []] [⟨0x0A03, 1, 0⟩]).recorder.buckets.find? (fun x => x.code == (crumbOf 0x0A03 4 []).code) = some ⟨0x0A03, 1, 0⟩) ∧
    ((crumbOf 0x0D01 1 []).code / 256 = 0x0D ∧ (crumbOf 0x0A03 5 []).sev = 5) := by decide +kernel

theorem witness_recorder_reports :
    ({ recording 0 9000 9001 [] [] with recorder := { (recording 0 9000 9001 [] []).recorder with drops := 3 } }.recorder.queue = [] ∧
      0 < { recording 0 9000 9001 [] [] with recorder := { (recording 0 9000 9001 [] []).recorder with drops := 3 } }.recorder.drops) ∧
    ((recording 0 9000 9001 [] []).setFlag bRec F.REC_STAT_FILLING true).flag bRec F.REC_STAT_FILLING = true ∧
    ((recording 1 9000 9001 [] [⟨0x0A03, 0, 5⟩]).recorder.buckets.find? (fun x => x.code == (0x0A03 : BitVec 16).toNat) = some ⟨0x0A03, 0, 5⟩ ∧
      (recording 1 9000 9001 [] [⟨0x0A03, 0, 0⟩]).recorder.buckets.find? (fun x => x.code == (0x0A03 : BitVec 16).toNat) = some ⟨0x0A03, 0, 0⟩) := by decide +kernel

theorem witness_submissions :
    (pageAt (0x20 : BitVec 16).toNat = some recPage ∧ (recording 0 9000 9001 [] []).present recPage = true) ∧
    (recording 0 9000 9001 (List.replicate 256 (crumbOf 0x0A03 5 [])) []).recorder.queue.length = 256 ∧
    (∀ q ∈ (recording 0 9000 9001 (List.replicate 256 (crumbOf 0x0A03 5 [])) []).recorder.queue, 5 ≤ q.sev) := by decide +kernel

theorem witness_readout :
    ((recording 0 9000 9001 [] []).mayAccess .svc (bRec + 0x068) = true ∧ (recording 0 9000 9001 [] []).mayAccess (.core 0 3) (bRec + 0x070) = true ∧
      (recording 0 9000 9001 [] []).mayAccess (.core 0 3) (bRec + 0x080) = true ∧ (recording 0 9000 9001 [] []).present recPage = true) ∧
    ((recording 0 9000 9001 [] []).setFld bRec F.REC_RD_SEL_WORD 15).fld bRec F.REC_RD_SEL_WORD = 15 ∧
    (((recording 0 9000 9001 [] []).setFld bRec F.REC_STAT_KEPT_COUNT 1).fld bRec F.REC_STAT_KEPT_COUNT = 0 + 1 ∧
      ((recording 0 9000 9001 [] []).setFld bRec F.REC_STAT_KEPT_COUNT 1).fld bRec F.REC_RD_SEL_INDEX = 0) := by decide +kernel

theorem witness_time_commands :
    ((recording 0 9000 9001 [] []).mayAccess .ese (bRec + 0x060) = true ∧ (recording 0 9000 9001 [] []).accepts .ese recPage 0x060 1 = true) ∧
    ((recording 0 9000 9001 [] []).mayAccess .ese (bRec + 0x0A0) = true ∧ (recording 0 9000 9001 [] []).tod.setAtPps = false ∧
      (recording 0 9000 9001 [] []).accepts .ese recPage 0x0A0 1 = true ∧ (recording 0 9000 9001 [] []).accepts .ese recPage 0x0A0 2 = true) ∧
    ((recording 0 9000 9001 [] []).accepts .ese recPage 0x0A0 4 = true ∧ (recording 0 9000 9001 [] []).accepts .ese recPage 0x0A0 8 = true ∧
      (recording 0 9000 9001 [] []).accepts .ese recPage 0x0A0 16 = true) := by decide +kernel

/-- The module with a clock. -/
def clocked (t : Tod) : State := { recording 0 9000 9001 [] [] with tod := t }

theorem witness_clock_events :
    ((clocked { leapArmed := some true, seconds := 86399 }).tod.seconds % 86400 = 86399 ∧ (clocked { leapArmed := some false, seconds := 86398 }).tod.seconds % 86400 = 86398) ∧
    (clocked {}).flag bRec F.TOD_STAT_HOLDOVER = false ∧ (clocked { setAtPps := true }).tod.setAtPps = true ∧
    (100000 ≤ (clocked { nanos := 100000 }).tod.offset.natAbs ∧ 100000 ≤ (clocked { nanos := 999900000 }).tod.offset.natAbs) ∧
    ((clocked { nanos := 99999 }).tod.offset.natAbs < 100000 ∧ (clocked { nanos := 999999950, goodEdges := 2 }).tod.offset.natAbs ≤ 50 ∧
      (clocked { nanos := 999999950, goodEdges := 2 }).flag bRec F.TOD_STAT_BACKUP_OSC = false) := by decide +kernel

/-! ## Power, resets, boot, modes and the service port -/

/-- The zoned module in a mode and boot phase, with part of the ESE's own state. -/
def phased (mode phase : Nat) (e : Ese) : State := { (zoned.putMode mode 0).setPhase phase with ese := e }

theorem witness_power_on :
    { phased 0 0 { vdd := false } with powered := false }.ese.vdd = false ∧
    ({ phased 0 0 {} with powered := false }.ese.vdd = true ∧ { phased 0 0 {} with powered := false }.flag bRec F.TOD_STAT_BACKUP_OSC = false) := by
  decide +kernel

theorem witness_resets :
    (phased 4 9 {}).powered = true ∧ (phased 4 9 {}).ese.resetLow = false ∧ (phased 0 0 { resetLow := true, bootNext := true }).ese.resetting = false ∧
    (phased 0 0 { resetting := true, bootNext := true }).mode ≠ 10 ∧ (phased 0 0 {}).accepts .svc esePage 0x048 1 = true := by decide +kernel

theorem witness_boot_phases :
    ((phased 1 1 { rails := 8 }).mode = 1 ∧ (phased 1 1 { rails := 8 }).phase = 1) ∧
    ((phased 1 2 {}).phase = 2 ∧ (phased 1 2 {}).ese.reference = true) ∧
    ((phased 1 3 {}).phase = 3 ∧ ((phased 1 3 {}).setFlag (bPos 39) F.PRESENT true).healthy 39 = true) ∧ (phased 1 4 {}).phase = 4 ∧
    ((phased 2 5 {}).mode = 2 ∧ (phased 2 5 {}).phase = 5) ∧ ((phased 3 6 {}).mode = 3 ∧ (phased 3 6 {}).phase = 6) ∧ (phased 3 7 {}).phase = 7 := by
  decide +kernel

theorem witness_memory_bring_up :
    ((phased 3 6 {}).setFlag (Page.base ⟨.group, 3⟩) F.PRESENT true).present (groupPage 3) = true ∧ bits (0x10000000000000 : BitVec 64) (16 * 3) 16 ≠ 0 ∧
    (trainedIn 0x78000 3).length = 4 ∧ (trainedIn 0x38000 3).length = 3 := by decide +kernel

/-- A flash whose manifest has a firmware section. -/
def flashed : State := { phased 3 7 {} with flash := [(6, 1), (0x40, 2)], flashSize := 0x1000000 }

theorem witness_firmware : (((manifestSections flashed.manifest).zipIdx).find? (fun y => y.1.typ == 2)).isSome = true := by decide +kernel

theorem witness_mode_commands :
    ((phased 3 8 {}).setFlag bZctl F.ZT_STAT_GLAZED true).accepts (.core 0 3) esePage 0x048 2 = true ∧ (phased 4 9 {}).accepts .ese esePage 0x048 3 = true ∧
    (phased 9 9 {}).accepts .svc esePage 0x048 4 = true ∧ (phased 9 9 {}).accepts .svc esePage 0x048 5 = true ∧
    (phased 4 9 {}).accepts .svc esePage 0x048 22 = true ∧ (phased 4 9 {}).accepts .svc esePage 0x048 6 = true ∧
    (phased 4 9 {}).accepts .svc esePage 0x048 7 = true ∧ (phased 0 0 { testEn := true }).accepts .svc esePage 0x048 8 = true ∧
    (phased 4 9 {}).mayAccess (.core 0 3) (bEse + 0x048) = true := by decide +kernel

theorem witness_core_start :
    ((phased 3 8 {}).setFlag bZctl F.ZT_STAT_GLAZED true).accepts (.core 0 3) esePage 0x068 1 = true ∧
    (phased 3 8 {}).mayAccess (.core 0 3) (bEse + 0x068) = true ∧ (withCore (phased 3 8 {}) (fun c => { c with started := false })).coreValid 0 = true ∧
    ((withCore (phased 3 8 {}) (fun c => { c with started := false })).core 0).started = false := by decide +kernel

theorem witness_quiesce :
    (phased 4 9 { recoveries := [.engineGap] }).ese.recoveries ≠ [] ∧ (phased 4 9 {}).outOfIdle = 0 ∧ ((phased 4 9 {}).setStation 7 { state := 1 }).outOfIdle ≠ 0 ∧
    ((phased 4 9 { quiescing := true, quiesceBegan := true }).setStation 7 { state := 1, req := some started }).openReq 7 = some started ∧
    ((phased 4 9 { inQuiesce := true }).setFld bEse F.MODE_STAT_BASE 4).modeBase ≠ 0 := by decide +kernel

theorem witness_pins :
    (phased 4 9 { pllLocked := true }).ese.pllLocked = true ∧ ((phased 4 9 {}).ese.reference = true ∧ (phased 4 9 {}).flag bRec F.TOD_STAT_BACKUP_OSC = false) ∧
    ((phased 4 9 { rails := 9 }).uncoreUp = true ∧ 9 ≤ (phased 4 9 { rails := 9 }).ese.rails) := by decide +kernel

/-- The ESE's window at an address, AUTOINC set. -/
def winAt (a : Nat) : State := (zoned.setFld bEse F.SVC_WIN_ADDR_ADDR (a / 8)).setFlag bEse F.SVC_WIN_ADDR_AUTOINC true

theorem witness_service_port :
    SMap.find? { zoned with ese := { zoned.ese with spiHeld := [(0x40, (5, 1))] } }.ese.spiHeld 0x40 = some (5, 1) ∧ SMap.find? zoned.ese.spiHeld 0x40 = none ∧
    (0x0FF8 : BitVec 16).toNat % 8 = 0 ∧ (0x0FF8 : BitVec 16).toNat < 0x1000 ∧
    (regWindowBase ≤ (winAt 0xFFFF0020050).winAddr ∧ (winAt 0xFFFF0020050).pageAnswers ((winAt 0xFFFF0020050).winAddr - regWindowBase) = true ∧
      (winAt 0xFFFF0020050).winAddr - regWindowBase ≠ bEse + 0x0A0) ∧
    (flashWindowBase ≤ (winAt 0xFFFE0000000).winAddr ∧ (winAt 0xFFFE0000000).winAddr < regWindowBase) ∧
    ((winAt 0xFFFDFFFFFF8).winAddr < flashWindowBase ∧ (winAt 0xFFFDFFFFFF8).winMemory (winAt 0xFFFDFFFFFF8).winAddr = false) ∧
    ((winAt 0x400).winMemory (winAt 0x400).winAddr = true ∧ (winAt 0x400).uncoreUp = true) := by decide +kernel

/-! ## Main memory and the root ports -/

/-- Group 0 in a state, its channels 0 to 3 of data and 4 of parity, 64 GiB each, and group 1 offline or protected. -/
def grouped (state other : Nat) : State :=
  let s := (List.range 5).foldl (fun (st : State) i =>
    ((st.setFld (bChan i) F.CH_STAT_STATE (if i = 4 then 3 else 2)).setFld (bChan i) F.CH_STAT_POS (i % 4)).setFld (bChan i) F.CH_STAT_GIB 64) zoned
  (((s.setFld (bGroup 0) F.GRP_STAT_STATE state).setFld (bGroup 1) F.GRP_STAT_STATE other).setFld (bGroup 0) F.GRP_STAT_PARITY_CH 4).setFld (bGroup 0)
    F.GRP_STAT_LOST_CH 2

theorem witness_memory_reads :
    ((grouped 2 2).powered = true ∧ (grouped 2 2).uncoreUp = true ∧ 128 * (8 : BitVec 36).toNat < (grouped 2 2).usable ∧ (grouped 2 2).groupOf (128 * 8) = 0 ∧
      (grouped 2 2).groupState 0 = 2 ∧ SMap.get false (grouped 2 2).poison ((grouped 2 2).localLine (128 * 8) % 2 ^ 37) = false) ∧
    (∀ k, k < 4 → ((grouped 2 2).pieceChannel 0 k ((grouped 2 2).groupAddr 1024 / 256)).isSome = true) ∧
    ((grouped 4 2).groupState 0 = 4 ∧ (∀ k, k < 4 → ((grouped 4 2).pieceChannel 0 k ((grouped 4 2).groupAddr 1024 / 256)).isSome = true)) ∧
    ((grouped 5 2).groupState ((grouped 5 2).groupOf 1024) = 5 ∧ (grouped 5 2).groupOffline ((grouped 5 2).groupOf (lineAddr 8)) = true) ∧
    (grouped 2 2).groupOffline ((grouped 2 2).groupOf (lineAddr 8)) = false := by decide +kernel

/-- Line 8 waits for its stripe's partner. -/
def partnered : State := { grouped 2 2 with home := { (grouped 2 2).home with partnerWait := [8, 9] } }

theorem witness_partner_wait : partnered.home.partnerWait.contains (partnered.localLine (128 * (8 : BitVec 36).toNat)) = true := by decide +kernel

theorem witness_scrub : 0 < (grouped 2 2).stripes 0 ∧ SMap.get 0 (grouped 2 2).scrub 0 = 0 ∧ (∀ k, k < 4 → ((grouped 2 2).pieceChannel 0 k 0).isSome = true) := by
  decide +kernel

theorem witness_rebuild : (grouped 3 2).groupState 0 = 3 ∧ (grouped 3 2).fld (bGroup 0) F.GRP_REBUILD_PTR < (grouped 3 2).stripes 0 := by decide +kernel

theorem witness_rebuilt :
    ((grouped 3 2).setFld (bGroup 0) F.GRP_REBUILD_PTR (64 * 2 ^ 24)).fld (bGroup 0) F.GRP_REBUILD_PTR = (grouped 3 2).stripes 0 ∧
      (grouped 3 2).fld (bGroup 0) F.GRP_STAT_PARITY_CH = 4 ∧ (grouped 3 2).fld (bGroup 0) F.GRP_STAT_LOST_CH ≠ 4 ∧
      (grouped 3 2).fld (bGroup 0) F.GRP_STAT_LOST_CH < 20 := by decide +kernel

theorem witness_channel_loss :
    ((grouped 2 2).chanState 0 ≠ 3 ∧ (grouped 2 2).chanState 4 = 3 ∧ (grouped 2 2).chanWorks 0 = true) ∧
    ((grouped 4 5).otherGroupServes 0 = false ∧ (grouped 4 2).otherGroupServes 0 = true) ∧
    ((grouped 2 2).mayAccess .ese (bChan 0 + 0x058) = true ∧ ((grouped 2 2).setFlag (chanPage 0).base F.PRESENT true).accepts .ese (chanPage 0) 0x058 1 = true) ∧
    (95 : BitVec 8).toNat ≤ 95 := by decide +kernel

/-- Root port 1 with link 0 in a state, its windows open to bus addresses 0x100000 to 0x1FFFFF, requester 0x100 being zone 0's; a load of
core 0 waits for an address. -/
def rooted (link addr : Nat) : State :=
  let s := ((((zoned.setFlag (rportPage 1).base F.PRESENT true).setFlag (rportPage 1).base F.RUNNING true).setFlag (bRport 1) F.RUN true).setFld (bRport 1)
    F.RP_LINK_STATE link).setReg ztIorid 0xFFFF01000003
  let t := (((s.putConfig 1 0 0x04 2).putConfig 1 0 0x20 0x10).putConfig 1 0 0x22 0x10).putConfig 1 0 0x24 0xF0
  withCore t (fun c => { c with devLoad := some (addr, 8, 0) })

theorem witness_device_loads :
    ((rooted 3 0xA0000100000).uncoreUp = true ∧ ((rooted 3 0xA0000100000).core 0).devLoad = some (0xA0000100000, 8, 0) ∧
      (rooted 3 0xA0000100000).windowLink 0xA0000100000 = some (1, 0) ∧ (rooted 3 0xA0000100000).linkState 1 0 = 3 ∧ ecamPort 0xA0000100000 = none) ∧
    (ecamPort 0xC001FFFFFF8).isSome = true := by decide +kernel

/-- Core 0 with a configuration write in its store buffer. -/
def configuring : State :=
  withCore (rooted 3 0) (fun c => { c with devLoad := none, stores := [{ kind := .window, addr := 0xC0010000004, data := leBytes 4 6, level := 3, zone := 0 }] })

theorem witness_configuration_write :
    (configuring.core 0).devLoad = none ∧ (configuring.core 0).stores ≠ [] ∧ (∀ st ∈ (configuring.core 0).stores, st.kind = .window) ∧
    (ecamPort 0xC0010000004).isSome = true := by decide +kernel

theorem witness_root_links :
    ((rooted 2 0).running (rportPage 1) = true ∧ (rooted 2 0).linkState 1 0 = 2 ∧ (2 : BitVec 3).toNat ≤ 2 ∧
      (0 : BitVec 3).toNat ≤ (rooted 2 0).fld (bRport 1) F.RP_CFG_MAX_RATE) ∧
    ((toleranceNs (0 : BitVec 16).toNat).isNone = true ∧ (toleranceNs (0x8001 : BitVec 16).toNat).isSome = true) := by decide +kernel

/-- A state that translates an I/O address of zone 0, or refuses it. -/
def translates (s : State) (a : Nat) (ok : Bool) : Bool :=
  match (s.ioTranslate 0 a true).res with
  | .ok _ => ok
  | .error _ => !ok

theorem witness_inbound :
    ((rooted 3 0).linkState 1 0 = 3 ∧ (0x1FF8 : BitVec 64).toNat % 4096 + 8 ≤ 4096) ∧ msiRange 0xFFFFFF000000 = true ∧ msiRange 0xFFFFFEFFFFF8 = false ∧
    (rooted 3 0).requesterZone 1 0x200 = none ∧ (rooted 3 0).requesterZone 1 0x100 = some 0 ∧ bits (0x1000000000000 : BitVec 64) 48 16 ≠ 0 ∧
    (bits (0x400 : BitVec 64) 48 16 = 0 ∧ translates (rooted 3 0) 0x400 true = true ∧ translates (rooted 3 0) 0x800000000000 false = true) := by decide +kernel

/-! ## Encodings, well-formedness, worked examples of the manual, the reset state -/

/-! One ill-formed term for each check of `POp.wellFormed`, by family. -/

def illAlu : List POp :=
  [.alu .add false 32 0 0, .alu .add false 0 32 0, .alu .add false 0 0 32, .alu .not false 1 2 3, .alu .and true 1 2 3]

def illImmediates : List POp :=
  [.aluImm .add false 32 1 0, .aluImm .add false 1 32 0, .aluImm .add false 1 1 1024, .aluImm .add false 1 1 (-1025), .aluImm .sub false 1 1 0,
   .aluImm .and true 1 1 0]

def illShifts : List POp :=
  [.shift .sll false 32 1 1, .shift .sll false 1 32 1, .shift .sll false 1 1 32, .shiftImm .rol false 1 1 1, .shiftImm .sll false 1 1 64,
   .shiftImm .sll true 1 1 32, .shiftImm .sll false 32 1 1, .shiftImm .sll false 1 32 1]

def illMoves : List POp :=
  [.lui 32 0, .lui 1 262144, .auipc 32 0, .auipc 1 (-262145), .mul .mul 32 1 1, .mul .mul 1 32 1, .mul .mul 1 1 32]

def illTraps : List POp :=
  [.trapArith .negT true 1 1 0, .trapArith .negT false 1 1 1, .trapArith .addT false 32 1 1, .div .div 1 2 3, .div .div 32 2 3, .div .div 2 32 3,
   .div .div 2 2 32]

def illLoads : List POp :=
  [.load 3 false 1 1 0, .load 4 true 1 1 0, .load 0 true 32 1 0, .load 0 true 1 32 0, .load 0 true 1 1 1024, .store 4 1 1 0, .store 0 32 1 0, .store 0 1 32 0,
   .store 0 1 1 (-1025)]

def illFloatLoads : List POp :=
  [.fload true 32 1 0, .fload true 1 32 0, .fload true 1 1 1024, .fstore true 32 1 0, .fstore true 1 32 0, .fstore true 1 1 1024, .ldA 4 1 1, .ldA 0 32 1,
   .ldA 0 1 32, .stR 4 1 1, .stR 0 32 1, .stR 0 1 32]

def illAtomics : List POp :=
  [.cas 4 1 1 1, .cas 0 32 1 1, .cas 0 1 32 1, .cas 0 1 1 32, .casQ 1 2 2, .casQ 2 2 1, .casQ 32 2 2, .casQ 2 32 2, .casQ 2 2 32, .ldQA 1 2, .ldQA 32 2, .ldQA 2 32]

def illBranches : List POp :=
  [.branch .eq 32 0 0, .branch .eq 0 32 0, .branch .eq 0 0 1, .branch .eq 0 0 2048, .b 1, .b (2 ^ 24), .call 3, .call (-(2 ^ 24) - 2), .jr 32 0, .jr 1 1024,
   .callr 32 0, .callr 1 1024, .loop 32 2, .loop 1 0, .loop 1 3, .loop 1 4096]

def illAccumulators : List POp :=
  [.macd 3 0 1 1, .macd 0 4 1 1, .macd 0 0 32 1, .macd 0 0 1 32, .macd 0 0 0 1, .macd 0 0 1 0, .accz 4, .mfa true 32 0, .mfa true 0 4, .mta true 4 0, .mta true 0 32,
   .dec .addp 32 1 1, .dec .addp 1 32 1, .dec .addp 1 1 32]

def illFloats : List POp :=
  [.farith .fadd true 32 1 1, .farith .fadd true 1 32 1, .farith .fadd true 1 1 32, .farith .fsqrt true 1 1 1, .fma .fmadd true 32 1 1 1, .fma .fmadd true 1 32 1 1,
   .fma .fmadd true 1 1 32 1, .fma .fmadd true 1 1 1 32, .fcvt .fmt true 32 1, .fcvt .fmt true 1 32]

def illCompares : List POp :=
  [.fminmax true true 32 1 1, .fminmax true true 1 32 1, .fminmax true true 1 1 32, .fcmp 3 true 1 1 1, .fcmp 0 true 32 1 1, .fcmp 0 true 1 32 1, .fcmp 0 true 1 1 32,
   .ftype true 32 1, .ftype true 1 32, .fbit .bitsG true 1 1 1, .fbit .bitsF true 1 1 1, .fbit .signC true 32 1 1, .fbit .signC true 1 32 1, .fbit .signC true 1 1 32]

def illSystem : List POp :=
  [.zeroL 32, .tlbi .va 32 0, .tlbi .va 0 32, .tlbi .asid 1 0, .tlbi .all 0 1, .mfs 32 0x002, .mfs 1 2047, .mts 0x002 32, .mts 2047 1, .svc 2048, .hvc 2048, .mcall 2048,
   .brk 256, .tbegin 1, .tbegin (2 ^ 19), .tbeginb 1, .tabort 32, .ttest 32]

theorem test_ill_formed_refused :
    [illAlu, illImmediates, illShifts, illMoves, illTraps, illLoads, illFloatLoads, illAtomics, illBranches, illAccumulators, illFloats, illCompares, illSystem].all (fun l => l.all (fun op => !op.wellFormed)) = true := by decide +kernel

/-- A word fits its own row and no other; one that decodes to nothing fits any. -/
theorem test_rows_of_words : fitsRow "LOAD" 0x00004202 = true ∧ fitsRow "STORE" 0x00004202 = false ∧ fitsRow "STORE" 0xFFFFFFFF = true := by decide +kernel

theorem witness_well_formed : (POp.alu .add false 31 31 31).wellFormed = true ∧ (POp.b (2 ^ 24 - 2)).wellFormed = true ∧ (POp.branch .eq 31 31 (-2048)).wellFormed = true := by
  decide +kernel

/-- The example of *A channel lost under load*: the line at 0x3456200 of a module of four interleaved groups. -/
theorem test_stripe_of_example :
    let s := (zoned.setFlag bMem F.MEM_MAP_ILV true).setFld bMem F.MEM_MAP_GROUPS 15
    s.groupOf 0x3456200 = 2 ∧ s.groupAddr 0x3456200 = 0xD15200 ∧ s.groupAddr 0x3456200 / 256 = 0xD152 := by decide +kernel

/-- The example of *A lane flood merged*: words 0x00 and 0x08 of the record. -/
theorem test_record_of_example :
    let c : Crumb := { code := 0x0501, sev := 2, zone := none, injected := false, srcType := 0x0201, srcInst := 5, payload := [], seconds := 0, nanos := 0, leap := false,
                       steered := false, tb := 0 }
    ({ crumb := c, seq := 0x1A2F, repeats := 37, lastTb := 9 } : Record).body.take 2 = [0x0005020100020501, 0x0000002500001A2F] := by decide +kernel

theorem test_reset_canonical : Memory.wf State.reset.mem ∧ Regs.wf State.reset.regs := by decide +kernel

/-- A command that writes memory stands in front of the queue of a state whose memory has the canonical form. -/
theorem witness_canonical_memory :
    Memory.wf ({ grouped 2 2 with pending := [.memoryWrite 8 1 false] } : State).mem ∧
    (match step { grouped 2 2 with pending := [.memoryWrite 8 1 false] } with | .next t => decide (t.mem = [(1024, 1)]) | _ => false) = true := by
  decide +kernel

end Sys2Proof.Tests
end

section
/-!
PROOFS. Core sparing (R11, R257 to R262). First the relation `State.Keeps` between a state and a later one, which says what
side work leaves alone, and that every operation that sparing uses beside its own effect stands in it; then each step of
Table 11.5 in checked mode as its own effect within that relation.
-/

namespace Sys2Proof.Machine

/-! ## The relation -/

/-- From `s` to `t` the window changed in no bit outside `W`, and beyond the window only the recorder, the power controller,
the microcode stores and what interrupts and check events record may have changed: an interrupt source that was pending still
is, and core-event kinds that were noted still are. -/
structure State.Keeps (W : Nat → Nat → Prop) (s t : State) : Prop where
  mem : t.mem = s.mem
  cores : t.cores = s.cores
  tiles : t.tiles = s.tiles
  sparings : t.sparings = s.sparings
  ese : t.ese = s.ese
  timebase : t.timebase = s.timebase
  pool : ∀ p k, t.inPool p k = s.inPool p k
  window : ∀ w i, ¬ W w i → bit (t.reg w) i = bit (s.reg w) i
  pend : ∀ k, (s.source k).pend = true → (t.source k).pend = true
  kinds : ∀ k j, (s.source k).evkind.testBit j = true → (t.source k).evkind.testBit j = true

variable {V W : Nat → Nat → Prop} {s t u : State}

theorem State.Keeps.refl (W : Nat → Nat → Prop) (s : State) : s.Keeps W s :=
  ⟨rfl, rfl, rfl, rfl, rfl, rfl, fun _ _ => rfl, fun _ _ _ => rfl, fun _ => id, fun _ _ => id⟩

theorem State.Keeps.trans (h : s.Keeps W t) (k : t.Keeps W u) : s.Keeps W u where
  mem := k.mem.trans h.mem
  cores := k.cores.trans h.cores
  tiles := k.tiles.trans h.tiles
  sparings := k.sparings.trans h.sparings
  ese := k.ese.trans h.ese
  timebase := k.timebase.trans h.timebase
  pool p j := (k.pool p j).trans (h.pool p j)
  window w i hw := (k.window w i hw).trans (h.window w i hw)
  pend j hj := k.pend j (h.pend j hj)
  kinds j i hj := k.kinds j i (h.kinds j i hj)

theorem State.Keeps.mono (h : s.Keeps V t) (hV : V ≤ W) : s.Keeps W t :=
  { h with window := fun w i hw => h.window w i (fun hv => hw (hV w i hv)) }

/-- A register of which no bit may change stays. -/
theorem State.Keeps.reg (h : s.Keeps W t) {w : Nat} (hw : ∀ i, ¬ W w i) : t.reg w = s.reg w :=
  BitVec.eq_of_getLsbD_eq fun i _ => h.window w i (hw i)

/-- A field of which no bit may change stays. -/
theorem State.Keeps.fld (h : s.Keeps W t) {b : Nat} {f : Fld}
    (hw : ∀ i, f.lo ≤ i → i < f.lo + f.width → ¬ W (b + f.off) i) : t.fld b f = s.fld b f := by
  apply Nat.eq_of_testBit_eq
  intro i
  simp only [State.fld, testBit_bits, ← bit_eq_getLsbD]
  by_cases hi : i < f.width
  · rw [h.window _ _ (hw (f.lo + i) (by omega) (by omega))]
  · simp only [hi, decide_false, Bool.false_and]

theorem State.Keeps.core (h : s.Keeps W t) (n : Nat) : t.core n = s.core n := by
  simp only [State.core, h.cores]

/-! ## Elementary updates -/

/-- An update of parts of the state of which the relation says nothing. -/
theorem State.Keeps.of_eq (W : Nat → Nat → Prop) (hm : t.mem = s.mem) (hc : t.cores = s.cores) (ht : t.tiles = s.tiles)
    (hs : t.sparings = s.sparings) (he : t.ese = s.ese) (hb : t.timebase = s.timebase) (hp : t.positions = s.positions)
    (hr : t.regs = s.regs) (hi : t.ic = s.ic) : s.Keeps W t where
  mem := hm
  cores := hc
  tiles := ht
  sparings := hs
  ese := he
  timebase := hb
  pool p k := by simp only [State.inPool, State.pos, hp]
  window w i _ := by simp only [State.reg, hr]
  pend k := by simp only [State.source, hi]; exact id
  kinds k j := by simp only [State.source, hi]; exact id

theorem State.Keeps.setReg {w : Nat} {v : Word} (hw : ∀ i, bit v i ≠ bit (s.reg w) i → W w i) :
    s.Keeps W (s.setReg w v) :=
  { State.Keeps.refl W s with
    window := fun x i hx => by
      by_cases h : x = w
      · subst h
        rw [State.reg_setReg_self]
        by_contra hne
        exact hx (hw i hne)
      · rw [State.reg_setReg_of_ne _ _ h] }

theorem State.Keeps.putBits {w lo width : Nat} (n : Nat) (hw : ∀ i, lo ≤ i → i < lo + width → W w i) :
    s.Keeps W (s.setReg w (putBits (s.reg w) lo width n)) := by
  refine State.Keeps.setReg fun i hne => ?_
  by_contra h
  have h64 : i < 64 := by
    by_contra h64
    simp only [bit_eq_getLsbD, BitVec.getLsbD_of_ge _ _ (Nat.le_of_not_lt h64), ne_eq, not_true_eq_false] at hne
  rw [bit_eq_getLsbD, getLsbD_putBits _ _ _ _ _ h64, if_neg (fun hi => h (hw i hi.1 hi.2))] at hne
  exact hne rfl

theorem State.Keeps.setFld {b : Nat} {f : Fld} (n : Nat) (hw : ∀ i, f.lo ≤ i → i < f.lo + f.width → W (b + f.off) i) :
    s.Keeps W (s.setFld b f n) :=
  .putBits n hw

theorem State.Keeps.setFlag {b : Nat} {f : Fld} (v : Bool) (hw : ∀ i, f.lo ≤ i → i < f.lo + f.width → W (b + f.off) i) :
    s.Keeps W (s.setFlag b f v) :=
  State.Keeps.setFld _ hw

theorem State.Keeps.count {b : Nat} {f : Fld} (k : Nat) (hw : ∀ i, f.lo ≤ i → i < f.lo + f.width → W (b + f.off) i) :
    s.Keeps W (s.count b f k) :=
  State.Keeps.setFld _ hw

theorem State.Keeps.setPos {p : Nat} {x : Pos} (h0 : x.pool0 = (s.pos p).pool0) (h1 : x.pool1 = (s.pos p).pool1) :
    s.Keeps W (s.setPos p x) :=
  { State.Keeps.refl W s with
    pool := fun q k => by
      by_cases h : q = p
      · subst h; simp [State.inPool, h0, h1]
      · simp only [State.inPool, State.pos_setPos_of_ne _ _ h] }

theorem State.Keeps.setSource {n : Nat} {e : IcSource} (hp : (s.source n).pend = true → e.pend = true)
    (hk : ∀ j, (s.source n).evkind.testBit j = true → e.evkind.testBit j = true) : s.Keeps W (s.setSource n e) :=
  { State.Keeps.refl W s with
    pend := fun k => by
      by_cases h : k = n
      · subst h; simpa using hp
      · rw [State.source_setSource_of_ne _ _ h]; exact id
    kinds := fun k j => by
      by_cases h : k = n
      · subst h; simpa using hk j
      · rw [State.source_setSource_of_ne _ _ h]; exact id }

/-! ## Interrupt sources, block errors and Crumbs -/

theorem State.Keeps.makeOfferable (n : Nat) : s.Keeps W (s.makeOfferable n) := by
  unfold State.makeOfferable
  simp only
  split
  · exact .refl W s
  · have h : s.Keeps W (s.setSource n { s.source n with offerable := true, order := s.icOrder }) :=
      .setSource id (fun _ => id)
    exact { h with }

theorem State.Keeps.sourceEvent (n : Nat) : s.Keeps W (s.sourceEvent n) := by
  unfold State.sourceEvent State.checkModeration
  have h : s.Keeps W (s.setSource n { s.source n with pend := true, events := satAdd 8 (s.source n).events 1 }) :=
    .setSource (fun _ => rfl) (fun _ => id)
  simp only
  split
  · exact h.trans (.makeOfferable n)
  · exact h

theorem State.Keeps.coreEvent (n kind : Nat) : s.Keeps W (s.coreEvent n kind) := by
  have h : s.Keeps W (s.setSource (0x1E00 + n)
      { s.source (0x1E00 + n) with evkind := (s.source (0x1E00 + n)).evkind ||| kind }) :=
    .setSource id fun j hj => by simp only [Nat.testBit_or, hj, Bool.true_or]
  exact h.trans (.sourceEvent _)

theorem State.Keeps.raiseErr {p : Page} {i : Nat} (h : W (p.base + 0x020) i) : s.Keeps W (s.raiseErr p i) := by
  have hb : s.Keeps W (s.setReg (p.base + 0x020) (putBit (s.reg (p.base + 0x020)) i true)) :=
    .putBits _ fun j h1 h2 => by
      obtain rfl : j = i := by omega
      exact h
  unfold State.raiseErr
  simp only
  split
  · exact .refl W s
  · split
    · exact hb
    · split
      · exact hb.trans (.sourceEvent _)
      · exact hb

/-! ## The bits that side work writes -/

theorem bPos_eq (p : Nat) : bPos p = (0x100 + p / 10 * 0x40 + p % 10) * 0x1000 := rfl

theorem bTilePwr_eq (t : Nat) : bTilePwr t = (0x11 + t) * 0x1000 := rfl

theorem bUcode_eq (u : Nat) : bUcode u = (0x4000 + u) * 0x1000 := rfl

/-- The bits of the window that sparing writes beside its own effect: the capability words, MODE_STAT, the pages of the power
controller, the recorder and the microcode stores, TILE_DIV, and the registers of the positions from 0x040 upward but for
ROLE and SPARE_INFO. -/
def sideBits (w i : Nat) : Prop :=
  (0x050 ≤ w ∧ w < 0x100) ∨ w = 0x1040 ∨ w / 0x1000 = 0x10 ∨ w / 0x1000 = 0x20 ∨ 0x4000 ≤ w / 0x1000 ∨
  (0x11 ≤ w / 0x1000 ∧ w / 0x1000 < 0x15 ∧ w % 0x1000 = 0x040) ∨
  (0x100 ≤ w / 0x1000 ∧ w / 0x1000 < 0x200 ∧ 0x040 ≤ w % 0x1000 ∧ w % 0x1000 ≠ 0x068 ∧ (w % 0x1000 = 0x048 → 3 ≤ i))

/-- The bits of one field. -/
def fieldBits (b : Nat) (f : Fld) (w i : Nat) : Prop := w = b + f.off ∧ f.lo ≤ i ∧ i < f.lo + f.width

theorem sideBits_cap {off : Nat} (h : 0x050 ≤ off ∧ off < 0x100) (i : Nat) : sideBits (bIdent + off) i := by
  rw [show bIdent = 0 from rfl, Nat.zero_add]
  exact .inl h

theorem sideBits_mode (i : Nat) : sideBits (bEse + 0x040) i := .inr (.inl rfl)

theorem sideBits_pwr {off : Nat} (h : off < 0x1000) (i : Nat) : sideBits (bPwr + off) i := by
  simp only [sideBits, show bPwr = 0x10000 from rfl]; omega

theorem sideBits_rec {off : Nat} (h : off < 0x1000) (i : Nat) : sideBits (bRec + off) i := by
  simp only [sideBits, show bRec = 0x20000 from rfl]; omega

theorem sideBits_ucode {off : Nat} (u i : Nat) : sideBits (bUcode u + off) i := by
  simp only [sideBits, bUcode_eq]; omega

theorem sideBits_div {t : Nat} (h : t < 4) (i : Nat) : sideBits (bTilePwr t + 0x040) i := by
  simp only [sideBits, bTilePwr_eq]; omega

theorem sideBits_pos {p off i : Nat} (hp : p < 40) (h : 0x040 ≤ off ∧ off < 0x1000 ∧ off ≠ 0x068)
    (hi : off = 0x048 → 3 ≤ i) : sideBits (bPos p + off) i := by
  simp only [sideBits, bPos_eq]; omega

theorem State.Keeps.setFld_self (s : State) (b : Nat) (f : Fld) (n : Nat) : s.Keeps (fieldBits b f) (s.setFld b f n) :=
  .setFld n fun _ h1 h2 => ⟨rfl, h1, h2⟩

/-- One step of each of two kinds. -/
theorem State.Keeps.sup (h : s.Keeps V t) (k : t.Keeps W u) : s.Keeps (V ⊔ W) u :=
  (h.mono le_sup_left).trans (k.mono le_sup_right)

/-! ## Side work: the recorder, the mode and the microcode stores -/

theorem State.Keeps.crumb (p : Page) (code sev : Nat) (payload : List Word) (zone : Option Nat) (injected : Bool) :
    s.Keeps sideBits (s.crumb p code sev payload zone injected) := by
  unfold State.crumb
  extract_lets r s1
  have h1 : s.Keeps sideBits s1 := .of_eq _ rfl rfl rfl rfl rfl rfl rfl rfl rfl
  split
  · exact (h1.trans (.count 1 fun i _ _ => sideBits_rec (by decide) i)).trans
      (.raiseErr (sideBits_rec (off := 0x020) (by decide) 8))
  · exact h1

theorem State.Keeps.refreshMode : s.Keeps sideBits s.refreshMode := by
  unfold State.refreshMode State.refreshModeFrom
  extract_lets s1 m s2
  have h1 : s.Keeps sideBits s1 :=
    ((State.Keeps.setFlag _ fun i _ _ => sideBits_mode i).trans (.setFlag _ fun i _ _ => sideBits_mode i)).trans
      (.setFld _ fun i _ _ => sideBits_mode i)
  split
  · exact h1
  · exact (h1.trans (.setFld _ fun i _ _ => sideBits_mode i)).trans (.crumb ..)

theorem State.Keeps.ucSettle (u : Nat) : s.Keeps sideBits (s.ucSettle u) := by
  unfold State.ucSettle
  extract_lets n s1 x before s2 s3 s4
  have h1 : s.Keeps sideBits s1 := .setFld _ fun i _ _ => sideBits_ucode u i
  have h2 : s1.Keeps sideBits s2 := .of_eq _ rfl rfl rfl rfl rfl rfl rfl rfl rfl
  have h3 : s2.Keeps sideBits s3 :=
    (State.Keeps.setReg fun i _ => sideBits_ucode u i).trans (.setReg fun i _ => sideBits_ucode u i)
  have h4 : s3.Keeps sideBits s4 :=
    (State.Keeps.setFld _ fun i _ _ => sideBits_ucode u i).trans (.setFld _ fun i _ _ => sideBits_ucode u i)
  split
  · exact .refl ..
  · split
    · exact h1
    · exact (((h1.trans h2).trans h3).trans h4).trans (.crumb ..)

/-! ## Side work: the rails and the dividers (R433 to R441) -/

theorem State.Keeps.withPower (x : Power) : State.Keeps W s { s with power := x } :=
  .of_eq W rfl rfl rfl rfl rfl rfl rfl rfl rfl

theorem State.Keeps.setRail (t : Nat) (x : Rail) : s.Keeps W (s.setRail t x) :=
  .withPower _

theorem State.Keeps.reserveSlot (t start len wanted : Nat) : s.Keeps sideBits (s.reserveSlot t start len wanted) := by
  unfold State.reserveSlot
  extract_lets x s1
  have h1 : s.Keeps sideBits s1 := .setRail ..
  split
  · exact h1
  · exact h1.trans (.count 1 fun i _ _ => sideBits_pwr (by decide) i)

theorem State.Keeps.quietChange (t amount : Nat) : s.Keeps sideBits (s.quietChange t amount) := by
  unfold State.quietChange
  extract_lets len
  split
  · exact .refl ..
  · exact .reserveSlot ..

theorem State.Keeps.announce (t amount lead : Nat) (rise : Bool) : s.Keeps sideBits (s.announce t amount lead rise) := by
  unfold State.announce
  extract_lets len x ready wanted start sentBy waiting s1 rail s2 m power s3
  have h2 : s.Keeps sideBits s2 := (State.Keeps.reserveSlot t start len wanted).trans (.setRail ..)
  have h3 : s2.Keeps sideBits s3 := .withPower _
  split
  · refine ((h2.trans h3).trans (.setFld _ fun i _ _ => sideBits_pwr (by decide) i)).trans
      (.count 1 fun i _ _ => sideBits_pwr ?_ i)
    cases rise <;> decide
  · exact h2.trans (.setRail ..)

theorem State.Keeps.railFollows (old : State) (t : Nat) : s.Keeps sideBits (s.railFollows old t) := by
  unfold State.railFollows State.rise State.fall
  split <;> split
  · exact .quietChange ..
  · exact .announce ..
  · exact .quietChange ..
  · exact .announce ..

theorem State.Keeps.setDivider {k : Nat} (hk : k < 4) (d : Nat) : s.Keeps sideBits (s.setDivider k d) :=
  ((State.Keeps.setFld d fun i _ _ => sideBits_div hk i).trans (.railFollows _ _)).trans
    (.setFlag _ fun i _ _ => sideBits_div hk i)

theorem State.Keeps.makeRoom {k : Nat} (hk : k < 4) (after : State → State) (fuel : Nat) :
    s.Keeps sideBits (State.makeRoom k after fuel s) := by
  induction fuel generalizing s with
  | zero => exact .refl ..
  | succ fuel ih =>
    unfold State.makeRoom
    split
    · exact (State.Keeps.setDivider hk _).trans ih
    · exact .refl ..

/-! ## Side work: the pages of the positions -/

section
variable {p : Nat} (hp : p < 40)
include hp

theorem State.Keeps.setCheckEvent (pipe : Nat) (e : Option CheckEvent) : s.Keeps sideBits (s.setCheckEvent p pipe e) := by
  unfold State.setCheckEvent
  refine (State.Keeps.setPos ?_ ?_).trans
    (.setFlag _ fun i h _ => sideBits_pos hp (by decide) fun _ => le_trans (by decide) h)
  · split <;> rfl
  · split <;> rfl

theorem State.Keeps.noteEvent (outcome : Nat) (e : CheckEvent) : s.Keeps sideBits (s.noteEvent p outcome e) := by
  have last : ∀ i, sideBits (bPos p + 0x058) i := fun _ => sideBits_pos hp (by decide) nofun
  unfold State.noteEvent
  extract_lets b s1
  have h1 : s.Keeps sideBits s1 :=
    ((State.Keeps.setFld _ fun i _ _ => last i).trans (.setFld _ fun i _ _ => last i)).trans
      (.setFld _ fun i _ _ => last i)
  exact ((h1.trans (.setFld _ fun i _ _ => last i)).trans (.setFlag _ fun i _ _ => last i)).trans
    (.setFld _ fun i h _ => sideBits_pos hp (by decide) fun _ => le_trans (by decide) h)

theorem State.Keeps.closeEvent (pipe outcome : Nat) : s.Keeps sideBits (s.closeEvent p pipe outcome) := by
  unfold State.closeEvent
  split
  · exact (State.Keeps.setCheckEvent hp _ _).trans (.noteEvent hp _ _)
  · exact .refl ..

theorem State.Keeps.failPipe (pipe : Nat) : s.Keeps sideBits (s.failPipe p pipe) :=
  .setFld _ fun i h _ => sideBits_pos hp (by decide) fun _ => le_trans (by decide) h

theorem State.Keeps.countFiring (code : Nat) (firstSelf : Bool) : s.Keeps sideBits (s.countFiring p code firstSelf) := by
  have cnt : ∀ i, sideBits (bPos p + 0x050) i := fun _ => sideBits_pos hp (by decide) nofun
  have h1 : s.Keeps sideBits (if code = 2 then s.count (bPos p) F.CHK_CNT_CHECKER
      else if code = 3 ∨ code = 8 then s.count (bPos p) F.CHK_CNT_DELAY_PE else s) := by
    split
    · exact .count 1 fun i _ _ => cnt i
    · split
      · exact .count 1 fun i _ _ => cnt i
      · exact .refl ..
  unfold State.countFiring
  extract_lets s1
  split
  · exact State.Keeps.trans h1 (.count 1 fun i _ _ => cnt i)
  · exact h1

end

theorem State.Keeps.capWords : s.Keeps sideBits s.capWords := by
  unfold State.capWords
  extract_lets active spare failed spares unchecked s1
  have cap {u : State} {f : Fld} (n : Nat) (h : 0x050 ≤ f.off ∧ f.off < 0x100) : u.Keeps sideBits (u.setFld bIdent f n) :=
    .setFld n fun i _ _ => sideBits_cap h i
  have h1 : s.Keeps sideBits s1 := ((cap _ (by decide)).trans (cap _ (by decide))).trans (cap _ (by decide))
  exact (((h1.trans (cap _ (by decide))).trans (cap _ (by decide))).trans (cap _ (by decide))).trans (cap _ (by decide))

/-! ## Roles and power states -/

/-- The checked mode stays. -/
theorem State.Keeps.split (h : s.Keeps W t) (hw : ∀ i, ¬ W 0x1050 i) : t.split = s.split := by
  simp only [State.split, State.flag, h.fld (b := bEse) (f := F.BOOT_OPT_SPLIT) fun i _ _ => hw i]

theorem State.Keeps.role (h : s.Keeps W t) {p : Nat} (hw : ∀ i, i < 3 → ¬ W (bPos p + 0x048) i) : t.role p = s.role p :=
  h.fld (f := F.CORE_STAT_ROLE) fun i _ hi => hw i hi

/-- The bits of ROLE of a position. -/
def roleBits (p : Nat) : Nat → Nat → Prop := fieldBits (bPos p) F.CORE_STAT_ROLE

/-- The bits of the power state of a position. -/
def pstateBits (p : Nat) : Nat → Nat → Prop := fieldBits (bTilePwr (p / 10)) (pstateFld (p % 10))

theorem not_sideBits_role {p i : Nat} (hp : p < 40) (hi : i < 3) : ¬ sideBits (bPos p + 0x048) i := by
  simp only [sideBits, bPos_eq]; omega

theorem not_roleBits {p w i : Nat} (h : w ≠ bPos p + 0x048) : ¬ roleBits p w i := fun hw => h hw.1

theorem bPos_role_ne {p q : Nat} (h : p ≠ q) : bPos p + 0x048 ≠ bPos q + 0x048 := by
  simp only [bPos_eq, ne_eq]; omega

/-- In checked mode ROLE takes the value given; what follows is side work. -/
theorem State.Keeps.setRole_of_written (hs : s.split = false) (p r : Nat) :
    (s.setFld (bPos p) F.CORE_STAT_ROLE r).Keeps sideBits (s.setRole p r) := by
  simp only [State.setRole, hs, Bool.false_eq_true, if_false]
  exact (State.Keeps.ucSettle 0).trans (.ucSettle 1)

theorem State.Keeps.setRole (hs : s.split = false) (p r : Nat) : s.Keeps (roleBits p ⊔ sideBits) (s.setRole p r) :=
  (State.Keeps.setFld_self ..).sup (.setRole_of_written hs p r)

theorem State.role_setRole_self (hs : s.split = false) {p r : Nat} (hp : p < 40) (hr : r < 8) :
    (s.setRole p r).role p = r := by
  rw [(State.Keeps.setRole_of_written hs p r).role fun _ => not_sideBits_role hp, State.role,
    State.fld_setFld_self _ _ _ _ (by decide)]
  exact Nat.mod_eq_of_lt hr

theorem State.role_setRole_of_ne (hs : s.split = false) {p q r : Nat} (hq : q < 40) (h : q ≠ p) :
    (s.setRole p r).role q = s.role q :=
  (State.Keeps.setRole hs p r).role fun _ hi hw =>
    hw.elim (not_roleBits (bPos_role_ne h)) (not_sideBits_role hq hi)

theorem State.split_setRole (hs : s.split = false) (p r : Nat) : (s.setRole p r).split = false :=
  ((State.Keeps.setRole hs p r).split fun i hw => by
    simp only [Pi.sup_apply, sup_Prop_eq, sideBits, roleBits, fieldBits, bPos_eq] at hw
    omega).trans hs

/-- A move to a state other than Sleep is side work, the write of the state, and side work. -/
theorem State.movePosition_steps (s : State) {p st : Nat} (hp : p < 40) (h : st ≠ 3) :
    ∃ s0, s.Keeps sideBits s0 ∧
      (s0.setFld (bTilePwr (p / 10)) (pstateFld (p % 10)) st).Keeps sideBits (s.movePosition p st) := by
  unfold State.movePosition
  simp only [h, if_false]
  exact ⟨_, .makeRoom (by omega) _ _, .railFollows _ _⟩

/-- A position moves to a power state other than Sleep. -/
theorem State.Keeps.movePosition {p st : Nat} (hp : p < 40) (h : st ≠ 3) :
    s.Keeps (pstateBits p ⊔ sideBits) (s.movePosition p st) := by
  obtain ⟨s0, h0, h1⟩ := s.movePosition_steps hp h
  exact (h0.mono le_sup_right).trans ((State.Keeps.setFld_self ..).sup h1)

theorem State.Keeps.pstate (h : s.Keeps sideBits t) {p : Nat} (hp : p < 40) : t.pstate p = s.pstate p :=
  h.fld fun i _ _ => by simp only [sideBits, bTilePwr_eq, pstateFld]; omega

theorem State.pstate_setFld_self (p st : Nat) (h : st < 8) :
    (s.setFld (bTilePwr (p / 10)) (pstateFld (p % 10)) st).pstate p = st := by
  rw [State.pstate, State.fld_setFld_self _ _ _ _ (by simp only [pstateFld]; omega)]
  exact Nat.mod_eq_of_lt h

theorem State.pstate_movePosition {p st : Nat} (hp : p < 40) (h : st ≠ 3) (h8 : st < 8) :
    (s.movePosition p st).pstate p = st := by
  obtain ⟨s0, -, h1⟩ := s.movePosition_steps hp h
  rw [h1.pstate hp, State.pstate_setFld_self p st h8]

/-! ## A sparing begins (R11, R257, Table 11.5 step 1) -/

/-- The choice of a spare depends on the mode and the pool alone. -/
theorem State.chooseSpare_congr (hs : t.split = s.split) (hp : ∀ p k, t.inPool p k = s.inPool p k) (p : Nat) :
    t.chooseSpare p = s.chooseSpare p := by
  have h0 : ∀ q, (t.pos q).pool0 = (s.pos q).pool0 := fun q => by simpa [State.inPool] using hp q 0
  have hpool : ∀ k, t.poolOf k = s.poolOf k := fun k => by simp only [State.poolOf, hs, hp, h0]
  have htile : ∀ k, t.tileSpare k = s.tileSpare k := fun k => by simp only [State.tileSpare, hpool, hs, hp]
  simp only [State.chooseSpare, hpool, htile]

/-- The spare position of a sparing leaves the pool. -/
def State.takeSpare (s : State) (x : Sparing) (q : Nat) : State :=
  (State.setPool { s with sparings := [{ x with spare := some (q, 0) }] } q 0 false).setPool q 1 false

/-- A recovery is noted. -/
def State.noteRecovery (s : State) (r : Recovery) : State :=
  { s with ese := { s.ese with recoveries := s.ese.recoveries ++ [r] } }

theorem State.Keeps.noteRecovery (h : s.Keeps W t) {r : Recovery} : (s.noteRecovery r).Keeps W (t.noteRecovery r) :=
  { h with ese := by simp only [State.noteRecovery, h.ese] }

@[simp] theorem State.noteRecovery_core (s : State) (r : Recovery) (n : Nat) : (s.noteRecovery r).core n = s.core n := rfl

@[simp] theorem State.noteRecovery_mem (s : State) (r : Recovery) : (s.noteRecovery r).mem = s.mem := rfl

@[simp] theorem State.noteRecovery_tiles (s : State) (r : Recovery) : (s.noteRecovery r).tiles = s.tiles := rfl

@[simp] theorem State.noteRecovery_reg (s : State) (r : Recovery) (w : Nat) : (s.noteRecovery r).reg w = s.reg w := rfl

@[simp] theorem State.noteRecovery_sparings (s : State) (r : Recovery) : (s.noteRecovery r).sparings = s.sparings := rfl

@[simp] theorem State.noteRecovery_recoveries (s : State) (r : Recovery) :
    (s.noteRecovery r).ese.recoveries = s.ese.recoveries ++ [r] := rfl

@[simp] theorem State.noteRecovery_inPool (s : State) (r : Recovery) (p k : Nat) :
    (s.noteRecovery r).inPool p k = s.inPool p k := rfl

@[simp] theorem State.takeSpare_mem (s : State) (x : Sparing) (q : Nat) : (s.takeSpare x q).mem = s.mem := rfl

@[simp] theorem State.takeSpare_tiles (s : State) (x : Sparing) (q : Nat) : (s.takeSpare x q).tiles = s.tiles := rfl

@[simp] theorem State.takeSpare_ese (s : State) (x : Sparing) (q : Nat) : (s.takeSpare x q).ese = s.ese := rfl

@[simp] theorem State.takeSpare_reg (s : State) (x : Sparing) (q w : Nat) : (s.takeSpare x q).reg w = s.reg w := rfl

@[simp] theorem State.takeSpare_sparings (s : State) (x : Sparing) (q : Nat) :
    (s.takeSpare x q).sparings = [{ x with spare := some (q, 0) }] := rfl

@[simp] theorem State.reg_setCore (s : State) (n : Nat) (c : LCore) (w : Nat) : (s.setCore n c).reg w = s.reg w := rfl

@[simp] theorem State.takeSpare_core (s : State) (x : Sparing) (q n : Nat) : (s.takeSpare x q).core n = s.core n := rfl

theorem State.inPool_takeSpare (s : State) (x : Sparing) (q : Nat) :
    (s.takeSpare x q).inPool q 0 = false ∧ (s.takeSpare x q).inPool q 1 = false := by
  simp [State.takeSpare, State.setPool, State.inPool]

/-- Step 1 of Table 11.5 for a checked position whose spare has been chosen. -/
theorem State.serveSparing_of_choice {x : Sparing} {q : Nat} (k : Nat) (hs : s.split = false) (hx : s.sparings = [x])
    (hn : x.spare = none) (hc : s.chooseSpare x.position = some (q, 0)) :
    State.serveSparing (k + 1) s =
      let s3 := (s.takeSpare x q).setRole x.position 4
      let s4 := State.makeRoom (q / 10) (fun u => u.setRole q 5) 4 s3
      let s5 := (s4.setRole q 5).announce (q / 10) (divFigures (s4.divider (q / 10))).1 12 true
      s5.recoveryBegins (.sparing x.position) := by
  rw [State.serveSparing]
  simp only [hx, hn, Option.isSome_none, Bool.false_eq_true, if_false, hc, hs]
  rfl

/-- The bits that the beginning of a sparing writes. -/
def beginBits (p q : Nat) : Nat → Nat → Prop := roleBits p ⊔ roleBits q ⊔ sideBits

theorem State.serveSparing_begins {x : Sparing} {q : Nat} (k : Nat) (hs : s.split = false) (hx : s.sparings = [x])
    (hn : x.spare = none) (hc : s.chooseSpare x.position = some (q, 0)) (hp : x.position < 40) (hq : q < 40)
    (hne : q ≠ x.position) :
    ((s.takeSpare x q).noteRecovery (.sparing x.position)).Keeps (beginBits x.position q) (State.serveSparing (k + 1) s) ∧
      (State.serveSparing (k + 1) s).role x.position = 4 ∧ (State.serveSparing (k + 1) s).role q = 5 := by
  rw [State.serveSparing_of_choice k hs hx hn hc]
  have hs2 : (s.takeSpare x q).split = false := hs
  generalize s.takeSpare x q = s2 at hs2 ⊢
  extract_lets s3 s4 s5
  have hs3 : s3.split = false := State.split_setRole hs2 _ _
  have h3 : s2.Keeps (beginBits x.position q) s3 :=
    (State.Keeps.setRole hs2 _ _).mono (sup_le_sup_right le_sup_left _)
  have h4 : s3.Keeps sideBits s4 := .makeRoom (by omega) _ _
  have hs4 : s4.split = false := (h4.split fun i hw => by simp only [sideBits] at hw; omega).trans hs3
  have h5 : s4.Keeps (beginBits x.position q) (s4.setRole q 5) :=
    (State.Keeps.setRole hs4 _ _).mono (sup_le_sup_right le_sup_right _)
  have h6 : (s4.setRole q 5).Keeps sideBits s5 := .announce ..
  have h7 : (s5.noteRecovery (.sparing x.position)).Keeps sideBits (s5.recoveryBegins (.sparing x.position)) := .refreshMode
  have hrole : ∀ r, r < 40 → (s5.recoveryBegins (.sparing x.position)).role r = (s4.setRole q 5).role r := fun r hr =>
    (h7.role fun _ => not_sideBits_role hr).trans (h6.role fun _ => not_sideBits_role hr)
  have hK : s2.Keeps (beginBits x.position q) s5 :=
    ((h3.trans (h4.mono le_sup_right)).trans h5).trans (h6.mono le_sup_right)
  refine ⟨hK.noteRecovery.trans (h7.mono le_sup_right), ?_, ?_⟩
  · rw [hrole _ hp, State.role_setRole_of_ne hs4 hp hne.symm, h4.role fun _ => not_sideBits_role hp,
      State.role_setRole_self hs2 hp (by decide)]
  · rw [hrole _ hq, State.role_setRole_self hs4 hq (by decide)]

/-- Without an open transaction a rollback is the return of the core to its Wafer. -/
theorem State.rollBack_of_no_tx {n : Nat} (h : (s.core n).tx = none) : s.rollBack n = s.setCore n (s.core n).rolledBack := by
  simp only [State.rollBack, State.txAbort, h]

/-- The registers that a rollback does not restore are no part of the PC. -/
theorem Arch.restored_pc (saved now : Arch) : (saved.restored now).pc = saved.pc := by
  simp only [Arch.restored, keptSr, List.foldl, Arch.setS]

/-- The sparing of a core as it is decided. -/
def State.newSparing (s : State) (p n : Nat) (checker : Bool) : Sparing :=
  { position := p, pipe := 0, core := n, since := s.timebase, checker := checker, spare := none, woken := false,
    drained := false, moved := false }

theorem State.decideSparing_eq {p n : Nat} (checker : Bool) (htx : (s.core n).tx = none) (h0 : s.sparings = []) :
    s.decideSparing p 0 n checker =
      State.serveSparing 64 { s.setCore n (s.core n).rolledBack with sparings := [s.newSparing p n checker] } := by
  rw [State.decideSparing, State.rollBack_of_no_tx htx, h0]
  rfl

/-- The decision to spare a position for which a spare is found (R257). -/
theorem State.decideSparing_begins {p n q : Nat} (checker : Bool) (hs : s.split = false) (htx : (s.core n).tx = none)
    (h0 : s.sparings = []) (hc : s.chooseSpare p = some (q, 0)) (hp : p < 40) (hq : q < 40) (hne : q ≠ p) :
    (((s.setCore n (s.core n).rolledBack).takeSpare (s.newSparing p n checker) q).noteRecovery (.sparing p)).Keeps
        (beginBits p q) (s.decideSparing p 0 n checker) ∧
      (s.decideSparing p 0 n checker).role p = 4 ∧ (s.decideSparing p 0 n checker).role q = 5 := by
  rw [State.decideSparing_eq checker htx h0]
  have h := State.serveSparing_begins (s := { s.setCore n (s.core n).rolledBack with sparings := [s.newSparing p n checker] })
    63 hs rfl rfl ((State.chooseSpare_congr rfl (fun _ _ => rfl) p).trans hc) hp hq hne
  rw [show State.takeSpare { s.setCore n (s.core n).rolledBack with sparings := [s.newSparing p n checker] } _ q =
    (s.setCore n (s.core n).rolledBack).takeSpare (s.newSparing p n checker) q from rfl] at h
  exact h

/-! ## The two causes of a sparing (R254, R256, R257) -/

theorem State.bit_raiseErr_self (s : State) (p : Page) {i : Nat} (hi : i < 64) :
    bit ((s.raiseErr p i).reg (p.base + 0x020)) i = true := by
  rw [State.raiseErr_reg, if_pos rfl]
  split
  · assumption
  · exact bit_putBit_self _ true hi

theorem State.Keeps.raiseErr_if {c : Prop} [Decidable c] {p : Page} {i : Nat} (h : W (p.base + 0x020) i) :
    s.Keeps W (if c then s.raiseErr p i else s) := by
  split
  · exact .raiseErr h
  · exact .refl ..

/-- The bits of BLK_ERR of a position, and those of side work. -/
def errBits (p : Nat) : Nat → Nat → Prop := fieldBits (bPos p) F.BLK_ERR ⊔ sideBits

/-- The second retry that fails, or a checker fault in an open event, decides the sparing; BLK_ERR shows a checker fault. -/
theorem State.checkFires_decides {p n code : Nat} {self : Option Nat} {e : CheckEvent} (hp : p < 40)
    (htx : (s.core n).tx = none) (he : s.checkEvent p 0 = some e) (hc : e.clean < 256)
    (hu : s.flag (bPos p) F.CORE_STAT_UNCHECKED = false) (h2 : code = 2 ∨ e.retries = 2) (inj : Bool) :
    ∃ u, s.checkFires p 0 n code self inj = u.decideSparing p 0 n (code == 2) ∧
      (s.setCore n (s.core n).rolledBack).Keeps (errBits p) u ∧
      (code = 2 → bit (u.reg (bPos p + 0x020)) 12 = true) := by
  unfold State.checkFires
  simp only [he, Nat.not_le.2 hc, if_false, hu, Bool.false_eq_true, false_and, h2, if_true, State.rollBack_of_no_tx htx]
  refine ⟨_, rfl, ?_, fun h => ?_⟩
  · exact ((((State.Keeps.countFiring hp _ _).trans (.setCheckEvent hp _ _)).trans (.noteEvent hp _ _)).mono
      le_sup_right).trans (.raiseErr_if (.inl ⟨rfl, by decide⟩))
  · rw [if_pos h]
    exact State.bit_raiseErr_self _ (posPage p) (by decide)

/-- What a state from which a sparing is decided shares with the state in which its cause acted: the core may have returned
to its Wafer already, and side work may have been done. -/
structure State.SparesFrom (s : State) (n p q : Nat) (u : State) : Prop where
  split : u.split = false
  noTx : (u.core n).tx = none
  noSparing : u.sparings = []
  choice : u.chooseSpare p = some (q, 0)
  timebase : u.timebase = s.timebase
  stores : (u.core n).stores = (s.core n).stores
  pc : (u.core n).wafer.pc = (s.core n).wafer.pc
  others : ∀ m, m ≠ n → u.core m = s.core m
  ese : u.ese = s.ese
  mem : u.mem = s.mem
  tiles : u.tiles = s.tiles

theorem not_errBits_split (p i : Nat) : ¬ errBits p 0x1050 i := by
  simp only [errBits, Pi.sup_apply, sup_Prop_eq, sideBits, fieldBits, bPos_eq]
  omega

theorem State.SparesFrom.of_keeps {n p q : Nat} {v : State} (hs : v.split = false) (htx : (v.core n).tx = none)
    (h0 : v.sparings = []) (hc : v.chooseSpare p = some (q, 0)) (h : v.Keeps (errBits p) u) : v.SparesFrom n p q u where
  split := (h.split (not_errBits_split p)).trans hs
  noTx := by rw [h.core]; exact htx
  noSparing := h.sparings.trans h0
  choice := (State.chooseSpare_congr (h.split (not_errBits_split p)) h.pool p).trans hc
  timebase := h.timebase
  stores := by rw [h.core]
  pc := by rw [h.core]
  others m _ := h.core m
  ese := h.ese
  mem := h.mem
  tiles := h.tiles

/-- What the beginning of a sparing leaves (Table 11.5 step 1). -/
structure State.SparingBegun (s : State) (n p q : Nat) (checker : Bool) (t : State) : Prop where
  sparings : t.sparings = [{ s.newSparing p n checker with spare := some (q, 0) }]
  rolePosition : t.role p = 4
  roleSpare : t.role q = 5
  pool : t.inPool q 0 = false ∧ t.inPool q 1 = false
  group : (t.core n).group = 0
  fresh : (t.core n).fresh = []
  stores : (t.core n).stores = (s.core n).stores
  pc : (t.arch n).pc = (s.core n).wafer.pc
  others : ∀ m, m ≠ n → t.core m = s.core m
  recoveries : t.ese.recoveries = s.ese.recoveries ++ [.sparing p]
  mem : t.mem = s.mem
  tiles : t.tiles = s.tiles

theorem State.SparesFrom.begins {n p q : Nat} (h : s.SparesFrom n p q u) (hp : p < 40) (hq : q < 40) (hne : q ≠ p)
    (checker : Bool) : s.SparingBegun n p q checker (u.decideSparing p 0 n checker) := by
  obtain ⟨k, h4, h5⟩ := State.decideSparing_begins checker h.split h.noTx h.noSparing h.choice hp hq hne
  have hcore : (u.decideSparing p 0 n checker).core n = (u.core n).rolledBack :=
    (k.core n).trans (by simp)
  have hpool := State.inPool_takeSpare (u.setCore n (u.core n).rolledBack) (u.newSparing p n checker) q
  exact
    { sparings := by simp [k.sparings, State.newSparing, h.timebase]
      rolePosition := h4
      roleSpare := h5
      pool := by simp [k.pool, hpool]
      group := by rw [hcore]; rfl
      fresh := by rw [hcore]; rfl
      stores := by rw [hcore, ← h.stores]; rfl
      pc := by rw [State.arch, hcore, ← h.pc]; exact Arch.restored_pc _ _
      others := fun m hm => by
        rw [k.core, State.noteRecovery_core, State.takeSpare_core, State.core_setCore_of_ne u _ hm, h.others m hm]
      recoveries := by simp [k.ese, h.ese]
      mem := by simp [k.mem, h.mem]
      tiles := by simp [k.tiles, h.tiles] }

/-- A register that no step of the beginning writes. -/
theorem State.SparesFrom.reg {n p q w : Nat} (h : s.SparesFrom n p q u) (hp : p < 40) (hq : q < 40) (hne : q ≠ p)
    (checker : Bool) (hw : ∀ i, ¬ beginBits p q w i) : (u.decideSparing p 0 n checker).reg w = u.reg w := by
  have k := (State.decideSparing_begins checker h.split h.noTx h.noSparing h.choice hp hq hne).1
  simp [k.reg hw]

/-- The core that a pipeline hosts is read from LCORE_MAP. -/
theorem State.coreOn_congr (h : ∀ n, n < 64 → t.reg (bIdent + 8 * n + 0x100) = s.reg (bIdent + 8 * n + 0x100)) (p k : Nat) :
    t.coreOn p k = s.coreOn p k := by
  refine List.find?_congr fun n hn => ?_
  have e := h n (List.mem_range.1 hn)
  simp only [State.coreValid, State.posOf, State.pipeOf, State.flag, State.fld, show F.LCORE_MAP_VALID.off = 0x100 from rfl,
    show F.LCORE_MAP_POSITION.off = 0x100 from rfl, show F.LCORE_MAP_PIPE.off = 0x100 from rfl, e]

theorem not_beginBits_err {k : Nat} (p q i : Nat) (hk : k < 40) : ¬ beginBits p q (bPos k + 0x020) i := by
  simp only [beginBits, Pi.sup_apply, sup_Prop_eq, sideBits, roleBits, fieldBits, bPos_eq, F.CORE_STAT_ROLE]
  omega

section
variable {p : Fin 40} {q : Nat} {n : Fin 64}

/-- CHECK_FIRING that decides a sparing. -/
theorem exec_checkFiring_spares {code : BitVec 4} {self : Option (Fin 2)} {e : CheckEvent} (hpow : s.powered = true)
    (hs : s.split = false) (hpos : s.posOf n = p) (htx : (s.core n).tx = none) (h0 : s.sparings = [])
    (hc : s.chooseSpare p = some (q, 0)) (hq : q < 40) (hne : q ≠ p.val)
    (hfire : s.canFire p n code.toNat (self.map (·.val)) = true) (he : s.checkEvent p 0 = some e) (hcl : e.clean < 256)
    (hu : s.flag (bPos p) F.CORE_STAT_UNCHECKED = false) (h2 : e.retries = 2 ∨ code = 2) :
    ∃ t, exec (.checkFiring n code self) s = .next t ∧ s.SparingBegun n p q (decide (code = 2)) t ∧
      (code = 2 → bit (t.reg (bPos p + 0x020)) 12 = true) := by
  have hcode : code.toNat = 2 ↔ code = 2 := (BitVec.toNat_inj (x := code) (y := 2))
  obtain ⟨u, hu1, hk, hb⟩ := State.checkFires_decides (s := s) (self := self.map (·.val)) p.isLt htx he hcl hu
    (by rw [hcode]; exact h2.symm) false
  have hf : s.SparesFrom n p q u :=
    { State.SparesFrom.of_keeps (n := n) (v := s.setCore n (s.core n).rolledBack) hs
        (by rw [State.core_setCore_self]; exact htx) h0
        ((State.chooseSpare_congr rfl (fun _ _ => rfl) p).trans hc) hk with
      stores := by rw [hk.core, State.core_setCore_self]; rfl
      pc := by rw [hk.core, State.core_setCore_self]; exact Arch.restored_pc _ _
      others := fun m hm => (hk.core m).trans (State.core_setCore_of_ne s _ hm) }
  refine ⟨u.decideSparing p 0 n (decide (code = 2)), ?_, hf.begins p.isLt hq hne _, fun h => ?_⟩
  · show execCheckFiring n code self s = _
    have e2 : (code.toNat == 2) = decide (code = 2) := by simp only [beq_eq_decide, hcode]
    simp only [execCheckFiring, hpos, hs, Bool.false_eq_true, if_false, hu1, e2]
    exact event_next _ _ hpow hfire
  · rw [hf.reg p.isLt hq hne _ (not_beginBits_err p q · p.isLt)]
    exact hb (hcode.2 h)

/-- SPARE_NOW decides the sparing of the one core that the position hosts. -/
theorem posWrote_spareNow {p n : Nat} {v : Word} (hv : bit v 0 = true) (h0 : s.coreOn p 0 = some n) (hsp : s.sparings = [])
    (h1 : s.coreOn p 1 = none) : posWrote p 0x040 v s = s.decideSparing p 0 n false := by
  simp [posWrote, hv, List.range_succ, h0, State.beingSpared, hsp, h1]

/-- An accepted write of POS_CTL stores its fields and does what SPARE_NOW does. -/
theorem writeRow_posCtl {src : Src} {p : Nat} {v : Word} (m : String) (hpow : s.powered = true)
    (hm : s.mayAccess src (bPos p + 0x040) = true) (ha : s.accepts src (posPage p) 0x040 v = true) :
    ∃ x, writeRow m src (bPos p + 0x040) v s = .next (posWrote p 0x040 v (s.setReg (bPos p + 0x040) x)) := by
  obtain ⟨fs, hfs, hw⟩ := writeRow_of_accepts (m := m) (by decide) hpow hm ha
  obtain rfl : [F.POS_CTL_SPARE_NOW, F.POS_CTL_BENIGN_CRUMB] = fs := Option.some.inj hfs
  exact ⟨_, hw⟩

theorem State.bit_withBit (s : State) (w : Nat) {i : Nat} (h : i < 64) : bit (s.withBit w i) i = true :=
  bit_putBit_self _ true h

theorem exec_spareNow_spares {src : Src} (hpow : s.powered = true) (hs : s.split = false)
    (hon : s.coreOn p 0 = some n.val) (htx : (s.core n).tx = none) (h0 : s.sparings = [])
    (hc : s.chooseSpare p = some (q, 0)) (hq : q < 40) (hne : q ≠ p.val) (h1 : s.coreOn p 1 = none)
    (hm : s.mayAccess src (bPos p + 0x040) = true)
    (ha : s.accepts src (posPage p) 0x040 (s.withBit (bPos p + 0x040) 0) = true) :
    ∃ t, exec (.spareNow src p) s = .next t ∧ s.SparingBegun n p q false t := by
  obtain ⟨x, hx⟩ := writeRow_posCtl "SPARE_NOW" hpow hm ha
  have hk : s.Keeps (errBits p) (s.setReg (bPos p + 0x040) x) :=
    .setReg fun _ _ => .inr (sideBits_pos p.isLt (by decide) nofun)
  generalize s.setReg (bPos p + 0x040) x = u at hx hk
  have hf : s.SparesFrom n p q u := .of_keeps hs htx h0 hc hk
  have hmap : ∀ k, k < 64 → u.reg (bIdent + 8 * k + 0x100) = s.reg (bIdent + 8 * k + 0x100) := fun k hk64 =>
    hk.reg fun i => by
      simp only [errBits, Pi.sup_apply, sup_Prop_eq, sideBits, fieldBits, bPos_eq, F.BLK_ERR, show bIdent = 0 from rfl]
      omega
  refine ⟨u.decideSparing p 0 n false, ?_, hf.begins p.isLt hq hne false⟩
  rw [show exec (.spareNow src p) s = _ from hx, posWrote_spareNow (State.bit_withBit _ _ (by decide))
    ((State.coreOn_congr hmap _ _).trans hon) hf.noSparing ((State.coreOn_congr hmap _ _).trans h1)]

end

/-! ## The steps of a sparing in progress (R258 to R262, Table 11.5 steps 2 to 6) -/

/-- The sparing in progress is the first one, once its spare has been chosen. -/
theorem State.sparing_of_chosen {x : Sparing} {q : Nat} (hx : s.sparings = [x]) (hq : x.spare = some (q, 0)) :
    s.sparing = some x := by
  simp only [State.sparing, hx, hq, Option.isSome_some, if_true]

@[simp] theorem State.sparings_setSparing (s : State) (x : Sparing) : (s.setSparing x).sparings = x :: s.sparings.tail := rfl

theorem State.stepSparing_checked {x : Sparing} {q : Nat} (hs : s.split = false) (hq : x.spare = some (q, 0)) :
    s.stepSparing x = s.setSparing x := by
  simp only [State.stepSparing, hq, hs, Bool.false_eq_true, false_and, if_false]

section
variable {x : Sparing} {q : Nat} (hpow : s.powered = true) (hs : s.split = false) (hm : s.mode ≠ 10)
  (hx : s.sparings = [x]) (hq : x.spare = some (q, 0))
include hpow hs hm hx hq

/-- Step 2: the wake of the spare. -/
theorem exec_spareWakeComplete_next (hw : x.woken = false) :
    exec .spareWakeComplete s =
      .next ((s.setFld (bTilePwr (q / 10)) (pstateFld (q % 10)) 0).setSparing { x with woken := true }) := by
  have hwake : s.wakeSpare q 0 = s.setFld (bTilePwr (q / 10)) (pstateFld (q % 10)) 0 := by
    simp only [State.wakeSpare, hs, Bool.false_eq_true, if_false]
  have hsplit : (s.setFld (bTilePwr (q / 10)) (pstateFld (q % 10)) 0).split = false :=
    ((State.Keeps.setFld_self ..).split fun i hi => by
      have := hi.1
      simp only [bTilePwr_eq, pstateFld] at this
      omega).trans hs
  show execSpareWakeComplete s = _
  simp only [execSpareWakeComplete, State.sparing_of_chosen hx hq, hq, hwake]
  rw [event_next _ _ hpow (by simp [hw, hm]), State.stepSparing_checked (q := q) hsplit rfl]

/-- Step 3: the drain of the store buffer. -/
theorem exec_storeBufferDrainComplete_next (hd : x.drained = false) (hst : (s.core x.core).stores = [])
    (ho : s.noneOrdered x.core = true) (hl : (s.core x.core).devLoad = none) :
    exec .storeBufferDrainComplete s = .next (s.setSparing { x with drained := true }) := by
  show execStoreBufferDrainComplete s = _
  simp only [execStoreBufferDrainComplete, State.sparing_of_chosen hx hq]
  rw [event_next _ _ hpow (by simp [hd, hst, ho, hl, hm]),
    State.stepSparing_checked (x := { x with drained := true }) hs hq]

/-- Steps 4 and 5: with no line to move, the transfer follows. -/
theorem exec_lineMoveComplete_next (hw : x.woken = true) (hd : x.drained = true) (hmv : x.moved = false)
    (hon : s.cacheOn (q / 10) (q % 10) = true) (hl : s.linesIn (x.position / 10) (x.position % 10) 0xFFFF = []) :
    exec .lineMoveComplete s = .next (s.transfer x q 0) := by
  have hmove : s.moveLines x.position q = s := by simp only [State.moveLines, hl, hon, if_true, List.foldl_nil]
  show execLineMoveComplete s = _
  simp only [execLineMoveComplete, State.sparing_of_chosen hx hq, hq, hmove]
  exact event_next _ _ hpow (by simp [hs, hw, hd, hmv, hm])

end

/-! ### The transfer (step 5) -/

/-- The bits that the transfer writes once the core's place stands in LCORE_MAP. -/
def transferBits (p q : Nat) : Nat → Nat → Prop := beginBits p q ⊔ pstateBits p

theorem not_transferBits_map {n : Nat} (p q i : Nat) (hn : n < 64) :
    ¬ transferBits p q (bIdent + 8 * n + 0x100) i := by
  simp only [transferBits, beginBits, Pi.sup_apply, sup_Prop_eq, sideBits, roleBits, pstateBits, fieldBits, bPos_eq,
    bTilePwr_eq, pstateFld, F.CORE_STAT_ROLE, show bIdent = 0 from rfl]
  omega

/-- LCORE_MAP names pipeline 0 of a position as the place of a logical core. -/
def State.mapCore (s : State) (n q : Nat) : State :=
  (s.setFld (bIdent + 8 * n) F.LCORE_MAP_POSITION q).setFld (bIdent + 8 * n) F.LCORE_MAP_PIPE 0

theorem State.mapCore_posOf (s : State) (n : Nat) {q : Nat} (hq : q < 64) : (s.mapCore n q).posOf n = q := by
  rw [State.mapCore, State.posOf, State.fld_setFld_of_disjoint _ _ F.LCORE_MAP_PIPE F.LCORE_MAP_POSITION _ rfl (by decide)
    (by decide), State.fld_setFld_self _ _ _ _ (by decide)]
  exact Nat.mod_eq_of_lt hq

theorem State.mapCore_pipeOf (s : State) (n q : Nat) : (s.mapCore n q).pipeOf n = 0 := by
  rw [State.mapCore, State.pipeOf, State.fld_setFld_self _ _ _ _ (by decide), Nat.zero_mod]

theorem State.Keeps.mapCore (s : State) (n q : Nat) : s.Keeps (fun w _ => w = bIdent + 8 * n + 0x100) (s.mapCore n q) :=
  (State.Keeps.setFld _ fun _ _ _ => rfl).trans (.setFld _ fun _ _ _ => rfl)

/-- A logical core's committed state is loaded at its new place. -/
def State.placed (s : State) (x : Sparing) (q : Nat) : State :=
  ((s.setCore x.core { (s.core x.core).rolledBack with tlb := [] }).mapCore x.core q).setSparing { x with moved := true }

@[simp] theorem State.setSparing_core (s : State) (x : Sparing) (n : Nat) : (s.setSparing x).core n = s.core n := rfl

@[simp] theorem State.setSparing_posOf (s : State) (x : Sparing) (n : Nat) : (s.setSparing x).posOf n = s.posOf n := rfl

@[simp] theorem State.setSparing_pipeOf (s : State) (x : Sparing) (n : Nat) : (s.setSparing x).pipeOf n = s.pipeOf n := rfl

@[simp] theorem State.setSparing_split (s : State) (x : Sparing) : (s.setSparing x).split = s.split := rfl

theorem State.split_setCore (s : State) (n : Nat) (c : LCore) : (s.setCore n c).split = s.split := rfl

theorem State.placed_posOf (s : State) (x : Sparing) {q : Nat} (hq : q < 64) : (s.placed x q).posOf x.core = q := by
  rw [State.placed, State.setSparing_posOf, State.mapCore_posOf _ _ hq]

theorem State.placed_pipeOf (s : State) (x : Sparing) (q : Nat) : (s.placed x q).pipeOf x.core = 0 := by
  rw [State.placed, State.setSparing_pipeOf, State.mapCore_pipeOf]

theorem State.placed_core_self (s : State) (x : Sparing) (q : Nat) :
    (s.placed x q).core x.core = { (s.core x.core).rolledBack with tlb := [] } := by
  rw [State.placed, State.setSparing_core, (State.Keeps.mapCore ..).core, State.core_setCore_self]

theorem State.placed_core_of_ne (s : State) {x : Sparing} {m : Nat} (q : Nat) (h : m ≠ x.core) :
    (s.placed x q).core m = s.core m := by
  rw [State.placed, State.setSparing_core, (State.Keeps.mapCore ..).core, State.core_setCore_of_ne _ _ h]

theorem State.placed_sparings (s : State) (x : Sparing) (q : Nat) :
    (s.placed x q).sparings = { x with moved := true } :: s.sparings.tail := by
  rw [State.placed, State.sparings_setSparing, (State.Keeps.mapCore ..).sparings, State.setCore_sparings]

theorem State.placed_mem (s : State) (x : Sparing) (q : Nat) : (s.placed x q).mem = s.mem := by
  rw [State.placed, State.setSparing_mem, (State.Keeps.mapCore ..).mem, State.setCore_mem]

theorem State.placed_split (s : State) (x : Sparing) (q : Nat) (hx : x.core < 64) : (s.placed x q).split = s.split := by
  rw [State.placed, State.setSparing_split, (State.Keeps.mapCore ..).split, State.split_setCore]
  intro i
  rw [show bIdent = 0 from rfl]
  omega

/-- The spare takes the role of the failed position. -/
def State.rolesMoved (s : State) (x : Sparing) (q : Nat) : State :=
  (((s.placed x q).setPos x.position { (s.placed x q).pos x.position with failed := true }).setRole q 1).setRole x.position 3

/-- In checked mode the transfer ends, after side work, with the power-down of the failed position. -/
theorem State.transfer_checked {x : Sparing} {q : Nat} (hs : s.split = false) (hp : x.position < 40) :
    ∃ u, (s.rolesMoved x q).Keeps sideBits u ∧ s.transfer x q 0 = (u.movePosition x.position 4).capWords := by
  unfold State.transfer
  rw [if_neg (by rw [hs]; decide)]
  extract_lets _ _ s4 s5 s6 s7 s8
  have h5 : s4.Keeps sideBits s5 := by
    simp only [s5]
    split
    · split
      · exact .failPipe hp 0
      · exact .refl ..
    · exact .refl ..
  have h6 : s5.Keeps sideBits s6 := by
    simp only [s6]
    split
    · split
      · exact .failPipe hp 1
      · exact .refl ..
    · exact .refl ..
  have off {v : State} {f : Fld} (h : 0x040 ≤ f.off ∧ f.off < 0x1000 ∧ f.off ≠ 0x068) (h' : f.off ≠ 0x048) :
      v.Keeps sideBits (v.setFlag (bPos x.position) f false) := .setFlag _ fun _ _ _ => sideBits_pos hp h fun e => absurd e h'
  have h7 : s6.Keeps sideBits s7 := (State.Keeps.closeEvent hp 0 2).trans (off (by decide) (by decide))
  have h8 : s7.Keeps sideBits s8 := (off (by decide) (by decide)).trans (off (by decide) (by decide))
  exact ⟨s8, ((h5.trans h6).trans h7).trans h8, rfl⟩

section
variable {x : Sparing} {q : Nat} (hs : s.split = false) (hp : x.position < 40) (hq : q < 40) (hne : q ≠ x.position)
  (hn : x.core < 64)
include hs hp hq hne hn

theorem State.rolesMoved_steps :
    (s.placed x q).Keeps (beginBits x.position q) (s.rolesMoved x q) ∧ (s.rolesMoved x q).role q = 1 ∧
      (s.rolesMoved x q).role x.position = 3 := by
  have h0 : (s.placed x q).Keeps sideBits
      ((s.placed x q).setPos x.position { (s.placed x q).pos x.position with failed := true }) := .setPos rfl rfl
  have hs0 : ((s.placed x q).setPos x.position { (s.placed x q).pos x.position with failed := true }).split = false :=
    (State.placed_split s x q hn).trans hs
  unfold State.rolesMoved
  generalize (s.placed x q).setPos x.position { (s.placed x q).pos x.position with failed := true } = u at h0 hs0 ⊢
  have hs1 := State.split_setRole hs0 q 1
  refine ⟨?_, ?_, State.role_setRole_self hs1 hp (by decide)⟩
  · exact ((h0.mono le_sup_right).trans ((State.Keeps.setRole hs0 q 1).mono (sup_le_sup_right le_sup_right _))).trans
      ((State.Keeps.setRole hs1 _ 3).mono (sup_le_sup_right le_sup_left _))
  · rw [State.role_setRole_of_ne hs1 hq hne, State.role_setRole_self hs0 hq (by decide)]

/-- Step 5 in checked mode. -/
theorem State.transfer_steps :
    (s.placed x q).Keeps (transferBits x.position q) (s.transfer x q 0) ∧ (s.transfer x q 0).role q = 1 ∧
      (s.transfer x q 0).role x.position = 3 ∧ (s.transfer x q 0).pstate x.position = 4 := by
  obtain ⟨u, hu, ht⟩ := State.transfer_checked (q := q) hs hp
  obtain ⟨hk, h1, h3⟩ := State.rolesMoved_steps hs hp hq hne hn
  have hm : u.Keeps (pstateBits x.position ⊔ sideBits) (u.movePosition x.position 4) := .movePosition hp (by decide)
  have hrole : ∀ r, r < 40 → (s.transfer x q 0).role r = (s.rolesMoved x q).role r := fun r hr => by
    rw [ht, State.Keeps.capWords.role fun _ => not_sideBits_role hr, hm.role, hu.role fun _ => not_sideBits_role hr]
    rintro i hi (h | h)
    · exact absurd h.1 (by simp only [bPos_eq, bTilePwr_eq, pstateFld]; omega)
    · exact not_sideBits_role hr hi h
  refine ⟨?_, (hrole q hq).trans h1, (hrole _ hp).trans h3, ?_⟩
  · rw [ht]
    refine ((hk.mono le_sup_left).trans (hu.mono ?_)).trans ((hm.mono ?_).trans (State.Keeps.capWords.mono ?_))
    · exact le_sup_right.trans le_sup_left
    · exact sup_le le_sup_right (le_sup_right.trans le_sup_left)
    · exact le_sup_right.trans le_sup_left
  · rw [ht, State.Keeps.capWords.pstate hp, State.pstate_movePosition hp (by decide) (by decide)]

end

/-! ### The restart (step 6) -/

/-- The bits of SPARE_INFO of a position. -/
def infoBits (p w _i : Nat) : Prop := w = bPos p + 0x068

theorem State.Keeps.spareInfo (p partner pipe duration : Nat) :
    s.Keeps (infoBits p) (s.spareInfo p partner pipe duration) := by
  have info {v : State} {f : Fld} (n : Nat) (h : f.off = 0x068) : v.Keeps (infoBits p) (v.setFld (bPos p) f n) :=
    .setFld n fun _ _ _ => by rw [h]; rfl
  unfold State.spareInfo
  exact ((((info _ rfl).trans (info _ rfl)).trans (info _ rfl)).trans (info _ rfl)).trans (info _ rfl)

/-- The fields of SPARE_INFO after it has been written. -/
theorem State.spareInfo_fields (s : State) {p partner duration : Nat} (pipe : Nat) (hp : partner < 64)
    (hd : duration < 2 ^ 16) :
    (s.spareInfo p partner pipe duration).fld (bPos p) F.SPARE_INFO_PARTNER = partner ∧
      (s.spareInfo p partner pipe duration).fld (bPos p) F.SPARE_INFO_VALID = 1 ∧
      (s.spareInfo p partner pipe duration).fld (bPos p) F.SPARE_INFO_CROSS_TILE = b2n (p / 10 != partner / 10) ∧
      (s.spareInfo p partner pipe duration).fld (bPos p) F.SPARE_INFO_DURATION = duration := by
  unfold State.spareInfo State.setFlag
  simp (disch := decide) only [State.fld_setFld_of_disjoint, State.fld_setFld_self]
  refine ⟨Nat.mod_eq_of_lt hp, rfl, ?_, Nat.mod_eq_of_lt hd⟩
  cases (p / 10 != partner / 10) <;> rfl

theorem State.serveSparing_none (k : Nat) (h : s.sparings = []) : State.serveSparing k s = s := by
  cases k with
  | zero => rfl
  | succ k => simp only [State.serveSparing, h]

/-- DURATION of SPARE_INFO: the time since the decision, which saturates. -/
def State.sparingTime (s : State) (x : Sparing) : Nat :=
  if (s.timebase - x.since).toNat < 2 ^ 16 then (s.timebase - x.since).toNat else 2 ^ 16 - 1

theorem State.sparingTime_lt (s : State) (x : Sparing) : s.sparingTime x < 2 ^ 16 := by
  unfold State.sparingTime
  split
  · assumption
  · decide

/-- The state in which the pages of both positions show the sparing. -/
def State.sparedPages (s : State) (x : Sparing) (q : Nat) : State :=
  ((State.spareInfo { s with sparings := [] } x.position q 0 (s.sparingTime x)).spareInfo q x.position 0
    (s.sparingTime x)).raiseErr (posPage x.position) 10

/-- A recovery is noted no longer. -/
def State.dropRecovery (s : State) (r : Recovery) : State :=
  { s with ese := { s.ese with recoveries := s.ese.recoveries.filter (fun x => x != r) } }

theorem State.Keeps.recoveryEnds (s : State) (r : Recovery) : (s.dropRecovery r).Keeps sideBits (s.recoveryEnds r) :=
  .refreshMode

theorem State.Keeps.dropRecovery (h : s.Keeps W t) (r : Recovery) : (s.dropRecovery r).Keeps W (t.dropRecovery r) :=
  { h with ese := by simp only [State.dropRecovery, h.ese] }

@[simp] theorem State.dropRecovery_sparings (s : State) (r : Recovery) : (s.dropRecovery r).sparings = s.sparings := rfl

@[simp] theorem State.dropRecovery_cores (s : State) (r : Recovery) : (s.dropRecovery r).cores = s.cores := rfl

@[simp] theorem State.dropRecovery_mem (s : State) (r : Recovery) : (s.dropRecovery r).mem = s.mem := rfl

@[simp] theorem State.dropRecovery_tiles (s : State) (r : Recovery) : (s.dropRecovery r).tiles = s.tiles := rfl

@[simp] theorem State.dropRecovery_reg (s : State) (r : Recovery) (w : Nat) : (s.dropRecovery r).reg w = s.reg w := rfl

theorem State.recoveryEnds_cores (s : State) (r : Recovery) : (s.recoveryEnds r).cores = s.cores :=
  (State.Keeps.recoveryEnds s r).cores

theorem State.recoveryEnds_sparings (s : State) (r : Recovery) : (s.recoveryEnds r).sparings = s.sparings :=
  (State.Keeps.recoveryEnds s r).sparings

/-- The pages are written from a state without the sparing; the cores, memory and the tiles stay. -/
theorem State.Keeps.sparedPages (s : State) (x : Sparing) (q : Nat) :
    State.Keeps (infoBits x.position ⊔ infoBits q ⊔ errBits x.position) { s with sparings := [] } (s.sparedPages x q) :=
  ((State.Keeps.spareInfo ..).sup (.spareInfo ..)).sup (.raiseErr (.inl ⟨rfl, by decide⟩))

section
variable {x : Sparing} {q : Nat} (hpow : s.powered = true) (hs : s.split = false) (hm : s.mode ≠ 10)
  (hx : s.sparings = [x]) (hq : x.spare = some (q, 0))
include hpow hs hm hx hq

/-- Step 6: after the pages and the Crumb come the core event and the end of the recovery; no other sparing waits. -/
theorem exec_spareRestart_next (hmv : x.moved = true) (hh : (s.core x.core).haltDue = false) :
    ∃ u, (s.sparedPages x q).Keeps sideBits u ∧
      exec .spareRestart s = .next ((u.coreEvent x.core 1).recoveryEnds (.sparing x.position)) := by
  show ∃ u, _ ∧ execSpareRestart s = _
  simp -zeta only [execSpareRestart, State.sparing_of_chosen hx hq, hq]
  extract_lets p d dur s1 s2 s3 s4 s5 s6
  have h3 : s3 = s.sparedPages x q := by
    simp only [s3, s2, s1, hs, hx, Bool.false_eq_true, if_false]
    rfl
  have h4 : s3.Keeps sideBits s4 := .crumb ..
  have hc : s4.Keeps sideBits (s4.coreEvent x.core 1) := .coreEvent ..
  have hp := State.Keeps.sparedPages s x q
  rw [← h3] at hp ⊢
  have hcores : s5.cores = s.cores := by
    rw [State.recoveryEnds_cores, hc.cores, h4.cores, hp.cores]
  have hsp : s5.sparings = [] := by
    rw [State.recoveryEnds_sparings, hc.sparings, h4.sparings, hp.sparings]
  have hcore : s5.core x.core = s.core x.core := by simp only [State.core, hcores]
  have h6 : s6 = s5 := if_neg (by rw [hcore, hh]; decide)
  refine ⟨s4, h4, ?_⟩
  rw [event_next _ _ hpow (by simp [hmv, hm]), h6, State.serveSparing_none _ hsp]

end

/-- What the pages of the two positions show after the restart. -/
theorem State.sparedPages_shows (s : State) {x : Sparing} {q : Nat} (hp : x.position < 40) (hq : q < 40)
    (hne : q ≠ x.position) :
    (s.sparedPages x q).fld (bPos x.position) F.SPARE_INFO_PARTNER = q ∧
      (s.sparedPages x q).fld (bPos q) F.SPARE_INFO_PARTNER = x.position ∧
      (s.sparedPages x q).fld (bPos x.position) F.SPARE_INFO_VALID = 1 ∧
      (s.sparedPages x q).fld (bPos q) F.SPARE_INFO_VALID = 1 ∧
      (s.sparedPages x q).fld (bPos q) F.SPARE_INFO_CROSS_TILE = b2n (q / 10 != x.position / 10) ∧
      (s.sparedPages x q).fld (bPos q) F.SPARE_INFO_DURATION = s.sparingTime x ∧
      bit ((s.sparedPages x q).reg (bPos x.position + 0x020)) 10 = true := by
  have hd := s.sparingTime_lt x
  obtain ⟨hpart, hvalid, -, -⟩ := State.spareInfo_fields { s with sparings := [] } (p := x.position) (partner := q) 0
    (by omega) hd
  unfold State.sparedPages
  generalize State.spareInfo { s with sparings := [] } x.position q 0 (s.sparingTime x) = u at hpart hvalid ⊢
  obtain ⟨hpart', hvalid', hcross, hdur⟩ := u.spareInfo_fields (p := q) (partner := x.position) 0 (by omega) hd
  have hk : u.Keeps (infoBits q) (u.spareInfo q x.position 0 (s.sparingTime x)) := .spareInfo ..
  generalize u.spareInfo q x.position 0 (s.sparingTime x) = v at hk hpart' hvalid' hcross hdur ⊢
  have hr : v.Keeps (fieldBits (bPos x.position) F.BLK_ERR) (v.raiseErr (posPage x.position) 10) :=
    .raiseErr ⟨rfl, by decide⟩
  have first : ∀ f : Fld, f.off = 0x068 → (v.raiseErr (posPage x.position) 10).fld (bPos x.position) f =
      u.fld (bPos x.position) f := fun f hf =>
    (hr.fld fun i _ _ => by simp only [hf, fieldBits, bPos_eq, F.BLK_ERR]; omega).trans
      (hk.fld fun i _ _ => by simp only [hf, infoBits, bPos_eq]; omega)
  have second : ∀ f : Fld, f.off = 0x068 → (v.raiseErr (posPage x.position) 10).fld (bPos q) f = v.fld (bPos q) f :=
    fun f hf => hr.fld fun i _ _ => by simp only [hf, fieldBits, bPos_eq, F.BLK_ERR]; omega
  exact ⟨(first _ rfl).trans hpart, (second _ rfl).trans hpart', (first _ rfl).trans hvalid, (second _ rfl).trans hvalid',
    (second _ rfl).trans hcross, (second _ rfl).trans hdur, State.bit_raiseErr_self v (posPage x.position) (by decide)⟩

/-- After the core event and the end of the recovery the source is pending, with its kind noted. -/
theorem State.restart_source (s : State) (n : Nat) (r : Recovery) :
    (((s.coreEvent n 1).recoveryEnds r).source (0x1E00 + n)).pend = true ∧
      (((s.coreEvent n 1).recoveryEnds r).source (0x1E00 + n)).evkind &&& 1 = 1 := by
  have hp : ((s.coreEvent n 1).source (0x1E00 + n)).pend = true := State.sourceEvent_pend _ _
  have hk : ((s.coreEvent n 1).source (0x1E00 + n)).evkind.testBit 0 = true := by
    unfold State.coreEvent
    refine (State.Keeps.sourceEvent (W := sideBits) (0x1E00 + n)).kinds _ 0 ?_
    rw [State.source_setSource_self]
    simp only [Nat.testBit_or, Nat.testBit_one_zero, Bool.or_true]
  generalize s.coreEvent n 1 = u at hp hk ⊢
  have h := State.Keeps.recoveryEnds u r
  refine ⟨h.pend _ hp, ?_⟩
  rw [Nat.and_one_is_mod]
  simpa [Nat.testBit_zero] using h.kinds _ 0 hk

theorem State.Keeps.restart (h : s.Keeps sideBits u) (n : Nat) (r : Recovery) :
    (s.dropRecovery r).Keeps sideBits ((u.coreEvent n 1).recoveryEnds r) :=
  ((h.trans (.coreEvent n 1)).dropRecovery r).trans (.recoveryEnds ..)

theorem not_sideBits_info {p i : Nat} (hp : p < 40) : ¬ sideBits (bPos p + 0x068) i := by
  simp only [sideBits, bPos_eq]
  omega

theorem not_sideBits_err {p i : Nat} (hp : p < 40) : ¬ sideBits (bPos p + 0x020) i := by
  simp only [sideBits, bPos_eq]
  omega

theorem State.flag_eq_true {b : Nat} {f : Fld} (h : s.fld b f = 1) : s.flag b f = true := by
  rw [State.flag, h]
  rfl

/-! ## The steps as commands -/

section
variable {x : Sparing} {q : Nat} (hpow : s.powered = true) (hs : s.split = false) (hm : s.mode ≠ 10)
  (hx : s.sparings = [x]) (hq : x.spare = some (q, 0))
include hpow hs hm hx hq

/-- SPARE_WAKE_COMPLETE notes the wake. -/
theorem spareWake_noted (hw : x.woken = false) :
    ∃ t, exec .spareWakeComplete s = .next t ∧ t.sparings = [{ x with woken := true }] ∧ t.pstate q = 0 ∧
      t.cores = s.cores ∧ t.mem = s.mem ∧ t.tiles = s.tiles := by
  have hk : s.Keeps (fieldBits (bTilePwr (q / 10)) (pstateFld (q % 10)))
      (s.setFld (bTilePwr (q / 10)) (pstateFld (q % 10)) 0) := .setFld_self ..
  exact ⟨_, exec_spareWakeComplete_next hpow hs hm hx hq hw,
    by rw [State.sparings_setSparing, hk.sparings, hx, List.tail_cons], State.pstate_setFld_self q 0 (by decide),
    hk.cores, hk.mem, hk.tiles⟩

/-- STORE_BUFFER_DRAIN_COMPLETE notes the drain. -/
theorem drain_noted (hd : x.drained = false) (hst : (s.core x.core).stores = []) (ho : s.noneOrdered x.core = true)
    (hl : (s.core x.core).devLoad = none) :
    ∃ t, exec .storeBufferDrainComplete s = .next t ∧ t.sparings = [{ x with drained := true }] ∧ t.cores = s.cores ∧
      t.regs = s.regs ∧ t.mem = s.mem ∧ t.tiles = s.tiles :=
  ⟨_, exec_storeBufferDrainComplete_next hpow hs hm hx hq hd hst ho hl,
    by rw [State.sparings_setSparing, hx, List.tail_cons], rfl, rfl, rfl, rfl⟩

variable (hp : x.position < 40) (hq40 : q < 40) (hne : q ≠ x.position)
include hp hq40 hne

/-- LINE_MOVE_COMPLETE with no line to move puts the logical core on the spare. -/
theorem lineMove_transfers (hn : x.core < 64) (hw : x.woken = true) (hd : x.drained = true) (hmv : x.moved = false)
    (hon : s.cacheOn (q / 10) (q % 10) = true) (hl : s.linesIn (x.position / 10) (x.position % 10) 0xFFFF = []) :
    ∃ t, exec .lineMoveComplete s = .next t ∧ t.sparings = [{ x with moved := true }] ∧ t.posOf x.core = q ∧
      t.pipeOf x.core = 0 ∧ t.core x.core = { (s.core x.core).rolledBack with tlb := [] } ∧
      (∀ m, m ≠ x.core → t.core m = s.core m) ∧ t.role q = 1 ∧ t.role x.position = 3 ∧ t.pstate x.position = 4 ∧
      t.mem = s.mem := by
  obtain ⟨hk, hrq, hrp, hps⟩ := State.transfer_steps hs hp hq40 hne hn
  have hmap := fun i => not_transferBits_map x.position q i hn
  refine ⟨_, exec_lineMoveComplete_next hpow hs hm hx hq hw hd hmv hon hl, ?_, ?_, ?_, ?_, fun m hne => ?_, hrq, hrp, hps,
    ?_⟩
  · rw [hk.sparings, State.placed_sparings, hx, List.tail_cons]
  · exact (hk.fld fun i _ _ => hmap i).trans (s.placed_posOf x (by omega))
  · exact (hk.fld fun i _ _ => hmap i).trans (s.placed_pipeOf x q)
  · rw [hk.core, State.placed_core_self]
  · rw [hk.core, State.placed_core_of_ne _ _ hne]
  · rw [hk.mem, State.placed_mem]

/-- SPARE_RESTART shows the sparing in both pages and reports it. -/
theorem spareRestart_reports (hmv : x.moved = true) (hh : (s.core x.core).haltDue = false) :
    ∃ t, exec .spareRestart s = .next t ∧ t.sparings = [] ∧
      t.fld (bPos x.position) F.SPARE_INFO_PARTNER = q ∧ t.fld (bPos q) F.SPARE_INFO_PARTNER = x.position ∧
      t.flag (bPos x.position) F.SPARE_INFO_VALID = true ∧ t.flag (bPos q) F.SPARE_INFO_VALID = true ∧
      t.flag (bPos q) F.SPARE_INFO_CROSS_TILE = decide (q / 10 ≠ x.position / 10) ∧
      ((s.timebase - x.since).toNat < 2 ^ 16 → t.fld (bPos q) F.SPARE_INFO_DURATION = (s.timebase - x.since).toNat) ∧
      bit (t.reg (bPos x.position + 0x020)) 10 = true ∧ (t.source (0x1E00 + x.core)).pend = true ∧
      (t.source (0x1E00 + x.core)).evkind &&& 1 = 1 ∧ t.cores = s.cores ∧ t.mem = s.mem ∧ t.tiles = s.tiles := by
  obtain ⟨u, hu, ht⟩ := exec_spareRestart_next hpow hs hm hx hq hmv hh
  obtain ⟨hpart, hpart', hvalid, hvalid', hcross, hdur, herr⟩ := s.sparedPages_shows hp hq40 hne
  obtain ⟨hpend, hkind⟩ := u.restart_source x.core (.sparing x.position)
  have hs0 := State.Keeps.sparedPages s x q
  have hk := hu.restart x.core (.sparing x.position)
  have info : ∀ r f, r < 40 → f.off = 0x068 →
      ((u.coreEvent x.core 1).recoveryEnds (.sparing x.position)).fld (bPos r) f = (s.sparedPages x q).fld (bPos r) f :=
    fun r f hr hf => hk.fld fun i _ _ => by rw [hf]; exact not_sideBits_info hr
  refine ⟨_, ht, ?_, (info _ _ hp rfl).trans hpart, (info _ _ hq40 rfl).trans hpart',
    State.flag_eq_true ((info _ _ hp rfl).trans hvalid), State.flag_eq_true ((info _ _ hq40 rfl).trans hvalid'), ?_,
    fun hd => ?_, ?_, hpend, hkind, ?_, ?_, ?_⟩
  · rw [hk.sparings, State.dropRecovery_sparings, hs0.sparings]
  · rw [State.flag, info _ _ hq40 rfl, hcross]
    by_cases h : q / 10 = x.position / 10 <;> simp [h, b2n]
  · rw [info _ _ hq40 rfl, hdur, State.sparingTime, if_pos hd]
  · rw [hk.window _ _ (not_sideBits_err hp), State.dropRecovery_reg, herr]
  · rw [hk.cores, State.dropRecovery_cores, hs0.cores]
  · rw [hk.mem, State.dropRecovery_mem, hs0.mem]
  · rw [hk.tiles, State.dropRecovery_tiles, hs0.tiles]

end

/-! ## The obligation -/

/-- Settles O33: a sparing begins by either of its causes and goes through its steps; what each step does beside its own
effect keeps the rest (`State.Keeps`). -/
theorem sparingRuns : Obligations.SparingRuns := by
  refine ⟨?_, ?_⟩
  · rintro n p q src code self c s hpow hs hpos hon htx h0 hc hq hne hcause
    have key : ∃ t, exec c s = .next t ∧ s.SparingBegun n p q (decide (code = 2)) t ∧
        (code = 2 → bit (t.reg (bPos p + 0x020)) 12 = true) := by
      rcases hcause with ⟨e, rfl, hfire, he, hcl, hu, h2⟩ | ⟨rfl, hcode, h1, hm, ha⟩
      · exact exec_checkFiring_spares hpow hs hpos htx h0 hc hq hne hfire he hcl hu h2
      · obtain ⟨t, ht, hb⟩ := exec_spareNow_spares hpow hs hon htx h0 hc hq hne h1 hm ha
        rw [decide_eq_false hcode]
        exact ⟨t, ht, hb, fun h => absurd h hcode⟩
    obtain ⟨t, ht, hb, herr⟩ := key
    exact ⟨t, ht, hb.sparings, hb.rolePosition, hb.roleSpare, hb.pool.1, hb.pool.2, hb.group, hb.fresh, hb.stores, hb.pc,
      hb.others, hb.recoveries, herr, hb.mem, hb.tiles⟩
  · intro x q s hpow hs hm hx hq hq40 hp hne hn _
    exact ⟨spareWake_noted hpow hs hm hx hq, drain_noted hpow hs hm hx hq,
      lineMove_transfers hpow hs hm hx hq hp hq40 hne hn, spareRestart_reports hpow hs hm hx hq hp hq40 hne⟩

end Sys2Proof.Machine
end

section
/-!
PROOFS. The register pages (R36, R37, R39, R47). First what raising a bit of BLK_ERR does to its interrupt source, then what
the record of a refusal writes, then that a write which the page refuses whole is that record and nothing else.
-/

namespace Sys2Proof.Machine

section
variable (s : State)

/-! ## Block errors and their sources (R36) -/

theorem State.makeOfferable_events (n m : Nat) : ((s.makeOfferable n).source m).events = (s.source m).events := by
  unfold State.makeOfferable
  simp only
  split
  · rfl
  · show ((s.setSource n _).source m).events = _
    by_cases h : m = n
    · subst h; rw [State.source_setSource_self]
    · rw [State.source_setSource_of_ne _ _ h]

/-- An event is counted once, whether or not the moderation of its source is over. -/
theorem State.sourceEvent_events (n : Nat) :
    ((s.sourceEvent n).source n).events = satAdd 8 (s.source n).events 1 := by
  unfold State.sourceEvent State.checkModeration
  simp only
  split
  · rw [State.makeOfferable_events, State.source_setSource_self]
  · rw [State.source_setSource_self]

theorem State.raiseErr_reg_of_ne (p : Page) (i : Nat) {w : Nat} (h : w ≠ p.base + 0x020) :
    (s.raiseErr p i).reg w = s.reg w := by
  rw [State.raiseErr_reg, if_neg h]

theorem State.bit_raiseErr_of_ne (p : Page) {i j : Nat} (hj : j < 64) (h : j ≠ i) :
    bit ((s.raiseErr p i).reg (p.base + 0x020)) j = bit (s.reg (p.base + 0x020)) j := by
  rw [State.raiseErr_reg, if_pos rfl]
  split
  · rfl
  · exact bit_putBit_of_ne _ true hj h

/-- A bit that goes from 0 to 1 unmasked is the write of BLK_ERR followed by one event at the block's error source. -/
theorem State.raiseErr_of_unmasked {p : Page} {i k : Nat} (hk : p.slot = some k)
    (he : bit (s.reg (p.base + 0x020)) i = false) (hm : bit (s.reg (p.base + 0x028)) i = false) :
    s.raiseErr p i =
      (s.setReg (p.base + 0x020) (putBit (s.reg (p.base + 0x020)) i true)).sourceEvent (0x1C00 + k) := by
  simp only [State.raiseErr, he, hm, hk, Bool.false_eq_true, if_false]

/-- A masked bit is recorded without an event. -/
theorem State.raiseErr_ic_of_masked {p : Page} {i : Nat} (hm : bit (s.reg (p.base + 0x028)) i = true) :
    (s.raiseErr p i).ic = s.ic := by
  unfold State.raiseErr
  simp only [hm, if_true]
  split
  · rfl
  · exact State.setReg_ic ..

/-! ## The record of a refusal (R37, R47) -/

section
variable (src : Src) (p : Page) (off reason : Nat)

/-- BLK_CFGERR_INFO names the access that was refused. -/
theorem State.refusal_reg_info :
    (s.refusal src p off reason).reg ((s.errPage src p).base + 0x030) =
      BitVec.ofNat 64 (off + 2 ^ 16 * reason + 2 ^ 24 * p.index + 2 ^ 40 * s.srcZone src + 2 ^ 48 * srcLevel src +
        2 ^ 50 * b2n (srcSvc src)) :=
  State.reg_setReg_self ..

/-- A refusal for another reason than the size sets CFGERR. -/
theorem State.bit_refusal_cfgErr (h : reason ≠ 6) :
    bit ((s.refusal src p off reason).reg ((s.errPage src p).base + 0x020)) 0 = true := by
  unfold State.refusal
  simp only
  rw [State.reg_setReg_of_ne _ _ (by omega), if_neg h]
  exact State.bit_raiseErr_self _ _ (by decide)

/-- A refusal writes BLK_ERR and BLK_CFGERR_INFO of the page that records it, and no other register. -/
theorem State.refusal_reg_of_ne {w : Nat} (he : w ≠ (s.errPage src p).base + 0x020)
    (hi : w ≠ (s.errPage src p).base + 0x030) : (s.refusal src p off reason).reg w = s.reg w := by
  unfold State.refusal
  simp only
  rw [State.reg_setReg_of_ne _ _ hi, State.raiseErr_reg_of_ne _ _ _ he]
  split
  · exact State.raiseErr_reg_of_ne _ _ _ he
  · rfl

theorem State.refusal_mem : (s.refusal src p off reason).mem = s.mem := by
  unfold State.refusal
  simp only
  rw [State.setReg_mem, (State.raiseErr_frame _ _ _).1]
  split
  · exact (State.raiseErr_frame _ _ _).1
  · rfl

theorem State.refusal_cores : (s.refusal src p off reason).cores = s.cores := by
  unfold State.refusal
  simp only
  rw [State.setReg_cores, (State.raiseErr_frame _ _ _).2.1]
  split
  · exact (State.raiseErr_frame _ _ _).2.1
  · rfl

/-- REASON of BLK_CFGERR_INFO is the reason of the refusal. -/
theorem State.refusal_reason (ho : off < 0x1000) (hr : reason < 2 ^ 8) :
    bits ((s.refusal src p off reason).reg ((s.errPage src p).base + 0x030)) 16 8 = reason := by
  rw [State.refusal_reg_info, bits, BitVec.toNat_ofNat, Nat.shiftRight_eq_div_pow]
  omega

end

end

/-! ## Writes that a page refuses whole -/

section
variable {src : Src} {p : Page} {off : Nat} {v : Word} {s : State}

/-- A write of 8 bytes that its source may make to a block page acts as a write of that page. -/
theorem regWrite_eq_blockWrite (h : s.writesPage src p off = true) (ho : off < 0x1000) :
    regWrite src 8 (p.base + off) v s = blockWrite src p off v s := by
  simp only [State.writesPage, State.blockPage, Bool.and_eq_true, Bool.or_eq_true, decide_eq_true_eq, bne_iff_ne,
    ne_eq] at h
  obtain ⟨⟨⟨⟨⟨hp, htable⟩, harray⟩, hpresent⟩, -⟩, hmode⟩ := h
  have hi := pageAt_lt hp
  have hw : (p.base + off) % 2 ^ 28 = p.base + off := by unfold Page.base; omega
  have hq : (p.base + off) / 0x1000 = p.index := by unfold Page.base; omega
  have hr : (p.base + off) % 0x1000 = off := by unfold Page.base; omega
  have hfrozen : ¬ (s.mode = 10 ∧ p.typ ≠ .ese ∧ p.typ ≠ .recorder) := by
    rintro ⟨h10, hese, hrec⟩
    rcases hmode with (h | h) | h
    · exact h h10
    · exact hese h
    · exact hrec h
  simp only [regWrite, hw, hq, hr, hp, hfrozen, htable, harray, hpresent, if_false, not_true_eq_false, ne_eq]

theorem blockWrite_of_unassigned (h : pageFields p off = none) : blockWrite src p off v s = s.refusal src p off 7 := by
  simp only [blockWrite, h]

theorem blockWrite_of_reserved {fs : List Fld} (h : pageFields p off = some fs) (hown : s.notOwned p off v = false)
    (hres : s.reservedWrite p off v fs = true) : blockWrite src p off v s = s.refusal src p off 2 := by
  simp only [blockWrite, h, hown, hres, Bool.false_eq_true, if_false, if_true]

end

/-! ## The obligations -/

/-- Settles O3, by the cases of `State.raiseErr`: the bit already set, set anew with its mask bit 0, set anew and masked. -/
theorem blockErrorRaisesItsSource : Obligations.BlockErrorRaisesItsSource := by
  intro s p i hi
  refine ⟨s.raiseErr_of_set p i, s.bit_raiseErr_self p hi, fun j hj hne => s.bit_raiseErr_of_ne p hj hne,
    fun w hw => s.raiseErr_reg_of_ne p i hw, fun k hk he hm => ?_, s.raiseErr_ic_of_masked⟩
  rw [s.raiseErr_of_unmasked hk he hm]
  exact ⟨State.sourceEvent_pend _ _, State.sourceEvent_events _ _⟩

/-- Settles O4: the write is the record of a refusal with reason 0x07. -/
theorem unassignedWriteIsRefused : Obligations.UnassignedWriteIsRefused := by
  intro src p off v s hwrites hoff hnone
  rw [regWrite_eq_blockWrite hwrites hoff, blockWrite_of_unassigned hnone]
  exact ⟨s.refusal_reg_info src p off 7, s.bit_refusal_cfgErr src p off 7 (by decide),
    fun w he hi => s.refusal_reg_of_ne src p off 7 he hi, s.refusal_mem src p off 7, s.refusal_cores src p off 7⟩

/-- Settles O5: the write is the record of a refusal with reason 0x02. -/
theorem reservedValueChangesNoField : Obligations.ReservedValueChangesNoField := by
  intro src p off v fs s hwrites hoff hfs hown hres
  rw [regWrite_eq_blockWrite hwrites hoff, blockWrite_of_reserved hfs hown hres]
  exact ⟨s.refusal_reason src p off 2 hoff (by decide), fun w he hi => s.refusal_reg_of_ne src p off 2 he hi,
    s.refusal_mem src p off 2, s.refusal_cores src p off 2⟩

end Sys2Proof.Machine
end

section
/-!
PROOFS. Decoding of encoded instructions (R60 to R68): first the fields of the words that `formR`, `formI`, `form19` and
`form24` build, then that each sub-decoder gives back the entry whose number stands in SUB or FUNC, then the instructions by
the tables they stand in.
-/

namespace Sys2Proof.Machine

/-! ## Integers in the low bits of a word -/

theorem lowBits_lt (width : Nat) (i : Int) : lowBits width i < 2 ^ width := by
  have h : (0 : Int) < (2 ^ width : Nat) := by positivity
  have := Int.emod_nonneg i h.ne'
  have := Int.emod_lt_of_pos i h
  unfold lowBits
  omega

/-- A signed value that fits a field is read back from its low bits. -/
theorem signed_lowBits {width : Nat} {i : Int} (hw : 0 < width) (h : immOk width i = true) :
    signed width (lowBits width i) = i := by
  obtain ⟨k, rfl⟩ : ∃ k, width = k + 1 := ⟨width - 1, by omega⟩
  simp only [immOk, Nat.add_sub_cancel, Bool.and_eq_true, decide_eq_true_eq] at h
  have hlt := lowBits_lt (k + 1) i
  have hpow : 2 ^ (k + 1) = 2 * 2 ^ k := by ring
  simp only [signed, Nat.mod_eq_of_lt hlt, Nat.add_sub_cancel]
  simp only [lowBits, hpow] at hlt ⊢
  generalize 2 ^ k = p at *
  rcases Int.lt_or_le i 0 with hi | hi
  · have : i % ((2 * p : Nat) : Int) = i + (2 * p : Nat) := by
      rw [← Int.add_emod_right, Int.emod_eq_of_lt (by omega) (by omega)]
    rw [this, if_neg (by omega)]
    omega
  · have : i % ((2 * p : Nat) : Int) = i := Int.emod_eq_of_lt hi (by omega)
    rw [this, if_pos (by omega)]
    omega

/-- A number that fits a field is its own low bits. -/
theorem lowBits_natCast {width m : Nat} (h : m < 2 ^ width) : lowBits width m = m := by
  unfold lowBits
  rw [← Int.natCast_emod, Int.toNat_natCast, Nat.mod_eq_of_lt h]

/-- Half of an even offset is the immediate that carries it. -/
theorem halfOffset {width : Nat} {off : Int} (h : offOk width off = true) :
    off / 2 * 2 = off ∧ immOk width (off / 2) = true := by
  simp only [offOk, Bool.and_eq_true, decide_eq_true_eq] at h
  exact ⟨by omega, h.2⟩

/-! ## The fields of a 32-bit instruction word (Table 3.6) -/

/-- A number that has the OP, SUB, RD and RS1 given and, above RS1, the eleven bits `u`. -/
structure FieldsI (n op sub rd a u : Nat) : Prop where
  op : nfld n 8 5 = op
  sub : nfld n 0 3 = sub
  rd : nfld n 3 5 = rd
  rs1 : nfld n 16 5 = a
  imm : nfld n 21 11 = u
  special : nfld n 20 12 = (a + u * 32) / 16
  pad : nfld n 16 4 = a % 16

/-- A number that has the OP, SUB, RD, RS1, RS2 and FUNC given. -/
structure FieldsR (n op sub rd a b f : Nat) : Prop where
  op : nfld n 8 5 = op
  sub : nfld n 0 3 = sub
  rd : nfld n 3 5 = rd
  rs1 : nfld n 16 5 = a
  rs2 : nfld n 21 5 = b
  func : nfld n 26 6 = f

theorem decodePuldo_long {m : Nat} (h : m < 2 ^ 32) (hl : m / 2 ^ 13 % 8 = 7) :
    decodePuldo (BitVec.ofNat 32 m) = decode32 m := by
  have hlong : isLong (BitVec.ofNat 32 m) = true := by
    simp only [isLong, nfld, BitVec.toNat_ofNat, Nat.mod_eq_of_lt h, beq_iff_eq]
    exact hl
  rw [decodePuldo, hlong, if_pos rfl, BitVec.toNat_ofNat, Nat.mod_eq_of_lt h]

theorem decodePuldo_short {m : Nat} (h : m < 2 ^ 16) (hl : m / 2 ^ 13 ≠ 7) :
    decodePuldo (BitVec.ofNat 32 m) = decode16 m := by
  have h32 : m < 2 ^ 32 := by omega
  have hshort : isLong (BitVec.ofNat 32 m) = false := by
    simp only [isLong, nfld, BitVec.toNat_ofNat, Nat.mod_eq_of_lt h32, beq_eq_false_iff_ne]
    omega
  rw [decodePuldo, hshort, BitVec.toNat_ofNat, Nat.mod_eq_of_lt h32, show m % 0x10000 = m from Nat.mod_eq_of_lt h]
  rfl

section
variable {op sub rd a b f u : Nat} {o : Option POp}

theorem decodePuldo_word32 (hop : op < 32) (hs : sub < 8) (hr : rd < 32) (ha : a < 32) (hu : u < 2 ^ 11)
    (h : ∀ n, FieldsI n op sub rd a u → decode32 n = o) : decodePuldo (word32 op sub rd (a + u * 2 ^ 5)) = o := by
  rw [word32, decodePuldo_long (by omega) (by omega)]
  refine h _ ?_
  constructor <;> simp only [nfld] <;> omega

/-- A word of MFS or MTS: the special register's number stands in the upper twelve bits. -/
theorem decodePuldo_special {num : Nat} (hnum : num < 2 ^ 12) (hs : sub < 8) (hr : rd < 32)
    (h : ∀ n, FieldsI n 0x16 sub rd (num % 2 * 2 ^ 4) (num / 2) → nfld n 20 12 = num → nfld n 16 4 = 0 → decode32 n = o) :
    decodePuldo (word32 0x16 sub rd (num * 2 ^ 4)) = o := by
  rw [show num * 2 ^ 4 = num % 2 * 2 ^ 4 + num / 2 * 2 ^ 5 by omega]
  refine decodePuldo_word32 (by decide) hs hr (by omega) (by omega) fun n hn => h n hn ?_ ?_
  · rw [hn.special]; omega
  · rw [hn.pad]; omega

theorem decodePuldo_formI {imm : Int} (hop : op < 32) (hs : sub < 8) (hr : rd < 32) (ha : a < 32)
    (h : ∀ n, FieldsI n op sub rd a (lowBits 11 imm) → decode32 n = o) : decodePuldo (formI op sub rd a imm) = o :=
  decodePuldo_word32 hop hs hr ha (lowBits_lt 11 imm) h

theorem decodePuldo_formR (hop : op < 32) (hs : sub < 8) (hr : rd < 32) (ha : a < 32) (hb : b < 32) (hf : f < 64)
    (h : ∀ n, FieldsR n op sub rd a b f → decode32 n = o) : decodePuldo (formR op sub rd a b f) = o := by
  rw [formR, word32, decodePuldo_long (by omega) (by omega)]
  refine h _ ?_
  constructor <;> simp only [nfld] <;> omega

/-- A word with a signed 11-bit immediate. -/
theorem decodePuldo_imm11 {imm : Int} (hop : op < 32) (hs : sub < 8) (hr : rd < 32) (ha : a < 32)
    (hi : immOk 11 imm = true)
    (h : ∀ n, FieldsI n op sub rd a (lowBits 11 imm) → signed 11 (nfld n 21 11) = imm → decode32 n = o) :
    decodePuldo (formI op sub rd a imm) = o :=
  decodePuldo_formI hop hs hr ha fun n hn => h n hn (by rw [hn.imm, signed_lowBits (by decide) hi])

/-- A word with a signed 24-bit immediate. -/
theorem decodePuldo_imm24 {imm : Int} (hop : op < 32) (hi : immOk 24 imm = true)
    (h : ∀ n, nfld n 8 5 = op → signed 24 (nfld n 16 16 * 256 + nfld n 0 8) = imm → decode32 n = o) :
    decodePuldo (form24 op imm) = o := by
  have hlt := lowBits_lt 24 imm
  have hread := signed_lowBits (by decide) hi
  rw [form24]
  generalize lowBits 24 imm = m at *
  rw [decodePuldo_long (by omega) (by omega)]
  refine h _ (by simp only [nfld]; omega) (Eq.trans (congrArg _ ?_) hread)
  simp only [nfld]
  omega

/-- A word with a signed 19-bit immediate, whose low three bits stand in SUB. -/
theorem decodePuldo_imm19 {imm : Int} (hop : op < 32) (hr : rd < 32) (hi : immOk 19 imm = true)
    (h : ∀ n, nfld n 8 5 = op → nfld n 3 5 = rd → signed 19 (nfld n 16 16 * 8 + nfld n 0 3) = imm → decode32 n = o) :
    decodePuldo (form19 op rd imm) = o := by
  have hread := signed_lowBits (by decide) hi
  have hjoin : lowBits 19 imm / 8 * 8 + lowBits 19 imm % 8 = lowBits 19 imm := by omega
  have hs : lowBits 19 imm % 8 < 8 := Nat.mod_lt _ (by decide)
  have hu : lowBits 19 imm / 8 < 2 ^ 16 := by have := lowBits_lt 19 imm; omega
  rw [← hjoin] at hread
  rw [form19]
  generalize lowBits 19 imm % 8 = sub, lowBits 19 imm / 8 = upper at *
  rw [word32, decodePuldo_long (by omega) (by omega)]
  refine h _ (by simp only [nfld]; omega) (by simp only [nfld]; omega) (Eq.trans (congrArg _ ?_) hread)
  simp only [nfld]
  omega

end

/-! ## The sub-decoders on the numbers of their entries -/

section
variable {sub rd a b f : Nat}

theorem AluF.func_lt (f : AluF) : f.func < 64 := by cases f <;> decide

theorem aluOfFunc_func (f : AluF) : aluOfFunc f.func = some f := by cases f <;> rfl

theorem shiftOfFunc_aluFunc (f : AluF) : shiftOfFunc f.func = none := by cases f <;> rfl

/-- No ALU entry has the FUNC of a trapping one. -/
theorem AluF.func_ne_trap (f : AluF) : f.func ≠ 0x13 ∧ f.func ≠ 0x14 ∧ f.func ≠ 0x16 := by cases f <;> decide

theorem decodeReg_alu {f : AluF} (hu : f.unary = true → b = 0) :
    decodeReg false 0 rd a b f.func = some (.alu f false rd a b) := by
  obtain ⟨h13, h14, h16⟩ := f.func_ne_trap
  simp only [decodeReg, ne_eq, not_true_eq_false, if_false, shiftOfFunc_aluFunc, h13, h14, h16, Bool.false_eq_true,
    aluOfFunc_func]
  exact if_neg fun ⟨h, hb⟩ => hb (hu h)

theorem decodeReg_aluW {f : AluF} (hf : f = .add ∨ f = .sub) :
    decodeReg true 0 rd a b f.func = some (.alu f true rd a b) := by
  rcases hf with rfl | rfl <;> rfl

theorem decodeReg_shift (f : ShiftF) (w : Bool) : decodeReg w 0 rd a b (8 + f.idx) = some (.shift f w rd a b) := by
  cases f <;> rfl

theorem decodeMul_mul (f : MulF) : decodeMul 0 rd a b f.idx = some (.mul f rd a b) := by cases f <;> rfl

theorem decodeMul_div (f : DivF) (hr : rd % 2 = 0) : decodeMul 0 rd a b (8 + f.idx) = some (.div f rd a b) := by
  cases f <;> exact if_pos hr

theorem ShiftF.immSub_lt {f : ShiftF} (h : f ≠ .rol) : f.immSub < 4 := by cases f <;> simp_all [ShiftF.immSub]

theorem decodeShiftImm_immSub {f : ShiftF} {w : Bool} {cnt : Nat} (hf : f ≠ .rol) (hc : cnt < if w then 32 else 64) :
    decodeShiftImm (f.immSub + if w then 4 else 0) rd a cnt = some (.shiftImm f w rd a cnt) := by
  cases f with
  | rol => exact absurd rfl hf
  | sll | srl | sra | ror => cases w <;> exact if_pos hc

theorem decodeFp_arith {f : FArithF} {dbl : Bool} (h : f = .fsqrt → b = 0) :
    decodeFp (if dbl then 1 else 0) rd a b f.idx = some (.farith f dbl rd a b) := by
  cases f with
  | fsqrt => cases dbl <;> exact if_pos (h rfl)
  | fadd | fsub | fmul | fdiv => cases dbl <;> rfl

theorem decodeFp_cvt (f : FcvtF) (dbl : Bool) :
    decodeFp (if dbl then 1 else 0) rd a 0 (0x0E + f.idx) = some (.fcvt f dbl rd a) := by
  cases f <;> cases dbl <;> rfl

theorem decodeFp_minmax (max dbl : Bool) :
    decodeFp (if dbl then 1 else 0) rd a b (if max then 6 else 5) = some (.fminmax max dbl rd a b) := by
  cases max <;> cases dbl <;> rfl

theorem decodeFp_cmp {c : Nat} (hc : c < 3) (dbl : Bool) :
    decodeFp (if dbl then 1 else 0) rd a b (0x0A + c) = some (.fcmp c dbl rd a b) := by
  interval_cases c <;> cases dbl <;> rfl

theorem decodeFp_bits {f : FbitF} {dbl : Bool} (h : f = .bitsG ∨ f = .bitsF → b = 0) :
    decodeFp (if dbl then 1 else 0) rd a b f.func = some (.fbit f dbl rd a b) := by
  cases f <;> cases dbl <;> simp_all [decodeFp, FbitF.func]

theorem decodeSync_tlbi {f : TlbiF} (hasid : f = .asid ∨ f = .vmid ∨ f = .s1all ∨ f = .all → a = 0)
    (hall : f = .s1all ∨ f = .all → b = 0) : decodeSync 0 0 a b (6 + f.idx) = some (.tlbi f a b) := by
  cases f <;> simp_all [decodeSync, TlbiF.idx]

end

/-! ## The entries of `decode32` that have a sub-decoder -/

section
variable {n sub rd a b f u : Nat}

theorem FieldsR.decode32_reg {w : Bool} (h : FieldsR n (if w then 2 else 1) sub rd a b f) :
    decode32 n = decodeReg w sub rd a b f := by
  cases w <;> simp [decode32, h.op, h.sub, h.rd, h.rs1, h.rs2, h.func]

theorem FieldsR.decode32_mul (h : FieldsR n 3 sub rd a b f) : decode32 n = decodeMul sub rd a b f := by
  simp [decode32, h.op, h.sub, h.rd, h.rs1, h.rs2, h.func]

theorem FieldsI.decode32_shiftImm (h : FieldsI n 5 sub rd a u) : decode32 n = decodeShiftImm sub rd a u := by
  simp [decode32, h.op, h.sub, h.rd, h.rs1, h.imm]

theorem FieldsR.decode32_ordered (h : FieldsR n 0x0A sub rd a b f) : decode32 n = decodeOrdered sub rd a b f := by
  simp [decode32, h.op, h.sub, h.rd, h.rs1, h.rs2, h.func]

theorem FieldsR.decode32_acc (h : FieldsR n 0x11 sub rd a b f) : decode32 n = decodeAcc sub rd a b f := by
  simp [decode32, h.op, h.sub, h.rd, h.rs1, h.rs2, h.func]

theorem FieldsR.decode32_fp (h : FieldsR n 0x12 sub rd a b f) : decode32 n = decodeFp sub rd a b f := by
  simp [decode32, h.op, h.sub, h.rd, h.rs1, h.rs2, h.func]

theorem FieldsI.decode32_system (h : FieldsI n 0x16 sub rd a u) : decode32 n = decodeSystem n sub rd a u := by
  simp [decode32, h.op, h.sub, h.rd, h.rs1, h.imm]

theorem FieldsR.decode32_sync (h : FieldsR n 0x17 sub rd a b f) : decode32 n = decodeSync sub rd a b f := by
  simp [decode32, h.op, h.sub, h.rd, h.rs1, h.rs2, h.func]

end

/-! ## The instructions, by the tables they stand in -/

/-- An instruction that its encoding admits is decoded from its encoding. -/
def POp.DecodesBack (op : POp) : Prop := op.wellFormed = true → decodePuldo (encodePuldo op) = some op

/-- The number of a special register of Table 3.2 has twelve bits. -/
theorem specialListed_lt {num : Nat} (h : specialListed num = true) : num < 2 ^ 12 := by
  simp only [specialListed, List.contains_eq_mem, List.mem_cons, List.not_mem_nil, or_false, decide_eq_true_eq] at h
  omega

section
variable {w dbl sext hi : Bool} {rd a b c size acc num code : Nat} {imm off : Int}

/-! ### Integer operations (Tables 3.7 to 3.10) -/

theorem decodesBack_alu {f : AluF} : (POp.alu f w rd a b).DecodesBack := by
  intro h
  simp only [POp.wellFormed, regOk, Bool.and_eq_true, Bool.or_eq_true, Bool.not_eq_true', decide_eq_true_eq, beq_iff_eq] at h
  obtain ⟨⟨⟨⟨hr, ha⟩, hb⟩, hu⟩, hw⟩ := h
  refine decodePuldo_formR (by cases w <;> decide) (by decide) hr ha hb f.func_lt fun n hn => ?_
  rw [hn.decode32_reg]
  cases w with
  | false => exact decodeReg_alu fun h => hu.resolve_left (by simp [h])
  | true => exact decodeReg_aluW (by simpa using hw)

theorem AluF.decode_immSub {f : AluF} (hf : f.immSub ≠ 7) :
    f.immSub < 6 ∧ [AluF.add, .and, .or, .xor, .slt, .sltu].getD f.immSub .add = f := by
  cases f <;> simp_all [AluF.immSub]

theorem decodesBack_aluImm {f : AluF} : (POp.aluImm f w rd a imm).DecodesBack := by
  intro h
  simp only [POp.wellFormed, regOk, Bool.and_eq_true, Bool.or_eq_true, Bool.not_eq_true', decide_eq_true_eq, beq_iff_eq,
    bne_iff_ne] at h
  obtain ⟨⟨⟨⟨hr, ha⟩, hi⟩, hf⟩, hw⟩ := h
  obtain ⟨h6, hget⟩ := AluF.decode_immSub hf
  refine decodePuldo_imm11 (by decide) (by split <;> omega) hr ha hi fun n hn hi => ?_
  cases w with
  | false =>
    have hs : nfld n 0 3 = f.immSub := hn.sub
    simp only [decode32, hn.op, hs, hn.rd, hn.rs1, if_pos h6, hget, hi]
    rfl
  | true =>
    have hf : f = .add := by simpa using hw
    simp [decode32, hn.op, hn.sub, hn.rd, hn.rs1, hi, hf]

theorem decodesBack_shift {f : ShiftF} : (POp.shift f w rd a b).DecodesBack := by
  intro h
  simp only [POp.wellFormed, regOk, Bool.and_eq_true, decide_eq_true_eq] at h
  obtain ⟨⟨hr, ha⟩, hb⟩ := h
  refine decodePuldo_formR (by cases w <;> decide) (by decide) hr ha hb (by cases f <;> decide) fun n hn => ?_
  rw [hn.decode32_reg, decodeReg_shift]

theorem decodesBack_shiftImm {f : ShiftF} {cnt : Nat} : (POp.shiftImm f w rd a cnt).DecodesBack := by
  intro h
  simp only [POp.wellFormed, regOk, Bool.and_eq_true, decide_eq_true_eq, bne_iff_ne] at h
  obtain ⟨⟨⟨hr, ha⟩, hf⟩, hc⟩ := h
  have h4 := ShiftF.immSub_lt hf
  have hcnt : cnt < 2 ^ 11 := by split at hc <;> omega
  refine decodePuldo_formI (by decide) (by split <;> omega) hr ha fun n hn => ?_
  rw [hn.decode32_shiftImm, lowBits_natCast hcnt, decodeShiftImm_immSub hf hc]

theorem decodesBack_lui : (POp.lui rd imm).DecodesBack := by
  intro h
  simp only [POp.wellFormed, regOk, Bool.and_eq_true, decide_eq_true_eq] at h
  exact decodePuldo_imm19 (by decide) h.1 h.2 fun n hop hr hi => by simp [decode32, hop, hr, hi]

theorem decodesBack_auipc : (POp.auipc rd imm).DecodesBack := by
  intro h
  simp only [POp.wellFormed, regOk, Bool.and_eq_true, decide_eq_true_eq] at h
  exact decodePuldo_imm19 (by decide) h.1 h.2 fun n hop hr hi => by simp [decode32, hop, hr, hi]

theorem decodesBack_mul {f : MulF} : (POp.mul f rd a b).DecodesBack := by
  intro h
  simp only [POp.wellFormed, regOk, Bool.and_eq_true, decide_eq_true_eq] at h
  obtain ⟨⟨hr, ha⟩, hb⟩ := h
  refine decodePuldo_formR (by decide) (by decide) hr ha hb (by cases f <;> decide) fun n hn => ?_
  rw [hn.decode32_mul, decodeMul_mul]

theorem decodesBack_trapArith {f : TrapF} : (POp.trapArith f w rd a b).DecodesBack := by
  intro h
  simp only [POp.wellFormed, regOk, Bool.and_eq_true, Bool.or_eq_true, Bool.not_eq_true', decide_eq_true_eq, beq_iff_eq,
    bne_iff_ne] at h
  obtain ⟨⟨⟨hr, ha⟩, hb⟩, hf⟩ := h
  refine decodePuldo_formR (by cases w <;> decide) (by decide) hr ha hb (by cases f <;> decide) fun n hn => ?_
  rw [hn.decode32_reg]
  cases f with
  | addT | subT => rfl
  | negT =>
    obtain ⟨rfl, rfl⟩ := hf.resolve_left (absurd rfl)
    rfl

theorem decodesBack_div {f : DivF} : (POp.div f rd a b).DecodesBack := by
  intro h
  simp only [POp.wellFormed, regOk, Bool.and_eq_true, decide_eq_true_eq] at h
  obtain ⟨⟨⟨hr, heven⟩, ha⟩, hb⟩ := h
  refine decodePuldo_formR (by decide) (by decide) hr ha hb (by cases f <;> decide) fun n hn => ?_
  rw [hn.decode32_mul, decodeMul_div f heven]

/-! ### Loads, stores and atomics (Tables 3.10 and 3.11) -/

theorem decodesBack_load : (POp.load size sext rd a imm).DecodesBack := by
  intro h
  simp only [POp.wellFormed, regOk, Bool.and_eq_true, decide_eq_true_eq] at h
  obtain ⟨⟨⟨hr, ha⟩, hi⟩, hs⟩ := h
  refine decodePuldo_imm11 (by decide) (by split at hs <;> simp [*] <;> omega) hr ha hi fun n hn hi => ?_
  cases sext with
  | false =>
    have h4 : size < 3 := hs
    simp [decode32, hn.op, hn.sub, hn.rd, hn.rs1, hi, h4]
  | true =>
    have h4 : size < 4 := hs
    simp [decode32, hn.op, hn.sub, hn.rd, hn.rs1, hi, h4]

theorem decodesBack_store : (POp.store size b a imm).DecodesBack := by
  intro h
  simp only [POp.wellFormed, regOk, Bool.and_eq_true, decide_eq_true_eq] at h
  obtain ⟨⟨⟨hb, ha⟩, hi⟩, hs⟩ := h
  refine decodePuldo_imm11 (by decide) (by omega) hb ha hi fun n hn hi => ?_
  simp [decode32, hn.op, hn.sub, hn.rd, hn.rs1, hi, hs]

theorem decodesBack_fload : (POp.fload dbl rd a imm).DecodesBack := by
  intro h
  simp only [POp.wellFormed, regOk, Bool.and_eq_true, decide_eq_true_eq] at h
  obtain ⟨⟨hr, ha⟩, hi⟩ := h
  refine decodePuldo_imm11 (by decide) (by cases dbl <;> decide) hr ha hi fun n hn hi => ?_
  cases dbl <;> simp [decode32, hn.op, hn.sub, hn.rd, hn.rs1, hi]

theorem decodesBack_fstore : (POp.fstore dbl b a imm).DecodesBack := by
  intro h
  simp only [POp.wellFormed, regOk, Bool.and_eq_true, decide_eq_true_eq] at h
  obtain ⟨⟨hb, ha⟩, hi⟩ := h
  refine decodePuldo_imm11 (by decide) (by cases dbl <;> decide) hb ha hi fun n hn hi => ?_
  cases dbl <;> simp [decode32, hn.op, hn.sub, hn.rd, hn.rs1, hi]

theorem decodesBack_ldA : (POp.ldA size rd a).DecodesBack := by
  intro h
  simp only [POp.wellFormed, regOk, Bool.and_eq_true, decide_eq_true_eq] at h
  obtain ⟨⟨hr, ha⟩, hs⟩ := h
  refine decodePuldo_formR (by decide) (by omega) hr ha (by decide) (by decide) fun n hn => ?_
  simp [hn.decode32_ordered, decodeOrdered, hs]

theorem decodesBack_stR : (POp.stR size a b).DecodesBack := by
  intro h
  simp only [POp.wellFormed, regOk, Bool.and_eq_true, decide_eq_true_eq] at h
  obtain ⟨⟨ha, hb⟩, hs⟩ := h
  refine decodePuldo_formR (by decide) (by omega) (by decide) ha hb (by decide) fun n hn => ?_
  simp [hn.decode32_ordered, decodeOrdered, hs]

theorem decodesBack_cas : (POp.cas size rd a b).DecodesBack := by
  intro h
  simp only [POp.wellFormed, regOk, Bool.and_eq_true, decide_eq_true_eq] at h
  obtain ⟨⟨⟨hr, ha⟩, hb⟩, hs⟩ := h
  refine decodePuldo_formR (by decide) (by omega) hr ha hb (by decide) fun n hn => ?_
  simp [hn.decode32_ordered, decodeOrdered, hs]

theorem decodesBack_casQ : (POp.casQ rd a b).DecodesBack := by
  intro h
  simp only [POp.wellFormed, regOk, Bool.and_eq_true, decide_eq_true_eq] at h
  obtain ⟨⟨⟨⟨hr, ha⟩, hb⟩, hreven⟩, hbeven⟩ := h
  refine decodePuldo_formR (by decide) (by decide) hr ha hb (by decide) fun n hn => ?_
  simp [hn.decode32_ordered, decodeOrdered, hreven, hbeven]

theorem decodesBack_ldQA : (POp.ldQA rd a).DecodesBack := by
  intro h
  simp only [POp.wellFormed, regOk, Bool.and_eq_true, decide_eq_true_eq] at h
  obtain ⟨⟨hr, ha⟩, heven⟩ := h
  refine decodePuldo_formR (by decide) (by decide) hr ha (by decide) (by decide) fun n hn => ?_
  simp [hn.decode32_ordered, decodeOrdered, heven]

/-! ### Control transfers (Tables 3.7 and 3.10) -/

theorem CondF.decode_idx (f : CondF) :
    f.idx < 6 ∧ [CondF.eq, .ne, .lt, .ge, .ltu, .geu].getD f.idx .eq = f := by
  cases f <;> decide

theorem decodesBack_branch {f : CondF} : (POp.branch f a b off).DecodesBack := by
  intro h
  simp only [POp.wellFormed, regOk, Bool.and_eq_true, decide_eq_true_eq] at h
  obtain ⟨⟨ha, hb⟩, ho⟩ := h
  obtain ⟨heven, hi⟩ := halfOffset ho
  obtain ⟨h6, hget⟩ := f.decode_idx
  refine decodePuldo_imm11 (by decide) (by omega) hb ha hi fun n hn hi => ?_
  simp only [decode32, hn.op, hn.sub, hn.rd, hn.rs1, if_pos h6, hget, hi, heven]
  rfl

theorem decodesBack_b : (POp.b off).DecodesBack := by
  intro h
  obtain ⟨heven, hi⟩ := halfOffset h
  exact decodePuldo_imm24 (by decide) hi fun n hop hi => by simp [decode32, hop, hi, heven]

theorem decodesBack_call : (POp.call off).DecodesBack := by
  intro h
  obtain ⟨heven, hi⟩ := halfOffset h
  exact decodePuldo_imm24 (by decide) hi fun n hop hi => by simp [decode32, hop, hi, heven]

theorem decodesBack_jr : (POp.jr a imm).DecodesBack := by
  intro h
  simp only [POp.wellFormed, regOk, Bool.and_eq_true, decide_eq_true_eq] at h
  exact decodePuldo_imm11 (by decide) (by decide) (by decide) h.1 h.2 fun n hn hi => by
    simp [decode32, hn.op, hn.sub, hn.rd, hn.rs1, hi]

theorem decodesBack_callr : (POp.callr a imm).DecodesBack := by
  intro h
  simp only [POp.wellFormed, regOk, Bool.and_eq_true, decide_eq_true_eq] at h
  exact decodePuldo_imm11 (by decide) (by decide) (by decide) h.1 h.2 fun n hn hi => by
    simp [decode32, hn.op, hn.sub, hn.rd, hn.rs1, hi]

theorem decodesBack_loop {o : Nat} : (POp.loop a o).DecodesBack := by
  intro h
  simp only [POp.wellFormed, regOk, Bool.and_eq_true, decide_eq_true_eq] at h
  obtain ⟨⟨⟨ha, heven⟩, hpos⟩, hlt⟩ := h
  have ho : o / 2 < 2 ^ 11 := by omega
  refine decodePuldo_formI (by decide) (by decide) (by decide) ha fun n hn => ?_
  have hu : nfld n 21 11 = o / 2 := hn.imm.trans (lowBits_natCast ho)
  have h0 : o / 2 ≠ 0 := by omega
  have h2 : o / 2 * 2 = o := by omega
  simp [decode32, hn.op, hn.sub, hn.rd, hn.rs1, hu, h0, h2]

/-! ### Accumulators and packed decimal (Tables 3.7 and 3.10) -/

theorem decodesBack_macd {ty : Nat} : (POp.macd ty acc a b).DecodesBack := by
  intro h
  simp only [POp.wellFormed, regOk, Bool.and_eq_true, decide_eq_true_eq, bne_iff_ne, ne_eq] at h
  obtain ⟨⟨⟨⟨⟨ht, hacc⟩, ha⟩, hb⟩, ha0⟩, hb0⟩ := h
  refine decodePuldo_formR (by decide) (by omega) (by omega) ha hb (by decide) fun n hn => ?_
  simp [decode32, hn.op, hn.sub, hn.rd, hn.rs1, hn.rs2, hn.func, ht, hacc, ha0, hb0]

theorem decodesBack_accz : (POp.accz acc).DecodesBack := by
  intro h
  simp only [POp.wellFormed, decide_eq_true_eq] at h
  refine decodePuldo_formR (by decide) (by decide) (by omega) (by decide) (by decide) (by decide) fun n hn => ?_
  simp [hn.decode32_acc, decodeAcc, h]

theorem decodesBack_mfa : (POp.mfa hi rd acc).DecodesBack := by
  intro h
  simp only [POp.wellFormed, regOk, Bool.and_eq_true, decide_eq_true_eq] at h
  obtain ⟨hr, hacc⟩ := h
  refine decodePuldo_formR (by decide) (by cases hi <;> decide) hr (by decide) (by omega) (by decide) fun n hn => ?_
  cases hi <;> simp [hn.decode32_acc, decodeAcc, hacc]

theorem decodesBack_mta : (POp.mta hi acc a).DecodesBack := by
  intro h
  simp only [POp.wellFormed, regOk, Bool.and_eq_true, decide_eq_true_eq] at h
  obtain ⟨hacc, ha⟩ := h
  refine decodePuldo_formR (by decide) (by cases hi <;> decide) (by omega) ha (by decide) (by decide) fun n hn => ?_
  cases hi <;> simp [hn.decode32_acc, decodeAcc, hacc]

theorem DecF.decode_idx (f : DecF) :
    f.idx < 5 ∧ [DecF.addp, .subp, .mulp, .divp, .cmpp].getD f.idx .addp = f := by
  cases f <;> decide

theorem decodesBack_dec {f : DecF} : (POp.dec f rd a b).DecodesBack := by
  intro h
  simp only [POp.wellFormed, regOk, Bool.and_eq_true, decide_eq_true_eq] at h
  obtain ⟨⟨hr, ha⟩, hb⟩ := h
  obtain ⟨h5, hget⟩ := f.decode_idx
  refine decodePuldo_formR (by decide) (by omega) hr ha hb (by decide) fun n hn => ?_
  simp only [decode32, hn.op, hn.sub, hn.rd, hn.rs1, hn.rs2, hn.func, h5, hget]
  rfl

/-! ### Floating point (Tables 3.7 and 3.11) -/

theorem decodesBack_farith {f : FArithF} : (POp.farith f dbl rd a b).DecodesBack := by
  intro h
  simp only [POp.wellFormed, regOk, Bool.and_eq_true, decide_eq_true_eq, Bool.or_eq_true, bne_iff_ne, beq_iff_eq] at h
  obtain ⟨⟨⟨hr, ha⟩, hb⟩, hf⟩ := h
  refine decodePuldo_formR (by decide) (by cases dbl <;> decide) hr ha hb (by cases f <;> decide) fun n hn => ?_
  rw [hn.decode32_fp]
  exact decodeFp_arith fun e => hf.resolve_left (absurd e)

theorem FmaF.decode_sub (f : FmaF) (dbl : Bool) :
    2 * f.idx + (if dbl then 1 else 0) < 8 ∧
    [FmaF.fmadd, .fmsub, .fnmadd, .fnmsub].getD ((2 * f.idx + if dbl then 1 else 0) / 2) .fmadd = f ∧
    ((2 * f.idx + if dbl then 1 else 0) % 2 == 1) = dbl := by
  cases f <;> cases dbl <;> decide

theorem decodesBack_fma {f : FmaF} : (POp.fma f dbl rd a b c).DecodesBack := by
  intro h
  simp only [POp.wellFormed, regOk, Bool.and_eq_true, decide_eq_true_eq] at h
  obtain ⟨⟨⟨hr, ha⟩, hb⟩, hc⟩ := h
  obtain ⟨h8, hget, hdbl⟩ := f.decode_sub dbl
  refine decodePuldo_formR (by decide) h8 hr ha hb (by omega) fun n hn => ?_
  generalize 2 * f.idx + (if dbl then 1 else 0) = sub at *
  simp only [decode32, hn.op, hn.sub, hn.rd, hn.rs1, hn.rs2, hn.func, hget, hdbl, hc]
  rfl

theorem decodesBack_fcvt {f : FcvtF} : (POp.fcvt f dbl rd a).DecodesBack := by
  intro h
  simp only [POp.wellFormed, regOk, Bool.and_eq_true, decide_eq_true_eq] at h
  obtain ⟨hr, ha⟩ := h
  refine decodePuldo_formR (by decide) (by cases dbl <;> decide) hr ha (by decide) (by cases f <;> decide) fun n hn => ?_
  rw [hn.decode32_fp, decodeFp_cvt]

theorem decodesBack_fminmax {max : Bool} : (POp.fminmax max dbl rd a b).DecodesBack := by
  intro h
  simp only [POp.wellFormed, regOk, Bool.and_eq_true, decide_eq_true_eq] at h
  obtain ⟨⟨hr, ha⟩, hb⟩ := h
  refine decodePuldo_formR (by decide) (by cases dbl <;> decide) hr ha hb (by cases max <;> decide) fun n hn => ?_
  rw [hn.decode32_fp, decodeFp_minmax]

theorem decodesBack_fcmp : (POp.fcmp c dbl rd a b).DecodesBack := by
  intro h
  simp only [POp.wellFormed, regOk, Bool.and_eq_true, decide_eq_true_eq] at h
  obtain ⟨⟨⟨hc, hr⟩, ha⟩, hb⟩ := h
  refine decodePuldo_formR (by decide) (by cases dbl <;> decide) hr ha hb (by omega) fun n hn => ?_
  rw [hn.decode32_fp]
  exact decodeFp_cmp hc dbl

theorem decodesBack_ftype : (POp.ftype dbl rd a).DecodesBack := by
  intro h
  simp only [POp.wellFormed, regOk, Bool.and_eq_true, decide_eq_true_eq] at h
  obtain ⟨hr, ha⟩ := h
  refine decodePuldo_formR (by decide) (by cases dbl <;> decide) hr ha (by decide) (by decide) fun n hn => ?_
  cases dbl <;> exact hn.decode32_fp

theorem decodesBack_fbit {f : FbitF} : (POp.fbit f dbl rd a b).DecodesBack := by
  intro h
  simp only [POp.wellFormed, regOk, Bool.and_eq_true, decide_eq_true_eq, Bool.or_eq_true, bne_iff_ne, beq_iff_eq] at h
  obtain ⟨⟨⟨hr, ha⟩, hb⟩, hf⟩ := h
  refine decodePuldo_formR (by decide) (by cases dbl <;> decide) hr ha hb (by cases f <;> decide) fun n hn => ?_
  rw [hn.decode32_fp]
  refine decodeFp_bits fun e => hf.resolve_left fun k => ?_
  exact e.elim k.1 k.2

/-! ### Fences, TLB maintenance and the system (Tables 3.10 and 3.11) -/

theorem decodesBack_fence {f : FenceF} : (POp.fence f).DecodesBack := fun _ => by cases f <;> decide

theorem decodesBack_zeroL : (POp.zeroL a).DecodesBack := by
  intro h
  simp only [POp.wellFormed, regOk, decide_eq_true_eq] at h
  refine decodePuldo_formR (by decide) (by decide) (by decide) h (by decide) (by decide) fun n hn => ?_
  simp [hn.decode32_sync, decodeSync]

theorem decodesBack_tlbi {f : TlbiF} : (POp.tlbi f a b).DecodesBack := by
  intro h
  simp only [POp.wellFormed, regOk, Bool.and_eq_true, decide_eq_true_eq] at h
  obtain ⟨⟨ha, hb⟩, hf⟩ := h
  refine decodePuldo_formR (by decide) (by decide) (by decide) ha hb (by cases f <;> decide) fun n hn => ?_
  rw [hn.decode32_sync]
  refine decodeSync_tlbi (fun e => ?_) fun e => ?_
  · rcases e with rfl | rfl | rfl | rfl <;> simp_all
  · rcases e with rfl | rfl <;> simp_all

theorem decodesBack_mfs : (POp.mfs rd num).DecodesBack := by
  intro h
  simp only [POp.wellFormed, regOk, Bool.and_eq_true, decide_eq_true_eq] at h
  obtain ⟨hr, hl⟩ := h
  have hnum := specialListed_lt hl
  refine decodePuldo_special hnum (by decide) hr fun n hn hs hp => ?_
  simp [hn.decode32_system, decodeSystem, hs, hp, hl]

theorem decodesBack_mts : (POp.mts num a).DecodesBack := by
  intro h
  simp only [POp.wellFormed, regOk, Bool.and_eq_true, decide_eq_true_eq, Bool.not_eq_true'] at h
  obtain ⟨⟨ha, hl⟩, h10⟩ := h
  have hnum := specialListed_lt hl
  have h10 : nfld num 10 1 = 0 := by
    simpa [nfld, Nat.testBit_eq_decide_div_mod_eq] using h10
  refine decodePuldo_special hnum (by decide) ha fun n hn hs hp => ?_
  simp [hn.decode32_system, decodeSystem, hs, hp, hl, h10]

/-- The calls to a higher level differ in SUB only. -/
theorem decodePuldo_systemCall {sub : Nat} {o : Option POp} (hs : sub < 8) (hc : code < 2 ^ 11)
    (h : ∀ n, decodeSystem n sub 0 0 code = o) : decodePuldo (formI 0x16 sub 0 0 code) = o := by
  refine decodePuldo_formI (by decide) hs (by decide) (by decide) fun n hn => ?_
  rw [hn.decode32_system, lowBits_natCast hc, h n]

theorem decodesBack_svc : (POp.svc code).DecodesBack := fun h =>
  decodePuldo_systemCall (by decide) (of_decide_eq_true h) fun _ => rfl

theorem decodesBack_hvc : (POp.hvc code).DecodesBack := fun h =>
  decodePuldo_systemCall (by decide) (of_decide_eq_true h) fun _ => rfl

theorem decodesBack_mcall : (POp.mcall code).DecodesBack := fun h =>
  decodePuldo_systemCall (by decide) (of_decide_eq_true h) fun _ => rfl

theorem decodesBack_brk : (POp.brk code).DecodesBack := by
  intro h
  simp only [POp.wellFormed, decide_eq_true_eq] at h
  show decodePuldo (BitVec.ofNat 32 (0xC300 + code)) = _
  have hg : nfld (0xC300 + code) 13 3 = 6 := by simp only [nfld]; omega
  have hs : nfld (0xC300 + code) 8 5 = 3 := by simp only [nfld]; omega
  have ha : nfld (0xC300 + code) 0 8 = code := by simp only [nfld]; omega
  rw [decodePuldo_short (by omega) (by omega)]
  simp [decode16, hg, hs, ha]

/-! ### Transactions (Tables 3.7 and 3.10) -/

theorem decodesBack_tbegin : (POp.tbegin off).DecodesBack := by
  intro h
  obtain ⟨heven, hi⟩ := halfOffset h
  exact decodePuldo_imm19 (by decide) (by decide) hi fun n hop hr hi => by simp [decode32, hop, hr, hi, heven]

theorem decodesBack_tbeginb : (POp.tbeginb off).DecodesBack := by
  intro h
  obtain ⟨heven, hi⟩ := halfOffset h
  exact decodePuldo_imm19 (by decide) (by decide) hi fun n hop hr hi => by simp [decode32, hop, hr, hi, heven]

theorem decodesBack_tabort : (POp.tabort a).DecodesBack := by
  intro h
  simp only [POp.wellFormed, regOk, decide_eq_true_eq] at h
  refine decodePuldo_formR (by decide) (by decide) (by decide) h (by decide) (by decide) fun n hn => ?_
  simp [decode32, hn.op, hn.sub, hn.rd, hn.rs1, hn.rs2, hn.func]

theorem decodesBack_ttest : (POp.ttest rd).DecodesBack := by
  intro h
  simp only [POp.wellFormed, regOk, decide_eq_true_eq] at h
  refine decodePuldo_formR (by decide) (by decide) h (by decide) (by decide) (by decide) fun n hn => ?_
  simp [decode32, hn.op, hn.sub, hn.rd, hn.rs1, hn.rs2, hn.func]

end

/-! ## The obligations -/

/-- Settles O57, by the instruction: each table's entries decode back from their words. -/
theorem puldoDecodesItsEncoding : Obligations.PuldoDecodesItsEncoding := by
  intro op h
  cases op with
  | ret | fsync | isync | rfe | nop | wait | tcommit => decide
  | alu => exact decodesBack_alu h
  | aluImm => exact decodesBack_aluImm h
  | shift => exact decodesBack_shift h
  | shiftImm => exact decodesBack_shiftImm h
  | lui => exact decodesBack_lui h
  | auipc => exact decodesBack_auipc h
  | mul => exact decodesBack_mul h
  | trapArith => exact decodesBack_trapArith h
  | div => exact decodesBack_div h
  | load => exact decodesBack_load h
  | store => exact decodesBack_store h
  | fload => exact decodesBack_fload h
  | fstore => exact decodesBack_fstore h
  | ldA => exact decodesBack_ldA h
  | stR => exact decodesBack_stR h
  | cas => exact decodesBack_cas h
  | casQ => exact decodesBack_casQ h
  | ldQA => exact decodesBack_ldQA h
  | branch => exact decodesBack_branch h
  | b => exact decodesBack_b h
  | call => exact decodesBack_call h
  | jr => exact decodesBack_jr h
  | callr => exact decodesBack_callr h
  | loop => exact decodesBack_loop h
  | macd => exact decodesBack_macd h
  | accz => exact decodesBack_accz h
  | mfa => exact decodesBack_mfa h
  | mta => exact decodesBack_mta h
  | dec => exact decodesBack_dec h
  | farith => exact decodesBack_farith h
  | fma => exact decodesBack_fma h
  | fcvt => exact decodesBack_fcvt h
  | fminmax => exact decodesBack_fminmax h
  | fcmp => exact decodesBack_fcmp h
  | ftype => exact decodesBack_ftype h
  | fbit => exact decodesBack_fbit h
  | fence => exact decodesBack_fence h
  | zeroL => exact decodesBack_zeroL h
  | tlbi => exact decodesBack_tlbi h
  | mfs => exact decodesBack_mfs h
  | mts => exact decodesBack_mts h
  | svc => exact decodesBack_svc h
  | hvc => exact decodesBack_hvc h
  | mcall => exact decodesBack_mcall h
  | brk => exact decodesBack_brk h
  | tbegin => exact decodesBack_tbegin h
  | tbeginb => exact decodesBack_tbeginb h
  | tabort => exact decodesBack_tabort h
  | ttest => exact decodesBack_ttest h

/-- Settles O58: each word is decoded. -/
theorem puldoWordsDecode : Obligations.PuldoWordsDecode := by
  unfold Obligations.PuldoWordsDecode
  decide

end Sys2Proof.Machine
end

section
/-!
PROOFS. Completion of loads, stores and atomic accesses (R54, R161, R168, R171, R172, R209): first the completion of an
instruction from what its effects leave, then the effects of each form on an access that passes.
-/

namespace Sys2Proof.Machine

/-! ## Completion from the effects of an instruction -/

section
variable {s u v v' : State} {n : Fin 64} {w : BitVec 32} {op : POp} {d : Done} {env : Env} {c : Instr} {a : Arch}

/-- An instruction completes whose effects leave, beyond the state `v`, only the registers `a` of its core. -/
theorem State.completes_of_only (h : s.admits n w op u) (hc : exec c s = insn op.row n w env s)
    (hp : u.perform n (insnLen w) env op = .ok v' d) (hd : d.wroteLc = false) (hv : v.onlyCore n v')
    (ha : v'.arch n = a) : s.completes c n w v a d.target := by
  obtain ⟨t, hexec, harch, honly⟩ := State.completes_next h hc hp hd
  exact ⟨t, hexec, ha ▸ harch, State.onlyCore_trans n.isLt hv honly⟩

/-- An instruction that writes registers of its core after its accesses completes. -/
theorem State.completes_setArch (h : s.admits n w op u) (hc : exec c s = insn op.row n w env s)
    (hp : u.perform n (insnLen w) env op = .ok (v.setArch n a) d) (hd : d.wroteLc = false) :
    s.completes c n w v a d.target :=
  State.completes_of_only h hc hp hd (v.onlyCore_setArch n a) (v.arch_setArch_self n a)

/-- An instruction that writes no register completes. -/
theorem State.completes_stay (h : s.admits n w op u) (hc : exec c s = insn op.row n w env s)
    (hp : u.perform n (insnLen w) env op = .ok v d) (hd : d.wroteLc = false) : s.completes c n w v (v.arch n) d.target :=
  State.completes_of_only h hc hp hd (v.onlyCore_refl n) rfl

end

/-! ## The effects of loads, stores and atomic accesses -/

section
variable {s v : State} {n len : Nat} {d : List Byte}

/-- A pair of general registers written one after the other. -/
theorem State.putPair_only (s : State) (n : Fin 64) (r : Nat) (d : List Byte) :
    s.onlyCore n (s.putPair n r d) ∧ (s.putPair n r d).arch n =
      ((s.arch n).setG r (BitVec.ofNat 64 (leNat (d.take 8)))).setG (r + 1) (BitVec.ofNat 64 (leNat (d.drop 8))) := by
  refine ⟨State.onlyCore_trans n.isLt (State.onlyCore_setArch _ _ _) (State.onlyCore_setArch _ _ _), ?_⟩
  simp [State.putPair, State.putG]

theorem State.perform_load {size rd a : Nat} {sext : Bool} {imm : Int}
    (h : s.loadBytes n (s.acc n .load (2 ^ size)) ((s.arch n).getG a + BitVec.ofInt 64 imm) = .ok v d) :
    s.perform n len {} (.load size sext rd a imm) =
      .ok (v.setArch n ((v.arch n).setG rd (loadValue size sext d))) {} := by
  simp only [State.perform, State.doLoadErr, if_pos, Bool.false_eq_true, if_false, State.doLoad]
  rw [show s.ea n a imm = (s.arch n).getG a + BitVec.ofInt 64 imm from rfl, h]
  rfl

theorem State.perform_ldA {size rd a : Nat}
    (h : s.loadBytes n (s.acc n .load (2 ^ size) true) ((s.arch n).getG a) = .ok v d) :
    s.perform n len {} (.ldA size rd a) = .ok (v.setArch n ((v.arch n).setG rd (BitVec.ofNat 64 (leNat d)))) {} := by
  simp only [State.perform, State.doLdA, State.gr, h]
  rfl

theorem State.perform_ldQA {rd a : Nat} (h : s.loadQ n (s.acc n .ldQ 16 true) ((s.arch n).getG a) = .ok v d) :
    s.perform n len {} (.ldQA rd a) = .ok (v.putPair n rd d) {} := by
  simp only [State.perform, State.doLdQA, State.gr, h]
  rfl

theorem State.perform_fload {dbl : Bool} {rd a : Nat} {imm : Int}
    (h : s.loadBytes n (s.acc n .load (if dbl then 8 else 4)) ((s.arch n).getG a + BitVec.ofInt 64 imm) = .ok v d) :
    s.perform n len {} (.fload dbl rd a imm) =
      .ok (v.setArch n ((v.arch n).setF rd (if dbl then BitVec.ofNat 64 (leNat d) else box32 (leNat d)))) {} := by
  simp only [State.perform, State.doFload]
  rw [show s.ea n a imm = (s.arch n).getG a + BitVec.ofInt 64 imm from rfl, h]
  rfl

theorem State.storeReg_ok {bytes : Nat} {strict : Bool} {va x : Word}
    (h : s.storeBytes n (s.acc n .store bytes strict) va (leBytes bytes x.toNat) = .ok v ()) :
    s.storeReg n bytes strict va x = .ok v {} := by
  rw [State.storeReg, h]
  rfl

theorem State.perform_store {size b a : Nat} {imm : Int}
    (h : s.storeBytes n (s.acc n .store (2 ^ size)) ((s.arch n).getG a + BitVec.ofInt 64 imm)
      (leBytes (2 ^ size) ((s.arch n).getG b).toNat) = .ok v ()) :
    s.perform n len {} (.store size b a imm) = .ok v {} := by
  simp only [State.perform, State.doStore]
  exact State.storeReg_ok h

theorem State.perform_fstore {dbl : Bool} {b a : Nat} {imm : Int}
    (h : s.storeBytes n (s.acc n .store (if dbl then 8 else 4)) ((s.arch n).getG a + BitVec.ofInt 64 imm)
      (leBytes (if dbl then 8 else 4) ((s.arch n).getF b).toNat) = .ok v ()) :
    s.perform n len {} (.fstore dbl b a imm) = .ok v {} := by
  simp only [State.perform, State.doFstore]
  exact State.storeReg_ok h

theorem State.perform_stR {size a b : Nat}
    (h : s.storeBytes n (s.acc n .store (2 ^ size) true) ((s.arch n).getG a)
      (leBytes (2 ^ size) ((s.arch n).getG b).toNat) = .ok v ()) :
    s.perform n len {} (.stR size a b) = .ok v {} := by
  simp only [State.perform, State.doStR]
  exact State.storeReg_ok h

theorem State.perform_cas {size rd a b : Nat}
    (h : s.casBytes n (s.acc n .cas (2 ^ size) true) ((s.arch n).getG a) (leBytes (2 ^ size) ((s.arch n).getG rd).toNat)
      (leBytes (2 ^ size) ((s.arch n).getG b).toNat) = .ok v d) :
    s.perform n len {} (.cas size rd a b) =
      .ok (v.setArch n ((v.arch n).setG rd (BitVec.ofNat 64 (leNat d)))) { alone := true } := by
  simp only [State.perform, State.doCas, State.gr, h]
  rfl

theorem State.perform_casQ {rd a b : Nat}
    (h : s.casBytes n (s.acc n .casQ 16 true) ((s.arch n).getG a) (s.pair16 n rd) (s.pair16 n b) = .ok v d) :
    s.perform n len {} (.casQ rd a b) = .ok (v.putPair n rd d) { alone := true } := by
  simp only [State.perform, State.doCasQ, State.gr, h]
  rfl

/-- The stores of a ZERO.L, which MNT_FORM = 2 takes past the L2 (R209, R210). -/
def State.zeroStores (s : State) (n level : Nat) (ps : List Part) : List Store :=
  ps.flatMap (fun p => (p.stores level (s.zoneOf n) (List.replicate 128 0)).map (fun st =>
    if s.mntForm (s.coreTile n) == 2 && st.kind == .cached then { st with kind := .bulk } else st))

theorem State.perform_zeroL {a : Nat} {ps : List Part}
    (h : s.check n (s.acc n .zero 128) ((s.arch n).getG a &&& 0xFFFFFFFFFFFFFF80) = .ok v ps) (htx : v.inTx n = false) :
    s.perform n len {} (.zeroL a) = .ok (v.putFresh n (v.zeroStores n (s.arch n).level ps)) {} := by
  simp only [State.perform, State.doZeroL, State.gr, h, Res.mapExc, Res.bind, htx, Bool.false_eq_true, if_false]
  rfl

@[simp] theorem State.arch_putFresh (s : State) (n : Nat) (sts : List Store) : (s.putFresh n sts).arch n = s.arch n :=
  State.arch_setCore_self _ _ _

end

/-! ## The obligations -/

/-- Settles O16, by the form: its accesses pass, and what it writes after them is the core's. -/
theorem loadsAndStoresComplete : Obligations.LoadsAndStoresComplete := by
  intro n w s u v d
  refine ⟨?load, ?ldA, ?ldQA, ?fload, ?store, ?fstore, ?stR, ?cas, ?casQ, ?zeroL⟩
  case load => exact fun _ _ _ _ _ h hl => State.completes_setArch h rfl (State.perform_load hl) rfl
  case ldA => exact fun _ _ _ h hl => State.completes_setArch h rfl (State.perform_ldA hl) rfl
  case ldQA =>
    intro rd a h hl
    obtain ⟨honly, harch⟩ := v.putPair_only n rd d
    exact State.completes_of_only h rfl (State.perform_ldQA hl) rfl honly harch
  case fload => exact fun _ _ _ _ h hl => State.completes_setArch h rfl (State.perform_fload hl) rfl
  case store => exact fun _ _ _ _ h hs => State.completes_stay h rfl (State.perform_store hs) rfl
  case fstore => exact fun _ _ _ _ h hs => State.completes_stay h rfl (State.perform_fstore hs) rfl
  case stR => exact fun _ _ _ h hs => State.completes_stay h rfl (State.perform_stR hs) rfl
  case cas => exact fun _ _ _ _ h hl => State.completes_setArch h rfl (State.perform_cas hl) rfl
  case casQ =>
    intro rd a b h hl
    obtain ⟨honly, harch⟩ := v.putPair_only n rd d
    exact State.completes_of_only h rfl (State.perform_casQ hl) rfl honly harch
  case zeroL =>
    exact fun _ _ h hl htx =>
      State.completes_of_only h rfl (State.perform_zeroL hl htx) rfl (State.onlyCore_refl _ _) (State.arch_putFresh _ _ _)

end Sys2Proof.Machine
end

section
/-!
PROOFS. Completion of control transfers and of the hardware loop (R49, R80, R84, R85, R89, R60).
-/

namespace Sys2Proof.Machine

/-! ## Retirement of an instruction that writes LC -/

/-- An instruction that writes LC itself keeps the LC it wrote; control passes as the loop step has it (R90). -/
theorem State.retire_wroteLc (s : State) {n : Nat} (old : Arch) (len : Nat) {d : Done} (hn : n < 64)
    (hd : d.wroteLc = true) :
    s.onlyCore n (s.retire n old len d) ∧
      (s.retire n old len d).arch n = { s.arch n with pc := old.nextPc len d.target } := by
  unfold State.retire
  simp only
  generalize hx : LCore.mk _ _ _ _ _ _ _ _ _ _ _ _ _ _ _ _ _ _ _ _ _ _ _ _ = x
  have hx' : x.arch = { s.arch n with pc := old.nextPc len d.target } := by
    rw [← hx]; simp only [Arch.nextPc, State.arch, hd]
    by_cases h1 : old.getS srLC = 0 <;> by_cases h2 : old.pc = old.getS srLE <;> simp [h1, h2]
  obtain ⟨hk, hka⟩ := State.dropKept_only (s.setCore n x) n
  have hk := State.onlyCore_trans hn (State.onlyCore_setCore s n x) hk
  rw [State.arch_setCore_self, hx'] at hka
  obtain ⟨hc, hca⟩ := State.commitGroup_only ((s.setCore n x).dropKept n) n hn
  split
  · exact ⟨State.onlyCore_trans hn hk hc, hca.trans hka⟩
  · exact ⟨hk, hka⟩

section
variable {s u v : State} {n : Fin 64} {w : BitVec 32} {op : POp} {d : Done} {env : Env} {c : Instr} {a : Arch}

/-- An instruction that leaves the registers `a`, LC among them, completes in the state its retirement makes. -/
theorem State.next_of_wroteLc (h : s.admits n w op u) (hc : exec c s = insn op.row n w env s)
    (hp : u.perform n (insnLen w) env op = .ok (v.setArch n a) d) (hd : d.wroteLc = true) :
    ∃ t, exec c s = .next t ∧ t.arch n = { a with pc := (s.arch n).nextPc (insnLen w) d.target } ∧ v.onlyCore n t := by
  obtain ⟨honly, harch⟩ := State.retire_wroteLc (v.setArch n a) (s.arch n) (insnLen w) n.isLt hd
  rw [State.arch_setArch_self] at harch
  exact ⟨_, hc.trans (State.admits_runs h hp), harch, State.onlyCore_trans n.isLt (State.onlyCore_setArch _ _ _) honly⟩

end

/-! ## The effects of branches, calls and returns -/

section
variable {s v v2 : State} {n len : Nat}

theorem State.perform_branch (s : State) (n len : Nat) (c : CondF) (a b : Nat) (off : Int) :
    s.perform n len {} (.branch c a b off) = .ok s { target := (if condHolds c ((s.arch n).getG a)
      ((s.arch n).getG b) then some ((s.arch n).pc + BitVec.ofInt 64 off) else none) } := by
  simp only [State.perform, State.doBranch, State.gr]
  by_cases h : condHolds c ((s.arch n).getG a) ((s.arch n).getG b)
  · simp only [h, if_true]
    rfl
  · simp only [h, if_false, Bool.false_eq_true]

/-- A transfer to an even address passes its check (R49). -/
theorem oddTarget_even {t : Word} (h : bit t 0 = false) : oddTarget s t = .ok s () := by
  simp [oddTarget, h]

theorem State.perform_jr {a : Nat} {imm : Int} (h : bit ((s.arch n).getG a + BitVec.ofInt 64 imm) 0 = false) :
    s.perform n len {} (.jr a imm) = .ok s { target := some ((s.arch n).getG a + BitVec.ofInt 64 imm) } := by
  simp only [State.perform, State.doJr]
  rw [show s.ea n a imm = (s.arch n).getG a + BitVec.ofInt 64 imm from rfl, oddTarget_even h]
  rfl

/-- The push of a return address whose slot passes its checks (R84). -/
theorem State.doPush_ok {ret target : Word} {ps : List Part}
    (hc : s.checkSlot n true ((s.arch n).getG 31 - 8) = .ok v ps)
    (hs : v.storeParts n (s.acc n .push 8) ((s.arch n).getG 31 - 8) ps (leBytes 8 ret.toNat) = .ok v2 ()) :
    s.doPush n ret target =
      .ok (v2.setArch n ((v2.arch n).setG 31 ((s.arch n).getG 31 - 8))) { target := some target } := by
  simp only [State.doPush, State.gr, hc, Res.bind, hs]
  rfl

theorem State.perform_callr {a : Nat} {imm : Int} {ps : List Part}
    (ht : bit ((s.arch n).getG a + BitVec.ofInt 64 imm) 0 = false)
    (hc : s.checkSlot n true ((s.arch n).getG 31 - 8) = .ok v ps)
    (hs : v.storeParts n (s.acc n .push 8) ((s.arch n).getG 31 - 8) ps
      (leBytes 8 ((s.arch n).pc + BitVec.ofNat 64 len).toNat) = .ok v2 ()) :
    s.perform n len {} (.callr a imm) = .ok (v2.setArch n ((v2.arch n).setG 31 ((s.arch n).getG 31 - 8)))
      { target := some ((s.arch n).getG a + BitVec.ofInt 64 imm) } := by
  simp only [State.perform, State.doCallr]
  rw [show s.ea n a imm = (s.arch n).getG a + BitVec.ofInt 64 imm from rfl, oddTarget_even ht]
  exact State.doPush_ok hc hs

theorem State.perform_call {off : Int} {ps : List Part}
    (hc : s.checkSlot n true ((s.arch n).getG 31 - 8) = .ok v ps)
    (hs : v.storeParts n (s.acc n .push 8) ((s.arch n).getG 31 - 8) ps
      (leBytes 8 ((s.arch n).pc + BitVec.ofNat 64 len).toNat) = .ok v2 ()) :
    s.perform n len {} (.call off) = .ok (v2.setArch n ((v2.arch n).setG 31 ((s.arch n).getG 31 - 8)))
      { target := some ((s.arch n).pc + BitVec.ofInt 64 off) } := by
  simp only [State.perform, State.doCall]
  exact State.doPush_ok hc hs

/-- RET pops the address of its slot (R85). -/
theorem State.perform_ret {ps : List Part} {d : List Byte} (hc : s.checkSlot n false ((s.arch n).getG 31) = .ok v ps)
    (hl : v.loadParts n (s.acc n .pop 8) ((s.arch n).getG 31) ps true false = .ok v2 d)
    (ht : bit (BitVec.ofNat 64 (leNat d)) 0 = false) :
    s.perform n len {} .ret = .ok (v2.setArch n ((v2.arch n).setG 31 ((s.arch n).getG 31 + 8)))
      { target := some (BitVec.ofNat 64 (leNat d)) } := by
  simp only [State.perform, State.doRet, State.gr, hc, Res.bind, hl, Res.mapExc, oddTarget_even ht]
  rfl

/-! ## The hardware loop -/

/-- The registers that LOOP sets (R89). -/
def Arch.looped (x : Arch) (a off : Nat) : Arch :=
  ((x.setS srLC (x.getG a)).setS srLB (x.pc + 4)).setS srLE (x.pc + BitVec.ofNat 64 off)

theorem State.perform_loop_enter {a off : Nat} {tail : BitVec 16} (h : (s.arch n).getG a ≠ 0) :
    s.perform n len { tail := tail } (.loop a off) = .ok (s.setArch n ((s.arch n).looped a off)) { wroteLc := true } := by
  simp only [State.perform, State.doLoop, State.gr]
  exact if_neg h

theorem State.perform_loop_skip {a off : Nat} {tail : BitVec 16} (h : (s.arch n).getG a = 0)
    (hf : s.fetchParcel n (s.arch n).level ((s.arch n).pc + BitVec.ofNat 64 off) = .ok v ()) :
    s.perform n len { tail := tail } (.loop a off) = .ok (v.setArch n ((s.arch n).looped a off))
      { target := some ((s.arch n).pc + BitVec.ofNat 64 off + BitVec.ofNat 64 (parcelLen tail)), wroteLc := true } := by
  simp only [State.perform, State.doLoop, State.gr, if_pos h, hf, Res.bind]
  rfl

/-- The fetch of an admitted instruction leaves PC and the registers of the loop in progress. -/
theorem State.admits_loopRegs {s u : State} {n : Nat} {w : BitVec 32} {op : POp} (h : s.admits n w op u) :
    (u.arch n).pc = (s.arch n).pc ∧ (u.arch n).getS srLC = (s.arch n).getS srLC ∧
      (u.arch n).getS srLE = (s.arch n).getS srLE := by
  obtain ⟨-, -, -, -, -, -, -, -, -, -, hregs, -⟩ := h
  exact hregs

/-- No Loop Fault stands in the way of an admitted instruction (R92). -/
theorem State.admits_loopFault {s u : State} {n : Nat} {w : BitVec 32} {op : POp} (h : s.admits n w op u) :
    (u.arch n).loopFault op = false := by
  obtain ⟨-, -, -, -, -, -, -, -, -, -, -, hfault, -⟩ := h
  unfold Arch.decodeFault at hfault
  by_contra hl
  simp only [Bool.not_eq_false] at hl
  simp only [hl, if_true] at hfault
  split_ifs at hfault

/-- A LOOP that its boundary admits does not stand at the LE of a loop in progress (R92), so control passes as it asks. -/
theorem State.nextPc_of_loop {s u : State} {n : Fin 64} {w : BitVec 32} {a off : Nat} (h : s.admits n w (.loop a off) u)
    (target : Option Word) :
    (s.arch n).nextPc (insnLen w) target = target.getD ((s.arch n).pc + BitVec.ofNat 64 (insnLen w)) := by
  obtain ⟨hpc, hlc, hle⟩ := State.admits_loopRegs h
  have hloop := State.admits_loopFault h
  rw [Arch.nextPc, if_neg]
  rintro ⟨hne, heq⟩
  simp only [Arch.loopFault, hlc, hle, hpc, Bool.or_eq_false_iff, Bool.and_eq_false_imp, bne_iff_ne, beq_eq_false_iff_ne]
    at hloop
  exact hloop.2 hne heq

end

/-! ## The obligations -/

/-- Settles O18, by the form: what it does to the registers and to the stack, and where control passes. -/
theorem controlTransfersComplete : Obligations.ControlTransfersComplete := by
  intro n w s u v v2
  refine ⟨?branch, ?b, ?jr, ?call, ?callr, ?ret, ?loop, ?nop⟩
  case branch => exact fun _ _ _ _ h => State.completes_stay h rfl (State.perform_branch _ _ _ _ _ _ _) rfl
  case b => exact fun _ h => State.completes_stay (d := { target := _ }) (env := {}) h rfl rfl rfl
  case jr => exact fun _ _ h ht => State.completes_stay h rfl (State.perform_jr ht) rfl
  case call => exact fun _ _ h hc hs => State.completes_setArch h rfl (State.perform_call hc hs) rfl
  case callr => exact fun _ _ _ h ht hc hs => State.completes_setArch h rfl (State.perform_callr ht hc hs) rfl
  case ret => exact fun _ _ h hc hl ht => State.completes_setArch h rfl (State.perform_ret hc hl ht) rfl
  case nop => exact fun h => State.completes_stay (d := {}) (env := {}) h rfl rfl rfl
  case loop =>
    intro a off tail h
    obtain ⟨hpc, -, -⟩ := State.admits_loopRegs h
    refine ⟨fun hcount => ?_, fun hcount hf => ?_⟩
    · obtain ⟨t, hexec, harch, honly⟩ :=
        State.next_of_wroteLc (c := .loop n w tail) h rfl (State.perform_loop_enter hcount) rfl
      rw [State.nextPc_of_loop h, ← hpc] at harch
      exact ⟨t, hexec, harch, honly⟩
    · obtain ⟨t, hexec, harch, honly⟩ :=
        State.next_of_wroteLc (c := .loop n w tail) h rfl (State.perform_loop_skip hcount hf) rfl
      rw [State.nextPc_of_loop h] at harch
      refine ⟨t, hexec, honly, harch.trans ?_⟩
      unfold parcelLen
      split <;> rfl

end Sys2Proof.Machine
end

section
/-!
PROOFS. Completion of the special-register, return, wait, fence and TLB instructions (R57, R58, R70, R131, R146, R150, R166,
R175).
-/

namespace Sys2Proof.Machine

/-! ## What retirement keeps of every core -/

section
variable (s : State) (n : Nat)

/-- A projection of a core that neither the group, its stores and its Wafer nor the captured responses are part of. -/
def LCore.Settled {α : Type} (f : LCore → α) : Prop :=
  (∀ c r, f { c with replay := r } = f c) ∧
  (∀ c wafer stores, f { c with wafer := wafer, stores := stores, fresh := [], replay := [], group := 0 } = f c) ∧
  ∀ c a step g tx, f { c with arch := a, stepPending := step, group := g, tx := tx, stepGrant := false } = f c

theorem LCore.settled_waiting : LCore.Settled (·.waiting) := ⟨fun _ _ => rfl, fun _ _ _ => rfl, fun _ _ _ _ _ => rfl⟩

theorem LCore.settled_tlb : LCore.Settled (·.tlb) := ⟨fun _ _ => rfl, fun _ _ _ => rfl, fun _ _ _ _ _ => rfl⟩

variable {α : Type} {f : LCore → α} (hf : LCore.Settled f)
include hf

theorem State.dropKept_settled : f ((s.dropKept n).core n) = f (s.core n) := by
  unfold State.dropKept
  simp only
  split
  · rw [State.core_setCore_self, hf.1]
  · rfl

theorem State.commitGroup_settled : f ((s.commitGroup n).core n) = f (s.core n) := by
  have hcommit : ∀ wafer stores, f ((s.setCore n { s.core n with
      wafer := wafer, stores := stores, fresh := [], replay := [], group := 0 }).core n) = f (s.core n) := by
    intro wafer stores
    rw [State.core_setCore_self, hf.2.1]
  unfold State.commitGroup
  simp only
  split
  · rfl
  · split
    · split
      · exact hcommit _ _
      · exact hcommit _ _
    · exact hcommit _ _

theorem State.retire_settled (old : Arch) (len : Nat) (d : Done) :
    f ((s.retire n old len d).core n) = f (s.core n) := by
  unfold State.retire
  simp only
  split
  · rw [State.commitGroup_settled _ _ hf, State.dropKept_settled _ _ hf, State.core_setCore_self, hf.2.2]
  · rw [State.dropKept_settled _ _ hf, State.core_setCore_self, hf.2.2]

end

section
variable {s u v : State} {n : Fin 64} {w : BitVec 32} {op : POp} {d : Done} {env : Env} {c : Instr}

/-- An instruction completes, and what is settled of its core stands as its effects left it. -/
theorem State.next_settled {α : Type} {f : LCore → α} (hf : LCore.Settled f) (h : s.admits n w op u)
    (hc : exec c s = insn op.row n w env s) (hp : u.perform n (insnLen w) env op = .ok v d) (hd : d.wroteLc = false) :
    ∃ t, exec c s = .next t ∧ t.arch n = (s.arch n).steps (v.arch n) (insnLen w) d.target ∧ v.onlyCore n t ∧
      f (t.core n) = f (v.core n) := by
  obtain ⟨honly, harch⟩ := State.retire_steps v n (s.arch n) (insnLen w) d n.isLt hd
  exact ⟨_, hc.trans (State.admits_runs h hp), harch, honly, State.retire_settled v n hf _ _ _⟩

end

/-! ## Special registers and the return (R57, R131, R146) -/

/-- The level of an MTS does not matter to LC, all of whose bits it writes. -/
theorem Arch.writeSr_lc (a : Arch) (level : Nat) (v : Word) : a.writeSr srLC level v = a.setS srLC v := by
  have hmask : srMask srLC level = BitVec.allOnes 64 := rfl
  rw [Arch.writeSr, if_pos (by decide), hmask, BitVec.not_allOnes, BitVec.and_zero, BitVec.zero_or, BitVec.and_allOnes]

theorem State.perform_rfe {s : State} {n len : Nat}
    (hr : rfeRefused (s.arch n).level (BitVec.ofNat 64 (bits ((s.arch n).getS (srESTAT (s.arch n).level)) 32 7))
      ((s.arch n).getS srPSW) = false)
    (ht : bit ((s.arch n).getS (srEPC (s.arch n).level)) 0 = false) :
    s.perform n len {} .rfe = .ok (s.setArch n ((s.arch n).setS srPSW
      (putBits ((s.arch n).getS srPSW) 0 7 (bits ((s.arch n).getS (srESTAT (s.arch n).level)) 32 7))))
      { target := some ((s.arch n).getS (srEPC (s.arch n).level)), alone := true } := by
  have hsaved : (BitVec.ofNat 64 (bits ((s.arch n).getS (srESTAT (s.arch n).level)) 32 7)).toNat =
      bits ((s.arch n).getS (srESTAT (s.arch n).level)) 32 7 := by
    rw [BitVec.toNat_ofNat]
    exact Nat.mod_eq_of_lt ((bits_lt _ 32 7).trans (by decide))
  simp only [State.perform, State.doRfe, hr, Bool.false_eq_true, if_false, oddTarget_even ht, Res.bind, hsaved]

/-! ## Fences (R175, R190) -/

theorem State.perform_fence_inTx {s : State} {n len : Nat} (f : FenceF) (h : s.inTx n = true) :
    s.perform n len {} (.fence f) = .ok s {} := by
  simp only [State.perform, State.doFence, h, if_true]

theorem State.perform_fence {s v : State} {n len : Nat} {f : FenceF} (h : s.inTx n = false)
    (hd : (if f = .l then s.drainLocal n else s.drainAll n) = (v, true)) :
    s.perform n len {} (.fence f) = .ok v { alone := true } := by
  cases f <;> simp_all [State.perform, State.doFence]

/-! ## TLB instructions (R166) -/

section
variable {s : State} {n : Nat} {hit : TlbEntry → Bool}

/-- While no other core has a transaction open, a purge of one TLB only filters it. -/
theorem State.purgeTlb_eq {m : Nat} (h : m ≠ n → (s.core m).tx = none) :
    s.purgeTlb n m hit = s.setCore m { s.core m with tlb := (s.core m).tlb.filter (fun e => !hit e) } := by
  unfold State.purgeTlb
  simp only
  split
  · rename_i t ht
    rw [if_neg]
    rintro ⟨hne, -⟩
    simp [h hne] at ht
  · rfl

/-- What the purge of the TLBs of the cores listed leaves: their entries, filtered, and nothing else changed. -/
structure State.Purged (s : State) (hit : TlbEntry → Bool) (ms : List Nat) (t : State) : Prop where
  frame : t = { s with cores := t.cores }
  core : ∀ m, t.core m = if m ∈ ms then { s.core m with tlb := (s.core m).tlb.filter (fun e => !hit e) } else s.core m

theorem State.purged_foldl (h : ∀ m, m ≠ n → (s.core m).tx = none) (ms : List Nat) (hms : ms.Nodup) :
    s.Purged hit ms (ms.foldl (fun u m => u.purgeTlb n m hit) s) := by
  induction ms using List.reverseRecOn with
  | nil => exact ⟨rfl, fun m => by simp⟩
  | append_singleton ms k ih =>
    obtain ⟨hms, -, hk⟩ := List.nodup_append.1 hms
    obtain ⟨frame, core⟩ := ih hms
    have hkms : k ∉ ms := fun hmem => hk k hmem k (List.mem_singleton_self k) rfl
    have hcore := core k
    rw [if_neg hkms] at hcore
    rw [List.foldl_append, List.foldl_cons, List.foldl_nil, State.purgeTlb_eq (by rw [hcore]; exact h k), hcore]
    refine ⟨?_, fun m => ?_⟩
    · rw [frame]
      rfl
    · by_cases hm : m = k
      · subst hm
        simp
      · rw [State.core_setCore_of_ne _ _ hm, core m]
        simp [hm]

/-- The state that a TLB instruction makes of the one in which the stores of its zone have drained, for the cores listed. -/
def State.tlbiDone (s v : State) (n : Nat) (f : TlbiF) (x y : Word) (ms : List Nat) : State :=
  let u := ms.foldl (fun u m => u.purgeTlb n m (tlbiHits f (s.zoneOf n) (bits ((s.arch n).getS srTTB_H) 4 8) x y)) v
  { u with ioTlb := u.ioTlb.filter (fun e => !tlbiIoHits f (s.zoneOf n) x y e) }

theorem State.perform_tlbi {v : State} {len : Nat} {f : TlbiF} {a b : Nat} (hd : s.drainZone (s.zoneOf n) = (v, true)) :
    s.perform n len {} (.tlbi f a b) =
      .ok (s.tlbiDone v n f ((s.arch n).getG a) ((s.arch n).getG b) (List.range 64)) { alone := true } := by
  simp only [State.perform, State.doTlbi, State.gr, hd, State.tlbiDone]

end

/-- What a TLB instruction leaves: no TLB holds an entry it names, and beyond TLB entries nothing has changed. -/
theorem State.tlbiDone_spec {s v : State} {n : Nat} (htx : ∀ m, m ≠ n → (v.core m).tx = none) (f : TlbiF) (x y : Word)
    {ms : List Nat} (hms : ms.Nodup) :
    (∀ m, (s.tlbiDone v n f x y ms).arch m = v.arch m) ∧ (s.tlbiDone v n f x y ms).mem = v.mem ∧
    (∀ m ∈ ms, ∀ e ∈ ((s.tlbiDone v n f x y ms).core m).tlb,
      tlbiHits f (s.zoneOf n) (bits ((s.arch n).getS srTTB_H) 4 8) x y e = false) ∧
    ∀ e ∈ (s.tlbiDone v n f x y ms).ioTlb, tlbiIoHits f (s.zoneOf n) x y e = false := by
  obtain ⟨frame, core⟩ := State.purged_foldl
    (hit := tlbiHits f (s.zoneOf n) (bits ((s.arch n).getS srTTB_H) 4 8) x y) htx ms hms
  have hmem := congrArg State.mem frame
  refine ⟨fun m => ?_, hmem, fun m hm e he => ?_, fun e he => ?_⟩
  · refine (congrArg LCore.arch (core m)).trans ?_
    split <;> rfl
  · have htlb := congrArg LCore.tlb (core m)
    rw [if_pos hm] at htlb
    have he := htlb ▸ he
    simpa using (List.mem_filter.1 he).2
  · simpa using (List.mem_filter.1 he).2

/-! ## The obligation -/

/-- Settles O19, by the form: what it writes and what it waits for. -/
theorem systemInstructionsComplete : Obligations.SystemInstructionsComplete := by
  intro n w s u v
  refine ⟨?mfs, ?mts, ?rfe, ?wait, ?fsync, ?isync, ?fence, ?tlbi⟩
  case mfs => exact fun _ _ h => State.completes_setArch (d := {}) (env := {}) h rfl rfl rfl
  case mts =>
    refine fun num a h => ⟨fun hnum => ?_, fun hnum => ?_⟩
    · exact State.completes_setArch (d := { alone := true, wroteLc := num == srLC }) (env := {}) h rfl rfl
        (beq_eq_false_iff_ne.2 hnum)
    · subst hnum
      obtain ⟨t, hexec, harch, honly⟩ := State.next_of_wroteLc (c := .mts n w) (env := {})
        (d := { alone := true, wroteLc := true }) h rfl rfl rfl
      rw [Arch.writeSr_lc] at harch
      exact ⟨t, hexec, honly, harch⟩
  case rfe => exact fun h hr ht => State.completes_setArch h rfl (State.perform_rfe hr ht) rfl
  case wait =>
    intro h
    obtain ⟨t, hexec, harch, honly, hwait⟩ := State.next_settled (c := .wait n w) (env := {})
      (d := { alone := true }) LCore.settled_waiting h rfl rfl rfl
    rw [State.arch_setCore_self] at harch
    rw [State.core_setCore_self] at hwait
    exact ⟨t, hexec, hwait, State.onlyCore_trans n.isLt (State.onlyCore_setCore _ _ _) honly, harch⟩
  case fsync => exact fun h => State.completes_stay (d := {}) (env := {}) h rfl rfl rfl
  case isync => exact fun h => State.completes_stay (d := { alone := true }) (env := {}) h rfl rfl rfl
  case fence =>
    intro f h
    refine ⟨fun htx => ?_, fun htx hd => ?_⟩
    · cases f <;> exact State.completes_stay h rfl (State.perform_fence_inTx _ htx) rfl
    · cases f <;> exact State.completes_stay h rfl (State.perform_fence htx hd) rfl
  case tlbi =>
    intro f a b h c hd htx
    have hc : exec c s = insn (POp.tlbi f a b).row n w {} s := by cases f <;> rfl
    have hp := State.perform_tlbi (len := insnLen w) (f := f) (a := a) (b := b) hd
    obtain ⟨harchs, hmem, htlb, hio⟩ := State.tlbiDone_spec htx f ((u.arch n).getG a) ((u.arch n).getG b)
      (s := u) List.nodup_range
    generalize u.tlbiDone v n f ((u.arch n).getG a) ((u.arch n).getG b) (List.range 64) = v' at *
    obtain ⟨t, hexec, harch, ⟨hframe, hcores, -⟩, hself⟩ := State.next_settled LCore.settled_tlb h hc hp rfl
    refine ⟨t, hexec, harchs n ▸ harch, fun m hm e he => htlb m (List.mem_range.2 hm) e ?_, fun e he => hio e ?_, ?_,
      fun m hm => (congrArg LCore.arch (hcores m hm)).trans (harchs m)⟩
    · by_cases hmn : m = n
      · subst hmn
        rwa [← hself]
      · rwa [← hcores m hmn]
    · rwa [hframe] at he
    · rw [hframe]
      exact hmem

end Sys2Proof.Machine
end

section
/-!
PROOFS. The general registers (R53).
-/

namespace Sys2Proof.Machine

section
variable (a : Arch) (v : Word) {r q : Nat}

@[simp] theorem Arch.getG_zero : a.getG 0 = 0 := if_pos rfl

@[simp] theorem Arch.setG_zero : a.setG 0 v = a := if_pos rfl

theorem Arch.getG_setG_self (h : r ≠ 0) : (a.setG r v).getG r = v := by
  simp only [Arch.getG, Arch.setG, if_neg h]
  exact SMap.get_set_self _ _ _ _

theorem Arch.getG_setG_of_ne (h : q ≠ r) : (a.setG r v).getG q = a.getG q := by
  by_cases hr : r = 0
  · rw [hr, Arch.setG_zero]
  · simp only [Arch.getG, Arch.setG, if_neg hr]
    rw [SMap.get_set_of_ne 0 0 a.g v h]

end

/-- Settles O8: G0 by itself, the others by the laws of sparse tables. -/
theorem generalRegisters : Obligations.GeneralRegisters := fun a _ _ v =>
  ⟨a.getG_zero, a.setG_zero v, a.getG_setG_self v, a.getG_setG_of_ne v⟩

end Sys2Proof.Machine
end

section
/-!
PROOFS. Accesses of a core at M to a line that stands in its L2 (R71, R161, R168): the checks of R161 pass and leave the
state, the line is won without a request, and the bytes are the line's.
-/

namespace Sys2Proof.Machine

/-! ## Addresses of main memory at M (R159, R160) -/

section
variable {s : State} {n : Nat} {acc : Acc} {va : Word}

theorem bits_of_lt {v : Word} {lo width : Nat} (h : v.toNat < 2 ^ lo) : bits v lo width = 0 := by
  rw [bits, Nat.shiftRight_eq_div_pow, Nat.div_eq_of_lt h, Nat.zero_mod]

/-- At M an address below 2^44 names that address of the module. -/
theorem State.translate_atM (hl : acc.level = 3) (h : va.toNat < 2 ^ 44) :
    s.translate n acc va = .ok s { pa := s.moduleId * 2 ^ 44 + va.toNat, attr := 0 } := by
  have hcanonical : canonicalVa va = true := by
    rw [canonicalVa, bits_of_lt (h.trans (by decide))]
    rfl
  have hlow : bits va 0 44 = va.toNat := Nat.mod_eq_of_lt h
  simp only [State.translate, hcanonical, not_true_eq_false, if_false, hl, if_true, bits_of_lt h, ne_eq, hlow]

theorem ecamPort_of_lt {a : Nat} (h : a < 2 ^ 43) : ecamPort a = none := by
  rw [ecamPort, if_neg (by omega), if_neg (by omega)]

theorem globalAddr_mod {m a : Nat} (h : a < 2 ^ 43) : (m * 2 ^ 44 + a) % 2 ^ 44 = a := by omega

theorem globalAddr_div {m a : Nat} (h : a < 2 ^ 43) : (m * 2 ^ 44 + a) / 2 ^ 44 = m := by omega

theorem State.mainTarget_usable {a : Nat} (h : a < 2 ^ 43) (hu : a < s.usable) :
    s.mainTarget (s.moduleId * 2 ^ 44 + a) = true := by
  rw [State.mainTarget, globalAddr_div h, if_pos rfl, globalAddr_mod h]
  exact decide_eq_true hu

/-- Usable memory of the module is write-back where no table says otherwise. -/
theorem State.memType_usable {a : Nat} (h : a < 2 ^ 43) (hu : a < s.usable) :
    s.memType (s.moduleId * 2 ^ 44 + a) 0 = .wb := by
  have hregister : ¬ 0xFFFF0000000 ≤ a := by omega
  have hflash : ¬ 0xFFFE0000000 ≤ a := by omega
  have hwindow : ¬ 2 ^ 43 ≤ a := by omega
  have hecam : ¬ ((s.moduleId == s.moduleId) = true ∧ (ecamPort a).isSome = true) := by simp [ecamPort_of_lt h]
  unfold State.memType
  simp only [globalAddr_mod h, globalAddr_div h]
  rw [if_neg hregister, if_neg (fun k => hflash k.2), if_neg hecam, if_neg (fun k => hwindow k.2),
    if_pos (State.mainTarget_usable h hu)]
  rfl

/-- The accesses of which this part speaks: a load, a store or a fetch at M that asks for no alignment of its own. -/
structure Acc.PlainAtM (acc : Acc) : Prop where
  level : acc.level = 3
  kind : acc.kind = .load ∨ acc.kind = .store ∨ acc.kind = .fetch
  strict : acc.strict = false

/-- Such an access to a write-back address passes the checks after translation and changes nothing. -/
theorem State.checkPart_wb (ha : acc.PlainAtM) (htx : (s.core n).tx = none) (len : Nat) {pa : Nat}
    (htrans : s.translate n acc va = .ok s { pa := pa, attr := 0 }) (hmem : s.memType pa 0 = .wb) :
    s.checkPart n acc va len = .ok s { pa := pa, len := len, mem := .wb } := by
  have hbounds : s.boundsFault n acc pa = none := by simp only [State.boundsFault, ha.level, if_true]
  have htarget : s.targetFault n acc pa .wb = none := by
    rcases ha.kind with hk | hk | hk <;> simp [State.targetFault, hk]
  simp only [State.checkPart, htrans, Res.bind, permissionFault, hbounds, hmem, htarget, htx, Option.isSome_none,
    Bool.false_eq_true, false_and, if_false, MemType.performs, if_true, Res.mapExc]

/-- Such an access to usable memory passes the checks of R161 outside a transaction and changes nothing. -/
theorem State.checkPart_usable (ha : acc.PlainAtM) (h : va.toNat < 2 ^ 43) (hu : va.toNat < s.usable)
    (htx : (s.core n).tx = none) (len : Nat) :
    s.checkPart n acc va len = .ok s { pa := s.moduleId * 2 ^ 44 + va.toNat, len := len, mem := .wb } :=
  State.checkPart_wb ha htx len (State.translate_atM ha.level (h.trans (by decide))) (State.memType_usable h hu)

theorem State.check_usable (ha : acc.PlainAtM) (h : va.toNat < 2 ^ 43) (hu : va.toNat < s.usable)
    (htx : (s.core n).tx = none) (hpage : va.toNat % 4096 + acc.size ≤ 4096) :
    s.check n acc va = .ok s [{ pa := s.moduleId * 2 ^ 44 + va.toNat, len := acc.size, mem := .wb }] := by
  have hpart : pagePart va.toNat acc.size = acc.size := by
    unfold pagePart
    split
    · rfl
    · omega
  have haligned : ∀ p : Part, p.mem = .wb → misaligned acc va [p] = false := by
    intro p hp
    simp [misaligned, hp, ha.strict, MemType.isDevice]
  simp only [State.check, hpart, State.checkPart_usable ha h hu htx, Res.bind, if_true, haligned, Bool.false_eq_true, if_false]

end

/-! ## A line held in the L2 (R214) -/

section
variable {s : State} {n line level : Nat} {x : TileLine}

theorem State.holdsFor_read {t : Nat} (h : SMap.find? (s.tile t).lines line = some x) : s.holdsFor t line false = true := by
  rw [State.holdsFor, h]
  rfl

/-- A line that the tile holds is won for a read without a request. -/
theorem State.acquire_held (k zone : Nat) (tx : Bool) (h : SMap.find? (s.tile (s.coreTile n)).lines line = some x) :
    s.acquire n k line level zone { own := false, tx := tx } = (s, .yes) := by
  simp only [State.acquire, State.holdsFor_read h, Bool.false_eq_true, not_false_eq_true, and_self, if_true]

theorem State.placeFor_held (h : SMap.find? (s.tile (s.coreTile n)).lines line = some x)
    (hc : x.inCache (s.coreCache n) = true) : s.placeFor n line = s := by
  simp only [State.placeFor, h, hc, true_or, if_true]

/-- With no transaction open, no access conflicts with one. -/
theorem State.txConflict_none (h : ∀ y ∈ s.cores, y.2.tx = none) (t : Nat) (own : Bool) (except : Option Nat) (code : Nat) :
    s.txConflict t line own except code = s := by
  refine List.foldlRecOn s.cores _ (motive := fun st => st = s) rfl fun st hst y hy => ?_
  rw [h y hy]
  exact hst

variable {data : List Byte} {acc : Acc} {va : Word} {pa len : Nat}

/-- A line that stands in the L2 is read there, and the state stays. -/
theorem State.loadLine_held (h : s.holdsLine n line data) (k : AKind) : s.loadLine n line level k = .ok s data := by
  obtain ⟨-, -, htx, hesc, -, -, -, -, x, hfind, hcache, hpoison, rfl⟩ := h
  simp only [State.loadLine, hesc, Bool.false_eq_true, if_false, State.holdsFor_read hfind, true_or, if_true,
    State.acquire_held 0 (s.zoneOf n) (s.inTx n) hfind, State.placeFor_held hfind hcache, State.txConflict_none htx, hfind,
    hpoison]

/-- A line that stands in the L2 is fetched there, and the state stays. -/
theorem State.fetchLine_held (h : s.holdsLine n line data) : s.fetchLine n line level true = .ok s () := by
  obtain ⟨-, -, htx, hesc, -, -, -, -, x, hfind, hcache, hpoison, -⟩ := h
  simp only [State.fetchLine, hesc, Bool.false_eq_true, if_false, State.holdsFor_read hfind, true_or, and_self, if_true,
    State.acquire_held 0 (s.zoneOf n) false hfind, State.placeFor_held hfind hcache, State.txConflict_none htx, hfind,
    hpoison]

theorem State.inTx_of_holdsLine (h : s.holdsLine n line data) : s.inTx n = false := by
  obtain ⟨-, htx, -⟩ := h
  rw [State.inTx, htx]
  rfl

/-- The bytes of a load within a held line are the line's, as the core sees them. -/
theorem State.loadPiece_held (h : s.holdsLine n line data) (hpa : pa / 128 = line) :
    s.loadPiece n acc va pa len = .ok s (s.overlay n pa ((data.drop (pa % 128)).take len)) := by
  have htouch : s.touch n va line false = .ok s () := by
    obtain ⟨-, htx, -⟩ := h
    simp only [State.touch, htx]
  have hclear : s.clearOrdering n line = .ok s () := by
    simp only [State.clearOrdering, State.inTx_of_holdsLine h, Bool.false_eq_true, false_and, if_false]
  simp only [State.loadPiece, hpa, htouch, hclear, Res.bind, State.loadLine_held h, State.inTx_of_holdsLine h,
    Bool.false_eq_true, false_and, if_false]

/-- A load that does not leave a held line reads one piece. -/
theorem State.loadNormal_held (h : s.holdsLine n line data) (hpa : pa / 128 = line) (h0 : 0 < len)
    (hlen : pa % 128 + len ≤ 128) (first : Bool) :
    State.loadNormal 3 s n acc va pa len true first =
      .ok s (s.overlay n pa ((data.drop (pa % 128)).take len)) := by
  have hk : (if len < 128 - pa % 128 then len else 128 - pa % 128) = len := by split <;> omega
  have hrest : ∀ va pa, State.loadNormal 2 s n acc va pa 0 true false = .ok s [] := fun _ _ => if_pos rfl
  rw [State.loadNormal, if_neg (by omega)]
  simp only [hk, if_true, State.loadPiece_held h hpa, Res.bind, Nat.sub_self, hrest, List.append_nil]

/-- Bytes that do not leave their line are one store. -/
theorem cutLines_within {a : Nat} {bytes : List Byte} (h0 : 0 < bytes.length) (hlen : a % 128 + bytes.length ≤ 128) :
    cutLines 3 a bytes = [(a, bytes)] := by
  have hne : bytes.isEmpty = false := by
    rw [List.isEmpty_eq_false_iff]
    exact List.length_pos_iff.1 h0
  have hcut : bytes.length ≤ 128 - a % 128 := by omega
  simp only [cutLines, hne, List.take_of_length_le hcut, List.drop_of_length_le hcut]
  rfl

/-! ## Where a held line stands -/

theorem State.usable_of_line {l r : Nat} (h : l * 128 < s.usable) (hr : r < 128) : l * 128 + r < s.usable := by
  unfold State.usable at *
  omega

/-- The address of a byte of a line, by line and by module. -/
theorem lineByte_eq {m a line : Nat} (hm : line / 2 ^ 37 = m) (ha : a / 128 = line % 2 ^ 37) :
    m * 2 ^ 44 + a = line * 128 + a % 128 := by omega

/-- A plain access within a held line passes its checks at the line's address. -/
theorem State.check_held (h : s.holdsLine n line data) (ha : acc.PlainAtM) (hva : va.toNat / 128 = line % 2 ^ 37)
    (hsize : va.toNat % 128 + acc.size ≤ 128) :
    s.check n acc va = .ok s [{ pa := line * 128 + va.toNat % 128, len := acc.size, mem := .wb }] := by
  obtain ⟨-, htx, -, -, hmod, hbelow, husable, -⟩ := h
  have hsplit : va.toNat = line % 2 ^ 37 * 128 + va.toNat % 128 := by omega
  have hu := State.usable_of_line husable (Nat.mod_lt va.toNat (by decide : 0 < 128))
  rw [← hsplit] at hu
  rw [State.check_usable ha (by omega) hu htx (by omega), lineByte_eq hmod hva]

end

/-! ## The obligation -/

/-- Settles O15: the checks pass at the line's address, and the line is held. -/
theorem heldLineAccesses : Obligations.HeldLineAccesses := by
  intro s n line size va data bytes h hva h0 hsize
  have hlevel : (s.arch n).level = 3 := h.1
  have hmod : (line * 128 + va.toNat % 128) % 128 = va.toNat % 128 := by omega
  have hdiv : (line * 128 + va.toNat % 128) / 128 = line := by omega
  refine ⟨fun heven => ?fetch, ?load, fun hbytes => ?store⟩
  case fetch =>
    have hc := State.check_held (acc := { kind := .fetch, level := 3, size := 2 }) h ⟨rfl, .inr (.inr rfl), rfl⟩ hva
      (show va.toNat % 128 + 2 ≤ 128 by omega)
    simp only [State.fetchParcel, hc, Res.bind, hdiv, State.fetchLine_held h, Res.mapExc]
  case load =>
    have hc : s.check n (s.acc n .load size) va = .ok s [⟨line * 128 + va.toNat % 128, size, .wb⟩] :=
      State.check_held h ⟨hlevel, .inl rfl, rfl⟩ hva hsize
    simp only [State.loadBytes, hc, Res.bind, State.loadParts, State.loadPart]
    rw [State.loadNormal_held h hdiv h0 (by rw [hmod]; exact hsize), hmod]
    simp only [List.append_nil, Res.mapExc]
  case store =>
    have hc := State.check_held (acc := s.acc n .store size) h ⟨hlevel, .inr (.inl rfl), rfl⟩ hva hsize
    subst hbytes
    have hcut := cutLines_within (a := line * 128 + va.toNat % 128) h0 (by rw [hmod]; exact hsize)
    have hl : (s.acc n .store bytes.length).level = 3 := hlevel
    simp [State.storeBytes, hc, Res.bind, State.storeParts, State.inTx_of_holdsLine h, Part.stores, MemType.store, hcut,
      Res.mapExc, hl]

end Sys2Proof.Machine
end

section
/-!
PROOFS. Completion of the integer instructions on registers, of MACD and of packed decimal (R72 to R78, R95, R96, R99 to
R105, R183): the effects of the forms whose outcome depends on their operands, then the obligations by the form.
-/

namespace Sys2Proof.Machine

/-! ## The halves of an accumulator (R99) -/

theorem toNat_append_words (hi lo : Word) : (hi ++ lo : BitVec 128).toNat = hi.toNat * 2 ^ 64 + lo.toNat := by
  refine (BitVec.toNat_append hi lo).trans ?_
  rw [← Nat.shiftLeft_add_eq_or_of_lt lo.isLt, Nat.shiftLeft_eq]

/-- An accumulator with one half replaced is the other half beside the new one. -/
theorem putAccHalf_eq_append (acc : BitVec 128) (hi : Bool) (v : Word) :
    putAccHalf acc (b2n hi) v = if hi then v ++ acc.extractLsb' 0 64 else acc.extractLsb' 64 64 ++ v := by
  have hacc := acc.isLt
  have hv := v.isLt
  apply BitVec.eq_of_toNat_eq
  cases hi with
  | false =>
    simp only [putAccHalf, b2n, Bool.false_eq_true, if_false, if_true, toNat_append_words, BitVec.extractLsb'_toNat,
      BitVec.toNat_ofNat, Nat.shiftRight_eq_div_pow]
    omega
  | true =>
    simp only [putAccHalf, b2n, if_true, Nat.one_ne_zero, if_false, toNat_append_words, BitVec.extractLsb'_toNat,
      BitVec.toNat_ofNat, Nat.shiftRight_zero]
    omega

/-! ## The effects of trapping arithmetic and of divides (R76 to R78) -/

section
variable {s v v2 : State} {n len rd a b : Nat}

theorem State.perform_trapArith {env : Env} {f : TrapF} {wf : Bool} {r : Word}
    (h : trapResult f wf (s.gr n a) (s.gr n b) = some r) :
    s.perform n len env (.trapArith f wf rd a b) = .ok (s.putG n rd r) {} := by
  simp only [State.perform, State.doTrapArith, h]
  rfl

theorem State.perform_div {env : Env} {f : DivF} {q r : Word} (h : divResult f (s.gr n a) (s.gr n b) = .ok q r) :
    s.perform n len env (.div f rd a b) = .ok ((s.putG n rd q).putG n (rd + 1) r) {} := by
  simp only [State.perform, State.doDiv, h]

/-- Two general registers written one after the other. -/
theorem State.putG_putG_only (s : State) (n : Fin 64) (r1 r2 : Nat) (v1 v2 : Word) :
    s.onlyCore n ((s.putG n r1 v1).putG n r2 v2) ∧
      ((s.putG n r1 v1).putG n r2 v2).arch n = ((s.arch n).setG r1 v1).setG r2 v2 := by
  refine ⟨State.onlyCore_trans n.isLt (State.onlyCore_setArch _ _ _) (State.onlyCore_setArch _ _ _), ?_⟩
  simp [State.putG]

/-! ## The effects of MACD and of packed decimal (R95, R96, R100 to R105) -/

/-- A MACD with both its operands read (R95, R96). -/
theorem State.perform_macd {ty acc : Nat} {p q : List Byte}
    (hp : s.loadBytes n (s.acc n .macd 8) ((s.arch n).getG a) = .ok v p)
    (hq : v.loadBytes n (s.acc n .macd 8) ((s.arch n).getG b) false = .ok v2 q) :
    s.perform n len {} (.macd ty acc a b) =
      let x := v2.arch n
      let r := x.macdResult ty (x.getAcc acc) p q
      let x1 := (x.setAcc acc r.1).setG a (x.getG a + 8)
      .ok (v2.setArch n ((if a = b then x1 else x1.setG b (x.getG b + 8)).raiseFlags x.pc r.2)) {} := by
  simp only [State.perform, State.doMacd, State.gr, hp, Res.bind, hq]

/-- A packed-decimal instruction on valid operands whose result exists and, if it is stored, passes (R104). -/
theorem State.perform_dec {f : DecF} {rl : Nat} {x y : List Byte} {ps : List Part} {out : Option (List Byte)} {c : Nat}
    (hread : s.decOperands n f (bits (s.gr n rl) 0 4 + 1) (bits (s.gr n rl) 8 4 + 1) (s.gr n a) (s.gr n b) =
      .ok v (x, y, ps))
    (hx : decValid x = true) (hy : decValid y = true)
    (hres : decCompute f (bits (s.gr n rl) 0 4 + 1) (bits (s.gr n rl) 8 4 + 1) (decValue x) (decValue y) = some (out, c))
    (hstore : ∀ bytes, out = some bytes →
      v.storeParts n (s.acc n .decStore (bits (s.gr n rl) 0 4 + 1)) (s.gr n a) ps bytes = .ok v2 ())
    (hnone : out = none → v2 = v) :
    s.perform n len {} (.dec f rl a b) = .ok (v2.putCond n rl c) {} := by
  simp only [State.perform, State.doDec, hread, Res.bind, hx, hy, not_true_eq_false, if_false, hres]
  cases out with
  | none => rw [hnone rfl]
  | some bytes => simp only [hstore bytes rfl]

end

/-! ## The obligations -/

/-- Settles O7, by the form: what it writes to the registers of its core. -/
theorem registerInstructionsComplete : Obligations.RegisterInstructionsComplete := by
  intro n w s u
  refine ⟨fun _ _ _ _ _ h => ?alu, fun _ _ _ _ _ h => ?aluImm, fun _ _ _ _ _ h => ?shift, fun _ _ _ _ _ h => ?shiftImm,
    fun _ _ h => ?lui, fun _ _ h => ?auipc, fun _ _ _ _ h => ?mul, fun _ _ _ _ _ _ h hv => ?trapArith,
    fun _ rd _ _ q r h hdiv => ?div, fun _ h => ?accz, fun _ _ _ h => ?mfa, fun _ _ _ h => ?mta, fun _ h => ?ttest⟩
  case alu | aluImm | shift | shiftImm | lui | mul | accz | mfa | ttest =>
    exact State.completes_of_arch (env := {}) (d := {}) h rfl rfl rfl
  case auipc =>
    rw [← (State.admits_loopRegs h).1]
    exact State.completes_of_arch (env := {}) (d := {}) h rfl rfl rfl
  case trapArith => exact State.completes_of_arch (env := {}) h rfl (State.perform_trapArith hv) rfl
  case div =>
    obtain ⟨honly, harch⟩ := u.putG_putG_only n rd (rd + 1) q r
    exact State.completes_of_only (env := {}) h rfl (State.perform_div hdiv) rfl honly harch
  case mta =>
    rw [← putAccHalf_eq_append]
    exact State.completes_of_arch (env := {}) (d := {}) h rfl rfl rfl

/-- Settles O17: once its accesses have passed, MACD and a decimal instruction write only registers of their core. -/
theorem macdAndDecimalComplete : Obligations.MacdAndDecimalComplete := by
  intro n w s u v v2
  refine ⟨fun ty acc a b p q h hp hq => ⟨?macd, fun hty => ?sum⟩,
    fun f rl a b x y ps out c h hread hx hy hres hstore hnone => ?dec⟩
  case macd => exact State.completes_setArch h rfl (State.perform_macd hp hq) rfl
  case sum => simp only [Arch.macdResult, if_neg hty]
  case dec =>
    have hp := State.perform_dec (len := insnLen w) hread hx hy hres hstore hnone
    exact State.completes_setArch h (by cases f <;> rfl) hp rfl

end Sys2Proof.Machine
end

section
/-!
PROOFS. The results of shifts, trapping arithmetic and divides (R74, R76, R77): the model's computation on numbers read as
operations on words of the form's width, then the outcomes of the instructions.
-/

namespace Sys2Proof.Machine

/-! ## Signed numbers and sign extension, on words -/

section
variable {w : Nat} (hw : 0 < w)
include hw

theorem signed_eq_toInt (n : Nat) : signed w n = (BitVec.ofNat w n).toInt := by
  have hpow : 2 ^ w = 2 * 2 ^ (w - 1) := by rw [← Nat.pow_succ', Nat.succ_eq_add_one, Nat.sub_add_cancel hw]
  have hiff : n % 2 ^ w < 2 ^ (w - 1) ↔ 2 * (n % 2 ^ w) < 2 ^ w := by omega
  simp only [signed, BitVec.toInt_eq_toNat_cond, BitVec.toNat_ofNat, hiff]

theorem signed_toNat (x : BitVec w) : signed w x.toNat = x.toInt := by
  rw [signed_eq_toInt hw, BitVec.ofNat_toNat, BitVec.setWidth_eq]

theorem signExt_toNat (x : BitVec w) : signExt w x.toNat = x.signExtend 64 := by
  rw [signExt, signed_toNat hw]
  rfl

end

/-! ## Shifts (R74) -/

/-- The shifts and rotates of R74 on a word of any width. -/
def shiftWord {w : Nat} (f : ShiftF) (x : BitVec w) (c : Nat) : BitVec w :=
  match f with
  | .sll => if c < w then x <<< c else 0
  | .srl => if c < w then x >>> c else 0
  | .sra => if c < w then x.sshiftRight c else if x.msb then BitVec.allOnes w else 0
  | .rol => x.rotateLeft (c % w)
  | .ror => x.rotateRight (c % w)

/-- The two parts of a number turned left by `k` of `w` bits do not meet. -/
theorem turn_eq_or {w k n : Nat} (hk : k ≤ w) (hn : n < 2 ^ w) :
    n * 2 ^ k % 2 ^ w + n / 2 ^ (w - k) = n <<< k % 2 ^ w ||| n >>> (w - k) := by
  obtain ⟨j, rfl⟩ : ∃ j, w = k + j := ⟨w - k, by omega⟩
  have hlow : n / 2 ^ j < 2 ^ k := Nat.div_lt_of_lt_mul (by rwa [← Nat.pow_add, Nat.add_comm])
  rw [Nat.add_sub_cancel_left, Nat.shiftLeft_eq, Nat.shiftRight_eq_div_pow, Nat.mul_comm, Nat.pow_add,
    Nat.mul_mod_mul_left, Nat.two_pow_add_eq_or_of_lt hlow]

/-- The number that a shift computes is that of the shifted word. -/
theorem shiftNat_eq_toNat {w : Nat} (hw : 0 < w) (f : ShiftF) (n c : Nat) :
    shiftNat f w n c = (shiftWord f (BitVec.ofNat w n) c).toNat := by
  have hlt : n % 2 ^ w < 2 ^ w := Nat.mod_lt _ (Nat.two_pow_pos w)
  have hc : c % w < w := Nat.mod_lt c hw
  cases f with
  | sll =>
    simp only [shiftNat, shiftWord]
    split
    · rw [BitVec.toNat_shiftLeft, BitVec.toNat_ofNat, Nat.shiftLeft_eq]
    · rfl
  | srl =>
    simp only [shiftNat, shiftWord]
    split
    · rw [BitVec.toNat_ushiftRight, BitVec.toNat_ofNat, Nat.shiftRight_eq_div_pow]
    · rfl
  | sra =>
    simp only [shiftNat, shiftWord, BitVec.msb_eq_decide, BitVec.toNat_ofNat, decide_eq_true_eq]
    split
    · rw [BitVec.sshiftRight, BitVec.toNat_ofInt, Int.shiftRight_eq_div_pow, ← BitVec.toNat_ofNat, signed_toNat hw]
    · by_cases h : n % 2 ^ w < 2 ^ (w - 1)
      · rw [if_pos h, if_neg (Nat.not_le.2 h)]; rfl
      · rw [if_neg h, if_pos (Nat.not_lt.1 h), BitVec.toNat_allOnes]
  | rol =>
    simp only [shiftNat, shiftWord]
    rw [BitVec.toNat_rotateLeft, BitVec.toNat_ofNat, Nat.mod_mod, turn_eq_or hc.le hlt]
  | ror =>
    simp only [shiftNat, shiftWord]
    have h := turn_eq_or (Nat.sub_le w (c % w)) hlt
    rw [Nat.sub_sub_self hc.le] at h
    rw [BitVec.toNat_rotateRight, BitVec.toNat_ofNat, Nat.mod_mod, Nat.add_comm, h, Nat.or_comm]

theorem shiftResult_eq (f : ShiftF) (x : Word) (c : Nat) : shiftResult f false x c = shiftWord f x c := by
  simp [shiftResult, shiftNat_eq_toNat]

theorem shiftResult_w_eq (f : ShiftF) (x : Word) (c : Nat) :
    shiftResult f true x c = (shiftWord f (x.setWidth 32) c).signExtend 64 := by
  simp only [shiftResult, if_true, wResult]
  rw [shiftNat_eq_toNat (by decide), signExt_toNat (by decide), BitVec.ofNat_toNat]

/-! ## The counts of immediate shifts (R74) -/

/-- The count of an immediate shift is below its limit; nothing is asked of another instruction. -/
def POp.countOk : POp → Bool
  | .shiftImm _ w _ _ cnt => decide (cnt < if w then 32 else 64)
  | _ => true

/-- What a decoder gives is no immediate shift whose count reaches its limit. -/
def CountsOk (o : Option POp) : Prop := o.all POp.countOk = true

@[simp] theorem countsOk_none : CountsOk none := rfl

@[simp] theorem countsOk_some (op : POp) : CountsOk (some op) ↔ op.countOk = true := Iff.rfl

@[simp] theorem countsOk_ite {c : Prop} [Decidable c] (x y : Option POp) :
    CountsOk (if c then x else y) ↔ (c → CountsOk x) ∧ (¬ c → CountsOk y) := by
  by_cases h : c <;> simp [h]

theorem countsOk_decodeShiftImm (sub rd a imm : Nat) : CountsOk (decodeShiftImm sub rd a imm) := by
  simp [decodeShiftImm, POp.countOk]

/-- OP 0x01 and 0x02 give the shifts by register, and no immediate one. -/
theorem countsOk_decodeReg (w : Bool) (sub rd a b f : Nat) : CountsOk (decodeReg w sub rd a b f) := by
  unfold decodeReg
  repeat' split
  all_goals rfl

theorem countsOk_decode16 (n : Nat) : CountsOk (decode16 n) := by
  simp [decode16, POp.countOk]

/-- Among the entries of a 32-bit word only OP 0x05 gives an immediate shift. -/
theorem countsOk_decode32 (n : Nat) : CountsOk (decode32 n) := by
  simp [decode32, countsOk_decodeReg, countsOk_decodeShiftImm, decodeMul, decodeOrdered, decodeAcc, decodeFp,
    decodeSystem, decodeSync, POp.countOk]

theorem immediateCount_lt {w : BitVec 32} {f : ShiftF} {wf : Bool} {rd a cnt : Nat}
    (h : decodePuldo w = some (.shiftImm f wf rd a cnt)) : cnt < if wf then 32 else 64 := by
  have hok : CountsOk (decodePuldo w) :=
    (countsOk_ite _ _).2 ⟨fun _ => countsOk_decode32 _, fun _ => countsOk_decode16 _⟩
  rw [h] at hok
  exact of_decide_eq_true hok

/-! ## Trapping arithmetic (R76) -/

theorem fitsSigned_iff (width : Nat) (i : Int) :
    fitsSigned width i = true ↔ -(2 ^ (width - 1) : Int) ≤ i ∧ i < (2 ^ (width - 1) : Int) := by
  simp [fitsSigned]

section
variable {s : State} {n len rd a b : Nat} {env : Env}

/-- A trapping form of the width given whose true result is `r` writes it, or raises Fixed-Point Overflow. -/
theorem State.trapArith_ends {f : TrapF} {wf : Bool} {width : Nat} {r : Int}
    (h : trapResult f wf (s.gr n a) (s.gr n b) = if fitsSigned width r then some (wordOfInt r) else none) :
    (-(2 ^ (width - 1) : Int) ≤ r ∧ r < (2 ^ (width - 1) : Int) →
      s.perform n len env (.trapArith f wf rd a b) = .ok (s.putG n rd (BitVec.ofInt 64 r)) {}) ∧
    (¬ (-(2 ^ (width - 1) : Int) ≤ r ∧ r < (2 ^ (width - 1) : Int)) →
      s.perform n len env (.trapArith f wf rd a b) = .exc s { vec := 0x0B }) := by
  rw [← fitsSigned_iff]
  refine ⟨fun hfits => State.perform_trapArith (by rw [h, if_pos hfits]; rfl), fun hfits => ?_⟩
  simp only [State.perform, State.doTrapArith, h, if_neg hfits]

end

/-! ## Divides (R77) -/

theorem toNat_eq_zero_iff {w : Nat} (y : BitVec w) : y.toNat = 0 ↔ y = 0 := by
  simp [← BitVec.toNat_inj]

/-- The width of a divide. -/
def DivF.width : DivF → Nat
  | .divw | .divuw | .divwT => 32
  | _ => 64

theorem DivF.width_pos (f : DivF) : 0 < f.width := by cases f <;> decide

/-- Quotient and remainder of words as signed numbers, extended to 64 bits. -/
def signedQuotRem {w : Nat} (x y : BitVec w) : DivRes :=
  .ok ((BitVec.ofInt w (x.toInt.tdiv y.toInt)).signExtend 64) ((BitVec.ofInt w (x.toInt.tmod y.toInt)).signExtend 64)

/-- Quotient and remainder of words as unsigned numbers, extended to 64 bits. -/
def unsignedQuotRem {w : Nat} (x y : BitVec w) : DivRes := .ok ((x / y).signExtend 64) ((x % y).signExtend 64)

/-- The divides of R77 on words of any width; `a` is the dividend's register, which a zero divisor gives back. -/
def divWord {w : Nat} (f : DivF) (a : Word) (x y : BitVec w) : DivRes :=
  match f with
  | .div | .divw => if y = 0 then .byZero else signedQuotRem x y
  | .divz => if y = 0 then .ok 0 a else signedQuotRem x y
  | .divu | .divuw => if y = 0 then .byZero else unsignedQuotRem x y
  | .divzu => if y = 0 then .ok 0 a else unsignedQuotRem x y
  | .divT | .divwT =>
    if y = 0 then .byZero
    else if x = BitVec.intMin w ∧ y = BitVec.allOnes w then .overflow
    else signedQuotRem x y

theorem signedQuotRem_long (x y : Word) :
    signedQuotRem x y = .ok (BitVec.ofInt 64 (x.toInt.tdiv y.toInt)) (BitVec.ofInt 64 (x.toInt.tmod y.toInt)) := by
  simp only [signedQuotRem, BitVec.signExtend_eq]

theorem unsignedQuotRem_long (x y : Word) : unsignedQuotRem x y = .ok (x / y) (x % y) := by
  simp only [unsignedQuotRem, BitVec.signExtend_eq]

section
variable {w : Nat} (hw : 0 < w)
include hw

theorem signExt_emod (i : Int) : signExt w (i % (2 ^ w : Nat)).toNat = (BitVec.ofInt w i).signExtend 64 := by
  rw [← BitVec.toNat_ofInt, signExt_toNat hw]

theorem divSigned_eq (x y : BitVec w) : divSigned w x.toInt y.toInt = signedQuotRem x y := by
  rw [divSigned, signExt_emod hw, signExt_emod hw, signedQuotRem]

theorem divUnsigned_eq (x y : BitVec w) : divUnsigned w x.toNat y.toNat = unsignedQuotRem x y := by
  rw [divUnsigned, ← BitVec.toNat_udiv, ← BitVec.toNat_umod, signExt_toNat hw, signExt_toNat hw, unsignedQuotRem]

/-- The one quotient that does not fit is that of the least number by −1. -/
theorem quotientOverflows_iff (x y : BitVec w) :
    (x.toInt = -(2 ^ (w - 1) : Nat) ∧ y.toInt = -1) ↔ (x = BitVec.intMin w ∧ y = BitVec.allOnes w) := by
  have hmin := BitVec.toInt_intMin_of_pos hw
  have hones : (BitVec.allOnes w).toInt = -1 := by rw [BitVec.toInt_allOnes, if_pos hw]
  rw [← BitVec.toInt_inj, ← BitVec.toInt_inj, hmin, hones, Nat.cast_pow, Nat.cast_ofNat]

theorem signedDivide_eq (z : DivRes) (x y : BitVec w) :
    (if y.toNat = 0 then z else divSigned w (signed w x.toNat) (signed w y.toNat)) =
      if y = 0 then z else signedQuotRem x y := by
  simp only [toNat_eq_zero_iff, signed_toNat hw, divSigned_eq hw]

theorem unsignedDivide_eq (z : DivRes) (x y : BitVec w) :
    (if y.toNat = 0 then z else divUnsigned w x.toNat y.toNat) = if y = 0 then z else unsignedQuotRem x y := by
  simp only [toNat_eq_zero_iff, divUnsigned_eq hw]

theorem trappingDivide_eq (z : DivRes) (x y : BitVec w) :
    (if y.toNat = 0 then z
      else if signed w x.toNat = -(2 ^ (w - 1) : Nat) ∧ signed w y.toNat = -1 then .overflow
      else divSigned w (signed w x.toNat) (signed w y.toNat)) =
      if y = 0 then z else if x = BitVec.intMin w ∧ y = BitVec.allOnes w then .overflow else signedQuotRem x y := by
  simp only [toNat_eq_zero_iff, signed_toNat hw, quotientOverflows_iff hw, divSigned_eq hw]

end

/-- A divide is that of the operands' words of its width. -/
theorem divResult_eq {f : DivF} {w : Nat} (hf : f.width = w) (a b : Word) :
    divResult f a b = divWord f a (a.setWidth w) (b.setWidth w) := by
  subst hf
  have hw := f.width_pos
  rw [← BitVec.ofNat_toNat, ← BitVec.ofNat_toNat]
  cases f with
  | div | divw | divz => exact signedDivide_eq hw _ (.ofNat _ a.toNat) (.ofNat _ b.toNat)
  | divu | divuw | divzu => exact unsignedDivide_eq hw _ (.ofNat _ a.toNat) (.ofNat _ b.toNat)
  | divT | divwT => exact trappingDivide_eq hw _ (.ofNat _ a.toNat) (.ofNat _ b.toNat)

theorem divResult_long {f : DivF} (hf : f.width = 64) (a b : Word) : divResult f a b = divWord f a a b := by
  rw [divResult_eq hf, BitVec.setWidth_eq, BitVec.setWidth_eq]

/-- DIV.T and DIVW.T overflow on the least number by −1 and on nothing else. -/
theorem divWord_overflow_iff {f : DivF} {w : Nat} (hw : 0 < w) (hf : f = .divT ∨ f = .divwT) (a : Word)
    (x y : BitVec w) : divWord f a x y = .overflow ↔ x = BitVec.intMin w ∧ y = BitVec.allOnes w := by
  have heq : divWord f a x y = if y = 0 then .byZero
      else if x = BitVec.intMin w ∧ y = BitVec.allOnes w then .overflow else signedQuotRem x y := by
    rcases hf with rfl | rfl <;> rfl
  have hones : BitVec.allOnes w ≠ 0 := fun h => by
    have := congrArg BitVec.toInt h
    simp [BitVec.toInt_allOnes, hw] at this
  rw [heq]
  constructor
  · intro h
    by_contra hxy
    rw [if_neg hxy] at h
    split at h <;> cases h
  · rintro ⟨rfl, rfl⟩
    rw [if_neg hones, if_pos ⟨rfl, rfl⟩]

section
variable {s : State} {n len rd a b : Nat} {env : Env} {f : DivF}

theorem State.perform_div_byZero (h : divResult f (s.gr n a) (s.gr n b) = .byZero) :
    s.perform n len env (.div f rd a b) = .exc s { vec := 0x0A } := by
  simp only [State.perform, State.doDiv, h]

theorem State.perform_div_overflow_iff :
    s.perform n len env (.div f rd a b) = .exc s { vec := 0x0B } ↔ divResult f (s.gr n a) (s.gr n b) = .overflow := by
  simp only [State.perform, State.doDiv]
  cases divResult f (s.gr n a) (s.gr n b) <;> simp

end

/-! ## The obligations -/

/-- Settles O9: each form is the shift of a word, and only OP 0x05 gives an immediate shift. -/
theorem shiftsUseTheWholeCount : Obligations.ShiftsUseTheWholeCount := by
  refine ⟨fun x c => ?long, fun x c => ?short, fun _ _ _ _ _ _ _ _ _ => rfl, fun _ _ _ _ _ _ h => immediateCount_lt h⟩
  case long =>
    simp only [shiftResult_eq]
    exact ⟨rfl, rfl, rfl, rfl, rfl⟩
  case short =>
    simp only [shiftResult_w_eq]
    exact ⟨rfl, rfl, rfl, rfl, rfl⟩

/-- Settles O10, by the form: the sum, difference or negation of the operands' words, and the overflow of a divide. -/
theorem trappingFormsRaiseOverflow : Obligations.TrappingFormsRaiseOverflow := by
  intro s n len env rd a b
  have h64 : ∀ x : Word, signed 64 x.toNat = x.toInt := signed_toNat (by decide)
  have h32 : ∀ x : Word, signed 32 x.toNat = (x.setWidth 32).toInt := fun x => by
    rw [signed_eq_toInt (by decide), BitVec.ofNat_toNat]
  refine ⟨State.trapArith_ends ?addT, State.trapArith_ends ?subT, State.trapArith_ends ?addwT,
    State.trapArith_ends ?subwT, State.trapArith_ends ?negT, ?divT, ?divwT⟩
  case addT | subT => rw [← h64, ← h64]; rfl
  case addwT | subwT => rw [← h32, ← h32]; rfl
  case negT => rw [← h64]; rfl
  case divT =>
    rw [State.perform_div_overflow_iff, divResult_long rfl, divWord_overflow_iff (by decide) (.inl rfl)]
    rfl
  case divwT =>
    rw [State.perform_div_overflow_iff, divResult_eq rfl, divWord_overflow_iff (by decide) (.inr rfl)]
    rfl

/-- Settles O11, by the divisor and the form. -/
theorem divideResults : Obligations.DivideResults := by
  intro s n len env rd a b
  have hlong {f : DivF} (hf : f.width = 64) := divResult_long hf (s.gr n a) (s.gr n b)
  have hshort {f : DivF} (hf : f.width = 32) := divResult_eq hf (s.gr n a) (s.gr n b)
  refine ⟨fun hy => ?zero, fun hy => ?zero32, fun hy => ?nonzero, fun hy => ?nonzero32⟩
  case zero =>
    refine ⟨State.perform_div_byZero ?_, State.perform_div_byZero ?_, State.perform_div_byZero ?_,
      State.perform_div ?_, State.perform_div ?_⟩ <;> exact (hlong rfl).trans (if_pos hy)
  case zero32 =>
    refine ⟨State.perform_div_byZero ?_, State.perform_div_byZero ?_, State.perform_div_byZero ?_⟩ <;>
      exact (hshort rfl).trans (if_pos hy)
  case nonzero =>
    have hs := signedQuotRem_long (s.gr n a) (s.gr n b)
    have hu := unsignedQuotRem_long (s.gr n a) (s.gr n b)
    refine ⟨State.perform_div ?_, State.perform_div ?_, State.perform_div ?_, State.perform_div ?_,
      fun hfits => State.perform_div ?_⟩
    · exact (hlong rfl).trans ((if_neg hy).trans hs)
    · exact (hlong rfl).trans ((if_neg hy).trans hs)
    · exact (hlong rfl).trans ((if_neg hy).trans hu)
    · exact (hlong rfl).trans ((if_neg hy).trans hu)
    · exact (hlong rfl).trans ((if_neg hy).trans ((if_neg hfits).trans hs))
  case nonzero32 =>
    exact ⟨State.perform_div ((hshort rfl).trans (if_neg hy)), State.perform_div ((hshort rfl).trans (if_neg hy)),
      fun hfits => State.perform_div ((hshort rfl).trans ((if_neg hy).trans (if_neg hfits)))⟩

end Sys2Proof.Machine
end

section
/-!
PROOFS. The floating-point status (R111, R123): what a write of a special register or of a field of one leaves, and from
it what an instruction that raises flags makes of FPSR and FPTRAP_PC.
-/

namespace Sys2Proof.Machine

/-! ## Special registers and their fields -/

section
variable (a : Arch) (v : Word) {r q : Nat}

@[simp] theorem Arch.getS_setS_self : (a.setS r v).getS r = v := SMap.get_set_self _ _ _ _

theorem Arch.getS_setS_of_ne (h : q ≠ r) : (a.setS r v).getS q = a.getS q := SMap.get_set_of_ne _ _ _ _ h

theorem Arch.sf_setS_of_ne {lo w : Nat} (h : q ≠ r) : (a.setS r v).sf q lo w = a.sf q lo w :=
  congrArg (bits · lo w) (a.getS_setS_of_ne v h)

theorem Arch.getS_setSf_of_ne {lo w n : Nat} (h : q ≠ r) : (a.setSf r lo w n).getS q = a.getS q :=
  a.getS_setS_of_ne _ h

theorem Arch.sf_setSf_self {lo w n : Nat} (h64 : lo + w ≤ 64) (hn : n < 2 ^ w) : (a.setSf r lo w n).sf r lo w = n := by
  rw [Arch.sf, Arch.setSf, Arch.getS_setS_self, bits_putBits_self _ _ h64, Nat.mod_eq_of_lt hn]

theorem Arch.sf_setSf_of_disjoint {lo w lo' w' : Nat} (n : Nat) (h64 : lo' + w' ≤ 64)
    (h : lo' + w' ≤ lo ∨ lo + w ≤ lo') : (a.setSf r lo w n).sf r lo' w' = a.sf r lo' w' := by
  rw [Arch.sf, Arch.setSf, Arch.getS_setS_self, bits_putBits_of_disjoint _ _ h64 h, Arch.sf]

/-- A write of one special register leaves every other. -/
theorem Arch.getS_writeSr_of_ne {level : Nat} (h : q ≠ r) : (a.writeSr r level v).getS q = a.getS q := by
  unfold Arch.writeSr
  split
  · exact a.getS_setS_of_ne _ h
  · rfl

end

/-! ## Flags raised (R111, R123) -/

/-- The flags OR-ed into FPSR, and no trap armed (R111). -/
def Arch.recordFlags (a : Arch) (flags : Nat) : Arch := a.setSf srFPSR 0 5 (a.sf srFPSR 0 5 ||| flags)

/-- An FP Trap armed: TPEND and TCAUSE in FPSR, and FPTRAP_PC (R123). -/
def Arch.armTrap (a : Arch) (pc : Word) (cause : Nat) : Arch :=
  ((a.setSf srFPSR 5 1 1).setSf srFPSR 8 5 cause).setS srFPTRAP_PC pc

section
variable (a : Arch) (pc : Word) {flags : Nat}

/-- Raising flags records them and, for an enabled one, sets TMULT over an armed trap or else arms one. -/
theorem Arch.raiseFlags_eq : a.raiseFlags pc flags =
    if flags &&& a.sf srFPCR 4 5 = 0 then a.recordFlags flags
    else if a.sf srFPSR 5 1 = 1 then (a.recordFlags flags).setSf srFPSR 6 1 1
    else (a.recordFlags flags).armTrap pc (flags &&& a.sf srFPCR 4 5) := rfl

theorem Arch.sf_recordFlags_self (h : flags < 32) : (a.recordFlags flags).sf srFPSR 0 5 = a.sf srFPSR 0 5 ||| flags :=
  a.sf_setSf_self (by decide) (Nat.or_lt_two_pow (bits_lt _ 0 5) h)

/-- FPSR above its five flags stays. -/
theorem Arch.sf_recordFlags_of_le {lo w : Nat} (h64 : lo + w ≤ 64) (h : 5 ≤ lo) :
    (a.recordFlags flags).sf srFPSR lo w = a.sf srFPSR lo w :=
  a.sf_setSf_of_disjoint _ h64 (.inr h)

theorem Arch.getS_recordFlags_of_ne {r : Nat} (h : r ≠ srFPSR) : (a.recordFlags flags).getS r = a.getS r :=
  a.getS_setSf_of_ne h

theorem Arch.getS_armTrap_pc (cause : Nat) : (a.armTrap pc cause).getS srFPTRAP_PC = pc := Arch.getS_setS_self _ _

theorem Arch.getS_armTrap_of_ne {r : Nat} (cause : Nat) (h : r ≠ srFPSR) (hpc : r ≠ srFPTRAP_PC) :
    (a.armTrap pc cause).getS r = a.getS r := by
  rw [Arch.armTrap, Arch.getS_setS_of_ne _ _ hpc, Arch.getS_setSf_of_ne _ h, Arch.getS_setSf_of_ne _ h]

theorem Arch.sf_armTrap_tpend (cause : Nat) : (a.armTrap pc cause).sf srFPSR 5 1 = 1 := by
  rw [Arch.armTrap, Arch.sf_setS_of_ne _ _ (by decide), Arch.sf_setSf_of_disjoint _ _ (by decide) (by decide),
    Arch.sf_setSf_self _ (by decide) (by decide)]

theorem Arch.sf_armTrap_tcause {cause : Nat} (h : cause < 32) : (a.armTrap pc cause).sf srFPSR 8 5 = cause := by
  rw [Arch.armTrap, Arch.sf_setS_of_ne _ _ (by decide), Arch.sf_setSf_self _ (by decide) h]

/-- A field of FPSR that meets neither TPEND nor TCAUSE stays. -/
theorem Arch.sf_armTrap_of_disjoint {lo w : Nat} (cause : Nat) (h64 : lo + w ≤ 64) (hpend : lo + w ≤ 5 ∨ 6 ≤ lo)
    (hcause : lo + w ≤ 8 ∨ 13 ≤ lo) : (a.armTrap pc cause).sf srFPSR lo w = a.sf srFPSR lo w := by
  rw [Arch.armTrap, Arch.sf_setS_of_ne _ _ (by decide), Arch.sf_setSf_of_disjoint _ _ h64 hcause,
    Arch.sf_setSf_of_disjoint _ _ h64 hpend]

/-- Whether a trap is armed or not, the flags end OR-ed into FPSR. -/
theorem Arch.sf_raiseFlags_self (h : flags < 32) :
    (a.raiseFlags pc flags).sf srFPSR 0 5 = a.sf srFPSR 0 5 ||| flags := by
  rw [← a.sf_recordFlags_self h, Arch.raiseFlags_eq]
  split_ifs
  · rfl
  · exact Arch.sf_setSf_of_disjoint _ _ (by decide) (by decide)
  · exact Arch.sf_armTrap_of_disjoint _ _ _ (by decide) (by decide) (by decide)

/-- No special register changes but FPSR and FPTRAP_PC. -/
theorem Arch.getS_raiseFlags_of_ne {r : Nat} (h : r ≠ srFPSR) (hpc : r ≠ srFPTRAP_PC) :
    (a.raiseFlags pc flags).getS r = a.getS r := by
  rw [← a.getS_recordFlags_of_ne h, Arch.raiseFlags_eq]
  split_ifs
  · rfl
  · exact Arch.getS_setSf_of_ne _ h
  · exact Arch.getS_armTrap_of_ne _ _ _ h hpc

end

/-- Settles O13, by whether an enabled flag is among those raised and a trap is armed already. -/
theorem enabledFlagsArmATrap : Obligations.EnabledFlagsArmATrap := by
  refine ⟨fun a pc flags hflags => ⟨a.sf_raiseFlags_self pc hflags, fun r hr hpc => a.getS_raiseFlags_of_ne pc hr hpc,
    fun hon ht => ?unarmed, fun hon ht => ?armed, fun hoff => ?masked⟩, fun a level v => ?fpcr⟩
  case unarmed =>
    have hcause : flags &&& a.sf srFPCR 4 5 < 32 := Nat.and_lt_two_pow (n := 5) _ (bits_lt _ 4 5)
    have hunarmed : a.sf srFPSR 5 1 ≠ 1 := by rw [ht]; decide
    rw [Arch.raiseFlags_eq, if_neg hon, if_neg hunarmed]
    exact ⟨Arch.sf_armTrap_tpend _ _ _, Arch.getS_armTrap_pc _ _ _, Arch.sf_armTrap_tcause _ _ hcause,
      (Arch.sf_armTrap_of_disjoint _ _ _ (by decide) (by decide) (by decide)).trans
        (a.sf_recordFlags_of_le (by decide) (by decide))⟩
  case armed =>
    rw [Arch.raiseFlags_eq, if_neg hon, if_pos ht]
    simp (disch := decide) only [Arch.getS_setSf_of_ne, Arch.sf_setSf_self, Arch.sf_setSf_of_disjoint,
      Arch.sf_recordFlags_of_le, Arch.getS_recordFlags_of_ne, ht, and_self]
  case masked =>
    rw [Arch.raiseFlags_eq, if_pos hoff]
    exact ⟨a.sf_recordFlags_of_le (by decide) (by decide), a.getS_recordFlags_of_ne (by decide)⟩
  case fpcr => exact ⟨a.getS_writeSr_of_ne v (by decide), a.getS_writeSr_of_ne v (by decide)⟩

end Sys2Proof.Machine
end

section
/-!
PROOFS. Completion of the floating-point instructions (R111 to R118).
-/

namespace Sys2Proof.Machine

section
variable {s u : State} {n : Fin 64} {w : BitVec 32} {op : POp} {env : Env} {c : Instr} {rd : Nat} {r : Word × Nat}

/-- An instruction that writes an F register and raises flags completes. -/
theorem State.completes_of_doneF (h : s.admits n w op u) (hc : exec c s = insn op.row n w env s)
    (hp : u.perform n (insnLen w) env op = u.doneF n rd r) :
    s.completes c n w u (((u.arch n).setF rd r.1).raiseFlags (s.arch n).pc r.2) none := by
  rw [← (State.admits_loopRegs h).1]
  exact State.completes_of_arch (d := {}) h hc hp rfl

/-- An instruction that writes a G register and raises flags completes. -/
theorem State.completes_of_doneFG (h : s.admits n w op u) (hc : exec c s = insn op.row n w env s)
    (hp : u.perform n (insnLen w) env op = u.doneFG n rd r) :
    s.completes c n w u (((u.arch n).setG rd r.1).raiseFlags (s.arch n).pc r.2) none := by
  rw [← (State.admits_loopRegs h).1]
  exact State.completes_of_arch (d := {}) h hc hp rfl

end

/-- Settles O12, by the form: the register it writes, and whether it raises flags. -/
theorem floatingPointInstructionsComplete : Obligations.FloatingPointInstructionsComplete := by
  intro n w s u
  refine ⟨fun _ _ _ _ _ h => ?arith, fun _ _ _ _ _ _ h => ?fma, fun _ _ _ h => ?convert,
    fun _ _ _ _ hf h => ?toInt, fun _ _ _ _ hf h => ?fromInt, fun _ _ _ _ _ h => ?minmax, fun _ _ _ _ _ h => ?compare,
    fun _ _ _ h => ?type, fun _ _ _ _ _ hf h => ?sign, fun _ _ _ _ h => ?bitsG, fun _ _ _ _ h => ?bitsF⟩
  case arith | fma | convert | minmax => exact State.completes_of_doneF (env := {}) h rfl rfl
  case compare => exact State.completes_of_doneFG (env := {}) h rfl rfl
  case toInt => rcases hf with rfl | rfl | rfl | rfl <;> exact State.completes_of_doneFG (env := {}) h rfl rfl
  case fromInt => rcases hf with rfl | rfl | rfl | rfl <;> exact State.completes_of_doneF (env := {}) h rfl rfl
  case type | bitsG | bitsF => exact State.completes_of_arch (env := {}) (d := {}) h rfl rfl rfl
  case sign => rcases hf with rfl | rfl | rfl <;> exact State.completes_of_arch (env := {}) (d := {}) h rfl rfl rfl

end Sys2Proof.Machine
end

section
/-!
PROOFS. Precise exceptions that are taken and the refused return (R133, R134, R137, R147).
-/

namespace Sys2Proof.Machine

/-! ## What an instruction raises -/

section
variable {s u v : State} {n : Fin 64} {w : BitVec 32} {op : POp} {env : Env} {c : Instr} {e : Exc}

/-- At a boundary that admits an instruction, its row answers the delivery of the exception that the instruction raises. -/
theorem State.admits_raises (h : s.admits n w op u) (hp : u.perform n (insnLen w) env op = .exc v e) :
    insn op.row n w env s = .next ((v.dropKept n).raisePrecise n e ((s.arch n).pc + BitVec.ofNat 64 (insnLen w))
      (w.toNat % 2 ^ 16)) := by
  obtain ⟨hpow, hdec, hready, hgathers, hwaiting, howed, hhalt, hdue, hfetch, htx, -, hfault, hrefuses, -⟩ := h
  have hexec : u.execute n w (some op) env = .exc v e := by
    simp only [State.execute, hfault, hrefuses, hp]
  have hissue : s.issue n w env = (v.dropKept n).raisePrecise n e ((s.arch n).pc + BitVec.ofNat 64 (insnLen w))
      (w.toNat % 2 ^ 16) := by
    have hopen : ¬ (s.inTx n ∧ ¬ u.inTx n) := fun ⟨hs, hu⟩ => hu (htx.trans hs)
    simp only [State.issue, State.wakes, hwaiting, Bool.false_eq_true, if_false, howed, hhalt, hdec, Option.any_some, hdue,
      State.runInsn, hfetch, if_neg hopen, hexec]
  simp only [insn, hdec]
  rw [event_next _ _ hpow (by simp [hgathers, hready]), hissue]

end

/-! ## The registers after a refused return (R147) -/

section
variable {psw : Word} {level : Nat}

theorem refusedPsw_of_lt (h : level < 2) : refusedPsw psw level = putBits (putBits psw 6 1 1) 5 1 0 :=
  if_neg (Nat.not_le.2 h)

theorem refusedPsw_of_le (h : 2 ≤ level) :
    refusedPsw psw level = putBits (putBits (putBits psw 6 1 1) 5 1 0) 2 2 0 := if_pos h

/-- A field that meets neither EB, SS nor, at H and M, IE and AE stays. -/
theorem bits_refusedPsw_of_disjoint {lo w : Nat} (h64 : lo + w ≤ 64) (h5 : lo + w ≤ 5 ∨ 7 ≤ lo)
    (h2 : level < 2 ∨ lo + w ≤ 2 ∨ 4 ≤ lo) : bits (refusedPsw psw level) lo w = bits psw lo w := by
  rcases Nat.lt_or_ge level 2 with h | h
  · rw [refusedPsw_of_lt h, bits_putBits_of_disjoint _ _ h64 (by omega), bits_putBits_of_disjoint _ _ h64 (by omega)]
  · rw [refusedPsw_of_le h, bits_putBits_of_disjoint _ _ h64 (by omega), bits_putBits_of_disjoint _ _ h64 (by omega),
      bits_putBits_of_disjoint _ _ h64 (by omega)]

theorem bits_refusedPsw_eb : bits (refusedPsw psw level) 6 1 = 1 := by
  have heb : bits (putBits (putBits psw 6 1 1) 5 1 0) 6 1 = 1 :=
    (bits_putBits_of_disjoint _ _ (by decide) (by decide)).trans (bits_putBits_self _ _ (by decide))
  rcases Nat.lt_or_ge level 2 with h | h
  · rwa [refusedPsw_of_lt h]
  · rwa [refusedPsw_of_le h, bits_putBits_of_disjoint _ _ (by decide) (by decide)]

theorem bits_refusedPsw_ss : bits (refusedPsw psw level) 5 1 = 0 := by
  have hss : bits (putBits (putBits psw 6 1 1) 5 1 0) 5 1 = 0 := bits_putBits_self _ _ (by decide)
  rcases Nat.lt_or_ge level 2 with h | h
  · rwa [refusedPsw_of_lt h]
  · rwa [refusedPsw_of_le h, bits_putBits_of_disjoint _ _ (by decide) (by decide)]

/-- At H and M, IE and AE are clear. -/
theorem bits_refusedPsw_enables (h : 2 ≤ level) : bits (refusedPsw psw level) 2 2 = 0 := by
  rw [refusedPsw_of_le h, bits_putBits_self _ _ (by decide), Nat.zero_mod]

end

/-- The registers that a refused return leaves, where it stood at `a` and the reads of the vector block left `b`. -/
def Arch.returnRefused (b a : Arch) (handler : Word) : Arch :=
  { (b.setS (srEADDR a.level) a.pc).setS srPSW (refusedPsw (a.getS srPSW) a.level) with pc := handler }

section
variable (b a : Arch) (h : Word)

theorem srEADDR_ne_srPSW (level : Nat) : srEADDR level ≠ srPSW := by
  unfold srEADDR srPSW
  omega

theorem Arch.getG_returnRefused (r : Nat) : (b.returnRefused a h).getG r = b.getG r := rfl

theorem Arch.getS_returnRefused_psw : (b.returnRefused a h).getS srPSW = refusedPsw (a.getS srPSW) a.level :=
  Arch.getS_setS_self _ _

theorem Arch.getS_returnRefused_eaddr : (b.returnRefused a h).getS (srEADDR a.level) = a.pc :=
  (Arch.getS_setS_of_ne _ _ (srEADDR_ne_srPSW _)).trans (Arch.getS_setS_self _ _)

theorem Arch.getS_returnRefused_of_ne {r : Nat} (he : r ≠ srEADDR a.level) (hp : r ≠ srPSW) :
    (b.returnRefused a h).getS r = b.getS r :=
  (Arch.getS_setS_of_ne _ _ hp).trans (Arch.getS_setS_of_ne _ _ he)

/-- A field of PSW after a refused return. -/
theorem Arch.sf_returnRefused_psw (lo w : Nat) :
    (b.returnRefused a h).sf srPSW lo w = bits (refusedPsw (a.getS srPSW) a.level) lo w :=
  congrArg (bits · lo w) (b.getS_returnRefused_psw a h)

end

/-! ## Entries -/

section
variable (s : State) (n : Nat)

@[simp] theorem State.inTx_dropKept : (s.dropKept n).inTx n = s.inTx n := by
  unfold State.dropKept
  simp only
  split
  · rw [State.inTx, State.core_setCore_self, State.inTx]
  · rfl

@[simp] theorem State.trapArmed_dropKept : (s.dropKept n).trapArmed n = s.trapArmed n :=
  congrArg (fun a : Arch => a.sf srFPSR 5 1 == 1) (s.dropKept_only n).2

/-- The retirement of an entry changes only its core. -/
theorem State.commitEntry_only (hn : n < 64) (a : Arch) (sts : List Store) :
    s.onlyCore n (s.commitEntry n a sts) ∧ (s.commitEntry n a sts).arch n = a := by
  obtain ⟨honly, harch⟩ := State.commitGroup_only (s.setCore n { s.core n with
    arch := a, fresh := (s.core n).fresh ++ sts, group := (s.core n).group + 1, waiting := false, stepGrant := false }) n hn
  exact ⟨State.onlyCore_trans hn (State.onlyCore_setCore _ _ _) honly, harch.trans (State.arch_setCore_self _ _ _)⟩

end

section
variable {s v : State} {n : Nat} {t : Taken} {h sp : Word} {ps : List Part}

/-- Entry to a level whose vector block can be read, and where none is in progress, ends there. -/
theorem State.enterAt_of_reads {level : Nat} (esc vfail : Bool) (hlevel : level ≤ 3)
    (hfree : (s.arch n).level = level → (s.arch n).sf srPSW 6 1 = 0)
    (hreads : s.vectorReads n level t.exc.vec (decide ((s.arch n).level < level)) = .ok v (h, sp, ps))
    (heven : bit h 0 = false) (haligned : decide ((s.arch n).level < level) = true → bits sp 0 3 = 0) :
    ∃ sts, State.enterAt (4 - level) s n t esc vfail = .ok (v.commitEntry n
      ((v.arch n).entered level t esc vfail h (if (s.arch n).level < level then some sp else none)) sts) true := by
  have hnone : ¬ ((s.arch n).level = level ∧ (s.arch n).sf srPSW 6 1 = 1) :=
    fun ⟨hl, heb⟩ => absurd ((hfree hl).symm.trans heb) (by decide)
  have hgood : ¬ (bit h 0 = true ∨ (s.arch n).level < level ∧ bits sp 0 3 ≠ 0) := by
    simpa [heven] using haligned
  have hfuel : 4 - level = 3 - level + 1 := by omega
  unfold State.arch at *
  simp only [hfuel, State.enterAt, Nat.sub_sub_self hlevel, if_neg hnone, hreads, decide_eq_true_eq, if_neg hgood]
  exact ⟨_, rfl⟩

/-- An exception whose entry passes at its level is taken there. -/
theorem State.takeExc_of_enters (he : s.enters n t.exc v h sp ps) :
    ∃ sts, s.takeExc n t = .ok (v.commitEntry n (s.afterEntry n t v h sp) sts) true := by
  obtain ⟨hlevel, hfree, hreads, heven, haligned⟩ := he
  exact State.enterAt_of_reads false false hlevel hfree hreads heven haligned

/-- Outside a transaction, with no trap armed, a precise exception other than a refused return is taken; a system call's
EPC is the next instruction (R134). -/
theorem State.raisePrecise_eq_takeExc {e : Exc} {next : Word} {parcel : Nat} (htrap : s.trapArmed n = false)
    (htx : s.inTx n = false) (hvec : e.vec ≠ 0x0F) :
    s.raisePrecise n e next parcel = (s.takeExc n
      { exc := e, epc := if 0x10 ≤ e.vec ∧ e.vec ≤ 0x12 then next else (s.arch n).pc, parcel := parcel }).state := by
  have htx : (s.core n).tx = none := Option.isNone_iff_eq_none.1 (Option.isSome_eq_false_iff.1 htx)
  simp only [State.raisePrecise, htrap, Bool.false_eq_true, if_false, htx, if_neg hvec, State.arch]

theorem State.raisePrecise_eq_returnViolation {next : Word} {parcel : Nat} (htrap : s.trapArmed n = false)
    (htx : s.inTx n = false) :
    s.raisePrecise n { vec := 0x0F } next parcel = (s.returnViolation n parcel).state := by
  have htx : (s.core n).tx = none := Option.isNone_iff_eq_none.1 (Option.isSome_eq_false_iff.1 htx)
  simp only [State.raisePrecise, htrap, Bool.false_eq_true, if_false, htx, if_true]

/-- A refused return outside an entry whose handler word can be read branches to the handler of its own level (R147). -/
theorem State.returnViolation_of_reads {parcel : Nat} (heb : ((s.commitGroup n).arch n).sf srPSW 6 1 = 0)
    (hreads : (s.commitGroup n).vectorReads n ((s.commitGroup n).arch n).level 0x0F false = .ok v (h, sp, ps))
    (heven : bit h 0 = false) :
    s.returnViolation n parcel = .ok (v.commitEntry n ((v.arch n).returnRefused ((s.commitGroup n).arch n) h) []) true := by
  unfold State.arch at *
  have hfree : ¬ ((s.commitGroup n).core n).arch.sf srPSW 6 1 = 1 := by rw [heb]; decide
  simp only [State.returnViolation, if_neg hfree, hreads, heven, Bool.false_eq_true, if_false]
  rfl

end

section
variable {s u u' v : State} {n : Fin 64} {w : BitVec 32} {op : POp} {env : Env} {c : Instr} {e : Exc} {h sp : Word}
  {ps : List Part}

/-- An instruction whose exception's entry passes enters the level, and beyond its core changes nothing of the state that
the reads of the vector block leave. -/
theorem State.next_of_enters (ha : s.admits n w op u) (hc : exec c s = insn op.row n w env s)
    (hp : u.perform n (insnLen w) env op = .exc u' e) (htx : u'.inTx n = false) (htrap : u'.trapArmed n = false)
    (hvec : e.vec ≠ 0x0F) (he : (u'.dropKept n).enters n e v h sp ps) :
    ∃ t, exec c s = .next t ∧ t.arch n = (u'.dropKept n).afterEntry n
        { exc := e, parcel := w.toNat % 2 ^ 16
          epc := if 0x10 ≤ e.vec ∧ e.vec ≤ 0x12 then (s.arch n).pc + BitVec.ofNat 64 (insnLen w) else (u'.arch n).pc }
        v h sp ∧ v.onlyCore n t := by
  have hnext := hc.trans (State.admits_raises ha hp)
  rw [State.raisePrecise_eq_takeExc ((u'.trapArmed_dropKept n).trans htrap) ((u'.inTx_dropKept n).trans htx) hvec,
    (u'.dropKept_only n).2] at hnext
  obtain ⟨sts, htaken⟩ := State.takeExc_of_enters (t := { exc := e, epc := _, parcel := w.toNat % 2 ^ 16 }) he
  rw [htaken] at hnext
  obtain ⟨honly, harch⟩ := v.commitEntry_only n n.isLt _ sts
  exact ⟨_, hnext, harch, honly⟩

end

/-! ## The obligations -/

/-- Settles O21, by the call: each raises its vector, and the entry passes. -/
theorem callsTakeTheirException : Obligations.CallsTakeTheirException := by
  intro n w s u v h sp ps op c vec hcall hadmits htx htrap henters
  have hpc : (u.arch n).pc = (s.arch n).pc := (State.admits_loopRegs hadmits).1
  obtain ⟨hexec, hperform, hlow, hhigh⟩ : exec c s = insn op.row n w {} s ∧
      u.perform n (insnLen w) {} op = .exc u { vec := vec } ∧ 0x10 ≤ vec ∧ vec ≤ 0x13 := by
    rcases hcall with ⟨i, rfl, rfl, rfl⟩ | ⟨i, rfl, rfl, rfl⟩ | ⟨i, rfl, rfl, rfl⟩ | ⟨i, rfl, rfl, rfl⟩ <;>
      exact ⟨rfl, rfl, by decide, by decide⟩
  have hvec : vec ≠ 0x0F := by omega
  have hepc : (if vec = 0x13 then (u.arch n).pc else (u.arch n).pc + BitVec.ofNat 64 (insnLen w)) =
      if 0x10 ≤ vec ∧ vec ≤ 0x12 then (s.arch n).pc + BitVec.ofNat 64 (insnLen w) else (u.arch n).pc := by
    rw [hpc, ← ite_not]
    exact if_congr (by omega) rfl rfl
  rw [hepc]
  exact State.next_of_enters hadmits hexec hperform htx htrap hvec henters

/-- Settles O23: the violation branches within its level, and what it writes of EADDR and PSW. -/
theorem returnViolationKeepsTheSavedState : Obligations.ReturnViolationKeepsTheSavedState := by
  intro n w s u v h sp ps hadmits htx htrap a hrefused heb hreads heven hv
  have hperform : u.perform n (insnLen w) {} .rfe = .exc u { vec := 0x0F } := by
    simp only [State.perform, State.doRfe]
    exact if_pos hrefused
  have harch : ((u.dropKept n).commitGroup n).arch n = a :=
    ((u.dropKept n).commitGroup_only n n.isLt).2.trans (u.dropKept_only n).2
  have hviolation := State.returnViolation_of_reads (s := u.dropKept n) (parcel := w.toNat % 2 ^ 16)
    (by rw [harch]; exact heb) (by rw [harch]; exact hreads) heven
  rw [harch, hv] at hviolation
  have hnext : exec (.rfe n w) s = .next (v.commitEntry n (a.returnRefused a h) []) := by
    refine (State.admits_raises hadmits hperform).trans (congrArg Host.Outcome.next ?_)
    rw [State.raisePrecise_eq_returnViolation ((u.trapArmed_dropKept n).trans htrap) ((u.inTx_dropKept n).trans htx),
      hviolation, Res.state]
  obtain ⟨honly, hentered⟩ := v.commitEntry_only n n.isLt (a.returnRefused a h) []
  refine ⟨_, hnext, honly, ?_⟩
  rw [hentered]
  have hpsw (lo w : Nat) := a.sf_returnRefused_psw a h lo w
  exact ⟨rfl, a.getS_returnRefused_eaddr a h,
    (hpsw 0 2).trans (bits_refusedPsw_of_disjoint (by decide) (by decide) (.inr (by decide))),
    (hpsw 6 1).trans bits_refusedPsw_eb, (hpsw 5 1).trans bits_refusedPsw_ss,
    fun hl => (hpsw 2 2).trans (bits_refusedPsw_enables hl),
    fun hl => (hpsw 2 2).trans (bits_refusedPsw_of_disjoint (by decide) (by decide) (.inl hl)),
    (hpsw 4 1).trans (bits_refusedPsw_of_disjoint (by decide) (by decide) (.inr (by decide))),
    a.getG_returnRefused a h, fun r he hp => a.getS_returnRefused_of_ne a h he hp⟩

end Sys2Proof.Machine
end

section
/-!
PROOFS. The late store error log (R142, R143).
-/

namespace Sys2Proof.Machine

/-! ## An entry of the log -/

theorem bits_or (v x : Word) (lo w : Nat) : bits (v ||| x) lo w = bits v lo w ||| bits x lo w := by
  rw [bits, BitVec.toNat_or, Nat.shiftRight_or_distrib, Nat.or_mod_two_pow, bits, bits]

theorem bits_and (v x : Word) (lo w : Nat) : bits (v &&& x) lo w = bits v lo w &&& bits x lo w := by
  rw [bits, BitVec.toNat_and, Nat.shiftRight_and_distrib, Nat.and_mod_two_pow, bits, bits]

/-- The entry of a late store error as it is recorded over the register `old`, whose OVF stays (Table 6.8). -/
def lateEntry (reason zone pa : Nat) (old : Word) : Word :=
  BitVec.ofNat 64 (reason + 2 ^ 4 * (zone % 256) + 2 ^ 12 * (pa / 256 % 2 ^ 52)) ||| (old &&& 8)

/-- The fields of an entry before OVF is kept in it. -/
theorem bits_lateRecord {reason z p : Nat} (hr : reason < 8) (hz : z < 256) (hp : p < 2 ^ 52) :
    let v := BitVec.ofNat 64 (reason + 2 ^ 4 * z + 2 ^ 12 * p)
    bits v 0 3 = reason ∧ bits v 3 1 = 0 ∧ bits v 4 8 = z ∧ bits v 12 52 = p := by
  simp only [bits, BitVec.toNat_ofNat, Nat.shiftRight_eq_div_pow]
  omega

/-- An entry holds the reason, the zone and the address of its error, and OVF as it stood. -/
theorem lateEntry_fields {reason : Nat} (zone pa : Nat) (old : Word) (h : reason < 8) :
    let v := lateEntry reason zone pa old
    bits v 0 3 = reason ∧ bits v 3 1 = bits old 3 1 ∧ bits v 4 8 = zone % 256 ∧ bits v 12 52 = pa / 256 % 2 ^ 52 := by
  obtain ⟨hreason, hovf, hzone, haddr⟩ := bits_lateRecord h (Nat.mod_lt zone (by decide))
    (Nat.mod_lt (pa / 256) (by decide : 0 < 2 ^ 52))
  have hmask : bits 8 0 3 = 0 ∧ bits 8 3 1 = 1 ∧ bits 8 4 8 = 0 ∧ bits 8 12 52 = 0 := by decide
  obtain ⟨h0, h3, h4, h12⟩ := hmask
  have hkept : bits old 3 1 % 2 = bits old 3 1 := Nat.mod_eq_of_lt (bits_lt old 3 1)
  simp only [lateEntry, bits_or, bits_and, hreason, hovf, hzone, haddr, h0, h3, h4, h12, Nat.and_zero, Nat.or_zero,
    Nat.zero_or, Nat.and_one_is_mod, hkept, and_self]

/-! ## Where an error is recorded (R142) -/

section
variable {s : State} {n : Nat} (reason zone pa : Nat)

/-- The error is recorded in the lowest-numbered empty entry. -/
theorem State.arch_logLate_of_empty {i : Nat} (hi : i < 4) (hbelow : ∀ j, j < i → (s.arch n).sf (srLSE_LOG + j) 0 3 ≠ 0)
    (hempty : (s.arch n).sf (srLSE_LOG + i) 0 3 = 0) :
    (s.logLate n reason zone pa).arch n =
      (s.arch n).setS (srLSE_LOG + i) (lateEntry reason zone pa ((s.arch n).getS (srLSE_LOG + i))) := by
  have hfind : (List.range 4).find? (fun i => (s.arch n).sf (srLSE_LOG + i) 0 3 == 0) = some i :=
    List.find?_range_eq_some.2 ⟨beq_iff_eq.2 hempty, List.mem_range.2 hi, fun j hj => by simpa using hbelow j hj⟩
  unfold State.arch at hfind
  rw [State.logLate, State.arch_setCore_self]
  simp only [hfind]
  rfl

/-- With every entry occupied, OVF is set. -/
theorem State.arch_logLate_of_full (hfull : ∀ i, i < 4 → (s.arch n).sf (srLSE_LOG + i) 0 3 ≠ 0) :
    (s.logLate n reason zone pa).arch n = (s.arch n).setSf srLSE_LOG 3 1 1 := by
  have hfind : (List.range 4).find? (fun i => (s.arch n).sf (srLSE_LOG + i) 0 3 == 0) = none :=
    List.find?_eq_none.2 fun i hi => by simpa using hfull i (List.mem_range.1 hi)
  unfold State.arch at hfind
  rw [State.logLate, State.arch_setCore_self]
  simp only [hfind]
  rfl

/-- Only the four registers of the log change. -/
theorem State.getS_logLate_of_ne {r : Nat} (hr : r < srLSE_LOG ∨ srLSE_LOG + 3 < r) :
    ((s.logLate n reason zone pa).arch n).getS r = (s.arch n).getS r := by
  rw [State.logLate, State.arch_setCore_self]
  simp only
  split
  · rename_i i hi
    have hi := List.mem_range.1 (List.mem_of_find?_eq_some hi)
    exact Arch.getS_setS_of_ne _ _ (by omega)
  · exact Arch.getS_setS_of_ne _ _ (by omega)

theorem State.core_logLate_ase : ((s.logLate n reason zone pa).core n).ase = true := by
  rw [State.logLate, State.core_setCore_self]

end

/-- Settles O24, by whether the log has an empty entry. -/
theorem lateErrorsFillTheLog : Obligations.LateErrorsFillTheLog := by
  intro s n reason zone pa _ hreason
  refine ⟨s.core_logLate_ase reason zone pa, fun r hr => s.getS_logLate_of_ne reason zone pa hr,
    fun i hi hbelow hempty => ?empty, fun hfull => ?full⟩
  case empty =>
    obtain ⟨hr, hovf, hzone, haddr⟩ := lateEntry_fields zone pa ((s.arch n).getS (srLSE_LOG + i)) hreason
    rw [State.arch_logLate_of_empty reason zone pa hi hbelow hempty]
    simp only [Arch.sf, Arch.getS_setS_self]
    exact ⟨hr, hzone, haddr, hovf, fun j _ hj => Arch.getS_setS_of_ne _ _ (by omega)⟩
  case full =>
    rw [State.arch_logLate_of_full reason zone pa hfull]
    have hkept {lo w : Nat} (h64 : lo + w ≤ 64) (hovf : lo + w ≤ 3 ∨ 4 ≤ lo) (i : Nat) :
        ((s.arch n).setSf srLSE_LOG 3 1 1).sf (srLSE_LOG + i) lo w = (s.arch n).sf (srLSE_LOG + i) lo w := by
      cases i with
      | zero => exact Arch.sf_setSf_of_disjoint _ _ h64 hovf
      | succ i => exact Arch.sf_setS_of_ne _ _ (by omega)
    exact ⟨Arch.sf_setSf_self _ (by decide) (by decide), fun i _ =>
      ⟨hkept (by decide) (by decide) i, hkept (by decide) (by decide) i⟩⟩

end Sys2Proof.Machine
end

section
/-!
PROOFS. The zone tables and the Glaze (R154, R156, R523). First what a write of a table word does before and after the Glaze,
then that ZT_GLAZE with its code is an accepted write, then the registers that the end of a validation leaves.
-/

namespace Sys2Proof.Machine

/-! ## Registers and fields -/

/-- A field that shares no bit with the one written stays. -/
theorem State.fld_setFld_of_apart (s : State) {b c : Nat} {f g : Fld} (n : Nat)
    (h : c + g.off ≠ b + f.off ∨ g.lo + g.width ≤ f.lo ∨ f.lo + f.width ≤ g.lo) :
    (s.setFld b f n).fld c g = s.fld c g :=
  (State.Keeps.setFld_self s b f n).fld fun i hlo hhi ⟨hreg, hlo', hhi'⟩ => by omega

theorem State.flag_setFlag_of_apart (s : State) {b c : Nat} {f g : Fld} (v : Bool)
    (h : c + g.off ≠ b + f.off ∨ g.lo + g.width ≤ f.lo ∨ f.lo + f.width ≤ g.lo) :
    (s.setFlag b f v).flag c g = s.flag c g :=
  congrArg (· == 1) (s.fld_setFld_of_apart (b2n v) h)

theorem State.flag_setFlag_self (s : State) (b : Nat) {f : Fld} (v : Bool) (hw : f.width = 1) (hlo : f.lo < 64) :
    (s.setFlag b f v).flag b f = v := by
  rw [State.flag, State.setFlag, s.fld_setFld_self b f _ (by omega), hw]
  cases v <;> rfl

/-- A write of the word that a register holds changes no field. -/
theorem State.fld_setReg_reg (s : State) (w b : Nat) (f : Fld) : (s.setReg w (s.reg w)).fld b f = s.fld b f := by
  refine congrArg (bits · f.lo f.width) ?_
  by_cases h : b + f.off = w
  · rw [h, State.reg_setReg_self]
  · rw [State.reg_setReg_of_ne _ _ h]

/-- A Crumb writes no register outside the recorder's page. -/
theorem State.crumb_fld_of_ne (s : State) (p : Page) (code sev : Nat) (payload : List Word) (zone : Option Nat)
    (injected : Bool) {b : Nat} {f : Fld} (h : (b + f.off) / 0x1000 ≠ 0x20) :
    (s.crumb p code sev payload zone injected).fld b f = s.fld b f := by
  have hpage (off : Nat) (ho : off < 0x1000) : b + f.off ≠ 0x20000 + off := by omega
  refine congrArg (bits · f.lo f.width) ?_
  unfold State.crumb
  extract_lets r s1
  split
  · exact (State.raiseErr_reg_of_ne _ _ _ (hpage 0x020 (by decide))).trans
      (State.reg_setReg_of_ne _ _ (hpage 0x058 (by decide)))
  · rfl

/-! ## Writes of a table word (R154) -/

section
variable {s : State} {src : Src} {v : Word}

theorem pageAt_zoneTable {i : Nat} (h : i < 207) : pageAt (0x31 + i) = some ⟨.zoneTable, i⟩ := by
  simp (disch := omega) only [pageAt, if_neg, Nat.add_sub_cancel_left]
  rw [if_pos (by omega)]

/-- Outside Check-Stop a write of a table word reaches the tables. -/
theorem regWrite_zoneTable (word : Fin 105984) (hmode : s.mode ≠ 10) :
    regWrite src 8 (0x31000 + 8 * word.val) v s =
      tableWrite src ⟨.zoneTable, 8 * word.val / 0x1000⟩ (0x31000 + 8 * word.val) v s := by
  have hw : (0x31000 + 8 * word.val) % 2 ^ 28 = 0x31000 + 8 * word.val := by omega
  have hi : (0x31000 + 8 * word.val) / 0x1000 = 0x31 + 8 * word.val / 0x1000 := by omega
  simp only [regWrite, hw, hi, pageAt_zoneTable (i := 8 * word.val / 0x1000) (by omega), hmode, false_and, if_false,
    if_true, ne_eq, not_true_eq_false]

/-- Before the Glaze and outside a validation a legal word is stored, its unassigned bits 0. -/
theorem tableWrite_unglazed {p : Page} {w : Nat} {m : Word} (hmask : ztMask w = some m) (hlegal : ztLegal w v = true)
    (hglazed : s.glazed = false) (hbusy : s.flag bZctl F.ZT_STAT_BUSY = false) :
    tableWrite src p w v s = s.setReg w (v &&& m) := by
  simp only [tableWrite, hmask, hlegal, hglazed, hbusy, Bool.false_eq_true, false_and, not_true_eq_false, if_false]

/-- After the Glaze a write of a table word does nothing beyond the record of its refusal. -/
theorem tableWrite_glazed {p : Page} {w : Nat} (hglazed : s.glazed = true) :
    tableWrite src p w v s = s ∨ ∃ reason, tableWrite src p w v s = s.refusal src p (w % 0x1000) reason := by
  unfold tableWrite
  extract_lets off
  split
  · exact .inr ⟨7, rfl⟩
  · split_ifs
    · exact .inr ⟨3, rfl⟩
    · exact .inr ⟨5, rfl⟩
    · exact .inl rfl
    · exact .inr ⟨2, rfl⟩

theorem State.errPage_zoneTable (s : State) (src : Src) (i : Nat) :
    s.errPage src ⟨.zoneTable, i⟩ = ⟨.door, s.srcZone src⟩ ∨ s.errPage src ⟨.zoneTable, i⟩ = zctlPage :=
  ite_eq_or_eq ..

/-- A refused write of a table word is recorded in a doorbell page or in the control page, never in the tables. -/
theorem State.refusal_reg_zoneTable (s : State) (src : Src) (i off reason : Nat) (k : Fin 105984) :
    (s.refusal src ⟨.zoneTable, i⟩ off reason).reg (0x31000 + 8 * k.val) = s.reg (0x31000 + 8 * k.val) := by
  have hoff (off : Nat) (ho : off < 0x1000) :
      0x31000 + 8 * k.val ≠ (s.errPage src ⟨.zoneTable, i⟩).base + off := by
    rcases s.errPage_zoneTable src i with h | h <;> rw [h] <;> simp only [Page.base, Page.index, zctlPage] <;> omega
  exact s.refusal_reg_of_ne _ _ _ _ (hoff 0x020 (by decide)) (hoff 0x030 (by decide))

/-- ZONE_TABLE_WRITE before the Glaze. -/
theorem exec_zoneTableWrite_unglazed {word : Fin 105984} {m : Word} (hpow : s.powered = true) (hmode : s.mode ≠ 10)
    (hmay : s.mayAccess src (0x31000 + 8 * word.val) = true) (hmask : ztMask (0x31000 + 8 * word.val) = some m)
    (hlegal : ztLegal (0x31000 + 8 * word.val) v = true) (hglazed : s.glazed = false)
    (hbusy : s.flag bZctl F.ZT_STAT_BUSY = false) :
    exec (.zoneTableWrite src word v) s = .next (s.setReg (0x31000 + 8 * word.val) (v &&& m)) := by
  refine (event_next _ _ hpow hmay).trans (congrArg Host.Outcome.next ?_)
  rw [regWrite_zoneTable word hmode, tableWrite_unglazed hmask hlegal hglazed hbusy]

/-- ZONE_TABLE_WRITE after the Glaze (R523). -/
theorem exec_zoneTableWrite_glazed {word : Fin 105984} (hpow : s.powered = true) (hmode : s.mode ≠ 10)
    (hmay : s.mayAccess src (0x31000 + 8 * word.val) = true) (hglazed : s.glazed = true) :
    ∃ t, exec (.zoneTableWrite src word v) s = .next t ∧
      (∀ k : Fin 105984, t.reg (0x31000 + 8 * k.val) = s.reg (0x31000 + 8 * k.val)) ∧ t.mem = s.mem ∧
      t.cores = s.cores := by
  refine ⟨_, event_next _ _ hpow hmay, ?_⟩
  rw [regWrite_zoneTable word hmode]
  obtain h | ⟨reason, h⟩ := tableWrite_glazed (src := src) (v := v) (p := ⟨.zoneTable, 8 * word.val / 0x1000⟩)
    (w := 0x31000 + 8 * word.val) hglazed
  · rw [h]
    exact ⟨fun _ => rfl, rfl, rfl⟩
  · rw [h]
    exact ⟨s.refusal_reg_zoneTable src _ _ reason, s.refusal_mem .., s.refusal_cores ..⟩

end

/-! ## The start of a validation (R156) -/

section
variable {s : State} {src : Src} {v : Word}

/-- Before the Glaze, outside a validation, ZT_GLAZE with its code is not refused. -/
theorem accepts_ztGlaze (hmode : s.mode ≠ 10) (hpresent : s.present zctlPage = true)
    (hmay : s.mayAccess src (bZctl + 0x048) = true) (hglazed : s.glazed = false)
    (hvalidating : s.flag bZctl F.ZT_STAT_BUSY = false) (hbusy : s.flag bZctl F.BUSY = false)
    (hcode : bits v 0 16 = 0x6C7A) : s.accepts src zctlPage 0x048 v = true := by
  have hwrites : s.writesPage src zctlPage 0x048 = true := by
    have hmay' : s.mayAccess src (zctlPage.base + 0x048) = true := hmay
    have hblock : s.blockPage zctlPage = true := by rw [State.blockPage, hpresent]; decide
    simp only [State.writesPage, hblock, hmay', bne_iff_ne.2 hmode, Bool.true_or, Bool.and_self]
  have hfields : pageFields zctlPage 0x048 = some [F.ZT_GLAZE_CODE] := by decide
  have h5 : s.refused05 src zctlPage 0x048 v [F.ZT_GLAZE_CODE] = [] := by
    have hbusy' : s.flag (Page.base ⟨.zctl, 0⟩) F.BUSY = false := hbusy
    simp [State.refused05, hbusy', zctlPage, zctlRefused, hglazed, hvalidating, hcode]
  have h1 : s.refused01 zctlPage (s.liveReg zctlPage 0x048) v [F.ZT_GLAZE_CODE] = [] := by
    unfold State.refused01
    split <;> rfl
  simp only [State.accepts, hwrites, hfields, hglazed, h5, h1]
  rfl

/-- ZT_GLAZE holds no stored field: beyond its command, an accepted write leaves its word as it is. -/
theorem exec_ztGlaze_next (hpow : s.powered = true) (hmay : s.mayAccess src (bZctl + 0x048) = true)
    (h : s.accepts src zctlPage 0x048 v = true) :
    exec (.ztGlaze src v) s =
      .next (zctlWrote 0x048 v (s.setReg (bZctl + 0x048) (s.reg (bZctl + 0x048)))) := by
  obtain ⟨fs, hfs, hnext⟩ := writeRow_of_accepts (m := "ZT_GLAZE") (by decide) hpow hmay h
  obtain rfl : [F.ZT_GLAZE_CODE] = fs := Option.some.inj ((by decide : pageFields zctlPage 0x048 = _).symm.trans hfs)
  exact hnext

/-- What the command does with its code, by the mode. -/
theorem zctlWrote_glazeCode (hcode : bits v 0 16 = 0x6C7A) :
    zctlWrote 0x048 v s =
      if s.mode = 3 then s.setFlag bZctl F.ZT_STAT_BUSY true else s.setFld bZctl F.ZT_STAT_RESULT 8 :=
  if_pos ⟨rfl, hcode⟩

/-- The validation starts in Initialization; elsewhere RESULT 0x8 is recorded; the Glaze stays unset. -/
theorem zctlWrote_shows (hcode : bits v 0 16 = 0x6C7A) (hglazed : s.glazed = false)
    (hvalidating : s.flag bZctl F.ZT_STAT_BUSY = false) :
    (s.mode = 3 → (zctlWrote 0x048 v s).flag bZctl F.ZT_STAT_BUSY = true) ∧
      (s.mode ≠ 3 → (zctlWrote 0x048 v s).flag bZctl F.ZT_STAT_BUSY = false ∧
        (zctlWrote 0x048 v s).fld bZctl F.ZT_STAT_RESULT = 8) ∧
      (zctlWrote 0x048 v s).glazed = false ∧ (zctlWrote 0x048 v s).mem = s.mem ∧
      (zctlWrote 0x048 v s).cores = s.cores := by
  rw [zctlWrote_glazeCode hcode]
  by_cases h3 : s.mode = 3
  · rw [if_pos h3]
    exact ⟨fun _ => s.flag_setFlag_self _ true rfl (by decide), fun h => absurd h3 h,
      (s.flag_setFlag_of_apart true (by decide)).trans hglazed, rfl, rfl⟩
  · rw [if_neg h3]
    have hkept (f : Fld) (hf : f.lo + f.width ≤ 4) : (s.setFld bZctl F.ZT_STAT_RESULT 8).flag bZctl f = s.flag bZctl f :=
      congrArg (· == 1) (s.fld_setFld_of_apart 8 (.inr (.inl hf)))
    exact ⟨fun h => absurd h h3, fun _ => ⟨(hkept _ (by decide)).trans hvalidating, s.fld_setFld_self _ _ 8 (by decide)⟩,
      (hkept _ (by decide)).trans hglazed, rfl, rfl⟩

end

/-! ## The end of a validation (R156, Table 7.5) -/

section
variable {s : State}

/-- The state when a validation has found no failing entry, before the Crumb of the Glaze. -/
def State.glazeSet (s : State) : State :=
  ((((s.setFlag bZctl F.ZT_STAT_BUSY false).ztResult 1 0 0).setFlag bZctl F.ZT_STAT_GLAZED true).setFld bZctl
    F.ZT_DIGEST_DIGEST s.ztDigest).setFlag bEse F.MODE_STAT_GLAZED true

theorem State.glazeDone_of_valid (h : s.validation = none) :
    s.glazeDone = s.glazeSet.crumb zctlPage 0x0402 1
      [BitVec.ofNat 64 s.ztDigest, BitVec.ofNat 64 s.zoneCount, s.reg (bIdent + F.ID_MODULE_MODULE_ID.off)] := by
  simp only [State.glazeDone, h]
  rfl

theorem State.glazeDone_of_failing {r k i : Nat} (h : s.validation = some (r, k, i)) :
    s.glazeDone = (s.setFlag bZctl F.ZT_STAT_BUSY false).ztResult r k i := by
  simp only [State.glazeDone, h]

theorem exec_glazeValidationComplete_next (hpow : s.powered = true) (hmode : s.mode = 3)
    (hbusy : s.flag bZctl F.ZT_STAT_BUSY = true) : exec .glazeValidationComplete s = .next s.glazeDone :=
  event_next _ _ hpow (by rw [hbusy, hmode]; rfl)

/-- The end of a validation leaves memory and the cores alone. -/
theorem State.glazeDone_frame (s : State) : s.glazeDone.mem = s.mem ∧ s.glazeDone.cores = s.cores := by
  match h : s.validation with
  | none =>
    rw [State.glazeDone_of_valid h]
    exact (State.crumb_frame ..).imp_right And.left
  | some (r, k, i) =>
    rw [State.glazeDone_of_failing h]
    exact ⟨rfl, rfl⟩

/-- Without a failing entry the Glaze is set in both registers that show it, with RESULT 0x1 and the digest. -/
theorem State.glazeDone_shows_of_valid (h : s.validation = none) :
    s.glazeDone.flag bZctl F.ZT_STAT_BUSY = false ∧ s.glazeDone.glazed = true ∧
      s.glazeDone.flag bEse F.MODE_STAT_GLAZED = true ∧ s.glazeDone.fld bZctl F.ZT_STAT_RESULT = 1 ∧
      s.glazeDone.fld bZctl F.ZT_DIGEST_DIGEST = s.ztDigest % 2 ^ 32 := by
  rw [State.glazeDone_of_valid h]
  simp (disch := decide) only [State.glazed, State.flag, State.crumb_fld_of_ne, State.glazeSet, State.ztResult,
    State.setFlag, State.fld_setFld_self, State.fld_setFld_of_apart]
  exact ⟨rfl, rfl, rfl, rfl, rfl⟩

/-- With a failing entry that entry is recorded, and the Glaze stays as it is. -/
theorem State.glazeDone_shows_of_failing {r k i : Nat} (h : s.validation = some (r, k, i)) :
    s.glazeDone.flag bZctl F.ZT_STAT_BUSY = false ∧ s.glazeDone.glazed = s.glazed ∧
      s.glazeDone.fld bZctl F.ZT_STAT_RESULT = r % 16 ∧ s.glazeDone.fld bZctl F.ZT_STAT_FAIL_TABLE = k % 16 ∧
      s.glazeDone.fld bZctl F.ZT_STAT_FAIL_INDEX = i % 65536 := by
  rw [State.glazeDone_of_failing h]
  simp (disch := decide) only [State.glazed, State.flag, State.ztResult, State.setFlag, State.fld_setFld_self,
    State.fld_setFld_of_apart, true_and]
  exact ⟨rfl, rfl, rfl, rfl⟩

theorem State.glazeDone_idle (s : State) : s.glazeDone.flag bZctl F.ZT_STAT_BUSY = false := by
  match h : s.validation with
  | none => exact (State.glazeDone_shows_of_valid h).1
  | some (r, k, i) => exact (State.glazeDone_shows_of_failing h).1

end

/-! ## The obligation -/

/-- Settles O26: a table write by whether the Glaze is set, ZT_GLAZE as an accepted write, the end of a validation by
whether an entry fails. -/
theorem zoneCommandsComplete : Obligations.ZoneCommandsComplete := by
  refine ⟨fun src word v m s hpow hmode hmay hmask =>
      ⟨exec_zoneTableWrite_unglazed hpow hmode hmay hmask, exec_zoneTableWrite_glazed hpow hmode hmay⟩,
    fun src v s hpow hmode hpresent hmay hglazed hvalidating hbusy hcode => ?start, fun s hpow hmode hbusy => ?done⟩
  case start =>
    have hfld := s.fld_setReg_reg (bZctl + 0x048)
    obtain ⟨hstarts, helse, hframe⟩ := zctlWrote_shows (s := s.setReg (bZctl + 0x048) (s.reg (bZctl + 0x048))) hcode
      ((congrArg (· == 1) (hfld ..)).trans hglazed) ((congrArg (· == 1) (hfld ..)).trans hvalidating)
    exact ⟨_, exec_ztGlaze_next hpow hmay (accepts_ztGlaze hmode hpresent hmay hglazed hvalidating hbusy hcode),
      fun h => hstarts ((hfld ..).trans h), fun h => helse fun h' => h ((hfld ..).symm.trans h'), hframe⟩
  case done =>
    obtain ⟨hmem, hcores⟩ := s.glazeDone_frame
    exact ⟨_, exec_glazeValidationComplete_next hpow hmode hbusy, s.glazeDone_idle, hmem, hcores,
      fun h => (State.glazeDone_shows_of_valid h).2, fun r k i h => (State.glazeDone_shows_of_failing h).2⟩

end Sys2Proof.Machine
end

section
/-!
PROOFS. Completion of TBEGIN, TBEGINB, TCOMMIT and TABORT (R183 to R186, R194): what retirement keeps of the open
transaction, what its opening records in TXSTAT, that its end writes no core but its own, and what an abort restores.
-/

namespace Sys2Proof.Machine

/-! ## The open transaction at retirement -/

section
variable (s : State) (n : Nat)

theorem State.tx_dropKept : ((s.dropKept n).core n).tx = (s.core n).tx := by
  unfold State.dropKept
  simp only
  split
  · rw [State.core_setCore_self]
  · rfl

theorem State.tx_commitGroup : ((s.commitGroup n).core n).tx = (s.core n).tx := by
  have hcommit : ∀ wafer stores, ((s.setCore n { s.core n with
      wafer := wafer, stores := stores, fresh := [], replay := [], group := 0 }).core n).tx = (s.core n).tx := by
    intro wafer stores
    rw [State.core_setCore_self]
  unfold State.commitGroup
  simp only
  split
  · rfl
  · split
    · split
      · exact hcommit _ _
      · exact hcommit _ _
    · exact hcommit _ _

/-- Retirement counts the instruction in the open transaction (R194) and leaves the rest of it. -/
theorem State.tx_retire {y : Tx} (h : (s.core n).tx = some y) (old : Arch) (len : Nat) (d : Done) :
    ((s.retire n old len d).core n).tx = some { y with retired := y.retired + 1 } := by
  unfold State.retire
  simp only [h]
  split
  · rw [State.tx_commitGroup, State.tx_dropKept, State.core_setCore_self]
  · rw [State.tx_dropKept, State.core_setCore_self]

end

/-- The loop step writes no special register but LC. -/
theorem Arch.getS_steps_of_ne (old a : Arch) (len : Nat) (target : Option Word) {r : Nat} (h : r ≠ srLC) :
    (old.steps a len target).getS r = a.getS r := by
  unfold Arch.steps
  split
  · exact a.getS_setS_of_ne _ h
  · rfl

theorem State.mem_onlyCore {s t : State} {n : Nat} (h : s.onlyCore n t) : t.mem = s.mem := by
  rw [h.1]

/-! ## Opening (R183, R194) -/

/-- TXSTAT of a transaction that opens: TX, BTX and DEPTH, and BCOUNT of a bounded one (Table 8.5). -/
theorem bits_openTxstat (v : Word) (bounded escal : Bool) (bcount : Nat) :
    bits (openTxstat v bounded escal bcount) 0 1 = 1 ∧ bits (openTxstat v bounded escal bcount) 1 1 = b2n bounded ∧
      bits (openTxstat v bounded escal bcount) 2 4 = 1 ∧
      (bounded = true → bits (openTxstat v bounded escal bcount) 32 4 = bcount % 2 ^ 4) := by
  cases bounded <;> simp (disch := decide) [openTxstat, bits_putBits_of_disjoint, bits_putBits_self, b2n]

/-- The transaction that an instruction opens over the registers `a`, once that instruction has retired. -/
def Arch.opened (a : Arch) (bounded escal : Bool) (off : Int) : Tx :=
  { bounded := bounded, escal := escal, handler := a.pc + BitVec.ofInt 64 off, begun := a.pc, saved := a, retired := 1 }

theorem State.core_openTx (s : State) (n : Nat) (bounded escal : Bool) (off : Int) (bcount : Nat) :
    (s.openTx n bounded escal off [] bcount).core n = { s.core n with
      tx := some { (s.arch n).opened bounded escal off with retired := 0 }
      arch := (s.arch n).setS srTXSTAT (openTxstat ((s.arch n).getS srTXSTAT) bounded escal bcount) } :=
  State.core_setCore_self _ _ _

section
variable {s u v : State} {n : Fin 64} {w : BitVec 32} {op : POp} {env : Env} {c : Instr}

/-- An instruction that opens a transaction completes: the transaction stands, TXSTAT shows it, and nothing beyond the
core changes. -/
theorem State.next_of_openTx {bounded escal : Bool} {off : Int} {bcount : Nat} (h : s.admits n w op u)
    (hc : exec c s = insn op.row n w env s)
    (hp : u.perform n (insnLen w) env op = .ok (v.openTx n bounded escal off [] bcount) { alone := true }) :
    ∃ t, exec c s = .next t ∧ (t.core n).tx = some ((v.arch n).opened bounded escal off) ∧ v.onlyCore n t ∧
      ∀ lo k, (t.arch n).sf srTXSTAT lo k =
        bits (openTxstat ((v.arch n).getS srTXSTAT) bounded escal bcount) lo k := by
  obtain ⟨honly, harch⟩ := State.retire_steps (v.openTx n bounded escal off [] bcount) n (s.arch n) (insnLen w)
    { alone := true } n.isLt rfl
  refine ⟨_, hc.trans (State.admits_runs h hp), ?tx, State.onlyCore_trans n.isLt (State.onlyCore_setCore _ _ _) honly,
    fun lo k => ?txstat⟩
  case tx => exact State.tx_retire _ _ (congrArg LCore.tx (v.core_openTx n bounded escal off bcount)) _ _ _
  case txstat =>
    rw [Arch.sf, harch, Arch.getS_steps_of_ne _ _ _ _ (by decide), State.arch, State.core_openTx, Arch.getS_setS_self]

end

section
variable {s v : State} {n len : Nat} {off : Int} {y : Tx}

/-- Outside a transaction TBEGIN opens one once every earlier store has drained. -/
theorem State.perform_tbegin_opens (htx : (s.core n).tx = none) (hd : s.drainAll n = (v, true)) :
    s.perform n len {} (.tbegin off) = .ok (v.openTx n false false off [] 0) { alone := true } := by
  simp only [State.perform, State.doTbegin, htx, hd]

/-- The first attempt of a bounded transaction has nothing to gather. -/
theorem State.perform_tbeginb_opens (htx : (s.core n).tx = none) (hlast : (s.core n).lastTb = none) :
    s.perform n len {} (.tbeginb off) = .ok (s.openTx n true false off [] 0) { alone := true } := by
  have hgather : State.gatherLines 5 (s.openTx n true false off [] 0) n =
      .ok (s.openTx n true false off [] 0) { alone := true } := by
    simp only [State.gatherLines, State.core_openTx, Arch.opened]
  simp only [State.perform, State.doTbeginb, htx, hlast, Option.any_none]
  exact hgather

/-- Inside a transaction that is not bounded TBEGIN goes one level deeper, up to depth 15. -/
theorem State.perform_tbegin_nests (htx : (s.core n).tx = some y) (hb : y.bounded = false)
    (hd : (s.arch n).sf srTXSTAT 2 4 < 15) :
    s.perform n len {} (.tbegin off) =
      .ok (s.setArch n ((s.arch n).setSf srTXSTAT 2 4 ((s.arch n).sf srTXSTAT 2 4 + 1))) { alone := true } := by
  simp only [State.perform, State.doTbegin, htx, hb, Bool.false_eq_true, if_false, State.nestTx, if_neg (Nat.ne_of_lt hd)]

end

/-! ## The end of a transaction (R184, R186) -/

section
variable (s : State) (n : Nat) (y : Tx)

/-- The messages and holds that a transaction's end concerns are of the ports, the home and the tiles. -/
theorem State.endTx_frame : ∃ p h k,
    (s.txMessages n y).endEscalatedHolds n y = { s with fports := p, home := h, tiles := k } := by
  have hmessages : ∃ p h, s.txMessages n y = { s with fports := p, home := h } := by
    have hsend (u : State) (f : Nat → Msg) (ds : List Nat) :
        ∃ p, ds.foldl (fun st d => st.enqueue (f d)) u = { u with fports := p } := by
      obtain ⟨p, hp⟩ := u.foldl_enqueue_fports (ds.map f)
      exact ⟨p, by rw [← hp, List.foldl_map]⟩
    unfold State.txMessages
    extract_lets msg homes s1
    obtain ⟨p, hp⟩ := hsend s (msg 3) homes
    obtain ⟨q, hq⟩ := hsend s1 (msg 2) homes
    split
    · exact ⟨q, _, by rw [hq, State.dropReservations]; simp only [s1, hp]; rfl⟩
    · exact ⟨p, s.home, hp⟩
  obtain ⟨p, h, hm⟩ := hmessages
  rw [hm, State.endEscalatedHolds]
  simp only
  split
  · exact ⟨p, h, _, rfl⟩
  · exact ⟨p, h, s.tiles, rfl⟩

theorem State.core_endTx (m : Nat) : ((s.txMessages n y).endEscalatedHolds n y).core m = s.core m := by
  obtain ⟨p, h, k, hend⟩ := s.endTx_frame n y
  rw [hend]
  rfl

theorem State.mem_endTx : ((s.txMessages n y).endEscalatedHolds n y).mem = s.mem := by
  obtain ⟨p, h, k, hend⟩ := s.endTx_frame n y
  rw [hend]

/-- No transaction is open after a commit. -/
theorem State.tx_commitTx : ((s.commitTx n y).core n).tx = none := by
  rw [State.commitTx, State.core_endTx, State.core_setCore_self]

end

section
variable {s v : State} {n len : Nat} {y : Tx}

theorem State.perform_tcommit_outside (htx : (s.core n).tx = none) : s.perform n len {} .tcommit = .ok s {} := by
  simp only [State.perform, State.doTcommit, htx]

theorem State.perform_tcommit_nested (htx : (s.core n).tx = some y) (hd : 1 < (s.arch n).sf srTXSTAT 2 4) :
    s.perform n len {} .tcommit =
      .ok (s.setArch n ((s.arch n).setSf srTXSTAT 2 4 ((s.arch n).sf srTXSTAT 2 4 - 1))) { alone := true } := by
  simp only [State.perform, State.doTcommit, htx, if_pos hd]

/-- The outermost TCOMMIT commits once every earlier store has drained and the drain has not aborted the transaction. -/
theorem State.perform_tcommit_outermost (htx : (s.core n).tx = some y) (hd : (s.arch n).sf srTXSTAT 2 4 ≤ 1)
    (hdrain : s.drainAll n = (v, true)) (hv : v.inTx n = true) :
    s.perform n len {} .tcommit = .ok (v.commitTx n y) { alone := true } := by
  simp only [State.perform, State.doTcommit, htx, if_neg (Nat.not_lt.2 hd), hdrain, hv, if_true]

end

/-! ## Aborts (R185, R186) -/

/-- TXSTAT after an abort: CODE, and DEPTH 0; the byte that TABORT places in UCODE stays. -/
theorem bits_abortTxstat (v : Word) {code : Nat} (vector : Nat) (counted : Bool) (hcode : code < 2 ^ 8) :
    bits (abortTxstat v code vector counted) 8 8 = code ∧
      bits (abortTxstat v code vector counted) 16 8 = bits v 16 8 ∧ bits (abortTxstat v code vector counted) 2 4 = 0 := by
  unfold abortTxstat
  simp only
  split_ifs <;> simp (disch := decide) only [bits_putBits_of_disjoint, bits_putBits_self, Nat.mod_eq_of_lt hcode,
    Nat.zero_mod, and_self]

section
variable (c : LCore) (y : Tx) (code vector : Nat) (counted : Bool)

theorem LCore.aborted_g : (c.aborted y code vector counted).arch.g = y.saved.g := by
  simp only [LCore.aborted, Arch.restored, keptSr, List.foldl_cons, List.foldl_nil, Arch.setS]

theorem LCore.aborted_f : (c.aborted y code vector counted).arch.f = y.saved.f := by
  simp only [LCore.aborted, Arch.restored, keptSr, List.foldl_cons, List.foldl_nil, Arch.setS]

/-- An abort restores the general registers recorded. -/
theorem LCore.aborted_getG (r : Nat) : (c.aborted y code vector counted).arch.getG r = y.saved.getG r := by
  simp only [Arch.getG, LCore.aborted_g]

/-- An abort restores the floating-point registers recorded. -/
theorem LCore.aborted_getF (r : Nat) : (c.aborted y code vector counted).arch.getF r = y.saved.getF r := by
  simp only [Arch.getF, LCore.aborted_f]

theorem LCore.aborted_txstat (lo k : Nat) : (c.aborted y code vector counted).arch.sf srTXSTAT lo k =
    bits (abortTxstat (c.arch.getS srTXSTAT) code vector counted) lo k :=
  congrArg (bits · lo k) (Arch.getS_setS_self _ _)

end

section
variable {s : State} {n : Nat} {y : Tx} (htx : (s.core n).tx = some y) (code vector : Nat) (counted : Bool)
include htx

/-- An abort writes the core of its transaction, no other core and no memory. -/
theorem State.txAbort_open :
    (s.txAbort n code vector counted).core n = (s.core n).aborted y code vector counted ∧
      (∀ m, m ≠ n → (s.txAbort n code vector counted).core m = s.core m) ∧
      (s.txAbort n code vector counted).mem = s.mem := by
  simp only [State.txAbort, htx, State.core_endTx, State.mem_endTx, State.core_setCore_self, State.setCore_mem, true_and,
    and_true]
  exact fun m hm => State.core_setCore_of_ne _ _ hm

end

/-- With no trap armed, an abort that breaks no rule of R194 is the end of its transaction. -/
theorem State.abortBy_eq_txAbort {s : State} {n : Nat} (htrap : s.trapArmed n = false) (code parcel : Nat) :
    s.abortBy n code none parcel = s.txAbort n code := by
  simp only [State.abortBy, htrap, Bool.false_eq_true, if_false]

section
variable {s u v : State} {n : Fin 64} {w : BitVec 32} {op : POp} {env : Env} {c : Instr} {code : Nat}
  {esc : Option (Nat × Word)}

/-- At a boundary that admits an instruction no event comes first: its row answers the instruction itself. -/
theorem State.admits_runInsn (h : s.admits n w op u) : insn op.row n w env s = .next (s.runInsn n w env) := by
  obtain ⟨hpow, hdec, hready, hgathers, hwaiting, howed, hhalt, hdue, -⟩ := h
  have hissue : s.issue n w env = s.runInsn n w env := by
    simp only [State.issue, State.wakes, hwaiting, Bool.false_eq_true, if_false, howed, hhalt, hdec, Option.any_some, hdue]
  simp only [insn, hdec]
  rw [event_next _ _ hpow (by simp [hgathers, hready]), hissue]

/-- The abort that an admitted instruction causes. -/
theorem State.runInsn_aborts (h : s.admits n w op u) (hp : u.perform n (insnLen w) env op = .abort v code esc) :
    s.runInsn n w env = (v.dropKept n).abortBy n code esc (w.toNat % 2 ^ 16) := by
  obtain ⟨-, hdec, -, -, -, -, -, -, hfetch, htx, -, hfault, hrefuses, -⟩ := h
  have hopen : ¬ (s.inTx n ∧ ¬ u.inTx n) := fun ⟨hs, hu⟩ => hu (htx.trans hs)
  simp only [State.runInsn, hfetch, if_neg hopen, hdec, State.execute, hfault, hrefuses, hp]

/-- An instruction that aborts its transaction leaves the state of the abort; beyond its core no core and no memory
change. -/
theorem State.next_of_abort {y : Tx} (h : s.admits n w op u) (hc : exec c s = insn op.row n w env s)
    (hp : u.perform n (insnLen w) env op = .abort v code none) (htx : (v.core n).tx = some y)
    (htrap : v.trapArmed n = false) :
    ∃ t, ∃ z : LCore, exec c s = .next t ∧ t.core n = z.aborted y code 0 true ∧ z.arch = v.arch n ∧
      (∀ m, m ≠ n.val → t.core m = v.core m) ∧ t.mem = v.mem := by
  obtain ⟨honly, harch⟩ := v.dropKept_only n
  obtain ⟨hcore, hcores, hmem⟩ := State.txAbort_open ((v.tx_dropKept n).trans htx) code 0 true
  have hnext := hc.trans (State.admits_runInsn h)
  rw [State.runInsn_aborts h hp, State.abortBy_eq_txAbort ((v.trapArmed_dropKept n).trans htrap)] at hnext
  have ⟨_, hkept, _⟩ := honly
  exact ⟨_, _, hnext, hcore, harch, fun m hm => (hcores m hm).trans (hkept m hm), hmem.trans (State.mem_onlyCore honly)⟩

end

/-! ### TABORT -/

/-- The registers in which TABORT has placed its operand in UCODE. -/
def Arch.withUcode (x : Arch) (a : Nat) : Arch := x.setSf srTXSTAT 16 8 (bits (x.getG a) 0 8)

section
variable {s : State} {n len a : Nat}

theorem State.perform_tabort_outside (htx : (s.core n).tx = none) : s.perform n len {} (.tabort a) = .ok s {} := by
  simp only [State.perform, State.doTabort, State.inTx, htx, Option.isSome_none, Bool.false_eq_true, if_false]

theorem State.perform_tabort_inside {y : Tx} (htx : (s.core n).tx = some y) :
    s.perform n len {} (.tabort a) = .abort (s.setArch n ((s.arch n).withUcode a)) 0x01 none := by
  simp only [State.perform, State.doTabort, State.inTx, htx, Option.isSome_some, if_true, State.gr, Arch.withUcode]

/-- TXSTAT after TABORT reports code 0x01 with the low byte of the operand, at depth 0. -/
theorem Arch.txstat_tabort (x : Arch) (a : Nat) :
    let v := abortTxstat ((x.withUcode a).getS srTXSTAT) 0x01 0 true
    bits v 8 8 = 0x01 ∧ bits v 16 8 = bits (x.getG a) 0 8 ∧ bits v 2 4 = 0 := by
  obtain ⟨hcode, hucode, hdepth⟩ := bits_abortTxstat ((x.withUcode a).getS srTXSTAT) (code := 0x01) 0 true (by decide)
  exact ⟨hcode, hucode.trans (x.sf_setSf_self (by decide) (bits_lt _ 0 8)), hdepth⟩

end

/-- TABORT arms no trap: UCODE is no field of FPSR. -/
theorem State.trapArmed_withUcode (s : State) (n a : Nat) :
    (s.setArch n ((s.arch n).withUcode a)).trapArmed n = s.trapArmed n := by
  simp only [State.trapArmed, State.setArch, State.core_setCore_self, Arch.withUcode, Arch.sf,
    Arch.getS_setSf_of_ne _ (show srFPSR ≠ srTXSTAT by decide), State.arch]

/-! ## The obligation -/

/-- Settles O20, by the instruction and by the transaction it finds open. -/
theorem transactionInstructionsComplete : Obligations.TransactionInstructionsComplete := by
  intro n w s u v x
  refine ⟨?tbegin, ?tbeginb, ?nested, fun h => ⟨?commitOutside, ?commitNested, ?commitOutermost⟩,
    fun a h => ⟨?abortOutside, ?abortInside⟩⟩
  case tbegin =>
    intro off h htx hd
    obtain ⟨t, hexec, hopen, honly, htxstat⟩ := State.next_of_openTx (c := .tbegin n w) h rfl
      (State.perform_tbegin_opens htx hd)
    obtain ⟨htxBit, -, hdepth, -⟩ := bits_openTxstat ((v.arch n).getS srTXSTAT) false false 0
    exact ⟨t, _, hexec, hopen, rfl, rfl, rfl, rfl, rfl, honly, (htxstat 0 1).trans htxBit, (htxstat 2 4).trans hdepth,
      State.mem_onlyCore honly⟩
  case tbeginb =>
    intro off h htx hlast
    obtain ⟨t, hexec, hopen, honly, htxstat⟩ := State.next_of_openTx (c := .tbeginb n w) h rfl
      (State.perform_tbeginb_opens htx hlast)
    obtain ⟨-, hbtx, hdepth, hbcount⟩ := bits_openTxstat ((u.arch n).getS srTXSTAT) true false 0
    exact ⟨t, _, hexec, hopen, rfl, rfl, rfl, rfl, (htxstat 1 1).trans hbtx, (htxstat 2 4).trans hdepth,
      (htxstat 32 4).trans (hbcount rfl), honly⟩
  case nested => exact fun _ y h htx hb hd => State.completes_setArch h rfl (State.perform_tbegin_nests htx hb hd) rfl
  case commitOutside => exact fun htx => State.completes_stay h rfl (State.perform_tcommit_outside htx) rfl
  case commitNested => exact fun y htx hd => State.completes_setArch h rfl (State.perform_tcommit_nested htx hd) rfl
  case commitOutermost =>
    exact fun y htx hd hdrain hv =>
      ⟨State.completes_stay h rfl (State.perform_tcommit_outermost htx hd hdrain hv) rfl, State.tx_commitTx v n y⟩
  case abortOutside => exact fun htx => State.completes_stay h rfl (State.perform_tabort_outside htx) rfl
  case abortInside =>
    intro y htx htrap
    have htx' : ((u.setArch n (x.withUcode a)).core n).tx = some y :=
      (congrArg LCore.tx (State.core_setCore_self _ _ _)).trans htx
    obtain ⟨t, z, hexec, hcore, harch, hcores, hmem⟩ := State.next_of_abort (c := .tabort n w) h rfl
      (State.perform_tabort_inside htx) htx' ((u.trapArmed_withUcode n a).trans htrap)
    have htxstat (lo k : Nat) : (t.arch n).sf srTXSTAT lo k =
        bits (abortTxstat ((x.withUcode a).getS srTXSTAT) 0x01 0 true) lo k := by
      rw [State.arch, hcore, LCore.aborted_txstat, harch, State.arch_setArch_self]
    obtain ⟨hcode, hucode, hdepth⟩ := x.txstat_tabort a
    have hsaved (r : Nat) : (t.arch n).getG r = y.saved.getG r ∧ (t.arch n).getF r = y.saved.getF r := by
      rw [State.arch, hcore, LCore.aborted_getG, LCore.aborted_getF]
      exact ⟨rfl, rfl⟩
    exact ⟨t, hexec, congrArg LCore.tx hcore, congrArg (·.arch.pc) hcore, fun r => (hsaved r).1,
      fun r => (hsaved r).2, (htxstat 8 8).trans hcode, (htxstat 16 8).trans hucode, (htxstat 2 4).trans hdepth,
      fun m hm => (hcores m hm).trans (State.core_setCore_of_ne _ _ hm), hmem⟩

end Sys2Proof.Machine
end

section
/-!
PROOFS. What the two parts on the coherence protocol share: lines of main memory as they are written and read back, the
states that differ in the home alone, and the reception of a message that the module's agents answer.
-/

namespace Sys2Proof.Machine

/-! ## Lines of main memory (R219) -/

section
variable (s : State)

theorem length_leBytes (k n : Nat) : (leBytes k n).length = k := by
  induction k generalizing n with
  | zero => rfl
  | succ k ih => rw [leBytes, List.length_cons, ih]

theorem length_maskMerge (old new : List Byte) (mask : Nat) : (maskMerge old new mask).length = old.length := by
  induction old, new, mask using maskMerge.induct with
  | case1 o os n ns m ih => rw [maskMerge, List.length_cons, List.length_cons, ih]
  | case2 os _ _ => rw [maskMerge]; assumption

theorem State.length_readBytes (a k : Nat) : (s.readBytes a k).length = k := by
  induction k generalizing a with
  | zero => rfl
  | succ k ih => rw [State.readBytes, List.length_cons, ih]

theorem State.length_memLine (line : Nat) : (s.memLine line).length = 128 := s.length_readBytes _ _

/-- A write of bytes changes nothing but main memory. -/
theorem State.writeBytes_eq (a : Nat) (bs : List Byte) : s.writeBytes a bs = { s with mem := (s.writeBytes a bs).mem } := by
  induction bs generalizing s a with
  | nil => rfl
  | cons b rest ih => exact ih (s.setByte a b) (a + 1)

theorem State.readBytes_writeBytes (a : Nat) (bs : List Byte) : (s.writeBytes a bs).readBytes a bs.length = bs := by
  induction bs generalizing s a with
  | nil => rfl
  | cons b rest ih =>
    have hfirst : ((s.setByte a b).writeBytes (a + 1) rest).byte a = b := by
      rw [State.byte_writeBytes_of_outside _ _ _ _ (by omega), State.byte_setByte_self]
    rw [List.length_cons, State.readBytes, State.writeBytes, hfirst, ih]

/-- A line written is read back. -/
theorem State.memLine_writeBytes (line : Nat) {bs : List Byte} (h : bs.length = 128) :
    (s.writeBytes (lineAddr line) bs).memLine line = bs := by
  have hread := s.readBytes_writeBytes (lineAddr line) bs
  rwa [h] at hread

theorem lineAddr_div (line : Nat) : lineAddr line / 128 = line % 2 ^ 37 := Nat.mul_div_cancel _ (by decide)

/-- A CAS that does not leave its line leaves a line. -/
theorem length_casApply {old : List Byte} {c : Nat × Nat × Nat × Nat} (hold : old.length = 128) (hc : c.1 + c.2.1 ≤ 128) :
    (casApply old c).length = 128 := by
  unfold casApply
  dsimp only
  split
  · simp only [patchList, List.length_append, List.length_take, List.length_drop, length_leBytes, hold]
    omega
  · exact hold

end

/-! ## States that differ in the home alone -/

/-- From `s` to `t` nothing but the home changed. -/
def State.onlyHome (s t : State) : Prop := t = { s with home := t.home }

section
variable {s t u : State}

theorem State.onlyHome_refl (s : State) : s.onlyHome s := rfl

theorem State.onlyHome_trans (h : s.onlyHome t) (k : t.onlyHome u) : s.onlyHome u := by
  rw [State.onlyHome, k, h]

theorem State.onlyHome_setDir (s : State) (line : Nat) (e : DirEntry) : s.onlyHome (s.setDir line e) := by
  unfold State.setDir
  split <;> rfl

end

/-! ## Reception -/

/-- The state in which a message has been accepted (R239). -/
def State.accept (s : State) (m : Msg) : State :=
  { s with accepted := (m.cls, m.code, m.src, m.agent, m.txn) ::
      s.accepted.filter (fun k => k != (m.cls, m.code, m.src, m.agent, m.txn)) }

section
variable {s u : State} {m a : Msg} {as : List Msg} {f : Nat}

/-- Where a message leaves the module depends on its registers alone. -/
theorem State.portFor_congr (h : u.regs = s.regs) (dest : Nat) : u.portFor dest = s.portFor dest := by
  have hread : u.portFor dest = { s with regs := u.regs }.portFor dest := rfl
  rw [hread, h]

theorem State.moduleId_congr (h : u.regs = s.regs) : u.moduleId = s.moduleId := by
  have hread : u.moduleId = { s with regs := u.regs }.moduleId := rfl
  rw [hread, h]

theorem State.portFor_enqueue (dest : Nat) : (s.enqueue m).portFor dest = s.portFor dest := by
  obtain ⟨p, hp⟩ := s.enqueue_fports m
  rw [hp]
  rfl

/-- A message that reaches an agent of the module, which answers other modules, acts and its answers are sent. -/
theorem State.receive_sends (hnew : m.reissue = false) (hdest : m.dest = s.moduleId)
    (hacts : (s.accept m).handle m = (u, as)) (hregs : u.regs = s.regs) (haway : ∀ a ∈ as, a.dest ≠ s.moduleId)
    (hfew : as.length ≤ 3) : s.receive m = as.foldl State.enqueue u := by
  have hreceive : s.receive m = (s.accept m).deliver [m] := if_neg (by simp [hnew])
  rw [hreceive, State.deliver_one (s.accept m) m hdest] <;> rw [hacts]
  · exact State.moduleId_congr hregs
  · exact haway
  · exact hfew.trans (by decide)

/-- What stands in a replay buffer stays there while several messages are sent. -/
theorem State.mem_replay_foldl_enqueue {x : Nat × Msg} (h : x ∈ (s.fport f).replay) (as : List Msg) :
    x ∈ ((as.foldl State.enqueue s).fport f).replay :=
  List.foldlRecOn as State.enqueue (motive := fun t => x ∈ (t.fport f).replay) h
    fun t ht a _ => t.mem_replay_enqueue a f ht

/-- Each of several messages sent waits in the replay buffer of its port. -/
theorem State.sent_foldl_enqueue (ha : a ∈ as) (hport : s.portFor a.dest = some f) :
    ∃ q, (q, a) ∈ ((as.foldl State.enqueue s).fport f).replay := by
  induction as generalizing s with
  | nil => simp at ha
  | cons b rest ih =>
    rcases List.mem_cons.1 ha with rfl | hrest
    · refine ⟨(s.fport f).nextSeq, State.mem_replay_foldl_enqueue ?_ rest⟩
      rw [State.enqueue_replay s a f hport]
      exact List.mem_append_right _ List.mem_cons_self
    · exact ih hrest ((State.portFor_enqueue a.dest).trans hport)

/-- One message sent after work that touched no port. -/
theorem State.sent_enqueue (hregs : u.regs = s.regs) (hports : u.fports = s.fports) (hport : s.portFor a.dest = some f) :
    s.sent (u.enqueue a) f a := by
  have hfport : u.fport f = s.fport f := by rw [State.fport, State.fport, hports]
  rw [State.sent, State.enqueue_replay u a f ((State.portFor_congr hregs _).trans hport), hfport]

/-- A message whose one answer goes to another module: beside what its agent does, the answer is sent. -/
theorem State.receive_sends_one (hnew : m.reissue = false) (hdest : m.dest = s.moduleId)
    (hacts : (s.accept m).handle m = (u, [a])) (hregs : u.regs = s.regs) (hports : u.fports = s.fports)
    (haway : a.dest ≠ s.moduleId) (hport : s.portFor a.dest = some f) :
    ∃ p, s.receive m = { u with fports := p } ∧ s.sent (s.receive m) f a := by
  have hreceive : s.receive m = u.enqueue a :=
    State.receive_sends hnew hdest hacts hregs (by simpa using haway) (Nat.le_of_ble_eq_true rfl)
  obtain ⟨p, hp⟩ := u.enqueue_fports a
  exact ⟨p, hreceive.trans hp, hreceive ▸ State.sent_enqueue hregs hports hport⟩

end

end Sys2Proof.Machine
end

section
/-!
PROOFS. The home's answers to requests of another member (R226 to R229): the state in which Table 10.6 finds a request that
nothing makes wait, the row of the table for a line that no agent holds and for one that a member owns, and what is left when
the row has been followed.
-/

namespace Sys2Proof.Machine

/-! ## The directory (R225) -/

section
variable {s t : State} {m : Msg} {line : Nat} {e : DirEntry}

theorem State.dirEntry_setDir (h : ¬(e.st = 0 ∧ e.resv = none)) :
    (s.setDir line e).dirEntry line = some { e with used := s.home.uses } := by
  rw [State.setDir, if_neg h]
  exact SMap.find?_put_self _ _ _

theorem State.setDir_busy : (s.setDir line e).home.busy = s.home.busy := by
  unfold State.setDir
  split <;> rfl

theorem State.setDir_marks : (s.setDir line e).home.marks = s.home.marks := by
  unfold State.setDir
  split <;> rfl

/-- The entry of a line that a member owns, with what it holds of a reservation. -/
theorem State.dirEntry_dirOwned (h : s.fromMember m = true) :
    (s.dirOwned m).dirEntry m.line = some {
      st := 3, who := memberOf m.src, sharers := 2 ^ memberOf m.src,
      resv := (s.dirEntry m.line).bind (·.resv), used := s.home.uses } := by
  rw [State.dirOwned, if_pos h]
  exact State.dirEntry_setDir (by simp)

theorem State.onlyHome_dirOwned : s.onlyHome (s.dirOwned m) := by
  unfold State.dirOwned
  split <;> exact State.onlyHome_setDir ..

theorem State.dirOwned_busy : (s.dirOwned m).home.busy = s.home.busy := by
  unfold State.dirOwned
  split <;> exact State.setDir_busy

theorem State.dirOwned_marks : (s.dirOwned m).home.marks = s.home.marks := by
  unfold State.dirOwned
  split <;> exact State.setDir_marks

theorem State.dirEntry_dirForwarder (h : s.fromMember m = true) (he : s.dirEntry m.line = some e) :
    (s.dirForwarder m).dirEntry m.line = some { e with
      st := 2, who := memberOf m.src, sharers := e.sharers ||| 2 ^ memberOf m.src, used := s.home.uses } := by
  rw [State.dirForwarder, if_pos h, he]
  exact State.dirEntry_setDir (by simp)

theorem State.onlyHome_dirForwarder : s.onlyHome (s.dirForwarder m) := by
  unfold State.dirForwarder
  split <;> exact State.onlyHome_setDir ..

theorem State.dirForwarder_busy : (s.dirForwarder m).home.busy = s.home.busy := by
  unfold State.dirForwarder
  split <;> exact State.setDir_busy

/-! ## The home's view of a line (R226) -/

theorem State.view_unheld (hentry : ∀ e, s.dirEntry line = some e → e.st = 0) (htile : s.holderTile line = none) :
    s.view line = .u := by
  have hst : ((s.dirEntry line).getD { st := 0, who := 0, sharers := 0, resv := none, used := 0 }).st = 0 := by
    cases he : s.dirEntry line with
    | none => rfl
    | some e => exact hentry e he
  simp [State.view, hst, htile]

theorem State.view_owned (hentry : s.dirEntry line = some e) (hst : e.st = 3) : s.view line = .o (.member e.who) := by
  simp [State.view, hentry, hst]

/-! ## The line's busy time and its reservation (R226, R229) -/

theorem State.lineBusy_congr (h : t.home.busy = s.home.busy) : t.lineBusy line = s.lineBusy line := by
  rw [State.lineBusy, State.lineBusy, h]

theorem State.onlyHome_setBusy (s : State) (m : Msg) (due : Nat) : s.onlyHome (s.setBusy m due) := rfl

theorem State.lineBusy_setBusy (due : Nat) (h : s.lineBusy m.line = none) :
    (s.setBusy m due).lineBusy m.line = some { line := m.line, req := m, due := due } := by
  rw [State.lineBusy] at h
  simp [State.lineBusy, State.setBusy, List.find?_append, h]

/-- A request that the line is busy with ends a conflicting reservation later: it stays the line's request. -/
theorem State.grantedAt_busy {b : BusyLine} (h : s.lineBusy m.line = some b) :
    s.onlyHome (s.grantedAt m) ∧ (s.grantedAt m).home.dir = s.home.dir ∧
      (s.grantedAt m).lineBusy m.line = some { b with conflict := true } := by
  have hline : b.line = m.line := by simpa using List.find?_some h
  rw [State.grantedAt, h]
  refine ⟨rfl, rfl, ?_⟩
  rw [State.lineBusy] at h ⊢
  have hkeep : ((fun x : BusyLine => x.line == m.line) ∘
      fun x : BusyLine => if x.line = m.line then { x with conflict := true } else x) = fun x => x.line == m.line := by
    funext x
    by_cases hx : x.line = m.line <;> simp [hx]
  rw [List.find?_map, hkeep, h]
  simp [hline]

/-- The line is not busy, and a reservation of it is the requester's own. -/
structure State.FreeFor (s : State) (m : Msg) : Prop where
  idle : s.lineBusy m.line = none
  resv : ∀ e, s.dirEntry m.line = some e → e.resv = none ∨ e.resv = some (markCore m.src m.txn)

/-- A conflicting request ends no reservation but another core's. -/
theorem State.FreeFor.grantedAt (h : s.FreeFor m) (hagent : m.agent < 4) : s.grantedAt m = s := by
  rw [State.grantedAt, h.idle]
  show s.endReservation m = s
  unfold State.endReservation
  split
  · rename_i e he
    exact if_pos ((h.resv e he).imp_right fun hown => ⟨hagent, hown⟩)
  · rfl

end

/-! ## A request that nothing makes wait (R226, R228, R229) -/

/-- The state in which Table 10.6 finds a request: its mark and its reservation are entered. -/
def State.admitted (s : State) (m : Msg) : State := (s.addMark m).reserve m

section
variable {s : State} {m : Msg} {f : Nat} {e : DirEntry}

theorem State.onlyHome_addMark (s : State) (m : Msg) : s.onlyHome (s.addMark m) := by
  unfold State.addMark
  split <;> rfl

theorem State.addMark_dir (s : State) (m : Msg) : (s.addMark m).home.dir = s.home.dir := by
  unfold State.addMark
  split <;> rfl

theorem State.addMark_busy (s : State) (m : Msg) : (s.addMark m).home.busy = s.home.busy := by
  unfold State.addMark
  split <;> rfl

theorem State.onlyHome_admitted (s : State) (m : Msg) : s.onlyHome (s.admitted m) := by
  refine State.onlyHome_trans (s.onlyHome_addMark m) ?_
  unfold State.admitted State.reserve
  split
  · exact State.onlyHome_setDir ..
  · rfl

theorem State.admitted_busy : (s.admitted m).home.busy = s.home.busy := by
  refine Eq.trans ?_ (s.addMark_busy m)
  unfold State.admitted State.reserve
  split
  · exact State.setDir_busy
  · rfl

/-- A transactional request of another member leaves its mark (R228). -/
theorem State.admitted_marks (htx : m.tx = true) (hmember : s.fromMember m = true) :
    ∃ k ∈ (s.admitted m).home.marks, k.line = m.line ∧ k.core = markCore m.src m.txn ∧
      k.epoch = SMap.get 0 s.home.epochs k.core := by
  have hmarks : (s.admitted m).home.marks = (s.addMark m).home.marks := by
    unfold State.admitted State.reserve
    split
    · exact State.setDir_marks
    · rfl
  refine ⟨{ line := m.line, core := markCore m.src m.txn, epoch := SMap.get 0 s.home.epochs (markCore m.src m.txn) },
    ?_, rfl, rfl, rfl⟩
  rw [hmarks, State.addMark, if_pos ⟨htx, hmember⟩]
  exact List.mem_append_right _ List.mem_cons_self

theorem State.admitted_dir (hesc : m.esc = false) : (s.admitted m).home.dir = s.home.dir := by
  rw [State.admitted, State.reserve, if_neg (by simp [hesc])]
  exact s.addMark_dir m

/-- The entry of a line that had none: a reservation, where the request was escalated (R229). -/
theorem State.dirEntry_admitted (h : s.dirEntry m.line = none) : (s.admitted m).dirEntry m.line =
    if m.esc then some {
      st := 0, who := 0, sharers := 0, resv := some (markCore m.src m.txn), used := (s.addMark m).home.uses } else none := by
  have hmark : (s.addMark m).dirEntry m.line = none := by
    rw [State.dirEntry, s.addMark_dir m]
    exact h
  unfold State.admitted State.reserve
  split
  · rw [hmark]
    exact State.dirEntry_setDir (by simp)
  · exact hmark

/-- Where no agent holds the line, its view is U, and a reservation of it is the requester's own. -/
theorem State.admitted_unheld (hdir : s.dirEntry m.line = none) (htile : s.holderTile m.line = none) :
    (s.admitted m).view m.line = .u ∧
      ∀ e, (s.admitted m).dirEntry m.line = some e → e.resv = none ∨ e.resv = some (markCore m.src m.txn) := by
  have hentry (e : DirEntry) (he : (s.admitted m).dirEntry m.line = some e) :
      e.st = 0 ∧ (e.resv = none ∨ e.resv = some (markCore m.src m.txn)) := by
    rw [State.dirEntry_admitted hdir] at he
    split at he
    · obtain rfl := Option.some.inj he
      exact ⟨rfl, .inr rfl⟩
    · exact absurd he nofun
  have htile' : (s.admitted m).holderTile m.line = none := by
    rw [s.onlyHome_admitted m]
    exact htile
  exact ⟨State.view_unheld (fun e he => (hentry e he).1) htile', fun e he => (hentry e he).2⟩

theorem State.fromMember_of_reaches (h : s.reaches m f) : s.fromMember m = true := by
  obtain ⟨-, -, -, -, -, hsrc, hdomain, hagent, -⟩ := h
  simp [State.fromMember, hsrc, hdomain, hagent]

theorem State.idle_of_reaches (h : s.reaches m f) : s.lineBusy m.line = none := by
  obtain ⟨-, -, -, -, -, -, -, -, -, -, -, -, -, hwaits, -⟩ := h
  simp only [State.lineWaits, Bool.or_eq_false_iff, Option.isSome_eq_false_iff, Option.isNone_iff_eq_none] at hwaits
  obtain ⟨⟨hidle, -⟩, -⟩ := hwaits
  exact hidle

theorem State.powered_of_reaches (h : s.reaches m f) : s.powered = true := by
  obtain ⟨hpow, -⟩ := h
  exact hpow

theorem State.dirRoom_of_room (h : (s.dirInSet m.line).length < 16) : s.dirRoom m = some (s, []) := by
  simp only [State.dirRoom, h, if_true, ite_self]

/-- Such a request is handled by Table 10.6, in the state in which its mark and its reservation are entered. -/
theorem State.homeRequest_of_reaches (h : s.reaches m f) : s.homeRequest m =
    (if (s.admitted m).conflicts m then ((s.admitted m).homeTable m).1.grantedAt m else ((s.admitted m).homeTable m).1,
      ((s.admitted m).homeTable m).2) := by
  obtain ⟨-, -, hrun, -, -, -, -, -, -, -, hgrant, hhome, husable, hwaits, hfull, hroom, -⟩ := h
  simp only [State.homeRequest, hrun, hgrant, not_true_eq_false, or_self, and_false, if_false, hhome, ne_eq,
    Nat.not_le.2 husable, hwaits, hfull, Bool.false_eq_true, State.dirRoom_of_room hroom, List.nil_append]
  rfl

/-- Where the row leaves the line free for the requester, nothing is added to what the row does. -/
theorem State.homeRequest_free {r : State × List Msg} (h : s.reaches m f) (htable : (s.admitted m).homeTable m = r)
    (hfree : r.1.FreeFor m) : s.homeRequest m = r := by
  have hagent : m.agent < 4 := by
    obtain ⟨-, -, -, -, -, -, -, hagent, -⟩ := h
    exact hagent
  rw [State.homeRequest_of_reaches h, htable, hfree.grantedAt hagent, ite_self]

/-- Where the row makes the line busy with a conflicting request, the line stays busy with it. -/
theorem State.homeRequest_busy {x : State} {due : Nat} {as : List Msg} (h : s.reaches m f)
    (htable : (s.admitted m).homeTable m = (x.setBusy m due, as)) (hconflict : (s.admitted m).conflicts m = true)
    (honly : s.onlyHome x) (hbusy : x.home.busy = s.home.busy) :
    ∃ u, s.homeRequest m = (u, as) ∧ s.onlyHome u ∧ u.home.dir = x.home.dir ∧
      ∃ b, u.lineBusy m.line = some b ∧ b.req = m := by
  have hidle : x.lineBusy m.line = none := (State.lineBusy_congr hbusy).trans (State.idle_of_reaches h)
  obtain ⟨hhome, hdir, hb⟩ := State.grantedAt_busy (State.lineBusy_setBusy due hidle)
  refine ⟨(x.setBusy m due).grantedAt m, ?_, ?_, hdir, _, hb, rfl⟩
  · rw [State.homeRequest_of_reaches h, htable, if_pos hconflict]
  · exact State.onlyHome_trans (State.onlyHome_trans honly (x.onlyHome_setBusy m due)) hhome

/-! ## The command of a request -/

theorem State.reqOk_of_reaches {h : Hdr} (hr : s.reaches m f) (hline : m.line = h.line.toNat)
    (hagent : m.agent = h.agent.toNat) : s.reqOk h = true ∧ h.agent.toNat < 4 := by
  obtain ⟨-, hup, -, -, -, -, -, hlow, -, -, -, hhome, -⟩ := hr
  rw [hagent] at hlow
  rw [hline] at hhome
  refine ⟨?_, hlow⟩
  simp only [State.reqOk, hup, hhome, BEq.rfl, Bool.and_self, Bool.true_and, Bool.and_eq_true, decide_eq_true_eq, bne_iff_ne]
  omega

/-- What the home answers with one message to another module is sent, beside what it does. -/
theorem State.reqCommand_sends {u : State} {a : Msg} {g : Nat} (h : s.reaches m f)
    (hanswer : (s.accept m).homeRequest m = (u, [a])) (hregs : u.regs = s.regs) (hports : u.fports = s.fports)
    (haway : a.dest ≠ s.moduleId) (hport : s.portFor a.dest = some g) :
    ∃ p, s.reqCommand m = { u with fports := p } ∧ s.sent (s.reqCommand m) g a := by
  obtain ⟨-, -, -, hcls, hdest, hsrc, -, -, hnew, -⟩ := h
  have hcommand : s.reqCommand m = s.receive m := by simp [State.reqCommand, State.fromTile, hsrc]
  have hacts : (s.accept m).handle m = (u, [a]) := (if_pos hcls).trans hanswer
  rw [hcommand]
  exact State.receive_sends_one hnew hdest hacts hregs hports haway hport

/-- Where the home alone acts, the command changes nothing else but the port that sends the answer. -/
theorem State.reqCommand_onlyHome {u : State} {a : Msg} {g : Nat} (h : s.reaches m f)
    (hanswer : (s.accept m).homeRequest m = (u, [a])) (honly : (s.accept m).onlyHome u)
    (haway : a.dest ≠ s.moduleId) (hport : s.portFor a.dest = some g) :
    let t := s.reqCommand m
    t.home = u.home ∧ t.mem = s.mem ∧ t.tiles = s.tiles ∧ t.cores = s.cores ∧ t.regs = s.regs ∧ s.sent t g a := by
  rw [State.onlyHome] at honly
  obtain ⟨p, ht, hsent⟩ := State.reqCommand_sends h hanswer (by rw [honly]; rfl) (by rw [honly]; rfl) haway hport
  refine ⟨?_, ?_, ?_, ?_, ?_, hsent⟩ <;> rw [ht, honly] <;> rfl

end

/-! ## Table 10.6: a line that no agent holds -/

section
variable {s : State} {m : Msg}

theorem State.ownsAlready_unheld (hv : s.view m.line = .u) : s.ownsAlready m = false := by
  simp only [State.ownsAlready, hv]

/-- RD_S, RD_O, UPG and OWN_Z make the requester the owner. -/
theorem State.homeTable_unheld_grant (hv : s.view m.line = .u) (hcode : m.code < 4) : s.homeTable m =
    (s.dirOwned m, [m.grantTo (if m.code = 3 then none else some (s.memLine m.line))
      (decide (m.code ≠ 3) && s.memPoisoned (lineAddr m.line)) .e 0]) := by
  have hcases : m.code = 0 ∨ m.code = 1 ∨ m.code = 2 ∨ m.code = 3 := by omega
  rcases hcases with hc | hc | hc | hc <;>
    simp [State.homeTable, State.ownsAlready_unheld hv, hv, hc, View.shared]

/-- RD_ONCE is answered with the line. -/
theorem State.homeTable_unheld_once (hv : s.view m.line = .u) (hcode : m.code = 4) :
    s.homeTable m = (s, [m.answerOnce (s.memLine m.line) (s.memPoisoned (lineAddr m.line))]) := by
  simp [State.homeTable, State.ownsAlready_unheld hv, hv, hcode]

/-- WR_LINE, WR_PART and CAS_NC are performed at once. -/
theorem State.homeTable_unheld_write (hv : s.view m.line = .u) (hcode : 5 ≤ m.code) : s.homeTable m = s.homePerform m := by
  have h0 : m.code ≠ 0 := by omega
  have h3 : m.code ≠ 3 := by omega
  have h4 : m.code ≠ 4 := by omega
  simp [State.homeTable, State.ownsAlready_unheld hv, h0, h3, h4, hcode, State.homeWrite, hv]

/-! ## Table 10.6: a line that another member owns -/

/-- The forward that a request for a line owned by member `k` causes. -/
def State.ownerForward (s : State) (m : Msg) (k : Nat) : Msg :=
  if m.code < 5 then m.forward (if m.code = 0 then 0 else if m.code = 4 then 2 else 1) (s.memberModule k) none 0
  else { m with src := s.moduleId, agent := 9 }.forward (if m.code = 5 then 4 else 5) (s.memberModule k) none 0

/-- RD_S: the owner sends the line and keeps a share of it, and the requester is the Forwarder. -/
theorem State.homeTable_owned_share {e : DirEntry} (hv : s.view m.line = .o (.member e.who)) (hesc : m.esc = false)
    (hcode : m.code = 0) : s.homeTable m =
      ((State.dirForwarder (s.setDir m.line {
          st := 1, who := 0, sharers := 2 ^ e.who, resv := (s.dirEntry m.line).bind (·.resv), used := 0 }) m).setBusy m 1,
        [s.ownerForward m e.who]) := by
  simp [State.ownerForward, State.homeTable, hesc, hv, hcode, State.forwardTo]

/-- RD_O and UPG: the owner gives the line up to the requester. -/
theorem State.homeTable_owned_take {k : Nat} (hv : s.view m.line = .o (.member k)) (hesc : m.esc = false)
    (hcode : m.code = 1 ∨ m.code = 2) :
    s.homeTable m = ((s.dirOwned m).setBusy m 0, [s.ownerForward m k]) := by
  rcases hcode with hc | hc <;> simp [State.ownerForward, State.homeTable, hesc, hv, hc, State.forwardTo, View.shared]

/-- RD_ONCE: the owner sends a copy. -/
theorem State.homeTable_owned_once {k : Nat} (hv : s.view m.line = .o (.member k)) (hesc : m.esc = false)
    (hcode : m.code = 4) : s.homeTable m = (s.setBusy m 1, [s.ownerForward m k]) := by
  simp [State.ownerForward, State.homeTable, hesc, hv, hcode, State.forwardTo]

/-- WR_LINE and WR_PART: the owner answers to the home, dropping the line or returning its data. -/
theorem State.homeTable_owned_write {k : Nat} (hv : s.view m.line = .o (.member k)) (hesc : m.esc = false)
    (hcode : m.code = 5 ∨ m.code = 6) : s.homeTable m = (s.setBusy m 1, [s.ownerForward m k]) := by
  rcases hcode with hc | hc <;> simp [State.ownerForward, State.homeTable, hesc, hv, hc, State.homeWrite, State.forwardTo]

/-- Every request but OWN_Z is forwarded to the owner, and the line is busy with it; what the directory then says. -/
theorem State.homeTable_owned {e : DirEntry} (he : s.dirEntry m.line = some e) (hst : e.st = 3) (hesc : m.esc = false)
    (hmember : s.fromMember m = true) (hcode : m.code < 7) (hown : m.code ≠ 3) :
    ∃ x due, s.homeTable m = (x.setBusy m due, [s.ownerForward m e.who]) ∧
      s.onlyHome x ∧ x.home.busy = s.home.busy ∧
      (m.code = 0 → ∃ y, x.dirEntry m.line = some y ∧ y.st = 2 ∧ y.who = memberOf m.src ∧
        y.sharers = 2 ^ e.who ||| 2 ^ memberOf m.src) ∧
      ((m.code = 1 ∨ m.code = 2) → ∃ y, x.dirEntry m.line = some y ∧ y.st = 3 ∧ y.who = memberOf m.src) ∧
      (4 ≤ m.code → x.home.dir = s.home.dir) := by
  have hv := State.view_owned he hst
  have hcases : m.code = 0 ∨ (m.code = 1 ∨ m.code = 2) ∨ m.code = 4 ∨ (m.code = 5 ∨ m.code = 6) := by omega
  rcases hcases with hc | hc | hc | hc
  case inl =>
    refine ⟨_, _, State.homeTable_owned_share hv hesc hc,
      State.onlyHome_trans (State.onlyHome_setDir ..) State.onlyHome_dirForwarder,
      State.dirForwarder_busy.trans State.setDir_busy, fun _ => ⟨_, State.dirEntry_dirForwarder ?_
        (State.dirEntry_setDir (by simp)), rfl, rfl, rfl⟩, by omega, by omega⟩
    rw [State.onlyHome_setDir s m.line _]
    exact hmember
  case inr.inl =>
    exact ⟨_, _, State.homeTable_owned_take hv hesc hc, State.onlyHome_dirOwned, State.dirOwned_busy,
      by omega, fun _ => ⟨_, State.dirEntry_dirOwned hmember, rfl, rfl⟩, by omega⟩
  case inr.inr.inl =>
    exact ⟨s, _, State.homeTable_owned_once hv hesc hc, rfl, rfl, by omega, by omega, fun _ => rfl⟩
  case inr.inr.inr =>
    exact ⟨s, _, State.homeTable_owned_write hv hesc hc, rfl, rfl, by omega, by omega, fun _ => rfl⟩

/-- A request for an owned line conflicts with what a reservation protects. -/
theorem State.conflicts_owned {h : Holder} (hv : s.view m.line = .o h) : s.conflicts m = true := by
  simp only [State.conflicts, hv, ite_self]

end


/-! ## Writes of a line (R227) -/

/-- From `s` to `t` nothing changed but main memory, of it nothing but one line, which then holds `bytes`, and poison. -/
structure State.WritesLine (s t : State) (line : Nat) (bytes : List Byte) : Prop where
  only : t = { s with mem := t.mem, poison := t.poison }
  holds : t.memLine line = bytes
  outside : ∀ a, a < lineAddr line ∨ lineAddr line + 128 ≤ a → t.byte a = s.byte a

section
variable {s t : State} {m : Msg} {line : Nat} {bytes : List Byte}

theorem State.WritesLine.refl (s : State) (line : Nat) : s.WritesLine s line (s.memLine line) :=
  ⟨rfl, rfl, fun _ _ => rfl⟩

theorem State.WritesLine.writeBytes (s : State) (line : Nat) (h : bytes.length = 128) :
    s.WritesLine (s.writeBytes (lineAddr line) bytes) line bytes where
  only := by
    rw [State.writeBytes_eq]
  holds := s.memLine_writeBytes line h
  outside a ha := s.byte_writeBytes_of_outside _ _ a (by rwa [h])

theorem State.WritesLine.setPoison (h : s.WritesLine t line bytes) (p : Bool) :
    s.WritesLine (t.setPoison line p) line bytes where
  only := by
    rw [h.only]
    rfl
  holds := h.holds
  outside := h.outside

theorem State.memPoisoned_congr (hpoison : t.poison = s.poison) (hregs : t.regs = s.regs) (a : Nat) :
    t.memPoisoned a = s.memPoisoned a := by
  have hread : t.memPoisoned a = { s with poison := t.poison, regs := t.regs }.memPoisoned a := rfl
  rw [hread, hpoison, hregs]

/-- A line that memory serves unpoisoned is of a group that is on line. -/
theorem State.online_of_not_poisoned {a : Nat} (h : s.memPoisoned a = false) : s.groupOffline (s.groupOf a) = false :=
  (Bool.or_eq_false_iff.1 h).2

/-- A line written with its poison is served with it. -/
theorem State.memPoisoned_setPoison (line : Nat) (p : Bool)
    (hon : s.groupOffline (s.groupOf (lineAddr line)) = false) : (s.setPoison line p).memPoisoned (lineAddr line) = p := by
  have hentry : SMap.get false (s.setPoison line p).poison (lineAddr line / 128) = p := by
    rw [lineAddr_div]
    exact SMap.get_set_self ..
  have hon' : (s.setPoison line p).groupOffline ((s.setPoison line p).groupOf (lineAddr line)) = false := hon
  rw [State.memPoisoned, hentry, hon', Bool.or_false]

theorem State.homePerform_wrLine (hcode : m.code = 5) (hdata : m.data.length = 128)
    (hon : s.groupOffline (s.groupOf (lineAddr m.line)) = false) :
    s.homePerform m = ((s.writeBytes (lineAddr m.line) m.data).setPoison m.line m.poison, [m.grantTo none false .i 0]) := by
  have hwhole : m.data.take 128 ++ List.replicate (128 - m.data.length) 0 = m.data := by
    rw [hdata, List.take_of_length_le hdata.le, Nat.sub_self, List.replicate_zero, List.append_nil]
  simp only [State.homePerform, hcode, if_true, hwhole, State.putMemLine, hon, Bool.false_eq_true, if_false]

theorem State.homePerform_wrPart (hcode : m.code = 6) (hon : s.groupOffline (s.groupOf (lineAddr m.line)) = false) :
    s.homePerform m = (s.writeBytes (lineAddr m.line) (maskMerge (s.memLine m.line) m.data m.mask),
      [m.grantTo none false .i 0]) := by
  simp [State.homePerform, hcode, State.patchMem, hon]

/-- A CAS_NC of an unpoisoned line answers the old line; with operands it leaves what the compare makes of it. -/
theorem State.homePerform_casNc (hcode : m.code = 7) (hgood : s.memPoisoned (lineAddr m.line) = false)
    (hin : ∀ c, m.cas = some c → c.1 + c.2.1 ≤ 128) :
    ∃ x, s.homePerform m = (x, [m.answerOnce (s.memLine m.line) false]) ∧
      s.WritesLine x m.line (m.cas.elim (s.memLine m.line) (casApply (s.memLine m.line))) := by
  cases hcas : m.cas with
  | none => exact ⟨s, by simp [State.homePerform, hcode, hcas, hgood], .refl s m.line⟩
  | some c =>
    refine ⟨_, ?_, .writeBytes s m.line (length_casApply (s.length_memLine m.line) (hin c hcas))⟩
    simp [State.homePerform, hcode, hcas, hgood, State.patchMem, State.online_of_not_poisoned hgood]

end

/-! ## A request for a line that no agent holds -/

section
variable {s : State} {m : Msg} {f : Nat}

theorem State.away_of_reaches (h : s.reaches m f) : m.src ≠ s.moduleId := by
  obtain ⟨-, -, -, -, -, haway, -⟩ := h
  exact haway

theorem State.port_of_reaches (h : s.reaches m f) : s.portFor m.src = some f := by
  obtain ⟨-, -, -, -, -, -, -, -, -, hport, -⟩ := h
  exact hport

/-- An answer to the requester is sent by the port toward it; where the home alone acted, nothing else changed. -/
theorem State.reqCommand_answers {u : State} {a : Msg} (h : s.reaches m f)
    (hanswer : (s.accept m).homeRequest m = (u, [a])) (honly : (s.accept m).onlyHome u) (ha : a.dest = m.src) :
    let t := s.reqCommand m
    t.home = u.home ∧ t.mem = s.mem ∧ t.tiles = s.tiles ∧ t.cores = s.cores ∧ t.regs = s.regs ∧ s.sent t f a :=
  State.reqCommand_onlyHome h hanswer honly (ha ▸ State.away_of_reaches h) (ha ▸ State.port_of_reaches h)

theorem State.FreeFor.of_home {t u : State} (h : t.FreeFor m) (hhome : u.home = t.home) : u.FreeFor m where
  idle := (State.lineBusy_congr (congrArg Home.busy hhome)).trans h.idle
  resv e he := h.resv e (by rwa [State.dirEntry, ← hhome])

theorem State.admitted_free (h : s.reaches m f) (hdir : s.dirEntry m.line = none) : (s.admitted m).FreeFor m := by
  have hidle := State.idle_of_reaches h
  obtain ⟨-, -, -, -, -, -, -, -, -, -, -, -, -, -, -, -, htile⟩ := h
  exact ⟨(State.lineBusy_congr State.admitted_busy).trans hidle, (State.admitted_unheld hdir htile).2⟩

theorem State.admitted_view (h : s.reaches m f) (hdir : s.dirEntry m.line = none) : (s.admitted m).view m.line = .u := by
  obtain ⟨-, -, -, -, -, -, -, -, -, -, -, -, -, -, -, -, htile⟩ := h
  exact (State.admitted_unheld hdir htile).1

theorem State.memLine_admitted (line : Nat) : (s.admitted m).memLine line = s.memLine line := by
  rw [s.onlyHome_admitted m]
  rfl

theorem State.memPoisoned_admitted (a : Nat) : (s.admitted m).memPoisoned a = s.memPoisoned a := by
  rw [s.onlyHome_admitted m]
  rfl

theorem State.fromMember_admitted : (s.admitted m).fromMember m = s.fromMember m := by
  rw [s.onlyHome_admitted m]
  rfl

/-- The requester is entered as owner, its reservation kept (R229). -/
theorem State.ownedBy_dirOwned_admitted (hmember : s.fromMember m = true) (hdir : s.dirEntry m.line = none) :
    ((s.admitted m).dirOwned m).ownedBy m := by
  refine ⟨_, State.dirEntry_dirOwned (State.fromMember_admitted.trans hmember), rfl, rfl, rfl, ?_⟩
  rw [State.dirEntry_admitted hdir]
  split <;> rfl

theorem State.FreeFor.of_owned {t : State} (hidle : t.lineBusy m.line = none) (howned : t.ownedBy m) : t.FreeFor m := by
  refine ⟨hidle, fun e he => ?_⟩
  obtain ⟨e', he', -, -, -, hresv⟩ := howned
  obtain rfl : e' = e := Option.some.inj (he'.symm.trans he)
  rw [hresv]
  split
  · exact .inr rfl
  · exact .inl rfl

/-- The home grants the line to the requester. -/
theorem State.homeRequest_grants (h : s.reaches m f) (hdir : s.dirEntry m.line = none) (hcode : m.code < 4) :
    s.homeRequest m = ((s.admitted m).dirOwned m, [m.grantTo (if m.code = 3 then none else some (s.memLine m.line))
      (decide (m.code ≠ 3) && s.memPoisoned (lineAddr m.line)) .e 0]) := by
  have htable := State.homeTable_unheld_grant (State.admitted_view h hdir) hcode
  rw [State.memLine_admitted, State.memPoisoned_admitted] at htable
  have hidle : ((s.admitted m).dirOwned m).lineBusy m.line = none :=
    (State.lineBusy_congr State.dirOwned_busy).trans (State.admitted_free h hdir).idle
  have howned := State.ownedBy_dirOwned_admitted (State.fromMember_of_reaches h) hdir
  exact State.homeRequest_free h htable (.of_owned hidle howned)

/-- RD_S, RD_O, UPG and OWN_Z of a line that no agent holds: the requester is entered as owner and sent its grant. -/
theorem State.reqCommand_grants (h : s.reaches m f) (hdir : s.dirEntry m.line = none) (hcode : m.code < 4) :
    let t := s.reqCommand m
    t.ownedBy m ∧ t.mem = s.mem ∧ t.tiles = s.tiles ∧ t.cores = s.cores ∧ t.regs = s.regs ∧
      s.sent t f (m.grantTo (if m.code = 3 then none else some (s.memLine m.line))
        (decide (m.code ≠ 3) && s.memPoisoned (lineAddr m.line)) .e 0) ∧
      (m.tx = true → ∃ k ∈ t.home.marks, k.line = m.line ∧ k.core = markCore m.src m.txn ∧
        k.epoch = SMap.get 0 s.home.epochs k.core) := by
  have h' : (s.accept m).reaches m f := h
  have hmember := State.fromMember_of_reaches h'
  obtain ⟨hhome, hmem, htiles, hcores, hregs, hsent⟩ := State.reqCommand_answers h (State.homeRequest_grants h' hdir hcode)
    (State.onlyHome_trans (State.onlyHome_admitted _ m) State.onlyHome_dirOwned) (by split <;> rfl)
  refine ⟨?_, hmem, htiles, hcores, hregs, hsent, fun htx => ?_⟩
  · have howned := State.ownedBy_dirOwned_admitted hmember hdir
    rwa [State.ownedBy, State.dirEntry, ← hhome] at howned
  · rw [hhome, State.dirOwned_marks]
    exact State.admitted_marks htx hmember

/-- RD_ONCE of a line that no agent holds: the line is sent. -/
theorem State.reqCommand_once (h : s.reaches m f) (hdir : s.dirEntry m.line = none) (hcode : m.code = 4) :
    let t := s.reqCommand m
    t.mem = s.mem ∧ t.tiles = s.tiles ∧ t.cores = s.cores ∧ t.regs = s.regs ∧
      (m.esc = false → t.home.dir = s.home.dir) ∧
      s.sent t f (m.answerOnce (s.memLine m.line) (s.memPoisoned (lineAddr m.line))) := by
  have h' : (s.accept m).reaches m f := h
  have htable := State.homeTable_unheld_once (State.admitted_view h' hdir) hcode
  rw [State.memLine_admitted, State.memPoisoned_admitted] at htable
  obtain ⟨hhome, hmem, htiles, hcores, hregs, hsent⟩ := State.reqCommand_answers h
    (State.homeRequest_free h' htable (State.admitted_free h' hdir)) (State.onlyHome_admitted _ m) rfl
  exact ⟨hmem, htiles, hcores, hregs, fun hesc => (congrArg Home.dir hhome).trans (State.admitted_dir hesc), hsent⟩

/-- WR_LINE, WR_PART and CAS_NC of a line that no agent holds: what the home performs of the line stands in memory, and its
answer is sent. -/
theorem State.reqCommand_writes {x : State} {a : Msg} {bytes : List Byte} (h : s.reaches m f)
    (hdir : s.dirEntry m.line = none) (hcode : 5 ≤ m.code)
    (hperform : ((s.accept m).admitted m).homePerform m = (x, [a])) (ha : a.dest = m.src)
    (hwrites : ((s.accept m).admitted m).WritesLine x m.line bytes) :
    let t := s.reqCommand m
    t.memLine m.line = bytes ∧ t.poison = x.poison ∧
      (∀ b, b < lineAddr m.line ∨ lineAddr m.line + 128 ≤ b → t.byte b = s.byte b) ∧
      (m.esc = false → t.home.dir = s.home.dir) ∧ t.tiles = s.tiles ∧ t.cores = s.cores ∧ t.regs = s.regs ∧
      s.sent t f a := by
  have h' : (s.accept m).reaches m f := h
  have htable := (State.homeTable_unheld_write (State.admitted_view h' hdir) hcode).trans hperform
  have hhome : x.home = ((s.accept m).admitted m).home := by rw [hwrites.only]
  have hanswer := State.homeRequest_free h' htable ((State.admitted_free h' hdir).of_home hhome)
  have honly := State.onlyHome_admitted (s.accept m) m
  obtain ⟨p, ht, hsent⟩ := State.reqCommand_sends h hanswer (by rw [hwrites.only, honly]; rfl)
    (by rw [hwrites.only, honly]; rfl) (ha ▸ State.away_of_reaches h) (ha ▸ State.port_of_reaches h)
  have hbyte : ((s.accept m).admitted m).byte = s.byte := by
    rw [honly]
    rfl
  refine ⟨?_, ?_, fun b hb => ?_, fun hesc => ?_, ?_, ?_, ?_, hsent⟩ <;> rw [ht]
  · exact hwrites.holds
  · exact (hwrites.outside b hb).trans (congrFun hbyte b)
  · exact (congrArg Home.dir hhome).trans (State.admitted_dir hesc)
  all_goals
    rw [hwrites.only, honly]
    rfl

end


section
variable {s : State} {m : Msg} {f : Nat}

theorem State.online_admitted {line : Nat} (hon : s.groupOffline (s.groupOf (lineAddr line)) = false) :
    (s.admitted m).groupOffline ((s.admitted m).groupOf (lineAddr line)) = false := by
  rw [s.onlyHome_admitted m]
  exact hon

theorem State.online_writeBytes {a b : Nat} {bs : List Byte} (hon : s.groupOffline (s.groupOf b) = false) :
    (s.writeBytes a bs).groupOffline ((s.writeBytes a bs).groupOf b) = false := by
  rw [State.writeBytes_eq]
  exact hon

/-- WR_LINE of a line that no agent holds: the line is written with its poison. -/
theorem State.reqCommand_wrLine (h : s.reaches m f) (hdir : s.dirEntry m.line = none) (hcode : m.code = 5)
    (hdata : m.data.length = 128) (hon : s.groupOffline (s.groupOf (lineAddr m.line)) = false) :
    let t := s.reqCommand m
    t.memLine m.line = m.data ∧ t.memPoisoned (lineAddr m.line) = m.poison ∧
      (∀ a, a < lineAddr m.line ∨ lineAddr m.line + 128 ≤ a → t.byte a = s.byte a) ∧
      (m.esc = false → t.home.dir = s.home.dir) ∧ t.tiles = s.tiles ∧ t.cores = s.cores ∧ t.regs = s.regs ∧
      s.sent t f (m.grantTo none false .i 0) := by
  have hon' : ((s.accept m).admitted m).groupOffline (((s.accept m).admitted m).groupOf (lineAddr m.line)) = false :=
    State.online_admitted hon
  have hwrites := (State.WritesLine.writeBytes ((s.accept m).admitted m) m.line hdata).setPoison m.poison
  obtain ⟨hline, hpoison, houtside, hdir', htiles, hcores, hregs, hsent⟩ :=
    State.reqCommand_writes h hdir hcode.ge (State.homePerform_wrLine hcode hdata hon') rfl hwrites
  have hserved := State.memPoisoned_setPoison m.line m.poison
    (State.online_writeBytes (a := lineAddr m.line) (bs := m.data) hon')
  refine ⟨hline, (State.memPoisoned_congr hpoison (hregs.trans ?_) _).trans hserved, houtside, hdir', htiles, hcores,
    hregs, hsent⟩
  rw [hwrites.only, State.onlyHome_admitted (s.accept m) m]
  rfl

/-- WR_PART of a line that no agent holds: the bytes that the mask selects are written, and poison stays (R487). -/
theorem State.reqCommand_wrPart (h : s.reaches m f) (hdir : s.dirEntry m.line = none) (hcode : m.code = 6)
    (hon : s.groupOffline (s.groupOf (lineAddr m.line)) = false) :
    let t := s.reqCommand m
    t.memLine m.line = maskMerge (s.memLine m.line) m.data m.mask ∧
      t.memPoisoned (lineAddr m.line) = s.memPoisoned (lineAddr m.line) ∧
      (∀ a, a < lineAddr m.line ∨ lineAddr m.line + 128 ≤ a → t.byte a = s.byte a) ∧
      (m.esc = false → t.home.dir = s.home.dir) ∧ t.tiles = s.tiles ∧ t.cores = s.cores ∧ t.regs = s.regs ∧
      s.sent t f (m.grantTo none false .i 0) := by
  have hperform := State.homePerform_wrPart (s := (s.accept m).admitted m) hcode (State.online_admitted hon)
  rw [State.memLine_admitted] at hperform
  obtain ⟨hline, hpoison, houtside, hdir', htiles, hcores, hregs, hsent⟩ :=
    State.reqCommand_writes h hdir (by omega) hperform rfl
      (.writeBytes _ m.line ((length_maskMerge _ _ _).trans (s.length_memLine m.line)))
  refine ⟨hline, State.memPoisoned_congr (hpoison.trans ?_) hregs _, houtside, hdir', htiles, hcores, hregs, hsent⟩
  rw [State.writeBytes_eq, State.onlyHome_admitted (s.accept m) m]
  rfl

/-- CAS_NC of a line that no agent holds: the old line is sent, and the line holds what the compare makes of it. -/
theorem State.reqCommand_casNc (h : s.reaches m f) (hdir : s.dirEntry m.line = none) (hcode : m.code = 7)
    (hgood : s.memPoisoned (lineAddr m.line) = false) (hin : ∀ c, m.cas = some c → c.1 + c.2.1 ≤ 128) :
    let t := s.reqCommand m
    s.sent t f (m.answerOnce (s.memLine m.line) false) ∧
      t.memLine m.line = m.cas.elim (s.memLine m.line) (casApply (s.memLine m.line)) ∧
      (∀ a, a < lineAddr m.line ∨ lineAddr m.line + 128 ≤ a → t.byte a = s.byte a) ∧
      (m.esc = false → t.home.dir = s.home.dir) ∧ t.tiles = s.tiles ∧ t.cores = s.cores ∧ t.regs = s.regs := by
  have hgood' : ((s.accept m).admitted m).memPoisoned (lineAddr m.line) = false :=
    (State.memPoisoned_admitted _).trans hgood
  obtain ⟨x, hperform, hwrites⟩ := State.homePerform_casNc hcode hgood' hin
  rw [State.memLine_admitted] at hperform hwrites
  obtain ⟨hline, -, houtside, hdir', htiles, hcores, hregs, hsent⟩ :=
    State.reqCommand_writes h hdir (by omega) hperform rfl hwrites
  exact ⟨hsent, hline, houtside, hdir', htiles, hcores, hregs⟩

end

/-! ## A request for a line that another member owns -/

section
variable {s : State} {m : Msg} {f g : Nat} {e : DirEntry}

/-- A request for an owned line is forwarded to the owner, and the line is busy with it. -/
theorem State.reqCommand_owned (h : s.reaches m f) (he : s.dirEntry m.line = some e) (hst : e.st = 3)
    (hesc : m.esc = false) (hcode : m.code < 7) (hown : m.code ≠ 3) (hport : s.portFor (s.memberModule e.who) = some g)
    (haway : s.memberModule e.who ≠ s.moduleId) :
    let t := s.reqCommand m
    t.mem = s.mem ∧ t.tiles = s.tiles ∧ t.cores = s.cores ∧ t.regs = s.regs ∧
      (∃ b, t.lineBusy m.line = some b ∧ b.req = m) ∧ s.sent t g (s.ownerForward m e.who) ∧
      (m.code = 0 → ∃ x, t.dirEntry m.line = some x ∧ x.st = 2 ∧ x.who = memberOf m.src ∧
        x.sharers = 2 ^ e.who ||| 2 ^ memberOf m.src) ∧
      ((m.code = 1 ∨ m.code = 2) → ∃ x, t.dirEntry m.line = some x ∧ x.st = 3 ∧ x.who = memberOf m.src) ∧
      (4 ≤ m.code → t.home.dir = s.home.dir) := by
  have h' : (s.accept m).reaches m f := h
  have honly := State.onlyHome_admitted (s.accept m) m
  have hdir : ((s.accept m).admitted m).home.dir = s.home.dir := State.admitted_dir hesc
  have he' : ((s.accept m).admitted m).dirEntry m.line = some e := by rwa [State.dirEntry, hdir]
  have hmember : ((s.accept m).admitted m).fromMember m = true :=
    State.fromMember_admitted.trans (State.fromMember_of_reaches h')
  obtain ⟨x, due, htable, hx, hbusy, hshare, htake, hkeep⟩ := State.homeTable_owned he' hst hesc hmember hcode hown
  have hforward : ((s.accept m).admitted m).ownerForward m e.who = s.ownerForward m e.who := by
    rw [honly]
    rfl
  rw [hforward] at htable
  obtain ⟨u, hanswer, hu, hudir, b, hb, hreq⟩ := State.homeRequest_busy h' htable
    (State.conflicts_owned (State.view_owned he' hst)) (State.onlyHome_trans honly hx) (hbusy.trans State.admitted_busy)
  have hdest : (s.ownerForward m e.who).dest = s.memberModule e.who := by
    unfold State.ownerForward
    split <;> rfl
  obtain ⟨hhome, hmem, htiles, hcores, hregs, hsent⟩ :=
    State.reqCommand_onlyHome h hanswer hu (hdest ▸ haway) (hdest ▸ hport)
  have hentry : (s.reqCommand m).dirEntry m.line = x.dirEntry m.line := by
    rw [State.dirEntry, hhome, hudir]
    rfl
  refine ⟨hmem, htiles, hcores, hregs, ⟨b, ?_, hreq⟩, hsent, ?_, ?_, fun hc => ?_⟩
  · exact (State.lineBusy_congr (congrArg Home.busy hhome)).trans hb
  · rwa [hentry]
  · rwa [hentry]
  · rw [hhome, hudir, hkeep hc, hdir]

end

/-! ## The obligation -/

/-- A request's command answers the next state. -/
theorem exec_request {s : State} {m : Msg} {f : Nat} {c : Instr} {name : String} {ok : Bool} (hr : s.reaches m f)
    (hc : exec c s = event name ok s (s.reqCommand m)) (hok : ok = true) : exec c s = .next (s.reqCommand m) :=
  hc.trans (event_next _ _ (State.powered_of_reaches hr) hok)

/-- An operand at a multiple of its size does not leave the line. -/
theorem casOperand_within (off : Fin 128) (size : Fin 5) (h : off.val % 2 ^ size.val = 0) :
    off.val + 2 ^ size.val ≤ 128 := by
  have hoff : 2 ^ size.val ∣ off.val := Nat.dvd_of_mod_eq_zero h
  have hline : 2 ^ size.val ∣ 2 ^ 7 := Nat.pow_dvd_pow 2 (by omega)
  have hleft := Nat.le_of_dvd (by omega) (Nat.dvd_sub hline hoff)
  omega

/-- Settles O28, by the request and by the home's view of its line. -/
theorem requestsAreServed : Obligations.RequestsAreServed := by
  refine ⟨⟨?grant, ?once, ?write, ?cas⟩, ?owned⟩
  case grant =>
    intro h f s code hcode hr hdir m
    obtain ⟨hreq, hagent⟩ := State.reqOk_of_reaches hr rfl rfl
    have hok : (s.reqOk h && decide (h.agent.toNat < 4)) = true := by simp [hreq, hagent]
    refine ⟨s.reqCommand m, ?_, ?_, ?_, ?_, State.reqCommand_grants hr hdir hcode⟩ <;> rintro rfl <;>
      exact exec_request hr rfl hok
  case once =>
    intro h f s hr hdir m
    obtain ⟨hreq, -⟩ := State.reqOk_of_reaches hr rfl rfl
    exact ⟨_, exec_request hr rfl hreq, State.reqCommand_once hr hdir rfl⟩
  case write =>
    intro h f data mask s hline hpart hdir hon
    obtain ⟨hreq, -⟩ := State.reqOk_of_reaches hline rfl rfl
    have hline' : s.reaches { hdrMsg h 0 5 s.moduleId with data := leBytes 128 data.toNat } f := hline
    have hpart' : s.reaches { hdrMsg h 0 6 s.moduleId with data := leBytes 128 data.toNat, mask := mask.toNat } f := hpart
    exact ⟨⟨_, exec_request hline' rfl hreq, State.reqCommand_wrLine hline' hdir rfl (length_leBytes ..) hon⟩,
      ⟨_, exec_request hpart' rfl hreq, State.reqCommand_wrPart hpart' hdir rfl hon⟩⟩
  case cas =>
    intro h f off size ops s m hr hdir hgood halign
    obtain ⟨hreq, -⟩ := State.reqOk_of_reaches hr rfl rfl
    have hin : ∀ c, m.cas = some c → c.1 + c.2.1 ≤ 128 := by
      intro c hc
      obtain ⟨x, -, rfl⟩ := Option.map_eq_some_iff.1 hc
      exact casOperand_within off size halign
    obtain ⟨hsent, hline, hrest⟩ := State.reqCommand_casNc hr hdir rfl hgood hin
    refine ⟨_, exec_request hr rfl (by simp [hreq, halign]), hsent, hline.trans ?_, hrest⟩
    cases m.cas <;> rfl
  case owned =>
    intro h f g k data mask s e code hcode hown hr he hst hwho hk hne hesc hport haway m
    have hr' : s.reaches m f := hr
    subst hwho
    obtain ⟨hreq, hagent⟩ := State.reqOk_of_reaches hr rfl rfl
    have hok : (s.reqOk h && decide (h.agent.toNat < 4)) = true := by simp [hreq, hagent]
    refine ⟨s.reqCommand m, ?_, ?_, ?_, ?_, ?_, ?_, State.reqCommand_owned hr' he hst hesc hcode hown hport haway⟩ <;>
      rintro rfl
    · exact exec_request hr' rfl hok
    · exact exec_request hr' rfl hok
    · exact exec_request hr' rfl hok
    · exact exec_request hr' rfl hreq
    · exact exec_request hr' rfl hreq
    · exact exec_request hr' rfl hreq

end Sys2Proof.Machine
end

section
/-!
PROOFS. What a tile answers to a forward and what a requester does with what reaches it (R223, R232, Table 10.7): a forward
alters one line of the tiles and its answers are sent; an answer is entered in the request that it names, and the request
that has its data and its ACKs has won its line.
-/

namespace Sys2Proof.Machine

/-! ## One line of the tiles -/

/-- From `s` to `t` nothing changed but the raised banks (R425) and, in the tiles, one line, which no tile gained. -/
structure State.AltersLine (line : Nat) (s t : State) : Prop where
  only : t = { s with tiles := t.tiles, power := t.power }
  other : ∀ l, l ≠ line → ∀ j, SMap.find? (t.tile j).lines l = SMap.find? (s.tile j).lines l
  gone : ∀ j, SMap.find? (s.tile j).lines line = none → SMap.find? (t.tile j).lines line = none

section
variable {s t u : State} {line k j : Nat} {x : TileLine} {st : LineState}

theorem State.AltersLine.refl (line : Nat) (s : State) : s.AltersLine line s := ⟨rfl, fun _ _ _ => rfl, fun _ => id⟩

theorem State.AltersLine.trans (h : State.AltersLine line s t) (g : State.AltersLine line t u) :
    State.AltersLine line s u where
  only := by rw [g.only, h.only]
  other l hl j := (g.other l hl j).trans (h.other l hl j)
  gone j hj := g.gone j (h.gone j hj)

theorem State.AltersLine.setTile {y : Tile}
    (hother : ∀ l, l ≠ line → SMap.find? y.lines l = SMap.find? (s.tile k).lines l)
    (hgone : SMap.find? (s.tile k).lines line = none → SMap.find? y.lines line = none) :
    State.AltersLine line s (s.setTile k y) where
  only := rfl
  other l hl j := by
    by_cases hj : j = k
    · rw [hj, State.tile_setTile_self]
      exact hother l hl
    · rw [State.tile_setTile_of_ne _ _ hj]
  gone j hnone := by
    by_cases hj : j = k
    · rw [hj] at hnone ⊢
      rw [State.tile_setTile_self]
      exact hgone hnone
    · rwa [State.tile_setTile_of_ne _ _ hj]

theorem State.setLineState_absent (h : SMap.find? (s.tile k).lines line = none) : s.setLineState k line st = s := by
  rw [State.setLineState, h]

theorem State.setLineState_i (h : SMap.find? (s.tile k).lines line = some x) :
    s.setLineState k line .i = s.dropLine k line := by
  rw [State.setLineState, h]
  rfl

theorem State.setLineState_held (h : SMap.find? (s.tile k).lines line = some x) (hst : st ≠ .i) :
    s.setLineState k line st = s.putLine k line { x with st := st } := by
  rw [State.setLineState, h]
  exact if_neg hst

/-- A new state of a tile's line changes no other line and no other tile. -/
theorem State.AltersLine.setLineState (s : State) (k line : Nat) (st : LineState) :
    State.AltersLine line s (s.setLineState k line st) := by
  cases h : SMap.find? (s.tile k).lines line with
  | none =>
    rw [State.setLineState_absent h]
    exact .refl line s
  | some x =>
    by_cases hst : st = .i
    · rw [hst, State.setLineState_i h]
      exact .setTile (fun _ hl => SMap.find?_erase_of_ne _ hl) fun _ => SMap.find?_erase_self ..
    · rw [State.setLineState_held h hst]
      exact .setTile (fun _ hl => SMap.find?_put_of_ne _ _ hl) fun hnone => absurd (hnone.symm.trans h) nofun

theorem State.tile_setLineState_of_ne (hj : j ≠ k) : (s.setLineState k line st).tile j = s.tile j := by
  unfold State.setLineState
  split
  · split <;> exact State.tile_setTile_of_ne _ _ hj
  · rfl

theorem State.find?_setLineState_i (s : State) (k line : Nat) :
    SMap.find? ((s.setLineState k line .i).tile k).lines line = none := by
  cases h : SMap.find? (s.tile k).lines line with
  | none => rwa [State.setLineState_absent h]
  | some x =>
    rw [State.setLineState_i h, State.dropLine, State.tile_setTile_self]
    exact SMap.find?_erase_self ..

theorem State.find?_setLineState_held (h : SMap.find? (s.tile k).lines line = some x) (hst : st ≠ .i) :
    SMap.find? ((s.setLineState k line st).tile k).lines line = some { x with st := st } := by
  rw [State.setLineState_held h hst, State.putLine, State.tile_setTile_self]
  exact SMap.find?_put_self ..

/-! ## The tiles beside the holder (R214) -/

/-- An invalidation takes the line out of the given tiles but one. -/
def State.clearBeside (k line : Nat) (js : List Nat) (s : State) : State :=
  js.foldl (fun st j => if j = k then st else (st.txConflict j line true none 0x02).setLineState j line .i) s

/-- With no transaction open, only the line goes: from every one of those tiles, and from no other. -/
theorem State.clearBeside_spec (js : List Nat) (htx : ∀ y ∈ s.cores, y.2.tx = none) :
    State.AltersLine line s (s.clearBeside k line js) ∧ (s.clearBeside k line js).tile k = s.tile k ∧
      ∀ j ∈ js, j ≠ k → SMap.find? ((s.clearBeside k line js).tile j).lines line = none := by
  induction js generalizing s with
  | nil => exact ⟨.refl line s, rfl, by simp⟩
  | cons i rest ih =>
    by_cases hi : i = k
    · have hskip : s.clearBeside k line (i :: rest) = s.clearBeside k line rest := by
        simp only [State.clearBeside, List.foldl_cons, if_pos hi]
      obtain ⟨halters, hkeeps, hclear⟩ := ih htx
      rw [hskip]
      refine ⟨halters, hkeeps, fun j hj hne => hclear j ?_ hne⟩
      exact (List.mem_cons.1 hj).resolve_left fun hji => hne (hji.trans hi)
    · have hstep : s.clearBeside k line (i :: rest) = (s.setLineState i line .i).clearBeside k line rest := by
        simp only [State.clearBeside, List.foldl_cons, if_neg hi, State.txConflict_none htx]
      have hfirst := State.AltersLine.setLineState s i line .i
      have htx' : ∀ y ∈ (s.setLineState i line .i).cores, y.2.tx = none := by
        rw [hfirst.only]
        exact htx
      obtain ⟨halters, hkeeps, hclear⟩ := ih htx'
      rw [hstep]
      refine ⟨hfirst.trans halters, hkeeps.trans (State.tile_setLineState_of_ne (Ne.symm hi)), fun j hj hne => ?_⟩
      rcases List.mem_cons.1 hj with rfl | hrest
      · exact halters.gone j (s.find?_setLineState_i j line)
      · exact hclear j hrest hne

/-! ## The tile that answers (R214, R232) -/

theorem State.AltersLine.readyBank (s : State) (k line : Nat) : State.AltersLine line s (s.readyBank k line) := by
  unfold State.readyBank State.raiseBank
  split
  · split
    · split
      · exact ⟨rfl, fun _ _ _ => rfl, fun _ => id⟩
      · exact .refl line s
    · exact .refl line s
  · exact .refl line s

theorem State.tile_readyBank : (s.readyBank k line).tile j = s.tile j := by
  unfold State.readyBank State.raiseBank
  split
  · split
    · split <;> rfl
    · rfl
  · rfl

/-- The tile that holds a line in the highest state is one of the four. -/
theorem State.holderTile_lt (h : s.holderTile line = some k) : k < 4 := by
  obtain ⟨b, hb, rfl⟩ := Option.map_eq_some_iff.1 h
  refine List.foldlRecOn (List.range 4) _ (motive := fun best : Option (Nat × Nat) => ∀ b, best = some b → b.1 < 4)
    (by simp) (fun best hbest t ht b hb => ?_) b hb
  have hnew (r : Nat) (hr : some (t, r) = some b) : b.1 < 4 := by
    obtain rfl := Option.some.inj hr
    exact List.mem_range.1 ht
  dsimp only at hb
  split at hb
  · exact hbest b hb
  · split at hb
    · split at hb
      · exact hnew _ hb
      · exact hbest b hb
    · exact hnew _ hb

variable {m : Msg}

theorem State.holdOn_congr (h : t.tile k = s.tile k) : t.holdOn k line = s.holdOn k line := by
  rw [State.holdOn, State.holdOn, h]

/-- No hold keeps the forward and no transaction meets it: the tile answers. -/
theorem State.tileForward_free (hhold : s.holdOn k m.line = none) (htx : ∀ y ∈ s.cores, y.2.tx = none) :
    s.tileForward k m = (s.readyBank k m.line).holderAnswer k m := by
  have hready := State.AltersLine.readyBank s k m.line
  have htx' : ∀ y ∈ (s.readyBank k m.line).cores, y.2.tx = none := by
    rw [hready.only]
    exact htx
  simp only [State.tileForward, hhold, Option.isSome_none, Bool.false_eq_true, false_and, if_false, State.serveForward,
    State.txConflict_none htx']

/-- A forward for a line of another home reaches the tile that holds it in the highest state; an invalidation has taken the
line out of the others. -/
theorem State.takeForward_held (htx : ∀ y ∈ s.cores, y.2.tx = none) (hcode : m.code < 6) (htile : m.tile = none)
    (hk : s.holderTile m.line = some k) (hhold : ∀ j, j < 4 → s.holdOn j m.line = none) :
    ∃ v, s.takeForward m = v.holderAnswer k m ∧ State.AltersLine m.line s v ∧ v.tile k = s.tile k ∧
      (3 ≤ m.code → ∀ j, j < 4 → j ≠ k → SMap.find? (v.tile j).lines m.line = none) := by
  have hk4 := State.holderTile_lt hk
  have h6 : m.code ≠ 6 := by omega
  by_cases h3 : m.code < 3
  · refine ⟨s.readyBank k m.line, ?_, .readyBank .., State.tile_readyBank, fun h => absurd h3 (by omega)⟩
    simp only [State.takeForward, h6, if_false, htile, hk, h3, if_true]
    exact State.tileForward_free (hhold k hk4) htx
  · obtain ⟨halters, hkeeps, hclear⟩ := State.clearBeside_spec (k := k) (line := m.line) (List.range 4) htx
    have hwait : (List.range 4).find? (fun j => (s.holdOn j m.line).isSome && (s.tileState j m.line).rank != 0) = none :=
      List.find?_eq_none.2 fun j hj => by simp [hhold j (List.mem_range.1 hj)]
    have htx' : ∀ y ∈ (s.clearBeside k m.line (List.range 4)).cores, y.2.tx = none := by
      rw [halters.only]
      exact htx
    refine ⟨(s.clearBeside k m.line (List.range 4)).readyBank k m.line, ?_, halters.trans (.readyBank ..),
      State.tile_readyBank.trans hkeeps, fun _ j hj hne => ?_⟩
    · simp only [State.takeForward, h6, if_false, htile, hk, h3, hwait]
      exact State.tileForward_free ((State.holdOn_congr hkeeps).trans (hhold k hk4)) htx'
    · rw [State.tile_readyBank]
      exact hclear j (List.mem_range.2 hj) hne

end

/-! ## The answers (Table 10.7) -/

/-- What the holder of the line `x` answers to a forward: F to FWD_S, M or E to FWD_O, a copy to FWD_ONCE, dirty data to
RECALL, and an ACK otherwise. -/
def Msg.holderReply (m : Msg) (code : Fin 6) (x : TileLine) : Msg :=
  if code = 0 then m.grantTo (some x.data) x.poison .f m.ext
  else if code = 1 then m.grantTo (some x.data) x.poison (if x.st = .m then .m else .e) m.ext
  else if code = 2 then m.answerOnce x.data x.poison
  else if code = 5 ∧ x.st = .m then m.datWb x.data x.poison
  else m.toReq 2 0

/-- Every message of the holder: its answer, FWD_DONE after data, and the dirty data that F leaves behind. -/
def Msg.holderReplies (m : Msg) (code : Fin 6) (x : TileLine) : List Msg :=
  m.holderReply code x :: (if code.val < 3 then [m.fwdDone false] else []) ++
    (if code = 0 ∧ x.st = .m then [m.datWb x.data x.poison] else [])

/-- The tile after a forward: FWD_S leaves S, FWD_ONCE the state as it was, every other I. -/
def State.afterForward (s : State) (k : Nat) (code : Fin 6) (line : Nat) : State :=
  if code = 0 then s.setLineState k line .s else if code = 2 then s else s.setLineState k line .i

section
variable {s : State} {m : Msg} {code : Fin 6} {k line : Nat} {x : TileLine}

theorem State.holderAnswer_of_line (hcode : m.code = code.val) (hx : (s.tile k).line? m.line = some x) :
    s.holderAnswer k m = (s.afterForward k code m.line, m.holderReplies code x) := by
  fin_cases code <;>
    simp [State.holderAnswer, hx, hcode, State.afterForward, Msg.holderReplies, Msg.holderReply]

theorem Msg.dest_holderReply : (m.holderReply code x).dest = if code = 5 ∧ x.st = .m then lineHome m.line else m.src := by
  by_cases h : code = 5 ∧ x.st = .m
  · obtain ⟨rfl, hst⟩ := h
    simp [Msg.holderReply, Msg.datWb, hst]
  · rw [Msg.holderReply, if_neg h, if_neg h]
    split_ifs <;> rfl

/-- A holder answers the requester and the home alone. -/
theorem Msg.dest_of_mem_holderReplies {a : Msg} (ha : a ∈ m.holderReplies code x) :
    a.dest = m.src ∨ a.dest = lineHome m.line := by
  simp only [Msg.holderReplies, List.mem_append, List.mem_cons, List.mem_ite_nil_right, List.not_mem_nil, or_false] at ha
  rcases ha with (rfl | ⟨-, rfl⟩) | ⟨-, rfl⟩
  · rw [Msg.dest_holderReply]
    split
    · exact .inr rfl
    · exact .inl rfl
  · exact .inr rfl
  · exact .inr rfl

theorem Msg.length_holderReplies : (m.holderReplies code x).length ≤ 3 := by
  unfold Msg.holderReplies
  split_ifs <;> simp

theorem State.AltersLine.afterForward (s : State) (k : Nat) (code : Fin 6) (line : Nat) :
    State.AltersLine line s (s.afterForward k code line) := by
  unfold State.afterForward
  split
  · exact .setLineState ..
  · split
    · exact .refl line s
    · exact .setLineState ..

/-- What the holder keeps of the line. -/
theorem State.afterForward_line (h : SMap.find? (s.tile k).lines line = some x) :
    SMap.find? ((s.afterForward k code line).tile k).lines line =
      if code = 0 then some { x with st := .s } else if code = 2 then some x else none := by
  unfold State.afterForward
  split
  · exact State.find?_setLineState_held h nofun
  · split
    · exact h
    · exact s.find?_setLineState_i k line

/-! ## A forward reaches the module -/

variable {f g : Nat}

/-- A forward for a line that a tile holds without a hold: the tile answers, and the line stands as Table 10.7 gives. -/
theorem State.takeForward_answers (hcode : m.code = code.val) (htile : m.tile = none) (htx : ∀ y ∈ s.cores, y.2.tx = none)
    (hk : s.holderTile m.line = some k) (hx : SMap.find? (s.tile k).lines m.line = some x)
    (hhold : ∀ j, j < 4 → s.holdOn j m.line = none) :
    ∃ u, s.takeForward m = (u, m.holderReplies code x) ∧ State.AltersLine m.line s u ∧
      SMap.find? (u.tile k).lines m.line =
        (if code = 0 then some { x with st := .s } else if code = 2 then some x else none) ∧
      (3 ≤ code.val → ∀ j, j < 4 → j ≠ k → SMap.find? (u.tile j).lines m.line = none) := by
  obtain ⟨v, htake, hv, hkeeps, hclear⟩ := State.takeForward_held htx (by omega) htile hk hhold
  have hxv : SMap.find? (v.tile k).lines m.line = some x := by rwa [hkeeps]
  have hline : (v.tile k).line? m.line = some x := by rw [Tile.line?, hxv]
  have hlast := State.AltersLine.afterForward v k code m.line
  exact ⟨_, htake.trans (State.holderAnswer_of_line hcode hline), hv.trans hlast, State.afterForward_line hxv,
    fun hc j hj hne => hlast.gone j (hclear (by omega) j hj hne)⟩

/-- A forward for a line of another home that a tile holds without a hold: the tile's answers are sent, and no other line
changes. -/
theorem State.receive_forward_held (hnew : m.reissue = false) (hcls : m.cls = 1) (hcode : m.code = code.val)
    (hdest : m.dest = s.moduleId) (htile : m.tile = none) (hsrc : m.src ≠ s.moduleId)
    (hhome : lineHome m.line ≠ s.moduleId) (htx : ∀ y ∈ s.cores, y.2.tx = none) (hk : s.holderTile m.line = some k)
    (hx : SMap.find? (s.tile k).lines m.line = some x) (hhold : ∀ j, j < 4 → s.holdOn j m.line = none)
    (hf : s.portFor m.src = some f) (hg : s.portFor (lineHome m.line) = some g) :
    let t := s.receive m
    t.mem = s.mem ∧ t.cores = s.cores ∧ t.home = s.home ∧
      (∃ q, (q, m.holderReply code x) ∈ (t.fport (if code = 5 ∧ x.st = .m then g else f)).replay) ∧
      (code.val < 3 → ∃ q, (q, m.fwdDone false) ∈ (t.fport g).replay) ∧
      (code = 0 → SMap.find? (t.tile k).lines m.line = some { x with st := .s }) ∧
      (code = 2 → SMap.find? (t.tile k).lines m.line = some x) ∧
      (code = 1 → SMap.find? (t.tile k).lines m.line = none) ∧
      (3 ≤ code.val → ∀ j, j < 4 → SMap.find? (t.tile j).lines m.line = none) ∧
      (∀ l, l ≠ m.line → ∀ j, SMap.find? (t.tile j).lines l = SMap.find? (s.tile j).lines l) := by
  obtain ⟨u, htake, halters, hline, hclear⟩ := State.takeForward_answers (s := s.accept m) hcode htile htx hk hx hhold
  have hacts : (s.accept m).handle m = (u, m.holderReplies code x) := by
    rw [← htake, State.handle, if_neg (by simp [hcls]), if_pos hcls]
  have hregs : u.regs = s.regs := by
    rw [halters.only]
    rfl
  have hreceive : s.receive m = (m.holderReplies code x).foldl State.enqueue u :=
    State.receive_sends hnew hdest hacts hregs (fun a ha => by
      rcases Msg.dest_of_mem_holderReplies ha with h | h <;> rwa [h]) Msg.length_holderReplies
  have hsent {a : Msg} {p : Nat} (ha : a ∈ m.holderReplies code x) (hp : s.portFor a.dest = some p) :
      ∃ q, (q, a) ∈ ((s.receive m).fport p).replay :=
    hreceive ▸ State.sent_foldl_enqueue ha ((State.portFor_congr hregs _).trans hp)
  obtain ⟨p, hp⟩ := u.foldl_enqueue_fports (m.holderReplies code x)
  have hrest : (s.receive m).mem = s.mem ∧ (s.receive m).cores = s.cores ∧ (s.receive m).home = s.home := by
    rw [hreceive, hp, halters.only]
    exact ⟨rfl, rfl, rfl⟩
  have htiles (j : Nat) : (s.receive m).tile j = u.tile j := by
    rw [hreceive, hp]
    rfl
  obtain ⟨hmem, hcores, hhome'⟩ := hrest
  simp only [htiles, hline]
  refine ⟨hmem, hcores, hhome', hsent ?_ ?_, fun hc => hsent ?_ hg, ?_, ?_, ?_, fun hc j hj => ?_, halters.other⟩
  · exact List.mem_append_left _ List.mem_cons_self
  · rw [Msg.dest_holderReply]
    split
    · exact hg
    · exact hf
  · exact List.mem_append_left _ (List.mem_cons_of_mem _ (by simp [hc]))
  · exact fun hc => if_pos hc
  · rintro rfl
    rfl
  · rintro rfl
    rfl
  · by_cases hjk : j = k
    · subst hjk
      rw [hline, if_neg (by rintro rfl; simp at hc), if_neg (by rintro rfl; simp at hc)]
    · exact hclear hc j hj hjk

/-- A forward that asks for data, for a line that no tile holds, is answered as ABSENT. -/
theorem State.receive_forward_absent (hnew : m.reissue = false) (hcls : m.cls = 1) (hcode : m.code < 3)
    (hdest : m.dest = s.moduleId) (htile : m.tile = none) (hhome : lineHome m.line ≠ s.moduleId)
    (hk : s.holderTile m.line = none) (hf : s.portFor (lineHome m.line) = some f)
    (hline : (s.tile 0).line? m.line = none) :
    let t := s.receive m
    s.sent t f (m.fwdDone true) ∧ t.tiles = s.tiles ∧ t.mem = s.mem ∧ t.cores = s.cores := by
  have hk' : (s.accept m).holderTile m.line = none := hk
  have hline' : ((s.accept m).tile 0).line? m.line = none := hline
  have hacts : (s.accept m).handle m = (s.accept m, [m.fwdDone true]) := by
    have h6 : m.code ≠ 6 := by omega
    simp [State.handle, hcls, State.takeForward, h6, htile, hk', State.holderAnswer, hline', hcode]
  obtain ⟨p, ht, hsent⟩ := State.receive_sends_one hnew hdest hacts rfl rfl hhome hf
  refine ⟨hsent, ?_, ?_, ?_⟩ <;> rw [ht] <;> rfl

end

/-! ## Outstanding requests (R223) -/

section
variable {s : State} {m : Msg} {q r : Outstanding} {agent txn : Nat}

theorem State.findRequest_putRequest (h : s.findRequest agent txn = some q) (hreq : r.req = q.req) :
    (s.putRequest r).findRequest agent txn = some r := by
  have hq : q.req.agent = agent ∧ q.req.txn = txn := by simpa using List.find?_some h
  have hid : r.req.agent = agent ∧ r.req.txn = txn := by rwa [hreq]
  have hkeep : ((fun x : Outstanding => x.req.agent == agent && x.req.txn == txn) ∘
      fun x => if x.req.agent = r.req.agent ∧ x.req.txn = r.req.txn then r else x) =
        fun x => x.req.agent == agent && x.req.txn == txn := by
    funext x
    by_cases hx : x.req.agent = agent ∧ x.req.txn = txn <;> simp [hid, hx]
  rw [State.findRequest] at h ⊢
  rw [State.putRequest, List.find?_map, hkeep, h, Option.map_some, if_pos (by simp [hq, hid])]

theorem State.settle_waits (h : ¬(r.won = true ∧ r.acksDue ≤ r.acks ∧ r.req.code < 4)) :
    s.settle r = (s.putRequest r, []) := if_neg h

theorem State.settle_wins (hwon : r.won = true) (hacks : r.acksDue ≤ r.acks) (hcode : r.req.code < 4) :
    s.settle r = s.winLine r := if_pos ⟨hwon, hacks, hcode⟩

/-- A message that an agent takes without an answer. -/
theorem State.receive_silent {u : State} (hnew : m.reissue = false) (hdest : m.dest = s.moduleId)
    (hacts : (s.accept m).handle m = (u, [])) (hregs : u.regs = s.regs) : s.receive m = u :=
  State.receive_sends hnew hdest hacts hregs (by simp) (Nat.zero_le 3)

/-- A response reaches its requester unless it is for the home (Table 10.2). -/
theorem State.handle_response (hcls : m.cls = 2) (hcode : m.code = 0 ∨ m.code = 1 ∨ m.code = 4)
    (hhome : ¬(m.src = s.moduleId ∧ m.agent = 9)) : s.handle m = s.takeAnswer m := by
  have hforHome : s.forHome m = false := by simpa [State.forHome] using hhome
  rcases hcode with hc | hc | hc <;> simp [State.handle, hcls, hc, hforHome]

theorem State.handle_data (hcls : m.cls = 3) (hcode : m.code = 0 ∨ m.code = 2) : s.handle m = s.takeAnswer m := by
  rcases hcode with hc | hc <;> simp [State.handle, hcls, hc]

theorem State.handle_wbAck (hcls : m.cls = 2) (hcode : m.code = 3) : s.handle m = (s.takeWbAck m, []) := by
  simp [State.handle, hcls, hcode]

/-- An answer that its request records and that ends nothing. -/
theorem State.receive_records (hnew : m.reissue = false) (hdest : m.dest = s.moduleId)
    (hq : s.findRequest m.agent m.txn = some q) (hreq : r.req = q.req)
    (hacts : (s.accept m).handle m = ((s.accept m).putRequest r, [])) :
    (s.receive m).findRequest m.agent m.txn = some r ∧ (s.receive m).tiles = s.tiles ∧ (s.receive m).mem = s.mem := by
  rw [State.receive_silent hnew hdest hacts rfl]
  exact ⟨State.findRequest_putRequest (s := s.accept m) hq hreq, rfl, rfl⟩

end


/-! ## What each answer tells its request (R223) -/

/-- A request to which DATA has come: the line's bytes, the state granted and the ACKs to expect. -/
def Outstanding.withData (q : Outstanding) (m : Msg) : Outstanding := { q with
  won := true, state := grantState (m.ext / 64), data := m.data, poison := m.poison, acksDue := m.ext % 64 }

section
variable {s : State} {m : Msg} {q : Outstanding}

theorem State.takeAnswer_ack (hq : s.findRequest m.agent m.txn = some q) (hcls : m.cls = 2) (hcode : m.code = 0) :
    s.takeAnswer m = s.settle { q with acks := q.acks + 1 } := by
  simp [State.takeAnswer, hq, hcls, hcode]

theorem State.takeAnswer_completion (hq : s.findRequest m.agent m.txn = some q) (hcls : m.cls = 2) (hcode : m.code = 1)
    (hwrite : 4 ≤ q.req.code) : s.takeAnswer m = (s.putRequest { q with won := true, result := some [] }, []) := by
  simp [State.takeAnswer, hq, hcls, hcode, hwrite]

theorem State.takeAnswer_grant (hq : s.findRequest m.agent m.txn = some q) (hcls : m.cls = 2) (hcode : m.code = 1)
    (hcaching : q.req.code < 4) : s.takeAnswer m =
      s.settle { q with won := true, state := grantState (m.ext / 64), acksDue := m.ext % 64 } := by
  simp [State.takeAnswer, hq, hcls, hcode, Nat.not_le.2 hcaching]

theorem State.takeAnswer_refused (hq : s.findRequest m.agent m.txn = some q) (hcls : m.cls = 2) (hcode : m.code = 4) :
    s.takeAnswer m = (s.putRequest { q with refused := 1 }, []) := by
  simp [State.takeAnswer, hq, hcls, hcode]

theorem State.takeAnswer_data (hq : s.findRequest m.agent m.txn = some q) (hcls : m.cls = 3) (hcode : m.code = 0) :
    s.takeAnswer m = s.settle (q.withData m) := by
  simp [State.takeAnswer, hq, hcls, hcode, Outstanding.withData]

theorem State.takeAnswer_once (hq : s.findRequest m.agent m.txn = some q) (hcls : m.cls = 3) (hcode : m.code = 2) :
    s.takeAnswer m = (s.putRequest { q with won := true, result := some m.data, poison := m.poison }, []) := by
  simp [State.takeAnswer, hq, hcls, hcode, onceResult]

end

/-! ## The place of a line that is won (R203, R215) -/

theorem SMap.filterMap_put_of_none {α β : Type} {m : SMap α} {k : Nat} {v : α} {g : Nat × α → Option β}
    (hk : SMap.find? m k = none) (hg : g (k, v) = none) : (SMap.put m k v).filterMap g = m.filterMap g := by
  induction m with
  | nil => simp [SMap.put, hg]
  | cons e rest ih =>
    obtain ⟨j, w⟩ := e
    have hjk : j ≠ k := by
      rintro rfl
      simp [SMap.find?] at hk
    rw [SMap.find?, if_neg hjk] at hk
    rw [SMap.put, if_neg hjk]
    split
    · rw [List.filterMap_cons, hg]
    · rw [List.filterMap_cons, List.filterMap_cons, ih hk]

section
variable {s t : State} {k c pipe line w : Nat} {x : TileLine}

/-- A line that no tile's cache holds takes no way of its set. -/
theorem State.inSet_put (hlines : (t.tile k).lines = SMap.put (s.tile k).lines line x)
    (hnew : SMap.find? (s.tile k).lines line = none) (hplaces : x.places = []) :
    t.inSet k c line = s.inSet k c line := by
  rw [State.inSet, hlines]
  exact SMap.filterMap_put_of_none hnew (by simp [hplaces])

/-- The choice of a way depends on the registers, the open transactions, the way masks, the lines in the set and the free
values. -/
theorem State.chooseWay_congr (hregs : t.regs = s.regs) (hcores : t.cores = s.cores) (hfree : t.freeCtr = s.freeCtr)
    (hways : (t.tile k).ways = (s.tile k).ways) (hset : t.inSet k c line = s.inSet k c line) :
    t.chooseWay k c pipe line = s.chooseWay k c pipe line := by
  have hreg (v : Nat) : t.reg v = s.reg v := by rw [State.reg, State.reg, hregs]
  have hmask : t.allocWays k c pipe = s.allocWays k c pipe := by
    simp only [State.allocWays, State.waysInEffect, hways, State.fld, hreg]
  have hwrite (l : Nat) : t.inWriteSet k l = s.inWriteSet k l := by
    have hread : t.inWriteSet k l = { s with regs := t.regs, cores := t.cores }.inWriteSet k l := rfl
    rw [hread, hregs, hcores]
  simp only [State.chooseWay, hmask, hset, hwrite, State.freeVal, hfree]

/-- Where a way of the L2 is free the line takes it, and no line leaves. -/
theorem State.allocate_free (hc : c < 10) (hon : s.cacheOn k c = true) (hclosing : s.cacheClosing k c = false)
    (hx : SMap.find? (s.tile k).lines line = some x) (hway : s.chooseWay k c pipe line = some (w, none, false)) :
    s.allocate k c pipe line =
      (s.putLine k line { x with places := x.places.filter (fun p => p.1 != c) ++ [(c, w)] }, []) := by
  simp [State.allocate, hc, hon, hclosing, hway, State.placeIn, hx]

end

/-! ## A line is won (R223) -/

/-- A line as it is first listed for a request that has its data: in the state granted, and in no cache yet. -/
def Outstanding.wonLine (r : Outstanding) : TileLine :=
  { st := if r.state = .i then .e else r.state, data := r.data, poison := r.poison, places := [] }

/-- The state in which a request that has its data has listed its line and holds it. -/
def State.holdWon (s : State) (r : Outstanding) : State :=
  let k := r.req.agent
  let s1 := (s.dropRequest k r.req.txn).putLine k r.req.line r.wonLine
  s1.setTile k { s1.tile k with
    holds := (s1.tile k).holds.filter (fun h => h.line != r.req.line) ++
      [{ line := r.req.line, esc := r.req.esc, waiting := ((s1.holdOn k r.req.line).map (·.waiting)).getD [] }] }

section
variable {s : State} {r : Outstanding} {k w : Nat}

/-- A read of a line new to the tile holds it and allocates its place. -/
theorem State.winLine_eq (hcode : r.req.code < 3) (hnew : (s.tile r.req.agent).line? r.req.line = none)
    (hdata : r.data ≠ []) :
    s.winLine r = (s.holdWon r).allocate r.req.agent r.cache (s.corePipe r.core) r.req.line := by
  have h3 : r.req.code ≠ 3 := by omega
  simp [State.winLine, h3, hnew, hdata, State.holdWon, Outstanding.wonLine]

theorem State.holdWon_spec (s : State) (r : Outstanding) :
    s.holdWon r = { s with requests := (s.holdWon r).requests, tiles := (s.holdWon r).tiles } ∧
      ((s.holdWon r).tile r.req.agent).lines = SMap.put (s.tile r.req.agent).lines r.req.line r.wonLine ∧
      ((s.holdWon r).tile r.req.agent).ways = (s.tile r.req.agent).ways ∧
      ((s.holdWon r).tile r.req.agent).jobs = (s.tile r.req.agent).jobs ∧
      ((s.holdWon r).holdOn r.req.agent r.req.line).isSome = true := by
  refine ⟨rfl, ?_⟩
  simp only [State.holdWon, State.holdOn, State.tile_setTile_self, State.putLine]
  refine ⟨rfl, rfl, rfl, ?_⟩
  simp

/-- A read that has its data and its ACKs, with a way of its L2 free: the line is entered there and its hold begins. -/
theorem State.winLine_enters (hcode : r.req.code < 3) (hnew : (s.tile r.req.agent).line? r.req.line = none)
    (hdata : r.data ≠ []) (hc : r.cache < 10) (hon : s.cacheOn r.req.agent r.cache = true)
    (hclosing : s.cacheClosing r.req.agent r.cache = false)
    (hway : s.chooseWay r.req.agent r.cache (s.corePipe r.core) r.req.line = some (w, none, false)) :
    ∃ u, s.winLine r = (u, []) ∧ u.regs = s.regs ∧ u.mem = s.mem ∧
      SMap.find? (u.tile r.req.agent).lines r.req.line = some { r.wonLine with places := [(r.cache, w)] } ∧
      (u.holdOn r.req.agent r.req.line).isSome = true := by
  have hnone : SMap.find? (s.tile r.req.agent).lines r.req.line = none := by
    unfold Tile.line? at hnew
    split at hnew
    · exact absurd hnew nofun
    · assumption
  have hspec := s.holdWon_spec r
  rw [State.winLine_eq hcode hnew hdata]
  generalize s.holdWon r = v at hspec ⊢
  obtain ⟨honly, hlines, hways, hjobs, hheld⟩ := hspec
  have hregs : v.regs = s.regs := by rw [honly]
  have hx : SMap.find? (v.tile r.req.agent).lines r.req.line = some r.wonLine := by
    rw [hlines]
    exact SMap.find?_put_self ..
  have hway' : v.chooseWay r.req.agent r.cache (s.corePipe r.core) r.req.line = some (w, none, false) :=
    (State.chooseWay_congr hregs (by rw [honly]) (by rw [honly]) hways (State.inSet_put hlines hnone rfl)).trans hway
  have hon' : v.cacheOn r.req.agent r.cache = true := by
    rw [honly]
    exact hon
  have hclosing' : v.cacheClosing r.req.agent r.cache = false := (congrArg (List.any · _) hjobs).trans hclosing
  refine ⟨_, State.allocate_free hc hon' hclosing' hx hway', hregs, by rw [honly]; rfl, ?_, ?_⟩
  · rw [State.putLine, State.tile_setTile_self]
    exact SMap.find?_put_self ..
  · rw [State.holdOn, State.putLine, State.tile_setTile_self]
    exact hheld

end

/-! ## Grants and the eviction buffer (R217, R223) -/

section
variable {s : State} {m : Msg} {q : Outstanding}

/-- A grant without data that some ACKs have still to follow. -/
theorem State.receive_grant_waits (hnew : m.reissue = false) (hdest : m.dest = s.moduleId) (hcls : m.cls = 2)
    (hcode : m.code = 1) (hhome : ¬(m.src = s.moduleId ∧ m.agent = 9)) (hq : s.findRequest m.agent m.txn = some q)
    (hcaching : q.req.code < 4) (hacks : q.acks < m.ext % 64) :
    (s.receive m).findRequest m.agent m.txn =
        some { q with won := true, state := grantState (m.ext / 64), acksDue := m.ext % 64 } ∧
      (s.receive m).tiles = s.tiles ∧ (s.receive m).mem = s.mem := by
  have hq' : (s.accept m).findRequest m.agent m.txn = some q := hq
  have htake := State.takeAnswer_grant hq' hcls hcode hcaching
  rw [State.settle_waits (fun ⟨_, hdue, _⟩ => Nat.not_le.2 hacks hdue)] at htake
  exact State.receive_records hnew hdest hq rfl
    ((State.handle_response (s := s.accept m) hcls (.inr (.inl hcode)) hhome).trans htake)

/-- The same of a grant with data. -/
theorem State.receive_data_waits (hnew : m.reissue = false) (hdest : m.dest = s.moduleId) (hcls : m.cls = 3)
    (hcode : m.code = 0) (hq : s.findRequest m.agent m.txn = some q) (hacks : q.acks < m.ext % 64) :
    (s.receive m).findRequest m.agent m.txn = some (q.withData m) ∧
      (s.receive m).tiles = s.tiles ∧ (s.receive m).mem = s.mem := by
  have hq' : (s.accept m).findRequest m.agent m.txn = some q := hq
  have hwaits : (s.accept m).settle (q.withData m) = ((s.accept m).putRequest (q.withData m), []) :=
    State.settle_waits fun ⟨_, hdue, _⟩ => Nat.not_le.2 hacks hdue
  exact State.receive_records hnew hdest hq rfl
    ((State.handle_data hcls (.inl hcode)).trans ((State.takeAnswer_data hq' hcls hcode).trans hwaits))

/-- Data with every ACK in, for a read of a line new to the tile, with a way of the L2 free: the line is entered. -/
theorem State.receive_data_wins {w : Nat} (hnew : m.reissue = false) (hdest : m.dest = s.moduleId) (hcls : m.cls = 3)
    (hcode : m.code = 0) (hdata : m.data ≠ []) (hq : s.findRequest m.agent m.txn = some q) (hread : q.req.code < 3)
    (hacks : m.ext % 64 ≤ q.acks) (hline : (s.tile q.req.agent).line? q.req.line = none) (hc : q.cache < 10)
    (hon : s.cacheOn q.req.agent q.cache = true) (hclosing : s.cacheClosing q.req.agent q.cache = false)
    (hway : s.chooseWay q.req.agent q.cache (s.corePipe q.core) q.req.line = some (w, none, false)) :
    let t := s.receive m
    SMap.find? (t.tile q.req.agent).lines q.req.line = some {
        st := if grantState (m.ext / 64) = .i then .e else grantState (m.ext / 64), data := m.data, poison := m.poison,
        places := [(q.cache, w)] } ∧
      (t.holdOn q.req.agent q.req.line).isSome = true ∧ t.mem = s.mem := by
  obtain ⟨u, hwin, hregs, hmem, hfind, hheld⟩ := State.winLine_enters (s := s.accept m) (r := q.withData m)
    hread hline hdata hc hon hclosing hway
  have hq' : (s.accept m).findRequest m.agent m.txn = some q := hq
  have hwins : (s.accept m).settle (q.withData m) = (u, []) :=
    (State.settle_wins (r := q.withData m) rfl hacks (Nat.lt_succ_of_lt hread)).trans hwin
  have hacts : (s.accept m).handle m = (u, []) :=
    (State.handle_data hcls (.inl hcode)).trans ((State.takeAnswer_data hq' hcls hcode).trans hwins)
  rw [State.receive_silent hnew hdest hacts hregs]
  exact ⟨hfind, hheld, hmem⟩

/-- WB_ACK frees the eviction buffer entry of its line. -/
theorem State.receive_wbAck (hnew : m.reissue = false) (hdest : m.dest = s.moduleId) (hcls : m.cls = 2)
    (hcode : m.code = 3) (hagent : m.agent < 4) :
    let t := s.receive m
    (t.tile m.agent).evicting = SMap.erase (s.tile m.agent).evicting m.line ∧
      (t.tile m.agent).lines = (s.tile m.agent).lines ∧ t.mem = s.mem := by
  rw [State.receive_silent hnew hdest (State.handle_wbAck hcls hcode) rfl]
  simp only [State.takeWbAck, Nat.mod_eq_of_lt hagent, State.dropEvicting, State.tile_setTile_self]
  exact ⟨rfl, rfl, rfl⟩

end

/-! ## The obligation -/

/-- The command that brings a forward, by its code. -/
def forwardInstr (h : Hdr) (code : Fin 6) : Instr :=
  if code = 0 then .fwdS h else if code = 1 then .fwdO h else if code = 2 then .fwdOnce h
  else if code = 3 then .inv h else if code = 4 then .invZ h else .recall h

/-- A forward for a line of another home reaches the module as it stands. -/
theorem exec_forward {s : State} {h : Hdr} (code : Fin 6) (hp : s.powered = true) (hu : s.uncoreUp = true)
    (hhome : lineHome h.line.toNat ≠ s.moduleId) :
    exec (forwardInstr h code) s = .next (s.receive (hdrMsg h 1 code s.moduleId)) := by
  have hforward : s.fwdCommand h code = s.receive (hdrMsg h 1 code s.moduleId) := by
    simp only [State.fwdCommand, if_neg hhome]
    rfl
  rw [← hforward]
  fin_cases code <;> exact event_next _ _ hp hu

/-- Settles O29, by the message that arrives. -/
theorem forwardsAreAnswered : Obligations.ForwardsAreAnswered := by
  refine ⟨?forward, ?answer⟩
  case forward =>
    intro h k f g x s code m cmd hp hu hnew hsrc hhome htx
    have hexec : exec cmd s = .next (s.receive m) := exec_forward code hp hu hhome
    refine ⟨fun hk hx hhold hf hg => ⟨_, hexec, ?_⟩, fun hk hf hcode hnone => ⟨_, hexec, ?_⟩⟩
    · exact State.receive_forward_held hnew rfl rfl rfl rfl hsrc hhome htx hk hx hhold hf hg
    · exact State.receive_forward_absent hnew rfl hcode rfl rfl hhome hk hf (hnone 0 (by decide))
  case answer =>
    intro h q d s hp hu hnew hhome hq
    have hq' (m : Msg) : (s.accept m).findRequest h.agent.toNat h.txn.toNat = some q := hq
    have hother : ¬(h.src.toNat = s.moduleId ∧ h.agent.toNat = 9) :=
      fun ⟨hsrc, hagent⟩ => hhome ⟨hsrc, BitVec.eq_of_toNat_eq hagent⟩
    have hdata : leBytes 128 d.toNat ≠ [] := nofun
    refine ⟨fun hopen => ⟨_, event_next _ _ hp hu, ?ack⟩, fun hwrite => ⟨_, event_next _ _ hp hu, ?completion⟩,
      fun hcaching hacks => ⟨_, _, event_next _ _ hp hu, event_next _ _ hp hu, ?grants⟩,
      ⟨_, event_next _ _ hp hu, ?refused⟩, ⟨_, event_next _ _ hp hu, ?once⟩,
      fun hcode hagent hacks hline hcache hon hclosing w hway => ⟨_, event_next _ _ hp hu, ?wins⟩,
      fun hagent => ⟨_, event_next _ _ hp (by simp [hu, hagent]), ?wbAck⟩⟩
    case ack =>
      exact State.receive_records hnew rfl hq rfl ((State.handle_response rfl (.inl rfl) hother).trans
        ((State.takeAnswer_ack (hq' _) rfl rfl).trans (State.settle_waits hopen)))
    case completion =>
      exact State.receive_records hnew rfl hq rfl ((State.handle_response rfl (.inr (.inl rfl)) hother).trans
        (State.takeAnswer_completion (hq' _) rfl rfl hwrite))
    case grants =>
      obtain ⟨hrequest, htiles, hmem⟩ := State.receive_grant_waits (m := hdrMsg h 2 1 s.moduleId)
        hnew rfl rfl rfl hother hq hcaching hacks
      obtain ⟨hrequest', htiles', hmem'⟩ := State.receive_data_waits
        (m := { hdrMsg h 3 0 s.moduleId with data := leBytes 128 d.toNat }) hnew rfl rfl rfl hq hacks
      exact ⟨hrequest, hrequest', htiles, htiles', hmem, hmem'⟩
    case refused =>
      exact State.receive_records hnew rfl hq rfl ((State.handle_response rfl (.inr (.inr rfl)) hother).trans
        (State.takeAnswer_refused (hq' _) rfl rfl))
    case once =>
      exact State.receive_records hnew rfl hq rfl ((State.handle_data rfl (.inr rfl)).trans
        (State.takeAnswer_once (hq' _) rfl rfl))
    case wins => exact State.receive_data_wins hnew rfl rfl rfl hdata hq hcode hacks hline hcache hon hclosing hway
    case wbAck => exact State.receive_wbAck hnew rfl rfl rfl hagent

end Sys2Proof.Machine
end

section
/-!
PROOFS. What work elsewhere leaves of the check events. First the fields of one page beside each other, then the relation
`State.KeepsChecks`: the positions and the bits of their pages that check events and debug halts write stay. Every operation
that the stop or the halt of a core sets going beside its own effect stands in it.
-/

namespace Sys2Proof.Machine

/-! ## Fields of one page -/

section
variable {s : State}

/-- A field of the same page that shares no bit with the one written stays. -/
theorem State.fld_setFld_of_page (s : State) (b : Nat) {f g : Fld} (n : Nat)
    (h : g.off ≠ f.off ∨ g.lo + g.width ≤ f.lo ∨ f.lo + f.width ≤ g.lo) : (s.setFld b f n).fld b g = s.fld b g :=
  s.fld_setFld_of_apart n (h.imp_left fun hoff hreg => hoff (Nat.add_left_cancel hreg))

theorem satAdd_lt {width n k : Nat} : satAdd width n k < 2 ^ width := by
  have := Nat.two_pow_pos width
  unfold satAdd
  split <;> omega

/-- A counter reads as its saturating sum. -/
theorem State.fld_count_self (s : State) (b : Nat) (f : Fld) (h : f.lo + f.width ≤ 64) :
    (s.count b f).fld b f = satAdd f.width (s.fld b f) 1 :=
  (s.fld_setFld_self b f _ h).trans (Nat.mod_eq_of_lt satAdd_lt)

end

/-! ## The relation -/

/-- The bits of the positions' pages that check events and debug halts write: the registers from 0x040 upward, but for ROLE. -/
def checkBits (w i : Nat) : Prop :=
  0x100 ≤ w / 0x1000 ∧ w / 0x1000 < 0x200 ∧ 0x040 ≤ w % 0x1000 ∧ (w % 0x1000 = 0x048 → 3 ≤ i)

/-- From `s` to `t` the positions, with their check events, and those bits of their pages stay. -/
structure State.KeepsChecks (s t : State) : Prop where
  positions : t.positions = s.positions
  window : ∀ w i, checkBits w i → bit (t.reg w) i = bit (s.reg w) i

theorem not_checkBits {w i : Nat} (h : w < 0x100000 ∨ 0x200000 ≤ w ∨ w % 0x1000 < 0x040) : ¬ checkBits w i := by
  simp only [checkBits]; omega

section
variable {s t u : State}

theorem State.KeepsChecks.refl (s : State) : s.KeepsChecks s := ⟨rfl, fun _ _ _ => rfl⟩

theorem State.KeepsChecks.trans (h : s.KeepsChecks t) (k : t.KeepsChecks u) : s.KeepsChecks u :=
  ⟨k.positions.trans h.positions, fun w i hw => (k.window w i hw).trans (h.window w i hw)⟩

theorem State.KeepsChecks.checkEvent (h : s.KeepsChecks t) (p pipe : Nat) : t.checkEvent p pipe = s.checkEvent p pipe := by
  simp only [State.checkEvent, State.pos, h.positions]

/-- A field that check events or debug halts write. -/
theorem State.KeepsChecks.fld (h : s.KeepsChecks t) {p : Nat} (hp : p < 40) {f : Fld}
    (hf : 0x040 ≤ f.off ∧ f.off < 0x1000 ∧ (f.off = 0x048 → 3 ≤ f.lo)) : t.fld (bPos p) f = s.fld (bPos p) f := by
  apply Nat.eq_of_testBit_eq
  intro i
  simp only [State.fld, testBit_bits, ← bit_eq_getLsbD]
  rw [h.window]
  simp only [checkBits, bPos_eq]
  omega

theorem State.KeepsChecks.flag (h : s.KeepsChecks t) {p : Nat} (hp : p < 40) {f : Fld}
    (hf : 0x040 ≤ f.off ∧ f.off < 0x1000 ∧ (f.off = 0x048 → 3 ≤ f.lo)) : t.flag (bPos p) f = s.flag (bPos p) f :=
  congrArg (· == 1) (h.fld hp hf)

/-! ## Work that keeps the check events -/

/-- An update beside the window and the positions. -/
theorem State.KeepsChecks.of_eq (hp : t.positions = s.positions) (hr : t.regs = s.regs) : s.KeepsChecks t :=
  ⟨hp, fun w i _ => by simp only [State.reg, hr]⟩

theorem State.KeepsChecks.setReg {w : Nat} {v : Word} (hw : ∀ i, ¬ checkBits w i) : s.KeepsChecks (s.setReg w v) :=
  ⟨rfl, fun x i hx => by
    rw [State.reg_setReg_of_ne]
    rintro rfl
    exact hw i hx⟩

theorem State.KeepsChecks.setFld {b : Nat} {f : Fld} (n : Nat)
    (hw : ∀ i, f.lo ≤ i → i < f.lo + f.width → ¬ checkBits (b + f.off) i) : s.KeepsChecks (s.setFld b f n) :=
  have h : s.Keeps (fieldBits b f) (s.setFld b f n) := .setFld_self ..
  ⟨rfl, fun w i hx => h.window w i fun ⟨hreg, hlo, hhi⟩ => hw i hlo hhi (hreg ▸ hx)⟩

theorem State.KeepsChecks.setFlag {b : Nat} {f : Fld} (v : Bool)
    (hw : ∀ i, f.lo ≤ i → i < f.lo + f.width → ¬ checkBits (b + f.off) i) : s.KeepsChecks (s.setFlag b f v) :=
  .setFld _ hw

theorem State.KeepsChecks.setSource (s : State) (n : Nat) (e : IcSource) : s.KeepsChecks (s.setSource n e) :=
  .of_eq (State.setSource_positions ..) (State.setSource_regs ..)

theorem State.KeepsChecks.makeOfferable (s : State) (n : Nat) : s.KeepsChecks (s.makeOfferable n) := by
  refine .of_eq ?_ (s.makeOfferable_frame n).1
  unfold State.makeOfferable
  simp only
  split <;> rfl

theorem State.KeepsChecks.sourceEvent (s : State) (n : Nat) : s.KeepsChecks (s.sourceEvent n) := by
  unfold State.sourceEvent State.checkModeration
  simp only
  split
  · exact (State.KeepsChecks.setSource ..).trans (.makeOfferable _ n)
  · exact .setSource ..

theorem State.KeepsChecks.coreEvent (s : State) (n kind : Nat) : s.KeepsChecks (s.coreEvent n kind) :=
  (State.KeepsChecks.setSource ..).trans (.sourceEvent _ _)

theorem State.KeepsChecks.raiseErr (s : State) (p : Page) (i : Nat) : s.KeepsChecks (s.raiseErr p i) := by
  have h1 : s.KeepsChecks (s.setReg (p.base + 0x020) (putBit (s.reg (p.base + 0x020)) i true)) :=
    .setReg fun _ => not_checkBits (by unfold Page.base; omega)
  unfold State.raiseErr
  extract_lets e s1
  split
  · exact .refl s
  · split
    · exact h1
    · split
      · exact h1.trans (.sourceEvent _ _)
      · exact h1

theorem State.KeepsChecks.crumb (s : State) (p : Page) (code sev : Nat) (payload : List Word) (zone : Option Nat)
    (injected : Bool) : s.KeepsChecks (s.crumb p code sev payload zone injected) := by
  unfold State.crumb
  extract_lets r s1
  have h1 : s.KeepsChecks s1 := .of_eq rfl rfl
  split
  · exact (h1.trans (.setFld _ fun _ _ _ => not_checkBits (.inl (by decide)))).trans (.raiseErr _ _ _)
  · exact h1

theorem State.KeepsChecks.refreshMode (s : State) : s.KeepsChecks s.refreshMode := by
  have ese {u : State} {f : Fld} (n : Nat) (hf : f.off = 0x040) : u.KeepsChecks (u.setFld bEse f n) :=
    .setFld n fun _ _ _ => not_checkBits (.inl (by rw [hf]; decide))
  unfold State.refreshMode State.refreshModeFrom
  extract_lets s1 m s2
  have h1 : s.KeepsChecks s1 := ((ese _ rfl).trans (ese _ rfl)).trans (ese _ rfl)
  split
  · exact h1
  · exact (h1.trans (ese _ rfl)).trans (.crumb ..)

theorem not_checkBits_ucode (u off i : Nat) : ¬ checkBits (bUcode u + off) i :=
  not_checkBits (by rw [bUcode_eq]; omega)

theorem State.KeepsChecks.ucSettle (s : State) (u : Nat) : s.KeepsChecks (s.ucSettle u) := by
  have uc {v : State} {f : Fld} (n : Nat) : v.KeepsChecks (v.setFld (bUcode u) f n) :=
    .setFld n fun i _ _ => not_checkBits_ucode u f.off i
  have word {v : State} (off : Nat) (x : Word) : v.KeepsChecks (v.setReg (bUcode u + off) x) :=
    .setReg (not_checkBits_ucode u off)
  unfold State.ucSettle
  extract_lets n s1 x before s2 s3 s4
  have h1 : s.KeepsChecks s1 := uc n
  have h2 : s1.KeepsChecks s2 := .of_eq rfl rfl
  have h3 : s2.KeepsChecks s3 := (word 0x060 _).trans (word 0x068 _)
  have h4 : s3.KeepsChecks s4 := (uc 1).trans (uc 0)
  split
  · exact .refl s
  · split
    · exact h1
    · exact (((h1.trans h2).trans h3).trans h4).trans (.crumb ..)

theorem State.KeepsChecks.setRole (s : State) (p r : Nat) : s.KeepsChecks (s.setRole p r) := by
  refine .trans (.trans (.setFld _ fun i _ hi => ?_) (.ucSettle _ 0)) (.ucSettle _ 1)
  simp only [checkBits, bPos_eq, F.CORE_STAT_ROLE] at hi ⊢
  omega

theorem State.KeepsChecks.capWords (s : State) : s.KeepsChecks s.capWords := by
  have cap {u : State} {f : Fld} (n : Nat) (hf : f.off < 0x1000) : u.KeepsChecks (u.setFld bIdent f n) :=
    .setFld n fun _ _ _ => not_checkBits (.inl (by rw [show bIdent = 0 from rfl]; omega))
  unfold State.capWords
  extract_lets active spare failed spares unchecked s1
  have h1 : s.KeepsChecks s1 := ((cap _ (by decide)).trans (cap _ (by decide))).trans (cap _ (by decide))
  exact (((h1.trans (cap _ (by decide))).trans (cap _ (by decide))).trans (cap _ (by decide))).trans (cap _ (by decide))

/-! ### The rails and the dividers -/

theorem State.KeepsChecks.setPwr {f : Fld} (n : Nat) (hf : f.off < 0x1000) : s.KeepsChecks (s.setFld bPwr f n) :=
  .setFld n fun _ _ _ => not_checkBits (.inl (by rw [show bPwr = 0x10000 from rfl]; omega))

theorem State.KeepsChecks.setTilePwr {k : Nat} (hk : k < 4) {f : Fld} (n : Nat) (hf : f.off < 0x1000) :
    s.KeepsChecks (s.setFld (bTilePwr k) f n) :=
  .setFld n fun _ _ _ => not_checkBits (.inl (by rw [bTilePwr_eq]; omega))

theorem State.KeepsChecks.reserveSlot (s : State) (k start len wanted : Nat) :
    s.KeepsChecks (s.reserveSlot k start len wanted) := by
  unfold State.reserveSlot
  extract_lets x s1
  have h1 : s.KeepsChecks s1 := .of_eq rfl rfl
  split
  · exact h1
  · exact h1.trans (.setPwr _ (by decide))

theorem State.KeepsChecks.quietChange (s : State) (k amount : Nat) : s.KeepsChecks (s.quietChange k amount) := by
  unfold State.quietChange
  extract_lets len
  split
  · exact .refl s
  · exact .reserveSlot ..

theorem State.KeepsChecks.announce (s : State) (k amount lead : Nat) (rise : Bool) :
    s.KeepsChecks (s.announce k amount lead rise) := by
  unfold State.announce
  extract_lets len x ready wanted start sentBy waiting s1 rail s2 m power s3
  have h2 : s.KeepsChecks s2 := (State.KeepsChecks.reserveSlot s k start len wanted).trans (.of_eq rfl rfl)
  have h3 : s2.KeepsChecks s3 := .of_eq rfl rfl
  split
  · refine ((h2.trans h3).trans (.setPwr _ (by decide))).trans (.setPwr _ ?_)
    cases rise <;> decide
  · exact h2.trans (.of_eq rfl rfl)

theorem State.KeepsChecks.railFollows (s old : State) (k : Nat) : s.KeepsChecks (s.railFollows old k) := by
  unfold State.railFollows State.rise State.fall
  split <;> split
  · exact .quietChange ..
  · exact .announce ..
  · exact .quietChange ..
  · exact .announce ..

theorem State.KeepsChecks.makeRoom {k : Nat} (hk : k < 4) (after : State → State) (fuel : Nat) (s : State) :
    s.KeepsChecks (State.makeRoom k after fuel s) := by
  induction fuel generalizing s with
  | zero => exact .refl s
  | succ fuel ih =>
    unfold State.makeRoom
    split
    · refine State.KeepsChecks.trans ?_ (ih _)
      exact ((State.KeepsChecks.setTilePwr hk _ (by decide)).trans (.railFollows _ _ _)).trans
        (.setTilePwr hk _ (by decide))
    · exact .refl s

theorem State.KeepsChecks.movePosition (s : State) {p st : Nat} (hp : p < 40) (h : st ≠ 3) :
    s.KeepsChecks (s.movePosition p st) := by
  unfold State.movePosition
  simp only [if_neg h]
  exact ((State.KeepsChecks.makeRoom (by omega) _ _ s).trans
    (.setTilePwr (by omega) _ (by simp only [pstateFld]; decide))).trans (.railFollows _ _ _)

end

end Sys2Proof.Machine
end

section
/-!
PROOFS. Check events (R251 to R255, R269). First what each part of an event's record writes, then a firing as the first or the
second retry of its event and the causes of a firing, then the restart, the end of an event and a lost Wafer.
-/

namespace Sys2Proof.Machine

/-! ## The parts of a check event's record -/

/-- From `s` to `t` the cores, memory, the tiles and the sparings stay. -/
structure State.KeepsUnits (s t : State) : Prop where
  cores : t.cores = s.cores
  mem : t.mem = s.mem
  tiles : t.tiles = s.tiles
  sparings : t.sparings = s.sparings

section
variable {s t u : State}

theorem State.KeepsUnits.refl (s : State) : s.KeepsUnits s := ⟨rfl, rfl, rfl, rfl⟩

theorem State.KeepsUnits.trans (h : s.KeepsUnits t) (k : t.KeepsUnits u) : s.KeepsUnits u :=
  ⟨k.cores.trans h.cores, k.mem.trans h.mem, k.tiles.trans h.tiles, k.sparings.trans h.sparings⟩

theorem State.KeepsUnits.core (h : s.KeepsUnits t) (n : Nat) : t.core n = s.core n := by
  simp only [State.core, h.cores]

end

section
variable (s : State) (p pipe : Nat)

theorem State.KeepsUnits.setFld (b : Nat) (f : Fld) (n : Nat) : s.KeepsUnits (s.setFld b f n) := ⟨rfl, rfl, rfl, rfl⟩

/-- A register written before a core. -/
theorem State.KeepsUnits.setReg_setCore (w : Nat) (v : Word) (n : Nat) (c : LCore) :
    (s.setCore n c).KeepsUnits ((s.setReg w v).setCore n c) := ⟨rfl, rfl, rfl, rfl⟩

theorem State.KeepsUnits.setCheckEvent (e : Option CheckEvent) : s.KeepsUnits (s.setCheckEvent p pipe e) :=
  ⟨rfl, rfl, rfl, rfl⟩

theorem State.KeepsUnits.noteEvent (outcome : Nat) (e : CheckEvent) : s.KeepsUnits (s.noteEvent p outcome e) :=
  ⟨rfl, rfl, rfl, rfl⟩

theorem State.KeepsUnits.countFiring (code : Nat) (first : Bool) : s.KeepsUnits (s.countFiring p code first) := by
  unfold State.countFiring
  simp only
  split_ifs <;> exact ⟨rfl, rfl, rfl, rfl⟩

/-- A firing's counters stand beside the counts of retries and of benign mismatches. -/
theorem State.fld_countFiring (code : Nat) (first : Bool) {f : Fld} (h : f.off ≠ 0x050 ∨ f.lo + f.width ≤ 32) :
    (s.countFiring p code first).fld (bPos p) f = s.fld (bPos p) f := by
  have cnt (u : State) (g : Fld) (hg : g.off = 0x050 ∧ 32 ≤ g.lo) : (u.count (bPos p) g).fld (bPos p) f = u.fld (bPos p) f :=
    u.fld_setFld_of_page _ _ (by omega)
  unfold State.countFiring
  simp only
  split_ifs <;> simp (disch := decide) only [cnt]

theorem State.checkEvent_setCheckEvent (e : Option CheckEvent) : (s.setCheckEvent p pipe e).checkEvent p pipe = e := by
  unfold State.setCheckEvent State.checkEvent
  show (if pipe = 0 then ((s.setPos p _).pos p).event0 else ((s.setPos p _).pos p).event1) = e
  rw [State.pos_setPos_self]
  split <;> rfl

theorem State.checkEvent_setFld (b : Nat) (f : Fld) (n : Nat) : (s.setFld b f n).checkEvent p pipe = s.checkEvent p pipe := rfl

theorem State.checkEvent_noteEvent (outcome : Nat) (e : CheckEvent) :
    (s.noteEvent p outcome e).checkEvent p pipe = s.checkEvent p pipe := rfl

theorem State.fld_setCheckEvent (e : Option CheckEvent) {f : Fld} (h : f.off ≠ 0x048 ∨ f.lo + f.width ≤ 6 ∨ 7 ≤ f.lo) :
    (s.setCheckEvent p pipe e).fld (bPos p) f = s.fld (bPos p) f :=
  State.fld_setFld_of_page _ _ _ h

/-- RETRYING is 1 while an event is open. -/
theorem State.retrying_setCheckEvent_some (e : CheckEvent) :
    (s.setCheckEvent p pipe (some e)).flag (bPos p) F.CORE_STAT_RETRYING = true := by
  refine (State.flag_setFlag_self _ _ _ rfl (by decide)).trans ?_
  split <;> simp

/-- The end of the one open event of a position clears RETRYING. -/
theorem State.retrying_setCheckEvent_none (h : (s.pos p).event1 = none) :
    (s.setCheckEvent p 0 none).flag (bPos p) F.CORE_STAT_RETRYING = false := by
  refine (State.flag_setFlag_self _ _ _ rfl (by decide)).trans ?_
  simp [h]

/-- CHK_LAST after it is written with an event's figures. -/
theorem State.noteEvent_fields (outcome : Nat) (e : CheckEvent) :
    (s.noteEvent p outcome e).fld (bPos p) F.CHK_LAST_SOURCE = e.source % 16 ∧
      (s.noteEvent p outcome e).fld (bPos p) F.CHK_LAST_RETRIES = e.retries % 4 ∧
      (s.noteEvent p outcome e).fld (bPos p) F.CHK_LAST_OUTCOME = outcome % 8 ∧
      (s.noteEvent p outcome e).fld (bPos p) F.CHK_LAST_INJECTED = b2n e.injected % 2 := by
  unfold State.noteEvent State.setFlag
  simp (disch := decide) only [State.fld_setFld_of_page, State.fld_setFld_self]
  exact ⟨rfl, rfl, rfl, rfl⟩

theorem State.fld_noteEvent (outcome : Nat) (e : CheckEvent) {f : Fld} (hlast : f.off ≠ 0x058 ∨ 12 ≤ f.lo)
    (hstat : f.off ≠ 0x048 ∨ f.lo + f.width ≤ 9) : (s.noteEvent p outcome e).fld (bPos p) f = s.fld (bPos p) f := by
  have last (u : State) (g : Fld) (n : Nat) (hg : g.off = 0x058 ∧ g.lo + g.width ≤ 12) :
      (u.setFld (bPos p) g n).fld (bPos p) f = u.fld (bPos p) f := u.fld_setFld_of_page _ _ (by omega)
  have stat (u : State) (n : Nat) : (u.setFld (bPos p) F.CORE_STAT_RETRIES n).fld (bPos p) f = u.fld (bPos p) f :=
    u.fld_setFld_of_page _ _ (by simp only [F.CORE_STAT_RETRIES]; omega)
  unfold State.noteEvent State.setFlag
  simp (disch := decide) only [last, stat]

end

/-! ## A check fires (R251, R254) -/

/-- The event that a firing opens. -/
def firstEvent (code : Nat) (self : Option Nat) (injected : Bool) : CheckEvent :=
  { source := code, selfLead := self == some 0, selfTrail := self == some 1, retries := 1, clean := 0, frozen := true,
    injected := injected, lost := false }

/-- An event whose second retry starts. -/
def CheckEvent.second (e : CheckEvent) (self : Option Nat) : CheckEvent :=
  { e with selfLead := e.selfLead || self == some 0, selfTrail := e.selfTrail || self == some 1, retries := 2, clean := 0,
           frozen := true }

/-- An event takes its place and its figures stand in CHK_LAST with OUTCOME 6. -/
def State.recordRetry (s : State) (p pipe : Nat) (e : CheckEvent) : State := (s.setCheckEvent p pipe (some e)).noteEvent p 6 e

section
variable (s : State) (p pipe : Nat) (e : CheckEvent)

theorem State.KeepsUnits.recordRetry : s.KeepsUnits (s.recordRetry p pipe e) :=
  (State.KeepsUnits.setCheckEvent ..).trans (.noteEvent ..)

theorem State.recordRetry_checkEvent : (s.recordRetry p pipe e).checkEvent p pipe = some e :=
  (State.checkEvent_noteEvent ..).trans (State.checkEvent_setCheckEvent ..)

theorem State.fld_recordRetry {f : Fld} (hlast : f.off ≠ 0x058 ∨ 12 ≤ f.lo)
    (hstat : f.off ≠ 0x048 ∨ f.lo + f.width ≤ 6) :
    (s.recordRetry p pipe e).fld (bPos p) f = s.fld (bPos p) f :=
  (State.fld_noteEvent _ _ _ _ hlast (by omega)).trans (State.fld_setCheckEvent _ _ _ _ (by omega))

theorem State.recordRetry_fields : (s.recordRetry p pipe e).fld (bPos p) F.CHK_LAST_SOURCE = e.source % 16 ∧
    (s.recordRetry p pipe e).fld (bPos p) F.CHK_LAST_RETRIES = e.retries % 4 ∧
    (s.recordRetry p pipe e).fld (bPos p) F.CHK_LAST_OUTCOME = 6 ∧
    (s.recordRetry p pipe e).fld (bPos p) F.CHK_LAST_INJECTED = b2n e.injected % 2 :=
  State.noteEvent_fields ..

theorem State.recordRetry_retrying : (s.recordRetry p pipe e).flag (bPos p) F.CORE_STAT_RETRYING = true :=
  (congrArg (· == 1) (State.fld_noteEvent _ _ _ _ (by decide) (by decide))).trans (State.retrying_setCheckEvent_some ..)

end

/-- The time and the PC of an event's first firing, in CHK_LAST and CHK_LAST_PC. -/
def State.stampFirst (s : State) (p time pc : Nat) : State :=
  (s.setFld (bPos p) F.CHK_LAST_TIME time).setFld (bPos p) F.CHK_LAST_PC_PC pc

section
variable (s : State) (p time pc : Nat)

theorem State.KeepsUnits.stampFirst : s.KeepsUnits (s.stampFirst p time pc) := (State.KeepsUnits.setFld ..).trans (.setFld ..)

theorem State.stampFirst_checkEvent (pipe : Nat) : (s.stampFirst p time pc).checkEvent p pipe = s.checkEvent p pipe :=
  (State.checkEvent_setFld ..).trans (State.checkEvent_setFld ..)

theorem State.stampFirst_time : (s.stampFirst p time pc).fld (bPos p) F.CHK_LAST_TIME = time % 2 ^ 32 :=
  (State.fld_setFld_of_page _ _ _ (by decide)).trans (State.fld_setFld_self _ _ _ _ (by decide))

theorem State.fld_stampFirst {f : Fld} (htime : f.off ≠ 0x058 ∨ f.lo + f.width ≤ 32) (hpc : f.off ≠ 0x060) :
    (s.stampFirst p time pc).fld (bPos p) f = s.fld (bPos p) f :=
  (State.fld_setFld_of_page _ _ _ (.inl hpc)).trans
    (State.fld_setFld_of_page _ _ _ (htime.imp_right .inl))

end

section
variable {s : State} {p pipe n code : Nat} {self : Option Nat} {injected : Bool} (htx : (s.core n).tx = none)
include htx

/-- A firing with no event open. -/
theorem State.checkFires_first (he : s.checkEvent p pipe = none) :
    s.checkFires p pipe n code self injected =
      ((((s.setCore n (s.core n).rolledBack).countFiring p code (self == some 0 || self == some 1)).count (bPos p)
        F.CHK_CNT_RETRY).recordRetry p pipe (firstEvent code self injected)).stampFirst p s.timebase.toNat
          (s.core n).rolledBack.arch.pc.toNat := by
  simp only [State.checkFires, he, State.rollBack_of_no_tx htx, State.core_setCore_self]
  rfl

/-- A firing after the first retry of the open event, but for a checker fault. -/
theorem State.checkFires_second {e : CheckEvent} (he : s.checkEvent p pipe = some e) (hclean : e.clean < 256)
    (hretries : e.retries = 1) (hcode : code ≠ 2) :
    s.checkFires p pipe n code self injected =
      ((s.setCore n (s.core n).rolledBack).countFiring p code
        ((self == some 0 || self == some 1) && !e.selfLead && !e.selfTrail)).recordRetry p pipe (e.second self) := by
  simp only [State.checkFires, he, Nat.not_le.2 hclean, if_false, State.rollBack_of_no_tx htx, hretries, hcode,
    Nat.reduceEqDiff, and_false, or_false]
  rfl

end

/-- What the first firing of an event leaves (R251). -/
structure State.FirstRetry (s : State) (p pipe n code : Nat) (own : Option Nat) (injected : Bool) (t : State) : Prop where
  units : (s.setCore n (s.core n).rolledBack).KeepsUnits t
  event : t.checkEvent p pipe = some (firstEvent code own injected)
  counted : t.fld (bPos p) F.CHK_CNT_RETRY = satAdd F.CHK_CNT_RETRY.width (s.fld (bPos p) F.CHK_CNT_RETRY) 1
  source : t.fld (bPos p) F.CHK_LAST_SOURCE = code % 16
  retries : t.fld (bPos p) F.CHK_LAST_RETRIES = 1
  outcome : t.fld (bPos p) F.CHK_LAST_OUTCOME = 6
  injected : t.flag (bPos p) F.CHK_LAST_INJECTED = injected
  time : t.fld (bPos p) F.CHK_LAST_TIME = s.timebase.toNat % 2 ^ 32
  retrying : t.flag (bPos p) F.CORE_STAT_RETRYING = true
  arm : t.flag (bPos p) F.CHK_INJECT_ARM = s.flag (bPos p) F.CHK_INJECT_ARM

/-- What the second retry of an event leaves (R254). -/
structure State.SecondRetry (s : State) (p pipe n : Nat) (own : Option Nat) (e : CheckEvent) (t : State) : Prop where
  units : (s.setCore n (s.core n).rolledBack).KeepsUnits t
  event : t.checkEvent p pipe = some (e.second own)
  counted : t.fld (bPos p) F.CHK_CNT_RETRY = s.fld (bPos p) F.CHK_CNT_RETRY
  retries : t.fld (bPos p) F.CHK_LAST_RETRIES = 2
  outcome : t.fld (bPos p) F.CHK_LAST_OUTCOME = 6

section
variable {s : State} {p pipe n code : Nat} {self : Option Nat} {injected : Bool} (htx : (s.core n).tx = none)
include htx

theorem State.checkFires_firstRetry (he : s.checkEvent p pipe = none) :
    s.FirstRetry p pipe n code self injected (s.checkFires p pipe n code self injected) := by
  rw [State.checkFires_first htx he]
  have hcount := State.KeepsUnits.countFiring (s.setCore n (s.core n).rolledBack) p code (self == some 0 || self == some 1)
  have hfld {f : Fld} (hf : f.off ≠ 0x050 ∨ f.lo + f.width ≤ 32) :=
    State.fld_countFiring (s.setCore n (s.core n).rolledBack) p code (self == some 0 || self == some 1) hf
  generalize (s.setCore n (s.core n).rolledBack).countFiring p code (self == some 0 || self == some 1) = u at hcount hfld ⊢
  obtain ⟨hsource, hretries, houtcome, hinjected⟩ :=
    (u.count (bPos p) F.CHK_CNT_RETRY).recordRetry_fields p pipe (firstEvent code self injected)
  constructor
  case units => exact ((hcount.trans (.setFld ..)).trans (.recordRetry ..)).trans (.stampFirst ..)
  case event => rw [State.stampFirst_checkEvent, State.recordRetry_checkEvent]
  case counted =>
    rw [State.fld_stampFirst _ _ _ _ (by decide) (by decide), State.fld_recordRetry _ _ _ _ (by decide) (by decide),
      State.fld_count_self _ _ _ (by decide), hfld (by decide)]
    rfl
  case source => exact (State.fld_stampFirst _ _ _ _ (by decide) (by decide)).trans hsource
  case retries => exact (State.fld_stampFirst _ _ _ _ (by decide) (by decide)).trans hretries
  case outcome => exact (State.fld_stampFirst _ _ _ _ (by decide) (by decide)).trans houtcome
  case injected =>
    rw [State.flag, State.fld_stampFirst _ _ _ _ (by decide) (by decide), hinjected]
    cases injected <;> rfl
  case time => exact State.stampFirst_time ..
  case retrying =>
    rw [State.flag, State.fld_stampFirst _ _ _ _ (by decide) (by decide)]
    exact State.recordRetry_retrying ..
  case arm =>
    refine congrArg (· == 1) ((State.fld_stampFirst _ _ _ _ (by decide) (by decide)).trans ?_)
    rw [State.fld_recordRetry _ _ _ _ (by decide) (by decide), State.count, State.fld_setFld_of_page _ _ _ (by decide),
      hfld (by decide)]
    rfl

theorem State.checkFires_secondRetry {e : CheckEvent} (he : s.checkEvent p pipe = some e) (hclean : e.clean < 256)
    (hretries : e.retries = 1) (hcode : code ≠ 2) :
    s.SecondRetry p pipe n self e (s.checkFires p pipe n code self injected) := by
  rw [State.checkFires_second htx he hclean hretries hcode]
  obtain ⟨-, hretries2, houtcome, -⟩ := ((s.setCore n (s.core n).rolledBack).countFiring p code
    ((self == some 0 || self == some 1) && !e.selfLead && !e.selfTrail)).recordRetry_fields p pipe (e.second self)
  constructor
  case units => exact (State.KeepsUnits.countFiring ..).trans (.recordRetry ..)
  case event => exact State.recordRetry_checkEvent ..
  case counted =>
    rw [State.fld_recordRetry _ _ _ _ (by decide) (by decide), State.fld_countFiring _ _ _ _ (by decide)]
    rfl
  case retries => exact hretries2
  case outcome => exact houtcome

end

/-! ## The causes of a firing (R251, R269) -/

/-- The state in which an injection fires: it has disarmed, unless PERSIST (R269). -/
def State.disarmed (s : State) (p : Nat) : State :=
  if s.flag (bPos p) F.CHK_INJECT_PERSIST then s else s.setFlag (bPos p) F.CHK_INJECT_ARM false

/-- The state in which a check fires: an injection has disarmed. -/
def State.atFiring (s : State) (p : Nat) (injected : Bool) : State := if injected then s.disarmed p else s

section
variable (s : State) (p : Nat) (injected : Bool)

/-- A disarming writes one register. -/
theorem State.atFiring_regs : ∃ r, s.atFiring p injected = { s with regs := r } := by
  unfold State.atFiring State.disarmed
  split_ifs <;> exact ⟨_, rfl⟩

theorem State.fld_atFiring {f : Fld} (hf : f.off ≠ 0x070) : (s.atFiring p injected).fld (bPos p) f = s.fld (bPos p) f := by
  unfold State.atFiring State.disarmed
  split_ifs
  · rfl
  · exact s.fld_setFld_of_page _ _ (.inl hf)
  · rfl

/-- After an injection has fired it is armed just where PERSIST is set. -/
theorem State.arm_atFiring (h : s.flag (bPos p) F.CHK_INJECT_ARM = true) :
    (s.atFiring p true).flag (bPos p) F.CHK_INJECT_ARM = s.flag (bPos p) F.CHK_INJECT_PERSIST := by
  rw [State.atFiring, if_pos rfl, State.disarmed]
  split
  next hpersist => rw [h, hpersist]
  next hpersist => rw [State.flag_setFlag_self _ _ _ rfl (by decide), Bool.eq_false_of_not_eq_true hpersist]

end

/-- A self-check has a code of 4 or more (Table 11.3). -/
theorem State.four_le_of_canFire {s : State} {p n code k : Nat} (h : s.canFire p n code (some k) = true) : 4 ≤ code := by
  simp only [State.canFire, Bool.and_eq_true, Option.isSome_some, beq_true, Bool.or_eq_true, beq_iff_eq] at h
  omega

/-- In split mode a late trailing record fires no check (R265). -/
theorem State.not_canFire_trailing {s : State} {p n : Nat} (hs : s.split = true) : s.canFire p n 8 none = false := by
  simp [State.canFire, hs]

theorem State.Keeps.units {W : Nat → Nat → Prop} {s t : State} (h : s.Keeps W t) : s.KeepsUnits t :=
  ⟨h.cores, h.mem, h.tiles, h.sparings⟩

/-- CHK_INJECT.PIPE of an injection: the pipeline of a self-check, or none. -/
def injectMask (self : Option (Fin 2)) : Nat := self.elim 0 (2 ^ ·.val)

/-- The leading pipeline of the mask, if any, is the one that it was written for. -/
theorem injectMask_names {self : Option (Fin 2)} {code : Nat} (h : ∀ k : Fin 2, self = some k → 4 ≤ code) :
    (if 4 ≤ code ∧ (injectMask self).testBit (if (injectMask self).testBit 0 then 0 else 1) = true then
      some (if (injectMask self).testBit 0 then 0 else 1) else none) = self.map (·.val) := by
  match self with
  | none => simp [injectMask]
  | some 0 => simp [injectMask, h 0 rfl]
  | some 1 => simp [injectMask, h 1 rfl, Nat.testBit]

theorem injectMask_ne_both (self : Option (Fin 2)) : (injectMask self == 3) = false := by
  revert self
  decide

section
variable {s : State} {n : Fin 64} {code : BitVec 4} {self : Option (Fin 2)} (hpow : s.powered = true)
include hpow

theorem exec_checkFiring_next (hfire : s.canFire (s.posOf n) n code.toNat (self.map (·.val)) = true) :
    exec (.checkFiring n code self) s = .next (s.checkFires (s.posOf n) (if s.split then s.pipeOf n else 0) n code.toNat
      (self.map (·.val)) false) :=
  event_next _ _ hpow hfire

/-- A late trailing record fires code 0x8. -/
theorem exec_trailingRecordTimeout_next (hfire : s.canFire (s.posOf n) n 8 none = true) :
    exec (.trailingRecordTimeout n) s =
      .next (s.checkFires (s.posOf n) (if s.split then s.pipeOf n else 0) n 8 none false) := by
  have hs : s.split = false := by
    by_contra hs
    rw [State.not_canFire_trailing (Bool.eq_true_of_not_eq_false hs)] at hfire
    exact Bool.noConfusion hfire
  rw [hs]
  exact event_next _ _ hpow hfire

/-- An injection fires as its code at the pipeline that it names. -/
theorem exec_chkInjectArm_next (hfire : s.canFire (s.posOf n) n code.toNat (self.map (·.val)) = true) (hs : s.split = false)
    (harm : s.flag (bPos (s.posOf n)) F.CHK_INJECT_ARM = true)
    (hsource : s.fld (bPos (s.posOf n)) F.CHK_INJECT_SOURCE = code.toNat)
    (hpipes : s.fld (bPos (s.posOf n)) F.CHK_INJECT_PIPE = injectMask self) :
    exec (.chkInjectArm n) s = .next ((s.disarmed (s.posOf n)).checkFires (s.posOf n)
      (if s.split then s.pipeOf n else 0) n code.toNat (self.map (·.val)) true) := by
  have hself := injectMask_names (self := self) fun k hk => State.four_le_of_canFire (k := k) (by rw [hk] at hfire; exact hfire)
  show execChkInjectArm n s = _
  simp only [execChkInjectArm, hs, hsource, hpipes, Bool.false_eq_true, if_false, hself, injectMask_ne_both self,
    Bool.and_false]
  exact event_next _ _ hpow (by rw [harm, hfire]; rfl)

end

/-! ## The restart and the end of an event (R252, R254) -/

/-- The event of a core that runs again from its Wafer (R252). -/
def CheckEvent.restarted (e : CheckEvent) : CheckEvent := { e with frozen := false, clean := 0 }

/-- A retry waits for its restart (R252). -/
def State.retryWaits (s : State) (n : Nat) (e : CheckEvent) : Prop :=
  s.split = false ∧ s.coreValid n = true ∧ s.checkEvent (s.posOf n) 0 = some e ∧ e.frozen = true ∧
    s.beingSpared n = false ∧ s.mode ≠ 10

section
variable {s : State} {n : Fin 64} {e : CheckEvent} (hpow : s.powered = true)
include hpow

theorem exec_retryRestart_next (h : s.retryWaits n e) (hhalt : (s.core n).haltDue = false) :
    exec (.retryRestart n false) s =
      .next ((s.setCore n (s.core n).rolledBack).setCheckEvent (s.posOf n) 0 (some e.restarted)) := by
  obtain ⟨hs, hvalid, he, hfrozen, hsparing, hmode⟩ := h
  show execRetryRestart n false s = _
  simp only [execRetryRestart, hs, Bool.false_eq_true, if_false, he, hhalt]
  exact event_next _ _ hpow (by simp [hfrozen, hvalid, hsparing, hmode])

theorem exec_retryRestart_lost (h : s.retryWaits n e) :
    exec (.retryRestart n true) s = .next (s.stopCore (s.posOf n) 0 n) := by
  obtain ⟨hs, hvalid, he, hfrozen, hsparing, hmode⟩ := h
  show execRetryRestart n true s = _
  simp only [execRetryRestart, hs, Bool.false_eq_true, if_false, he, if_true]
  exact event_next _ _ hpow (by simp [hfrozen, hvalid, hsparing, hmode])

theorem exec_checkEventEnd_next (hs : s.split = false) (hvalid : s.coreValid n = true)
    (he : s.checkEvent (s.posOf n) 0 = some e) (hclean : 256 ≤ e.clean) :
    exec (.checkEventEnd n) s = .next (s.endEvent (s.posOf n) 0 n e) := by
  show execCheckEventEnd n s = _
  simp only [execCheckEventEnd, hs, Bool.false_eq_true, if_false, he]
  exact event_next _ _ hpow (by simp [hclean, hvalid])

end

/-- A mismatch that its one retry did not repeat, with no self-check (R255). -/
def CheckEvent.benign (e : CheckEvent) : Bool := e.source == 1 && e.retries == 1 && !e.selfLead && !e.selfTrail

/-- An open event closes with an outcome. -/
def State.eventOver (s : State) (p outcome : Nat) (e : CheckEvent) : State := (s.setCheckEvent p 0 none).noteEvent p outcome e

section
variable (s : State) (p outcome : Nat) (e : CheckEvent)

theorem State.KeepsUnits.eventOver : s.KeepsUnits (s.eventOver p outcome e) :=
  (State.KeepsUnits.setCheckEvent ..).trans (.noteEvent ..)

theorem State.eventOver_checkEvent : (s.eventOver p outcome e).checkEvent p 0 = none :=
  (State.checkEvent_noteEvent ..).trans (State.checkEvent_setCheckEvent ..)

theorem State.eventOver_outcome : (s.eventOver p outcome e).fld (bPos p) F.CHK_LAST_OUTCOME = outcome % 8 :=
  (State.noteEvent_fields ..).2.2.1

theorem State.eventOver_retrying (h : (s.pos p).event1 = none) :
    (s.eventOver p outcome e).flag (bPos p) F.CORE_STAT_RETRYING = false :=
  (congrArg (· == 1) (State.fld_noteEvent _ _ _ _ (by decide) (by decide))).trans (s.retrying_setCheckEvent_none p h)

theorem State.eventOver_benign :
    (s.eventOver p outcome e).fld (bPos p) F.CHK_CNT_BENIGN = s.fld (bPos p) F.CHK_CNT_BENIGN :=
  (State.fld_noteEvent _ _ _ _ (by decide) (by decide)).trans (State.fld_setCheckEvent _ _ _ _ (by decide))

end

/-- A clean event is over; a benign one is counted. -/
def State.eventCounted (s : State) (p : Nat) (e : CheckEvent) : State :=
  if e.benign then (s.eventOver p 1 e).count (bPos p) F.CHK_CNT_BENIGN else s.eventOver p 1 e

section
variable {s : State} (p n : Nat) (e : CheckEvent)

/-- Beside the close of the event and its count its end writes at most a Crumb (R254, R255). -/
theorem State.endEvent_steps :
    (s.eventCounted p e).KeepsChecks (s.endEvent p 0 n e) ∧ (s.eventCounted p e).KeepsUnits (s.endEvent p 0 n e) := by
  have hcrumb (u : State) (c sev : Nat) (ws : List Word) (z : Option Nat) (i : Bool) :
      u.KeepsChecks (u.crumb (posPage p) c sev ws z i) ∧ u.KeepsUnits (u.crumb (posPage p) c sev ws z i) :=
    ⟨.crumb .., (State.Keeps.crumb ..).units⟩
  unfold State.eventCounted State.endEvent
  extract_lets benign s1 words s2
  by_cases hb : benign = true
  · rw [if_pos hb, if_pos (show e.benign = true from hb)]
    split
    · exact hcrumb s2 ..
    · exact ⟨.refl s2, .refl s2⟩
  · rw [if_neg hb, if_neg (show ¬ e.benign = true from hb)]
    exact hcrumb s1 ..

theorem State.KeepsUnits.eventCounted : s.KeepsUnits (s.eventCounted p e) := by
  unfold State.eventCounted
  split
  · exact (State.KeepsUnits.eventOver ..).trans (.setFld ..)
  · exact .eventOver ..

theorem State.eventCounted_checkEvent : (s.eventCounted p e).checkEvent p 0 = none := by
  unfold State.eventCounted
  split
  · exact (State.checkEvent_setFld ..).trans (State.eventOver_checkEvent ..)
  · exact State.eventOver_checkEvent ..

/-- The count of a benign mismatch is no part of another register. -/
theorem State.fld_eventCounted {f : Fld} (hf : f.off ≠ 0x050) :
    (s.eventCounted p e).fld (bPos p) f = (s.eventOver p 1 e).fld (bPos p) f := by
  unfold State.eventCounted
  split
  · exact State.fld_setFld_of_page _ _ _ (.inl hf)
  · rfl

theorem State.eventCounted_benign (h : e.benign = true) : (s.eventCounted p e).fld (bPos p) F.CHK_CNT_BENIGN =
    satAdd F.CHK_CNT_BENIGN.width (s.fld (bPos p) F.CHK_CNT_BENIGN) 1 := by
  rw [State.eventCounted, if_pos h, State.fld_count_self _ _ _ (by decide), State.eventOver_benign]

end

/-! ## A lost Wafer (R13, R252) -/

/-- The window's bits that the stop of a core writes once its place is no longer valid. -/
def stopBits (p : Nat) : Nat → Nat → Prop := roleBits p ⊔ pstateBits p ⊔ errBits p

theorem not_stopBits_map {p n : Nat} (i : Nat) (hn : n < 64) : ¬ stopBits p (bIdent + 8 * n + 0x100) i := by
  simp only [stopBits, Pi.sup_apply, sup_Prop_eq, errBits, sideBits, roleBits, pstateBits, fieldBits, bPos_eq,
    bTilePwr_eq, pstateFld, F.CORE_STAT_ROLE, F.BLK_ERR, show bIdent = 0 from rfl]
  omega

/-- A core whose Wafer is lost has stopped: its event closes with OUTCOME 3 and LCORE_MAP names no place for it. -/
def State.withdrawn (s : State) (p n : Nat) (e : CheckEvent) : State :=
  (((s.setReg (bEse + F.DBG_STAT_HALTED.off) (putBit (s.reg (bEse + F.DBG_STAT_HALTED.off)) n false)).setCore n
    { s.core n with stopped := true, halted := false, haltDue := false }).eventOver p 3 e).setFlag (bIdent + 8 * n)
      F.LCORE_MAP_VALID false

section
variable {s : State} {p n : Nat} {e : CheckEvent}

theorem State.withdrawn_units : (s.setCore n { s.core n with stopped := true, halted := false, haltDue := false }).KeepsUnits
    (s.withdrawn p n e) :=
  ((State.KeepsUnits.setReg_setCore ..).trans (.eventOver _ p 3 e)).trans (.setFld ..)

theorem State.withdrawn_coreValid : (s.withdrawn p n e).coreValid n = false :=
  State.flag_setFlag_self _ _ _ rfl (by decide)

theorem State.withdrawn_checkEvent : (s.withdrawn p n e).checkEvent p 0 = none :=
  (State.checkEvent_setFld ..).trans (State.eventOver_checkEvent ..)

theorem State.withdrawn_outcome (hn : n < 64) : (s.withdrawn p n e).fld (bPos p) F.CHK_LAST_OUTCOME = 3 := by
  refine (State.fld_setFld_of_off _ _ _ _ _ _ ?_).trans (State.eventOver_outcome ..)
  simp only [bPos_eq, F.CHK_LAST_OUTCOME, F.LCORE_MAP_VALID, show bIdent = 0 from rfl]
  omega

theorem State.withdrawn_split (hp : p < 40) (hs : s.split = false) : (s.withdrawn p n e).split = false := by
  have hmap (u : State) : (u.setFlag (bIdent + 8 * n) F.LCORE_MAP_VALID false).split = u.split :=
    u.flag_setFlag_of_apart false (.inr (.inl (by decide)))
  have hover (u : State) : (u.eventOver p 3 e).split = u.split :=
    ((State.Keeps.setCheckEvent hp 0 none).trans (.noteEvent hp 3 e)).split (by simp only [sideBits]; omega)
  have hdbg (v : Word) : (s.setReg (bEse + F.DBG_STAT_HALTED.off) v).split = s.split :=
    (State.Keeps.setReg (W := fun w _ => w ≠ 0x1050) fun _ _ => by decide).split fun _ h => h rfl
  rw [State.withdrawn, hmap, hover, State.split_setCore, hdbg, hs]

/-- A position has failed. -/
def State.positionFails (s : State) (p : Nat) : State := s.setPos p { s.pos p with failed := true }

theorem State.positionFails_checkEvent : (s.positionFails p).checkEvent p 0 = s.checkEvent p 0 := by
  simp only [State.positionFails, State.checkEvent, State.pos_setPos_self]

theorem State.positionFails_fld (b : Nat) (f : Fld) : (s.positionFails p).fld b f = s.fld b f := rfl

/-- A position goes out of use: it has failed, with its role, the capability words and its error. -/
def State.outOfUse (s : State) (p : Nat) : State := (((s.positionFails p).setRole p 3).capWords).raiseErr (posPage p) 11

theorem State.KeepsChecks.outOfUse (s : State) (p : Nat) : (s.positionFails p).KeepsChecks (s.outOfUse p) :=
  ((State.KeepsChecks.setRole ..).trans (.capWords _)).trans (.raiseErr ..)

theorem State.outOfUse_error : bit ((s.outOfUse p).reg (bPos p + 0x020)) 11 = true :=
  State.bit_raiseErr_self _ (posPage p) (by decide)

theorem State.Keeps.outOfUse (hs : s.split = false) : s.Keeps (stopBits p) (s.outOfUse p) := by
  have h0 : s.Keeps (stopBits p) (s.positionFails p) := .setPos rfl rfl
  have hs0 : (s.positionFails p).split = false := hs
  exact ((h0.trans ((State.Keeps.setRole hs0 p 3).mono
    (sup_le (le_sup_left.trans le_sup_left) (le_sup_right.trans le_sup_right)))).trans
    (State.Keeps.capWords.mono (le_sup_right.trans le_sup_right))).trans (.raiseErr (.inr (.inl ⟨rfl, by decide⟩)))

/-- What follows the withdrawal: the position goes out of use and is powered down, with its Crumb and the core event. -/
theorem State.stopCore_steps (hs : s.split = false) (he : s.checkEvent p 0 = some e) : ∃ words zone inj,
    s.stopCore p 0 n = ((((((s.withdrawn p n e).outOfUse p).movePosition p 4).crumb (posPage p) 0x0901 4 words zone
      inj).coreEvent n 2).refreshMode) := by
  have hclose : ∀ u : State, u.positions = s.positions → u.closeEvent p 0 3 = u.eventOver p 3 e := fun u hu => by
    have hu' : u.checkEvent p 0 = some e := by rw [← he]; simp only [State.checkEvent, State.pos, hu]
    simp only [State.closeEvent, hu', State.eventOver]
  unfold State.stopCore
  extract_lets pc inj s0 c s1 s2 x s3 s4 s5 s6
  have h2 : s2 = s.withdrawn p n e := congrArg (State.setFlag · (bIdent + 8 * n) F.LCORE_MAP_VALID false) (hclose _ rfl)
  have h3 : s3 = s2.positionFails p := if_neg (by rw [hs]; decide)
  have h5 : s5 = s4.movePosition p 4 := if_neg (by rw [hs]; decide)
  have h4 : s4 = (s.withdrawn p n e).outOfUse p := by rw [← h2, State.outOfUse, ← h3]
  rw [← h4, ← h5]
  exact ⟨_, _, _, rfl⟩

/-- The interrupt source of a core event is pending, with its kind noted. -/
theorem State.coreEvent_source (s : State) (n i : Nat) : ((s.coreEvent n (2 ^ i)).source (0x1E00 + n)).pend = true ∧
    ((s.coreEvent n (2 ^ i)).source (0x1E00 + n)).evkind.testBit i = true := by
  refine ⟨State.sourceEvent_pend _ _, (State.Keeps.sourceEvent (W := sideBits) (0x1E00 + n)).kinds _ i ?_⟩
  rw [State.source_setSource_self]
  simp

/-- What the stop of a core leaves (R13, R252). -/
structure State.CoreStopped (s : State) (p n : Nat) (t : State) : Prop where
  stopped : (t.core n).stopped = true
  invalid : t.coreValid n = false
  error : bit (t.reg (bPos p + 0x020)) 11 = true
  outcome : t.fld (bPos p) F.CHK_LAST_OUTCOME = 3
  event : t.checkEvent p 0 = none
  pend : (t.source (0x1E00 + n)).pend = true
  kind : (t.source (0x1E00 + n)).evkind.testBit 1 = true
  others : ∀ m, m ≠ n → t.core m = s.core m
  mem : t.mem = s.mem

/-- The position's power-down, the Crumb and the core event write neither BLK_ERR of the position nor its check events. -/
theorem State.stopped_keeps (s : State) (hp : p < 40) (words : List Word) (zone : Option Nat) (inj : Bool) :
    s.Keeps (pstateBits p ⊔ sideBits)
        ((((s.movePosition p 4).crumb (posPage p) 0x0901 4 words zone inj).coreEvent n 2).refreshMode) ∧
      s.KeepsChecks ((((s.movePosition p 4).crumb (posPage p) 0x0901 4 words zone inj).coreEvent n 2).refreshMode) :=
  ⟨(((State.Keeps.movePosition hp (by decide)).trans ((State.Keeps.crumb ..).mono le_sup_right)).trans
      (.coreEvent n 2)).trans (State.Keeps.refreshMode.mono le_sup_right),
    (((State.KeepsChecks.movePosition _ hp (by decide)).trans (.crumb ..)).trans (.coreEvent _ n 2)).trans (.refreshMode _)⟩

theorem not_stopped_err {i : Nat} (hp : p < 40) : ¬ (pstateBits p ⊔ sideBits) (bPos p + 0x020) i := by
  rintro (h | h)
  · exact absurd h.1 (by simp only [bPos_eq, bTilePwr_eq, pstateFld]; omega)
  · exact not_sideBits_err hp h

theorem State.stopCore_stops (hp : p < 40) (hn : n < 64) (hs : s.split = false) (he : s.checkEvent p 0 = some e) :
    s.CoreStopped p n (s.stopCore p 0 n) := by
  obtain ⟨words, zone, inj, ht⟩ := State.stopCore_steps (n := n) hs he
  obtain ⟨hkeeps, hchecks⟩ := State.stopped_keeps (n := n) ((s.withdrawn p n e).outOfUse p) hp words zone inj
  obtain ⟨hpend, hkind⟩ := ((((s.withdrawn p n e).outOfUse p).movePosition p 4).crumb (posPage p) 0x0901 4 words zone
    inj).coreEvent_source n 1
  have hsource := State.Keeps.refreshMode (s := (((((s.withdrawn p n e).outOfUse p).movePosition p 4).crumb (posPage p)
    0x0901 4 words zone inj).coreEvent n 2))
  rw [← ht] at hkeeps hchecks hsource
  have hw := State.withdrawn_units (s := s) (p := p) (n := n) (e := e)
  have hall : (s.withdrawn p n e).Keeps (stopBits p) (s.stopCore p 0 n) :=
    (State.Keeps.outOfUse (State.withdrawn_split hp hs)).trans
      (hkeeps.mono (sup_le (le_sup_right.trans le_sup_left) (le_sup_right.trans le_sup_right)))
  have hchecks' := (State.KeepsChecks.outOfUse (s.withdrawn p n e) p).trans hchecks
  constructor
  case stopped => rw [hall.core, hw.core, State.core_setCore_self]
  case invalid =>
    have hmap := hall.fld (b := bIdent + 8 * n) (f := F.LCORE_MAP_VALID) fun i _ _ => not_stopBits_map i hn
    rw [State.coreValid, State.flag, hmap]
    exact State.withdrawn_coreValid
  case error => rw [hkeeps.window _ _ (not_stopped_err hp), State.outOfUse_error]
  case outcome => rw [hchecks'.fld hp (by decide), State.positionFails_fld, State.withdrawn_outcome hn]
  case event => rw [hchecks'.checkEvent, State.positionFails_checkEvent, State.withdrawn_checkEvent]
  case pend => exact hsource.pend _ hpend
  case kind => exact hsource.kinds _ _ hkind
  case others => exact fun m hm => by rw [hall.core, hw.core, State.core_setCore_of_ne _ _ hm]
  case mem => rw [hall.mem, hw.mem, State.setCore_mem]

end

/-! ## The obligation -/

/-- The pipeline that a self-check names. -/
theorem selfCheck_eq (self : Option (Fin 2)) (k : Fin 2) : (self.map (·.val) == some k.val) = decide (self = some k) := by
  revert self k
  decide

/-- Each cause of a firing is that firing in the state in which an injection has disarmed. -/
theorem exec_fires {s : State} {n : Fin 64} {code : BitVec 4} {self : Option (Fin 2)} {injected : Bool} {c : Instr}
    (hpow : s.powered = true) (hfire : s.canFire (s.posOf n) n code.toNat (self.map (·.val)) = true)
    (hc : (c = .checkFiring n code self ∧ injected = false) ∨
      (c = .trailingRecordTimeout n ∧ code = 8 ∧ self = none ∧ injected = false) ∨
      (c = .chkInjectArm n ∧ injected = true ∧ s.flag (bPos (s.posOf n)) F.CHK_INJECT_ARM = true ∧
        s.fld (bPos (s.posOf n)) F.CHK_INJECT_SOURCE = code.toNat ∧ s.split = false ∧
        s.fld (bPos (s.posOf n)) F.CHK_INJECT_PIPE = injectMask self)) :
    exec c s = .next ((s.atFiring (s.posOf n) injected).checkFires (s.posOf n) (if s.split then s.pipeOf n else 0) n
      code.toNat (self.map (·.val)) injected) := by
  rcases hc with ⟨rfl, rfl⟩ | ⟨rfl, rfl, rfl, rfl⟩ | ⟨rfl, rfl, harm, hsource, hs, hpipes⟩
  · exact exec_checkFiring_next hpow hfire
  · exact exec_trailingRecordTimeout_next hpow hfire
  · exact exec_chkInjectArm_next hpow hfire hs harm hsource hpipes

section
variable {s : State} {p pipe n code : Nat} {self : Option Nat} {injected : Bool} (htx : (s.core n).tx = none)
include htx

/-- A disarming leaves the core, its event and the counts, so the firing is the first of the event it opens. -/
theorem State.atFiring_firstRetry (he : s.checkEvent p pipe = none) :
    (s.atFiring p injected).FirstRetry p pipe n code self injected
      ((s.atFiring p injected).checkFires p pipe n code self injected) := by
  obtain ⟨r, hr⟩ := s.atFiring_regs p injected
  exact State.checkFires_firstRetry (by rw [hr]; exact htx) (by rw [hr]; exact he)

theorem State.atFiring_secondRetry {e : CheckEvent} (he : s.checkEvent p pipe = some e) (hclean : e.clean < 256)
    (hretries : e.retries = 1) (hcode : code ≠ 2) : (s.atFiring p injected).SecondRetry p pipe n self e
      ((s.atFiring p injected).checkFires p pipe n code self injected) := by
  obtain ⟨r, hr⟩ := s.atFiring_regs p injected
  exact State.checkFires_secondRetry (by rw [hr]; exact htx) (by rw [hr]; exact he) hclean hretries hcode

end

/-- After a firing the core stands at its Wafer, and nothing else of the units has changed. -/
theorem State.fired_units {s t : State} {p n : Nat} {injected : Bool}
    (h : ((s.atFiring p injected).setCore n ((s.atFiring p injected).core n).rolledBack).KeepsUnits t) :
    t.core n = (s.core n).rolledBack ∧ (∀ m, m ≠ n → t.core m = s.core m) ∧ t.sparings = s.sparings ∧ t.mem = s.mem ∧
      t.tiles = s.tiles := by
  obtain ⟨r, hr⟩ := s.atFiring_regs p injected
  rw [hr] at h
  refine ⟨?_, fun m hm => ?_, h.sparings, h.mem, h.tiles⟩
  · rw [h.core, State.core_setCore_self]
    rfl
  · rw [h.core, State.core_setCore_of_ne _ _ hm]
    rfl

section
variable {s : State} {n : Fin 64} {e : CheckEvent} (hpow : s.powered = true)
include hpow

/-- The restart: the core stands at its Wafer with its event open. -/
theorem retryRestart_runs (h : s.retryWaits n e) (hhalt : (s.core n).haltDue = false) :
    ∃ t, exec (.retryRestart n false) s = .next t ∧ t.core n = (s.core n).rolledBack ∧
      t.checkEvent (s.posOf n) 0 = some { e with frozen := false, clean := 0 } ∧ (∀ m, m ≠ n.val → t.core m = s.core m) ∧
      t.mem = s.mem ∧ t.tiles = s.tiles := by
  have hk := State.KeepsUnits.setCheckEvent (s.setCore n (s.core n).rolledBack) (s.posOf n) 0 (some e.restarted)
  refine ⟨_, exec_retryRestart_next hpow h hhalt, ?_, State.checkEvent_setCheckEvent .., fun m hm => ?_, hk.mem, hk.tiles⟩
  · rw [hk.core, State.core_setCore_self]
  · rw [hk.core, State.core_setCore_of_ne _ _ hm]

/-- The end of an event: it closes with OUTCOME 1, and a benign one is counted. -/
theorem checkEventEnd_closes (hs : s.split = false) (hp : s.posOf n < 40) (hvalid : s.coreValid n = true)
    (he : s.checkEvent (s.posOf n) 0 = some e) (hclean : 256 ≤ e.clean) :
    ∃ t, exec (.checkEventEnd n) s = .next t ∧ t.checkEvent (s.posOf n) 0 = none ∧
      t.fld (bPos (s.posOf n)) F.CHK_LAST_OUTCOME = 1 ∧
      ((s.pos (s.posOf n)).event1 = none → t.flag (bPos (s.posOf n)) F.CORE_STAT_RETRYING = false) ∧
      (e.benign = true → t.fld (bPos (s.posOf n)) F.CHK_CNT_BENIGN =
        satAdd F.CHK_CNT_BENIGN.width (s.fld (bPos (s.posOf n)) F.CHK_CNT_BENIGN) 1) ∧
      t.cores = s.cores ∧ t.mem = s.mem ∧ t.tiles = s.tiles := by
  obtain ⟨hchecks, hunits⟩ := State.endEvent_steps (s := s) (s.posOf n) n e
  have hk := (State.KeepsUnits.eventCounted (s := s) (s.posOf n) e).trans hunits
  refine ⟨_, exec_checkEventEnd_next hpow hs hvalid he hclean, ?_, ?_, fun h1 => ?_, fun hbenign => ?_, hk.cores, hk.mem,
    hk.tiles⟩
  · rw [hchecks.checkEvent, State.eventCounted_checkEvent]
  · rw [hchecks.fld hp (by decide), State.fld_eventCounted _ _ (by decide), State.eventOver_outcome]
  · rw [hchecks.flag hp (by decide), State.flag, State.fld_eventCounted _ _ (by decide)]
    exact s.eventOver_retrying (s.posOf n) 1 e h1
  · rw [hchecks.fld hp (by decide), State.eventCounted_benign _ e hbenign]

end

/-- Settles O32: a firing, whatever its cause, opens an event or starts the second retry of the open one; a restart, a lost Wafer
and the end of an event by the state that each leaves. -/
theorem checkEventsComplete : Obligations.CheckEventsComplete := by
  refine ⟨?fires, ?ends⟩
  case fires =>
    intro n code self injected c s p pipe hpow hfire htx _ hcause
    have hinject (h : injected = true) : s.flag (bPos p) F.CHK_INJECT_ARM = true := by
      rcases hcause with ⟨-, hf⟩ | ⟨-, -, -, hf⟩ | ⟨-, -, harm, -⟩
      · exact absurd (h.symm.trans hf) (by decide)
      · exact absurd (h.symm.trans hf) (by decide)
      · exact harm
    have hexec := exec_fires (injected := injected) (c := c) hpow hfire (hcause.imp_right (Or.imp_right
      fun ⟨hc, hi, harm, hsource, hs, hpipe⟩ => ⟨hc, hi, harm, hsource, hs, hpipe.trans (by cases self <;> rfl)⟩))
    refine ⟨fun he => ⟨_, hexec, ?first⟩, fun e he hclean hretries hcode => ⟨_, hexec, ?second⟩⟩
    case first =>
      have h := State.atFiring_firstRetry (injected := injected) (code := code.toNat) (self := self.map (·.val)) htx he
      obtain ⟨hcore, hothers, hsparings, hmem, htiles⟩ := State.fired_units h.units
      refine ⟨?_, hcore, hothers, ?_, ?_, h.retries, h.outcome, h.injected, ?_, h.retrying, fun hi => ?_, hsparings, hmem,
        htiles⟩
      · rw [h.event, firstEvent, ← selfCheck_eq self 0, ← selfCheck_eq self 1]
        rfl
      · rw [h.counted, s.fld_atFiring _ _ (by decide)]
      · exact h.source.trans (Nat.mod_eq_of_lt code.isLt)
      · obtain ⟨r, hr⟩ := s.atFiring_regs p injected
        rw [h.time, hr]
      · subst hi
        rw [h.arm, s.arm_atFiring p (hinject rfl)]
    case second =>
      have h := State.atFiring_secondRetry (injected := injected) (code := code.toNat) (self := self.map (·.val)) htx he
        hclean hretries fun h2 => hcode (BitVec.eq_of_toNat_eq h2)
      obtain ⟨hcore, hothers, hsparings, hmem, htiles⟩ := State.fired_units h.units
      refine ⟨⟨_, h.event, rfl, rfl, rfl, rfl, ?_, ?_⟩, hcore, hothers, ?_, h.retries, h.outcome, hsparings, hmem, htiles⟩
      · rw [CheckEvent.second, ← selfCheck_eq self 0]
        rfl
      · rw [CheckEvent.second, ← selfCheck_eq self 1]
        rfl
      · rw [h.counted, s.fld_atFiring _ _ (by decide)]
  case ends =>
    intro n e s p hpow hs hp hvalid he
    refine ⟨fun hfrozen hsparing hmode => ?waits, fun hclean => ?clean⟩
    case waits =>
      have hwaits : s.retryWaits n e := ⟨hs, hvalid, he, hfrozen, hsparing, hmode⟩
      have h := State.stopCore_stops (n := n) hp n.isLt hs he
      exact ⟨retryRestart_runs hpow hwaits, _, exec_retryRestart_lost hpow hwaits, h.stopped, h.invalid, h.error, h.outcome,
        h.event, h.pend, (Nat.and_two_pow _ 1).trans (by rw [h.kind]; rfl), h.others, h.mem⟩
    case clean =>
      obtain ⟨t, hexec, hevent, houtcome, hretrying, hbenign, hframe⟩ := checkEventEnd_closes hpow hs hp hvalid he hclean
      exact ⟨t, hexec, hevent, houtcome, hretrying, fun hsource hretries hlead htrail =>
        hbenign (by simp [CheckEvent.benign, hsource, hretries, hlead, htrail]), hframe⟩

end Sys2Proof.Machine
end

section
/-!
PROOFS. Debug halts (R266, R475). First that a command of DBG_CTL is its action in a state that reads alike, then what the
parking of a core and its resume write, then the accesses of DBG_DATA.
-/

namespace Sys2Proof.Machine

/-! ## The commands of DBG_CTL -/

section
variable {s : State} {n : Fin 64}

/-- The state after a write that stores no field of DBG_CTL: it reads as before. -/
def State.ctlWritten (s : State) : State := s.setReg (bEse + 0x0B0) (s.reg (bEse + 0x0B0))

theorem State.fld_ctlWritten (b : Nat) (f : Fld) : s.ctlWritten.fld b f = s.fld b f := s.fld_setReg_reg ..

theorem State.flag_ctlWritten (b : Nat) (f : Fld) : s.ctlWritten.flag b f = s.flag b f :=
  congrArg (· == 1) (State.fld_ctlWritten ..)

theorem State.core_ctlWritten (m : Nat) : s.ctlWritten.core m = s.core m := rfl

theorem State.coreIssues_ctlWritten (m : Nat) : s.ctlWritten.coreIssues m = s.coreIssues m := by
  simp only [State.coreIssues, State.coreValid, State.posOf, State.pipeOf, State.split, State.mode, State.flag_ctlWritten,
    State.fld_ctlWritten]
  rfl

theorem State.coreValid_of_coreIssues {m : Nat} (h : s.coreIssues m = true) : s.coreValid m = true := by
  by_contra hvalid
  simp [State.coreIssues, hvalid] at h

/-- DBG_CTL has command fields alone: an accepted write is its command. -/
theorem writeRow_dbgCtl (m : String) {v : Word} (hpow : s.powered = true) (hm : s.mayAccess .svc (bEse + 0x0B0) = true)
    (ha : s.accepts .svc esePage 0x0B0 v = true) :
    writeRow m .svc (bEse + 0x0B0) v s = .next (eseWrote .svc 0x0B0 v s.ctlWritten) := by
  obtain ⟨fs, hfs, hw⟩ := writeRow_of_accepts (m := m) (by decide) hpow hm ha
  obtain rfl : [F.DBG_CTL_CORE, F.DBG_CTL_OP] = fs :=
    Option.some.inj ((by decide : pageFields esePage 0x0B0 = _).symm.trans hfs)
  exact hw

/-- CORE and OP of a command. -/
theorem dbgCtl_fields (n : Fin 64) {op : Nat} (hop : op < 4) :
    bits (BitVec.ofNat 64 (n.val + 0x100 * op)) 0 6 = n ∧ bits (BitVec.ofNat 64 (n.val + 0x100 * op)) 8 2 = op := by
  simp only [bits, BitVec.toNat_ofNat, Nat.shiftRight_eq_div_pow]
  omega

theorem exec_debugHalt_next (hpow : s.powered = true) (hm : s.mayAccess .svc (bEse + 0x0B0) = true)
    (ha : s.accepts .svc esePage 0x0B0 (BitVec.ofNat 64 (n.val + 0x100)) = true) (hissues : s.coreIssues n = true)
    (hhalted : (s.core n).halted = false) : exec (.debugHalt n) s = .next (s.ctlWritten.park n) := by
  have hvalid : s.ctlWritten.coreValid n = true :=
    State.coreValid_of_coreIssues ((State.coreIssues_ctlWritten _).trans hissues)
  obtain ⟨hcore, hop⟩ := dbgCtl_fields n (op := 1) (by decide)
  refine (writeRow_dbgCtl "DEBUG_HALT" hpow hm ha).trans ?_
  simp only [eseWrote, hcore, hop, State.debugHalt, hvalid, State.core_ctlWritten, hhalted,
    State.coreIssues_ctlWritten, hissues]
  rfl

theorem exec_debugResume_next (hpow : s.powered = true) (hm : s.mayAccess .svc (bEse + 0x0B0) = true)
    (ha : s.accepts .svc esePage 0x0B0 (BitVec.ofNat 64 (n.val + 0x200)) = true) :
    exec (.debugResume n) s = .next (s.ctlWritten.debugResume n) := by
  obtain ⟨hcore, hop⟩ := dbgCtl_fields n (op := 2) (by decide)
  refine (writeRow_dbgCtl "DEBUG_RESUME" hpow hm ha).trans ?_
  simp only [eseWrote, hcore, hop]
  rfl

end

/-! ## The halt -/

section
variable (s : State) (n : Nat)

/-- After the abort no transaction is open; the other cores and memory stay. -/
theorem State.txAbort_closes (code : Nat) : ((s.txAbort n code).core n).tx = none ∧
    ((s.core n).tx = none → (s.txAbort n code).core n = s.core n) ∧
    (∀ m, m ≠ n → (s.txAbort n code).core m = s.core m) ∧ (s.txAbort n code).mem = s.mem := by
  cases htx : (s.core n).tx with
  | none =>
    have hsame : s.txAbort n code = s := by simp only [State.txAbort, htx]
    rw [hsame]
    exact ⟨htx, fun _ => rfl, fun _ _ => rfl, rfl⟩
  | some y =>
    obtain ⟨hcore, hothers, hmem⟩ := State.txAbort_open htx code 0 true
    exact ⟨by rw [hcore]; rfl, nofun, hothers, hmem⟩

/-- A core stands halted at its boundary, its work committed. -/
def LCore.parked (c : LCore) : LCore :=
  { c with wafer := c.arch, stores := c.stores ++ c.fresh, fresh := [], group := 0, halted := true, haltDue := false,
           stepGrant := false }

/-- The core is halted and its bit of DBG_STAT is set. -/
def State.haltCore (s : State) (n : Nat) : State :=
  let u := (s.txAbort n 0x0D).setCore n ((s.txAbort n 0x0D).core n).parked
  u.setReg (bEse + F.DBG_STAT_HALTED.off) (putBit (u.reg (bEse + F.DBG_STAT_HALTED.off)) n true)

/-- Its position shows that it is not checked. -/
def State.loseLockstep (s : State) (p : Nat) : State :=
  (s.setFlag (bPos p) F.CORE_STAT_LOCKSTEP_LOST true).raiseErr (posPage p) 13

/-- A halt in checked mode ends with its Crumb, the alert and the mode. -/
theorem State.park_checked (hs : s.split = false) : ∃ sev words zone,
    s.park n = ((((s.haltCore n).loseLockstep (s.posOf n)).crumb (posPage (s.posOf n)) 0x0F00 sev words zone false).setFlag
      bEse F.SVC_ALERT_HALT true).refreshMode := by
  unfold State.park
  simp only [hs, Bool.false_eq_true, if_false]
  exact ⟨_, _, _, rfl⟩

theorem State.haltCore_core : (s.haltCore n).core n = ((s.txAbort n 0x0D).core n).parked := State.core_setCore_self ..

theorem State.haltCore_others {m : Nat} (h : m ≠ n) : (s.haltCore n).core m = s.core m :=
  (State.core_setCore_of_ne _ _ h).trans ((s.txAbort_closes n 0x0D).2.2.1 m h)

theorem State.haltCore_mem : (s.haltCore n).mem = s.mem := (s.txAbort_closes n 0x0D).2.2.2

theorem State.haltCore_noted (hn : n < 64) : bit ((s.haltCore n).reg (bEse + F.DBG_STAT_HALTED.off)) n = true := by
  rw [State.haltCore, State.reg_setReg_self]
  exact bit_putBit_self _ true hn

end

/-- The window's bits that a debug halt writes beside DBG_STAT. -/
def haltBits (p : Nat) : Nat → Nat → Prop := errBits p ⊔ fieldBits bEse F.SVC_ALERT_HALT

theorem not_haltBits_stat (p i : Nat) : ¬ haltBits p (bEse + F.DBG_STAT_HALTED.off) i := by
  simp only [haltBits, errBits, Pi.sup_apply, sup_Prop_eq, sideBits, fieldBits, bPos_eq, F.SVC_ALERT_HALT, F.DBG_STAT_HALTED,
    F.BLK_ERR, show bEse = 0x1000 from rfl]
  omega

theorem not_alertBits_err {p i : Nat} (hp : p < 40) : ¬ (sideBits ⊔ fieldBits bEse F.SVC_ALERT_HALT) (bPos p + 0x020) i := by
  rintro (h | h)
  · exact not_sideBits_err hp h
  · exact absurd h.1 (by simp only [bPos_eq, F.SVC_ALERT_HALT, show bEse = 0x1000 from rfl]; omega)

section
variable {s : State} {p : Nat} (hp : p < 40)
include hp

theorem State.Keeps.loseLockstep : s.Keeps (errBits p) (s.loseLockstep p) :=
  (State.Keeps.setFlag _ fun _ h _ => .inr (sideBits_pos hp (by decide) fun _ => h)).trans (.raiseErr (.inl ⟨rfl, by decide⟩))

theorem State.loseLockstep_lost : (s.loseLockstep p).flag (bPos p) F.CORE_STAT_LOCKSTEP_LOST = true :=
  ((State.KeepsChecks.raiseErr ..).flag hp (by decide)).trans (State.flag_setFlag_self _ _ _ rfl (by decide))

end

/-- The Crumb, the alert and the mode leave the check events and BLK_ERR of the positions. -/
theorem State.alert_keeps (s : State) (q : Page) (code sev : Nat) (words : List Word) (zone : Option Nat) (inj : Bool) :
    s.Keeps (sideBits ⊔ fieldBits bEse F.SVC_ALERT_HALT)
        ((s.crumb q code sev words zone inj).setFlag bEse F.SVC_ALERT_HALT true).refreshMode ∧
      s.KeepsChecks ((s.crumb q code sev words zone inj).setFlag bEse F.SVC_ALERT_HALT true).refreshMode :=
  ⟨((State.Keeps.crumb ..).sup (.setFld_self ..)).trans (State.Keeps.refreshMode.mono le_sup_left),
    ((State.KeepsChecks.crumb ..).trans (.setFlag _ fun _ _ _ => not_checkBits (.inl (by decide)))).trans (.refreshMode _)⟩

/-- What a debug halt leaves (R266, R475). -/
structure State.DebugHalted (s : State) (p n : Nat) (t : State) : Prop where
  core : t.core n = ((s.txAbort n 0x0D).core n).parked
  others : ∀ m, m ≠ n → t.core m = s.core m
  lost : t.flag (bPos p) F.CORE_STAT_LOCKSTEP_LOST = true
  error : bit (t.reg (bPos p + 0x020)) 13 = true
  noted : bit (t.reg (bEse + F.DBG_STAT_HALTED.off)) n = true
  mem : t.mem = s.mem

theorem State.park_halts {s : State} {n : Nat} (hs : s.split = false) (hp : s.posOf n < 40) (hn : n < 64) :
    s.DebugHalted (s.posOf n) n (s.park n) := by
  obtain ⟨sev, words, zone, ht⟩ := s.park_checked n hs
  obtain ⟨hkeeps, hchecks⟩ := ((s.haltCore n).loseLockstep (s.posOf n)).alert_keeps (posPage (s.posOf n)) 0x0F00 sev words
    zone false
  rw [← ht] at hkeeps hchecks
  have hall : (s.haltCore n).Keeps (haltBits (s.posOf n)) (s.park n) :=
    ((State.Keeps.loseLockstep hp).mono le_sup_left).trans (hkeeps.mono (sup_le (le_sup_right.trans le_sup_left) le_sup_right))
  constructor
  case core => rw [hall.core, State.haltCore_core]
  case others => exact fun m hm => by rw [hall.core, s.haltCore_others n hm]
  case lost => rw [hchecks.flag hp (by decide), State.loseLockstep_lost hp]
  case error =>
    rw [hkeeps.window _ _ (not_alertBits_err hp)]
    exact State.bit_raiseErr_self _ (posPage (s.posOf n)) (by decide)
  case noted => rw [hall.window _ _ (not_haltBits_stat _ _), s.haltCore_noted n hn]
  case mem => rw [hall.mem, s.haltCore_mem]

/-! ## The resume -/

/-- The core runs again and its bit of DBG_STAT is clear. -/
def State.runCore (s : State) (n : Nat) : State :=
  (s.setCore n { s.core n with halted := false, stepGrant := false }).setReg (bEse + F.DBG_STAT_HALTED.off)
    (putBit (s.reg (bEse + F.DBG_STAT_HALTED.off)) n false)

section
variable {s : State} {n : Nat}

/-- Where the position was not checked, checking resumes, with its Crumb. -/
theorem State.debugResume_steps (hhalted : (s.core n).halted = true) (hp : s.posOf n < 40) :
    ∃ u, (s.runCore n).Keeps sideBits u ∧ u.flag (bPos (s.posOf n)) F.CORE_STAT_LOCKSTEP_LOST = false ∧
      s.debugResume n = u.refreshMode := by
  unfold State.debugResume
  simp only [hhalted, not_true_eq_false, if_false]
  split
  next hlost =>
    refine ⟨_, (State.Keeps.setFlag _ fun _ h _ => sideBits_pos hp (by decide) fun _ => h).trans (.crumb ..), ?_, rfl⟩
    exact ((State.KeepsChecks.crumb ..).flag hp (by decide)).trans (State.flag_setFlag_self _ _ _ rfl (by decide))
  next hlost =>
    refine ⟨s.runCore n, .refl .., ?_, rfl⟩
    have hchecks : (s.setCore n { s.core n with halted := false, stepGrant := false }).KeepsChecks (s.runCore n) :=
      .setReg fun _ => not_checkBits (.inl (by decide))
    exact (hchecks.flag hp (by decide)).trans (Bool.eq_false_of_not_eq_true hlost)

/-- What a resume leaves (R266). -/
structure State.DebugResumed (s : State) (p n : Nat) (t : State) : Prop where
  core : t.core n = { s.core n with halted := false, stepGrant := false }
  others : ∀ m, m ≠ n → t.core m = s.core m
  checked : t.flag (bPos p) F.CORE_STAT_LOCKSTEP_LOST = false
  noted : bit (t.reg (bEse + F.DBG_STAT_HALTED.off)) n = false
  mem : t.mem = s.mem

theorem not_sideBits_stat (i : Nat) : ¬ sideBits (bEse + F.DBG_STAT_HALTED.off) i := by
  simp only [sideBits, F.DBG_STAT_HALTED, show bEse = 0x1000 from rfl]
  omega

theorem State.debugResume_resumes (hhalted : (s.core n).halted = true) (hp : s.posOf n < 40) (hn : n < 64) :
    s.DebugResumed (s.posOf n) n (s.debugResume n) := by
  obtain ⟨u, hu, hlost, ht⟩ := State.debugResume_steps hhalted hp
  have hall : (s.runCore n).Keeps sideBits (s.debugResume n) := ht ▸ hu.trans .refreshMode
  constructor
  case core => exact (hall.core n).trans (State.core_setCore_self ..)
  case others => exact fun m hm => (hall.core m).trans (State.core_setCore_of_ne _ _ hm)
  case checked => rw [ht, (State.KeepsChecks.refreshMode u).flag hp (by decide), hlost]
  case noted =>
    rw [hall.window _ _ (not_sideBits_stat n), State.runCore, State.reg_setReg_self]
    exact bit_putBit_self _ false hn
  case mem => exact hall.mem

end

/-! ## DBG_DATA (R475) -/

section
variable {s : State} (hpow : s.powered = true)
include hpow

/-- An accepted write of DBG_DATA reaches the register that DBG_SEL selects, and is stored nowhere else. -/
theorem exec_dbgDataAccess_write {v : Word} (ha : s.accepts .svc esePage 0x0C8 v = true) :
    exec (.dbgDataAccess (some v)) s =
      .next (s.debugWrite (s.fld bEse F.DBG_SEL_CORE) (s.fld bEse F.DBG_SEL_FILE) (s.fld bEse F.DBG_SEL_NUM) v) := by
  obtain ⟨fs, hfs, hw⟩ := regWrite_of_accepts (by decide) ha
  obtain rfl : [F.DBG_DATA_DATA] = fs := Option.some.inj ((by decide : pageFields esePage 0x0C8 = _).symm.trans hfs)
  have happly : applyWrite .svc esePage 0x0C8 v [] [F.DBG_DATA_DATA] s = s.debugWrite (s.fld bEse F.DBG_SEL_CORE)
      (s.fld bEse F.DBG_SEL_FILE) (s.fld bEse F.DBG_SEL_NUM) v := rfl
  have hwrite : eseWrite 0x0C8 v s = regWrite .svc 8 (esePage.base + 0x0C8) v s :=
    if_neg (by decide)
  rw [← happly, ← hw, ← hwrite]
  exact event_next _ _ hpow rfl

/-- A read of DBG_DATA of a halted core is driven out. -/
theorem exec_dbgDataAccess_read (hpresent : s.present esePage = true)
    (hhalted : (s.core (s.fld bEse F.DBG_SEL_CORE)).halted = true) :
    exec (.dbgDataAccess none) s = .next (s.drive (leBytes 8 (s.debugRead (s.fld bEse F.DBG_SEL_CORE)
      (s.fld bEse F.DBG_SEL_FILE) (s.fld bEse F.DBG_SEL_NUM)).toNat)) := by
  have hpage : pageAt ((bEse + 0x0C8) % 2 ^ 28 / 0x1000) = some esePage := by decide
  have hread : regRead .svc 8 (bEse + 0x0C8) none s = (s, s.debugRead (s.fld bEse F.DBG_SEL_CORE)
      (s.fld bEse F.DBG_SEL_FILE) (s.fld bEse F.DBG_SEL_NUM)) := by
    have hdata : s.dbgData = s.debugRead (s.fld bEse F.DBG_SEL_CORE) (s.fld bEse F.DBG_SEL_FILE) (s.fld bEse F.DBG_SEL_NUM) :=
      if_pos hhalted
    simp only [regRead, hpage, hpresent, ← hdata]
    rfl
  refine (event_next _ _ hpow rfl).trans ?_
  rw [show eseRead 0x0C8 s = ((regRead .svc 8 (bEse + 0x0C8) none s).1, (regRead .svc 8 (bEse + 0x0C8) none s).2, false) from rfl,
    hread]

end

/-! ## The obligation -/

/-- Settles O34: the halt and the resume by what each leaves of the core and of its position, the accesses of DBG_DATA by the
register selected. -/
theorem debugHaltsComplete : Obligations.DebugHaltsComplete := by
  refine ⟨?commands, ?data⟩
  case commands =>
    intro n s p hpow hs hp
    have hpos : s.ctlWritten.posOf n = p := State.fld_ctlWritten ..
    have hs' : s.ctlWritten.split = false := (State.flag_ctlWritten ..).trans hs
    refine ⟨fun hm ha hissues hhalted => ?halt, fun hm ha hhalted => ?resume⟩
    case halt =>
      have h := State.park_halts (n := n) hs' (by rw [hpos]; exact hp) n.isLt
      rw [hpos] at h
      obtain ⟨htx, hsame, -, -⟩ := s.ctlWritten.txAbort_closes n 0x0D
      refine ⟨_, exec_debugHalt_next hpow hm ha hissues hhalted, ?_, ?_, fun hnone => ?_, h.lost, h.error, h.noted, h.others,
        h.mem⟩
      · rw [h.core]
        rfl
      · rw [h.core]
        exact htx
      · rw [State.arch, h.core, hsame hnone]
        rfl
    case resume =>
      have h := State.debugResume_resumes (s := s.ctlWritten) (n := n) hhalted (by rw [hpos]; exact hp) n.isLt
      rw [hpos] at h
      refine ⟨_, exec_debugResume_next hpow hm ha, ?_, ?_, h.checked, h.noted, h.others, h.mem⟩
      · rw [h.core]
      · rw [State.arch, h.core]
        rfl
  case data =>
    intro v s n hpow hhalted
    refine ⟨fun ha => ⟨_, exec_dbgDataAccess_write hpow ha, ?_⟩,
      fun hpresent => exec_dbgDataAccess_read hpow hpresent hhalted⟩
    rw [State.debugWrite, if_pos hhalted]
    refine ⟨?_, ?_, fun m hm => State.core_setCore_of_ne _ _ hm, rfl, rfl⟩
    · rw [State.arch, State.core_setCore_self]
      rfl
    · rw [State.arch, State.core_setCore_self]

end Sys2Proof.Machine
end

section
/-!
PROOFS. Microcode images (R281 to R285). First that a command of a store's window is its effect in a state that reads alike, and
what each command leaves; then what the end of a check and a switch of copies leave, both from what `State.ucSettle` leaves
while copies wait and when none does.
-/

namespace Sys2Proof.Machine

/-! ## The commands of a window (Table 12.8) -/

section
variable {s : State} {src : Src} {u : Nat} {v : Word}

theorem pageFields_ucCtl (u : Nat) :
    pageFields (ucodePage u) 0x040 = some [F.UC_CTL_OPEN, F.UC_CTL_COMMIT, F.UC_CTL_ABORT] := rfl

theorem pageFields_ucData (u : Nat) : pageFields (ucodePage u) 0x048 = some [F.UC_DATA_DATA] := rfl

/-- The present state refuses no field of an accepted write. -/
theorem State.refused05_of_accepts {p : Page} {off : Nat} {fs : List Fld} (hfs : pageFields p off = some fs)
    (h : s.accepts src p off v = true) : s.refused05 src p off v fs = [] := by
  simp only [State.accepts, hfs, Bool.and_eq_true, List.isEmpty_iff] at h
  obtain ⟨-, ⟨-, h5⟩, -⟩ := h
  exact h5

/-- Table 12.8 refuses nothing of an accepted write. -/
theorem ucRefused_of_accepts {off : Nat} {fs : List Fld} (hfs : pageFields (ucodePage u) off = some fs) (hne : fs ≠ [])
    (hoff : 0x040 ≤ off) (h : s.accepts src (ucodePage u) off v = true) : ucRefused s u off v = [] := by
  have h5 := State.refused05_of_accepts hfs h
  unfold State.refused05 at h5
  extract_lets i at h5
  split at h5
  · exact absurd h5 hne
  · rwa [if_neg (by omega), if_neg (by omega)] at h5

/-- COMMIT and ABORT are accepted only while an image is received. -/
theorem ucState_of_accepts_ctl (h : s.accepts src (ucodePage u) 0x040 v = true) (hv : bit v 1 = true ∨ bit v 2 = true) :
    s.ucState u = 1 := by
  have hr := ucRefused_of_accepts (pageFields_ucCtl u) (by simp) (by decide) h
  by_contra hst
  rcases hv with hv | hv <;> simp [ucRefused, hv, hst] at hr

theorem receives_of_accepts_data (h : s.accepts src (ucodePage u) 0x048 v = true) :
    s.ucState u = 1 ∧ s.fld (bUcode u) F.UC_COUNT_BYTES < 262144 := by
  have hr := ucRefused_of_accepts (pageFields_ucData u) (by simp) (by decide) h
  by_contra hst
  simp [ucRefused, hst] at hr

/-- UC_CTL holds no stored field: an accepted write is its effect in a state that reads as before. -/
theorem writeRow_ucCtl (m : String) (hpow : s.powered = true) (hm : s.mayAccess src (bUcode u + 0x040) = true)
    (ha : s.accepts src (ucodePage u) 0x040 v = true) : writeRow m src (bUcode u + 0x040) v s =
      .next (ucWrote u 0x040 v (s.setReg (bUcode u + 0x040) (s.reg (bUcode u + 0x040)))) := by
  obtain ⟨fs, hfs, hw⟩ := writeRow_of_accepts (m := m) (by decide) hpow hm ha
  obtain rfl := Option.some.inj ((pageFields_ucCtl u).symm.trans hfs)
  exact hw

/-- The same for UC_DATA. -/
theorem writeRow_ucData (m : String) (hpow : s.powered = true) (hm : s.mayAccess src (bUcode u + 0x048) = true)
    (ha : s.accepts src (ucodePage u) 0x048 v = true) : writeRow m src (bUcode u + 0x048) v s =
      .next (ucWrote u 0x048 v (s.setReg (bUcode u + 0x048) (s.reg (bUcode u + 0x048)))) := by
  obtain ⟨fs, hfs, hw⟩ := writeRow_of_accepts (m := m) (by decide) hpow hm ha
  obtain rfl := Option.some.inj ((pageFields_ucData u).symm.trans hfs)
  exact hw

end

section
variable (s : State) (u : Nat)

/-- The window after OPEN: it receives, and shows nothing of an earlier load. -/
def State.ucOpened (s : State) (u : Nat) : State :=
  (((s.setFld (bUcode u) F.UC_COUNT_BYTES 0).setFlag (bUcode u) F.UC_STAT_OVF false).setFld (bUcode u) F.UC_STAT_RESULT
    0).setFld (bUcode u) F.UC_STAT_STATE 1

theorem State.ucOpened_shows : (s.ucOpened u).ucState u = 1 ∧ (s.ucOpened u).fld (bUcode u) F.UC_COUNT_BYTES = 0 ∧
    (s.ucOpened u).flag (bUcode u) F.UC_STAT_OVF = false ∧ (s.ucOpened u).fld (bUcode u) F.UC_STAT_RESULT = 0 := by
  simp (disch := decide) only [State.ucState, State.flag, State.ucOpened, State.setFlag, State.fld_setFld_self,
    State.fld_setFld_of_page]
  exact ⟨rfl, rfl, rfl, rfl⟩

/-- The staging buffer is no part of the window. -/
theorem State.fld_withStaging (img : List Byte) (b : Nat) (f : Fld) : State.fld { s with staging := img } b f = s.fld b f :=
  rfl

theorem ucWrote_open : ucWrote u 0x040 1 s = { s.ucOpened u with staging := [] } := rfl

theorem ucWrote_data (v : Word) : ucWrote u 0x048 v s =
    { s with staging := s.staging ++ leBytes 8 v.toNat }.setFld (bUcode u) F.UC_COUNT_BYTES
      (s.fld (bUcode u) F.UC_COUNT_BYTES + 8) := rfl

theorem ucWrote_commit : ucWrote u 0x040 2 s = s.setFld (bUcode u) F.UC_STAT_STATE 2 := rfl

theorem ucWrote_abort (h : s.ucState u = 1) : ucWrote u 0x040 4 s = s.ucAbort u := by
  simp only [ucWrote, show bit (4 : Word) 0 = false from rfl, show bit (4 : Word) 1 = false from rfl,
    show bit (4 : Word) 2 = true from rfl, h, Bool.false_eq_true, and_self, if_true, if_false]

end

section
variable {s : State} {src : Src} {u : Fin 8} {v : Word} (hpow : s.powered = true)
include hpow

/-- UC_OPEN (R282). -/
theorem exec_ucOpen (hm : s.mayAccess src (bUcode u + 0x040) = true)
    (ha : s.accepts src (ucodePage u) 0x040 1 = true) : ∃ t, exec (.ucOpen src u) s = .next t ∧ t.ucState u = 1 ∧
      t.fld (bUcode u) F.UC_COUNT_BYTES = 0 ∧ t.flag (bUcode u) F.UC_STAT_OVF = false ∧
      t.fld (bUcode u) F.UC_STAT_RESULT = 0 ∧ t.staging = [] ∧ t.ucode = s.ucode ∧ t.mem = s.mem ∧ t.cores = s.cores := by
  obtain ⟨hstate, hcount, hovf, hresult⟩ := (s.setReg (bUcode u + 0x040) (s.reg (bUcode u + 0x040))).ucOpened_shows u
  exact ⟨_, (writeRow_ucCtl "UC_OPEN" hpow hm ha).trans (congrArg _ (ucWrote_open ..)),
    (State.fld_withStaging ..).trans hstate, (State.fld_withStaging ..).trans hcount,
    (congrArg (· == 1) (State.fld_withStaging ..)).trans hovf, (State.fld_withStaging ..).trans hresult, rfl, rfl, rfl, rfl⟩

/-- UC_DATA (R282). -/
theorem exec_ucData (hm : s.mayAccess src (bUcode u + 0x048) = true)
    (ha : s.accepts src (ucodePage u) 0x048 v = true) : ∃ t, exec (.ucData src u v) s = .next t ∧ t.ucState u = 1 ∧
      t.staging = s.staging ++ leBytes 8 v.toNat ∧
      t.fld (bUcode u) F.UC_COUNT_BYTES = s.fld (bUcode u) F.UC_COUNT_BYTES + 8 ∧ t.ucode = s.ucode ∧ t.mem = s.mem ∧
      t.cores = s.cores := by
  obtain ⟨hstate, hroom⟩ := receives_of_accepts_data ha
  have hsame := s.fld_setReg_reg (bUcode u + 0x048) (bUcode u)
  refine ⟨_, (writeRow_ucData "UC_DATA" hpow hm ha).trans (congrArg _ (ucWrote_data ..)), ?_, rfl, ?_, rfl, rfl, rfl⟩
  · exact (State.fld_setFld_of_page _ _ _ (by decide)).trans ((hsame _).trans hstate)
  · rw [State.fld_setFld_self _ _ _ _ (by decide), hsame]
    exact Nat.mod_eq_of_lt (show _ < 2 ^ 19 by omega)

/-- UC_COMMIT (R284). -/
theorem exec_ucCommit (hm : s.mayAccess src (bUcode u + 0x040) = true)
    (ha : s.accepts src (ucodePage u) 0x040 2 = true) : ∃ t, exec (.ucCommit src u) s = .next t ∧ t.ucState u = 2 ∧
      t.staging = s.staging ∧ t.ucode = s.ucode ∧ t.mem = s.mem ∧ t.cores = s.cores :=
  ⟨_, (writeRow_ucCtl "UC_COMMIT" hpow hm ha).trans (congrArg _ (ucWrote_commit ..)),
    State.fld_setFld_self _ _ _ _ (by decide), rfl, rfl, rfl, rfl⟩

/-- UC_ABORT (R282). -/
theorem exec_ucAbort (hm : s.mayAccess src (bUcode u + 0x040) = true)
    (ha : s.accepts src (ucodePage u) 0x040 4 = true) : ∃ t, exec (.ucAbort src u) s = .next t ∧ t.ucState u = 0 ∧
      t.fld (bUcode u) F.UC_STAT_RESULT = 10 ∧ t.ucode = s.ucode ∧ t.mem = s.mem ∧ t.cores = s.cores := by
  have hstate : (s.setReg (bUcode u + 0x040) (s.reg (bUcode u + 0x040))).ucState u = 1 :=
    (s.fld_setReg_reg ..).trans (ucState_of_accepts_ctl ha (by decide))
  refine ⟨_, (writeRow_ucCtl "UC_ABORT" hpow hm ha).trans (congrArg _ (ucWrote_abort _ _ hstate)),
    State.fld_setFld_self _ _ _ _ (by decide), ?_, rfl, rfl, rfl⟩
  exact (State.fld_setFld_of_page _ _ _ (by decide)).trans (State.fld_setFld_self _ _ _ _ (by decide))

end

/-! ## The stores beside block errors and Crumbs -/

section
variable (s : State)

theorem State.makeOfferable_ucode (n : Nat) : (s.makeOfferable n).ucode = s.ucode := by
  unfold State.makeOfferable
  extract_lets e
  split <;> rfl

theorem State.sourceEvent_ucode (n : Nat) : (s.sourceEvent n).ucode = s.ucode := by
  unfold State.sourceEvent State.checkModeration
  extract_lets e e'
  split
  · exact State.makeOfferable_ucode ..
  · rfl

theorem State.raiseErr_ucode (p : Page) (i : Nat) : (s.raiseErr p i).ucode = s.ucode := by
  unfold State.raiseErr
  extract_lets e s1
  split
  · rfl
  · split
    · rfl
    · split
      · exact State.sourceEvent_ucode ..
      · rfl

theorem State.crumb_ucode (p : Page) (code sev : Nat) (payload : List Word) (zone : Option Nat) (injected : Bool) :
    (s.crumb p code sev payload zone injected).ucode = s.ucode := by
  unfold State.crumb
  extract_lets r s1
  split
  · exact State.raiseErr_ucode ..
  · rfl

@[simp] theorem State.store_setReg (w : Nat) (v : Word) (u : Nat) : (s.setReg w v).store u = s.store u := rfl

@[simp] theorem State.store_setStore_self (u : Nat) (x : Ucode) : (s.setStore u x).store u = x := SMap.get_set_self _ _ _ _

end

/-! ## The copies of a store -/

section
variable (s : State) (u : Nat)

theorem State.length_ucCopies_le : (s.ucCopies u).length ≤ 80 := by
  refine (List.length_filter_le _ _).trans ?_
  rw [List.length_range]
  split_ifs <;> decide

/-- A write of UC_STAT leaves the registers at every other offset of a page alone. -/
theorem State.fld_ucStat {n : Nat} {q : Page} {f g : Fld} (hf : f.off = 0x058) (hg : g.off < 0x1000) (hne : g.off ≠ 0x058) :
    (s.setFld (bUcode u) f n).fld q.base g = s.fld q.base g :=
  s.fld_setFld_of_off _ _ _ _ _ (by rw [bUcode_eq, hf, Page.base]; omega)

theorem State.role_ucStat (n p : Nat) : (s.setFld (bUcode u) F.UC_STAT_STATE n).role p = s.role p :=
  s.fld_ucStat u rfl (by decide) (by decide)

theorem State.ucCopies_ucStat (n : Nat) : (s.setFld (bUcode u) F.UC_STAT_STATE n).ucCopies u = s.ucCopies u := by
  have hpresent (q : Page) : (s.setFld (bUcode u) F.UC_STAT_STATE n).present q = s.present q :=
    congrArg (· == 1) (s.fld_ucStat u rfl (by decide) (by decide))
  simp only [State.ucCopies, hpresent, State.role_ucStat]

theorem State.ucRuns_ucStat (n c : Nat) : (s.setFld (bUcode u) F.UC_STAT_STATE n).ucRuns u c = s.ucRuns u c := by
  have hrunning (q : Page) : (s.setFld (bUcode u) F.UC_STAT_STATE n).running q = s.running q :=
    congrArg (· == 1) (s.fld_ucStat u rfl (by decide) (by decide))
  have hpstate (p : Nat) : (s.setFld (bUcode u) F.UC_STAT_STATE n).pstate p = s.pstate p :=
    s.fld_ucStat u (g := pstateFld (p % 10)) rfl (by simp [pstateFld]) (by simp [pstateFld])
  simp only [State.ucRuns, hrunning, hpstate, State.role_ucStat]

end

/-! ## The application of an image (R285) -/

/-- What the application of the image in `x` leaves while the copies `left` have to switch, and once none has. -/
structure State.UcApplied (s : State) (u : Nat) (left : List Nat) (x : Ucode) (t : State) : Prop where
  mem : t.mem = s.mem
  cores : t.cores = s.cores
  waits : left ≠ [] → t.ucState u = 3 ∧ t.fld (bUcode u) F.UC_STAT_PENDING = left.length ∧ t.store u = x ∧
    t.reg (bUcode u + 0x060) = s.reg (bUcode u + 0x060)
  ends : left = [] → t.ucState u = 0 ∧ t.fld (bUcode u) F.UC_STAT_RESULT = 1 ∧ (t.store u).image = x.next ∧
    t.reg (bUcode u + 0x060) = x.version ∧ t.reg (bUcode u + 0x068) = x.digest

section
variable {s : State} {u : Nat}

/-- The window and the store when the last copy has switched, before the Crumb. -/
def State.ucEnded (s : State) (u : Nat) : State :=
  let x := s.store u
  (((((s.setFld (bUcode u) F.UC_STAT_PENDING 0).setStore u { x with image := x.next, next := {}, switched := [] }).setReg
    (bUcode u + 0x060) x.version).setReg (bUcode u + 0x068) x.digest).setFld (bUcode u) F.UC_STAT_RESULT 1).setFld (bUcode u)
    F.UC_STAT_STATE 0

theorem State.ucSettle_of_waiting (h3 : s.ucState u = 3) (hw : s.ucWaiting u ≠ []) :
    s.ucSettle u = s.setFld (bUcode u) F.UC_STAT_PENDING (s.ucWaiting u).length := by
  have hn : (s.ucWaiting u).length ≠ 0 := mt List.length_eq_zero_iff.1 hw
  rw [State.ucSettle, if_neg (not_not.2 h3), if_pos hn]

theorem State.ucSettle_of_none (h3 : s.ucState u = 3) (hw : s.ucWaiting u = []) :
    ∃ words, s.ucSettle u = (s.ucEnded u).crumb (ucodePage u) 0x0401 1 words := by
  rw [State.ucSettle, if_neg (not_not.2 h3), hw]
  exact ⟨_, rfl⟩

theorem State.ucEnded_shows : (s.ucEnded u).ucState u = 0 ∧ (s.ucEnded u).fld (bUcode u) F.UC_STAT_RESULT = 1 ∧
    ((s.ucEnded u).store u).image = (s.store u).next ∧ (s.ucEnded u).reg (bUcode u + 0x060) = (s.store u).version ∧
    (s.ucEnded u).reg (bUcode u + 0x068) = (s.store u).digest := by
  refine ⟨State.fld_setFld_self _ _ _ _ (by decide), ?_, ?_, ?_, ?_⟩
  · exact (State.fld_setFld_of_page _ _ _ (by decide)).trans (State.fld_setFld_self _ _ _ _ (by decide))
  · simp [State.ucEnded, State.setFld_eq]
  · simp [State.ucEnded, State.setFld_eq, F.UC_STAT_RESULT, F.UC_STAT_STATE]
  · simp [State.ucEnded, State.setFld_eq, F.UC_STAT_RESULT, F.UC_STAT_STATE]

/-- A Crumb writes no register of a store's window. -/
theorem State.crumb_reg_ucode (s : State) (p : Page) (code sev : Nat) (payload : List Word) (zone : Option Nat)
    (injected : Bool) (off : Nat) :
    (s.crumb p code sev payload zone injected).reg (bUcode u + off) = s.reg (bUcode u + off) := by
  have hne (k : Nat) (hk : k < 0x1000) : bUcode u + off ≠ 0x20000 + k := by rw [bUcode_eq]; omega
  unfold State.crumb
  extract_lets r s1
  split
  · exact (State.raiseErr_reg_of_ne _ _ _ (hne 0x020 (by decide))).trans (State.reg_setReg_of_ne _ _ (hne 0x058 (by decide)))
  · rfl

/-- An application in progress goes on with the copies that still wait. -/
theorem State.ucSettle_applies (h3 : s.ucState u = 3) : s.UcApplied u (s.ucWaiting u) (s.store u) (s.ucSettle u) where
  mem := (State.Keeps.ucSettle u).mem
  cores := (State.Keeps.ucSettle u).cores
  waits hw := by
    have hlen : (s.ucWaiting u).length < 2 ^ 8 :=
      ((List.length_filter_le _ (s.ucCopies u)).trans (s.length_ucCopies_le u)).trans_lt (by decide)
    rw [State.ucSettle_of_waiting h3 hw]
    refine ⟨(State.fld_setFld_of_page _ _ _ (by decide)).trans h3, ?_, rfl,
      State.reg_setReg_of_ne _ _ (by simp [F.UC_STAT_PENDING])⟩
    exact (State.fld_setFld_self _ _ _ _ (by decide)).trans (Nat.mod_eq_of_lt hlen)
  ends hw := by
    obtain ⟨words, ht⟩ := State.ucSettle_of_none h3 hw
    have hreg (off : Nat) := (s.ucEnded u).crumb_reg_ucode (ucodePage u) 0x0401 1 words none false (u := u) off
    have hfld (f : Fld) : (s.ucSettle u).fld (bUcode u) f = (s.ucEnded u).fld (bUcode u) f := by
      rw [ht]; exact congrArg (bits · f.lo f.width) (hreg f.off)
    have hstore : (s.ucSettle u).store u = (s.ucEnded u).store u := by
      rw [ht]; exact congrArg (SMap.get {} · u) (State.crumb_ucode ..)
    obtain ⟨hstate, hresult, himage, hversion, hdigest⟩ := State.ucEnded_shows (s := s) (u := u)
    refine ⟨(hfld _).trans hstate, (hfld _).trans hresult, (congrArg _ hstore).trans himage, ?_, ?_⟩
    · rw [ht, hreg, hversion]
    · rw [ht, hreg, hdigest]

/-- The copies `cs` switch. -/
theorem State.ucSwitch_applies (h3 : s.ucState u = 3) (cs : List Nat) :
    s.UcApplied u ((s.ucWaiting u).filter (fun c => !cs.contains c))
      { s.store u with switched := (s.store u).switched ++ cs } (s.ucSwitch u cs) := by
  have h := State.ucSettle_applies (s := s.setStore u { s.store u with switched := (s.store u).switched ++ cs }) (u := u) h3
  have hleft : (s.setStore u { s.store u with switched := (s.store u).switched ++ cs }).ucWaiting u =
      (s.ucWaiting u).filter (fun c => !cs.contains c) := by
    simp only [State.ucWaiting, State.store_setStore_self, List.filter_filter]
    refine List.filter_congr fun c _ => ?_
    simp [Bool.and_comm]
  rw [hleft, State.store_setStore_self] at h
  exact ⟨h.mem, h.cores, h.waits, h.ends⟩

/-- A checked image: the copies whose units do not run switch at once. -/
theorem State.ucApply_applies (m : UcodeImage) (version digest : Word) : ∃ switched,
    s.UcApplied u ((s.ucCopies u).filter (fun c => s.ucRuns u c))
      { s.store u with next := m, version := version, digest := digest, switched := switched }
      (s.ucApply u m version digest) := by
  unfold State.ucApply
  extract_lets x s1
  have hstore : s1.store u = { s.store u with next := m, version := version, digest := digest, switched := [] } :=
    State.store_setStore_self ..
  have hcopies : s1.ucCopies u = s.ucCopies u := State.ucCopies_ucStat (s.setStore u _) u 3
  have hruns (c : Nat) : s1.ucRuns u c = s.ucRuns u c := State.ucRuns_ucStat (s.setStore u _) u 3 c
  have hleft : (s1.ucWaiting u).filter (fun c => !((s.ucCopies u).filter (fun c => !s.ucRuns u c)).contains c) =
      (s.ucCopies u).filter (fun c => s.ucRuns u c) := by
    rw [State.ucWaiting, hstore, hcopies, List.filter_filter]
    exact List.filter_congr fun c hc => by simp [hc]
  have hreg : s1.reg (bUcode u + 0x060) = s.reg (bUcode u + 0x060) :=
    State.reg_setReg_of_ne _ _ (by simp [F.UC_STAT_STATE])
  have h := State.ucSwitch_applies (s := s1) (u := u) (State.fld_setFld_self _ _ _ _ (by decide))
    ((s.ucCopies u).filter (fun c => !s.ucRuns u c))
  simp only [hcopies, hruns]
  rw [hleft, hstore] at h
  refine ⟨_, h.mem, h.cores, fun hw => ?_, h.ends⟩
  obtain ⟨hstate, hpending, himage, hversion⟩ := h.waits hw
  exact ⟨hstate, hpending, himage, hversion.trans hreg⟩

end

/-! ## The end of a check (R284) -/

section
variable {s : State} {u : Nat}

/-- The RESULT of a check that fails fits its field (Table 12.9). -/
theorem imageCheck_error_lt {img : List Byte} {count r : Nat} {ovf : Bool} {version : Word} {old : UcodeImage}
    (h : imageCheck u img count ovf version old = .error r) : r < 2 ^ 4 := by
  unfold imageCheck at h
  extract_lets len kind key at h
  iterate 7
    split at h
    · cases h; decide
  split at h
  · cases h
  · cases h; decide

theorem State.ucFails_shows {r : Nat} (hr : r < 2 ^ 4) : (s.ucFails u r).ucState u = 0 ∧
    (s.ucFails u r).fld (bUcode u) F.UC_STAT_RESULT = r ∧ bit ((s.ucFails u r).reg (bUcode u + 0x020)) 9 = true ∧
    (s.ucFails u r).ucode = s.ucode ∧ (s.ucFails u r).reg (bUcode u + 0x060) = s.reg (bUcode u + 0x060) := by
  have hreg {t : State} {off : Nat} (h : off ≠ 0x020) :
      (t.raiseErr (ucodePage u) 9).reg (bUcode u + off) = t.reg (bUcode u + off) :=
    t.raiseErr_reg_of_ne _ _ fun he => h (Nat.add_left_cancel he)
  have hfld {t : State} {f : Fld} (h : f.off ≠ 0x020) : (t.raiseErr (ucodePage u) 9).fld (bUcode u) f = t.fld (bUcode u) f :=
    congrArg (bits · f.lo f.width) (hreg h)
  refine ⟨(hfld (by decide)).trans ?_, (hfld (by decide)).trans ?_, State.bit_raiseErr_self _ (ucodePage u) (by decide),
    State.raiseErr_ucode .., (hreg (by decide)).trans ?_⟩
  · exact (State.fld_setFld_of_page _ _ _ (by decide)).trans (State.fld_setFld_self _ _ _ _ (by decide))
  · exact (State.fld_setFld_self _ _ _ _ (by decide)).trans (Nat.mod_eq_of_lt hr)
  · simp [State.setFld_eq, F.UC_STAT_STATE, F.UC_STAT_RESULT]

theorem State.ucFails_frame (r : Nat) : (s.ucFails u r).mem = s.mem ∧ (s.ucFails u r).cores = s.cores :=
  ⟨(State.raiseErr_frame ..).1, (State.raiseErr_frame ..).2.1⟩

end

/-! ## The events of a load -/

/-- The verdict of the check of the staged image. -/
def State.ucVerdict (s : State) (u : Nat) : Except Nat UcodeImage :=
  imageCheck u s.staging (s.fld (bUcode u) F.UC_COUNT_BYTES) (s.flag (bUcode u) F.UC_STAT_OVF) (s.reg (bUcode u + 0x060))
    (s.store u).image

section
variable {s : State} {u : Fin 8} (hpow : s.powered = true) (hmode : s.mode ≠ 10)
include hpow hmode

theorem exec_imageCheckComplete_of_error (h2 : s.ucState u = 2) {r : Nat} (h : s.ucVerdict u = .error r) :
    exec (.imageCheckComplete u) s = .next (s.ucFails u r) := by
  refine (event_next _ _ hpow (by simp [h2, hmode])).trans ?_
  unfold State.ucVerdict at h
  simp only [h]

theorem exec_imageCheckComplete_of_ok (h2 : s.ucState u = 2) {m : UcodeImage} (h : s.ucVerdict u = .ok m) :
    exec (.imageCheckComplete u) s = .next (s.ucApply u m (imageVersion s.staging)
      (leadingDigest (imageDigest s.staging (imgNat s.staging 0x14 4)))) := by
  refine (event_next _ _ hpow (by simp [h2, hmode])).trans ?_
  unfold State.ucVerdict at h
  simp only [h]

theorem exec_copySwitch_next {copy : Fin 80} (h3 : s.ucState u = 3) (hwaits : copy.val ∈ s.ucWaiting u)
    (hcan : ∀ c ∈ s.ucTogether u copy, s.ucCanSwitch u c = true) :
    exec (.copySwitch u copy) s =
      .next (s.ucSwitch u ((s.ucTogether u copy).filter (fun c => (s.ucWaiting u).contains c))) :=
  event_next _ _ hpow (by simpa [h3, hmode, hwaits] using hcan)

end

/-- A copy switches with itself. -/
theorem State.mem_ucTogether_self (s : State) (u c : Nat) : c ∈ s.ucTogether u c := by
  unfold State.ucTogether
  split
  · simp only [List.mem_cons, List.not_mem_nil, or_false]
    omega
  · exact List.mem_singleton_self c

/-- A copy that has switched holds the new image while others wait. -/
theorem State.imageOf_of_switched {t : State} {u c : Nat} (h3 : t.ucState u = 3) (hc : c ∈ (t.store u).switched) :
    t.imageOf u c = (t.store u).next :=
  if_pos ⟨h3, List.contains_iff_mem.2 hc⟩

/-! ## The obligation -/

/-- Settles O36: the commands by their effects, the end of a check by its verdict, the switch of a copy by which copies then
wait. -/
theorem microcodeImagesAreApplied : Obligations.MicrocodeImagesAreApplied := by
  refine ⟨fun src u v s hpow hctl hdata => ⟨exec_ucOpen hpow hctl, exec_ucData hpow hdata, exec_ucCommit hpow hctl,
    exec_ucAbort hpow hctl⟩, fun u copy s => ?_⟩
  intro b img check digest hpow hmode
  refine ⟨fun h2 => ?check, fun h3 hwaits hcan => ?switch⟩
  case check =>
    cases hv : s.ucVerdict u with
    | error r =>
      obtain ⟨hmem, hcores⟩ := State.ucFails_frame (s := s) (u := u) r
      refine ⟨_, exec_imageCheckComplete_of_error hpow hmode h2 hv, hmem, hcores, ?_⟩
      rw [show check = .error r from hv]
      exact State.ucFails_shows (imageCheck_error_lt hv)
    | ok m =>
      obtain ⟨switched, h⟩ := State.ucApply_applies (s := s) (u := u) m (imageVersion img) digest
      refine ⟨_, exec_imageCheckComplete_of_ok hpow hmode h2 hv, h.mem, h.cores, ?_⟩
      rw [show check = .ok m from hv]
      refine ⟨fun hw => ?_, h.ends⟩
      obtain ⟨hstate, hpending, hstore, hversion⟩ := h.waits hw
      exact ⟨hstate, hpending, by rw [hstore], hversion⟩
  case switch =>
    have h := State.ucSwitch_applies h3 ((s.ucTogether u copy).filter (fun c => (s.ucWaiting u).contains c))
    have hleft : (s.ucWaiting u).filter
        (fun c => !((s.ucTogether u copy).filter (fun c => (s.ucWaiting u).contains c)).contains c) =
        (s.ucWaiting u).filter (fun c => !(s.ucTogether u copy).contains c) :=
      List.filter_congr fun c hc => by simp [hc]
    rw [hleft] at h
    refine ⟨_, exec_copySwitch_next hpow hmode h3 hwaits hcan, h.mem, h.cores, fun hw => ?_, h.ends⟩
    obtain ⟨hstate, hpending, hstore, -⟩ := h.waits hw
    refine ⟨hstate, hpending, (State.imageOf_of_switched hstate ?_).trans (by rw [hstore])⟩
    rw [hstore]
    simp [State.mem_ucTogether_self, hwaits]

end Sys2Proof.Machine
end
